-- ==== Sys2Proof/Word.lean ====
section
/-! DEFINITION. The word types of the FV-7720's registers and memories, and their plainest arithmetic (R6, R26). -/

namespace Sys2Proof

/-- A register word: 32 bits (R6). -/
abbrev Word := BitVec 32

/-- A byte of a buffer, memory or frame. -/
abbrev Byte := BitVec 8

/-- An initiator identity of Table 00.4. -/
abbrev Ident := BitVec 10

/-- The little-endian value of a list of bytes, byte 0 least significant (R6). -/
def leNat : List Byte → Nat
  | [] => 0
  | b :: bs => b.toNat + 256 * leNat bs

/-- The big-endian (network order) value of a list of bytes (R26). -/
def beNat (bs : List Byte) : Nat := leNat bs.reverse

/-- `n` little-endian bytes of a value. -/
def toLe : Nat → Nat → List Byte
  | 0, _ => []
  | n + 1, v => BitVec.ofNat 8 v :: toLe n (v / 256)

/-- Bit `i` of a value. -/
def bitAt (v i : Nat) : Bool := v / 2 ^ i % 2 == 1

/-- Bits `[lo + w - 1 : lo]` of a value. -/
def bitsAt (v lo w : Nat) : Nat := v / 2 ^ lo % 2 ^ w

/-- The value `v` with bit `i` set to `b`. -/
def setBitAt (v i : Nat) (b : Bool) : Nat :=
  if bitAt v i == b then v else if b then v + 2 ^ i else v - 2 ^ i

/-- The signed value of the low `w` bits, two's complement. -/
def signedOf (w v : Nat) : Int :=
  let m := v % 2 ^ w
  if m < 2 ^ (w - 1) then (m : Int) else (m : Int) - (2 : Int) ^ w

/-- The low `w` bits of a signed value, two's complement. -/
def unsignedOf (w : Nat) (v : Int) : Nat := (v % ((2 : Int) ^ w)).toNat

/-- Number of bits set among the low `n` bits of `v`. -/
def popCount : Nat → Nat → Nat
  | 0, _ => 0
  | n + 1, v => v % 2 + popCount n (v / 2)

/-- The indices below `n` whose bit in `v` is set, ascending. -/
def bitList (n v : Nat) : List Nat := (List.range n).filter (bitAt v)

/-- Ceiling division. -/
def ceilDiv (a b : Nat) : Nat := (a + b - 1) / b

end Sys2Proof
end

