-- ==== Sys2Proof/Syntax.lean ====
section
/-! DEFINITION. The commands of the FV-7720, one constructor per row of the command table, with the operands that the outside
world supplies: an initiator and a value, a frame, a measured instant, the outcome of an external act. -/

namespace Sys2Proof

/-- A write access: the initiator's identity (R4) and the byte enables of the write (R41). -/
structure Access where
  init : Ident
  be : BitVec 4
  deriving DecidableEq, Repr

/-- A read access (R42, R43): the initiator, the bytes of the word that it asks for, and whether it is an access of 64 bits to an
aligned register pair. -/
structure RAccess where
  init : Ident
  be : BitVec 4 := 15
  wide : Bool := false
  deriving DecidableEq, Repr

/-- What a write carries: its word, and the high word of an access of 64 bits to an aligned pair (R43). -/
structure WData where
  word : Word
  high : Option Word := none
  deriving DecidableEq, Repr

/-- The four severities (R31). -/
inductive Sev where
  | info | warn | fault | safety
  deriving DecidableEq, Repr

/-- An event record (R30): block ID, event code, severity, payload. -/
structure Event where
  block : BitVec 16
  code : BitVec 16
  sev : Sev
  payload : BitVec 64
  deriving DecidableEq, Repr
/-- Which run of a work item a deadline belongs to (R72, R76). -/
inductive RunKind where
  | first | retry | arbitration
  deriving DecidableEq, Repr
/-- The source types of Table 02.1. -/
inductive Source where
  | ptp | irig | pps
  deriving DecidableEq, Repr

/-- The loss reasons of the SRC_LOST event (Table 02.14). -/
inductive LossReason where
  | timeout | clockClass | servoWatchdog | invalidFrames | timeQuality | missingPulses | servoDisabled
  deriving DecidableEq, Repr

/-- An IRIG-B frame: device time of its on-time mark (2^-16 ns), the widths of its pulses in µs from the reference marker Pr on, whether
its year field is present, whether its parity bit matches, and its coded expression (R130–R133). -/
structure IrigFrame where
  stamp : Nat
  widths : List Nat
  yearPresent : Bool
  parityOk : Bool
  expr : Fin 8
  deriving DecidableEq, Repr

/-- The PTP messages (Table 02.2). -/
inductive PtpKind where
  | sync | followUp | announce | pdelayReq | pdelayResp | pdelayRespFollowUp | delayReq | delayResp
  deriving DecidableEq, Repr

/-- A PTP message in a frame: kind, domain, correctionField in 2^-16 ns, whether it is sent as two-step, and, of an Announce, whether it
comes from the parent clock that the BMCA of the firmware chose, its clockClass and the totalTimeInaccuracy of its IEEE_C37_238 TLV in
ns; of a Pdelay_Resp, the peer delay that its exchange gives, in 2^-16 ns. `port` is the port that received it. -/
structure PtpMsg where
  kind : PtpKind
  domain : Nat := 0
  correction : Int := 0
  twoStep : Bool := false
  parent : Bool := false
  clockClass : Nat := 255
  inacc : Option Nat := none
  delay : Option Nat := none
  port : Nat := 0
  deriving DecidableEq, Repr

/-- The outcome of the REFCLK_IN detection (R155): absent or out of tolerance, 10 MHz, or 25 MHz. -/
inductive RefDetect where
  | none | mhz10 | mhz25
  deriving DecidableEq, Repr

/-- An edge of PPS_IN: its direction, and its device time in 2^-16 ns. -/
structure PpsEdge where
  rising : Bool
  stamp : Nat
  deriving DecidableEq, Repr
/-- What an activation finds (R185): the cores that fail their self-test, and the time since the last tick edge in 2^-16 ns. -/
structure SelfTest where
  failed : List (Fin 80)
  since : Nat
  deriving DecidableEq, Repr

/-- Modulator bits of an input: the input, the device time of the first bit (2^-16 ns), and the bits as the device samples them (R246). -/
structure BitRun where
  input : Fin 48
  start : Nat
  bits : List Bool
  deriving DecidableEq, Repr

/-- What comes with the release of a sample: the modulator bits that the device has sampled, of any inputs, and the normalised values that
the FIR of a modulator channel gives for the single or LO input and for the HI input (R247–R251). A stream channel has no such values. -/
structure Sample where
  runs : List BitRun
  lo : Word
  hi : Word
  deriving DecidableEq, Repr

/-- The next state of the JESD204C link with what it needs (R272): on every lane, how many valid sync headers in a row and whether the
extended multiblock is locked; the lanes deskewed and the LEMC aligned to a SYSREF edge; a clean extended multiblock. -/
inductive LinkStep where
  | blockLock (headers : List Nat)
  | embLock (locked : List Bool)
  | aligned (deskewed lemc : Bool)
  | data (clean : Bool)
  deriving DecidableEq, Repr

/-- The conditions of R280 that an event brings: a stream of ones, a stream of zeros, a clock without edges. -/
inductive LinkFault where
  | ones | zeros | clock
  deriving DecidableEq, Repr

/-- One element of an ASDU: its INT32 value, whether its validity is good, and its test bit (R264, R267). -/
structure SvElem where
  val : Int
  good : Bool
  test : Bool
  deriving DecidableEq, Repr

/-- One ASDU (R264, R266): SmpCnt, smpSynch, and its elements, four currents and then four voltages. -/
structure Asdu where
  smpCnt : Nat
  synch : Nat
  elems : List SvElem
  deriving DecidableEq, Repr

/-- A sampled-value frame (R265–R267), authenticated where that is configured: destination MAC, APPID, svID, simulation bit, arrival
(2^-16 ns) and ASDUs. -/
structure SvFrame where
  dst : BitVec 48
  appid : BitVec 16
  svid : List Byte
  sim : Bool
  arrival : Nat
  asdus : List Asdu
  deriving DecidableEq, Repr

/-- What is aligned to a SYSREF edge: the index of the first sample of the extended multiblock, and the samples of the converters up to
that one, those not given before (R273, R275). -/
structure Aligned where
  index : Nat
  xs : List (Fin 12 × List (BitVec 14))
  deriving DecidableEq, Repr
/-- A result of one run (R302): the values and quality words of the outputs, and the updated state region. -/
structure Res where
  outs : List (Word × BitVec 16)
  state : List Byte
  deriving DecidableEq, Repr

/-- What a core that has finished a run yields: the result of a healthy core (R299), or a result of its own. -/
inductive RunOut where
  | healthy
  | wrong (r : Res)
  deriving DecidableEq, Repr

/-- An arbiter's run: its result, and whether CORE_A's committed state failed its CRC-32C at the staging (R307). -/
structure ArbOut where
  run : Option RunOut
  badA : Bool
  deriving DecidableEq, Repr

/-- A contribution (Table 08.3): its entries as value word and the word of quality and tick, and whether its CCRC is right. -/
structure Contrib where
  node : Fin 16
  suspect : Bool
  ofs : Int
  sec : Nat
  entries : List (Word × Word)
  crcOk : Bool
  deriving DecidableEq, Repr

/-- A sweep frame (Table 08.2): launched WEST, WRAPPED, RETURN, the header fields, whether HCRC is right, whether it is a resend
(R411), and the contributions. -/
structure SweepFrame where
  west : Bool
  wrapped : Bool
  ret : Bool
  master : Fin 16
  hops : Nat
  ringId : Nat
  present : Nat
  sec : Nat
  insec : Nat
  accOfs : Int
  hcrcOk : Bool
  resent : Bool
  contribs : List Contrib
  deriving DecidableEq, Repr

/-- A TIMING frame (Table 08.4); the stamps in 2^-16 ns. -/
structure TimingFrame where
  node : Nat
  unwrap : Bool
  seq : Nat
  ringId : Nat
  unwrapInsec : Nat
  txPrev : Nat
  rxStamp : Nat
  rxSeq : Nat
  link : Nat
  crcOk : Bool
  deriving DecidableEq, Repr
/-- A MACsec SecTAG: AN, SCI, PN, and the ICV (R488). -/
structure SecTag where
  an : Fin 4
  sci : BitVec 64
  pn : Nat
  icv : List Byte
  deriving DecidableEq, Repr

/-- The security extension of a GOOSE or SV frame: key identifier and MAC (R495). -/
structure AuthExt where
  keyId : Word
  mac : List Byte
  deriving DecidableEq, Repr

/-- The tag of a PRP trailer or HSR tag: LAN or path B, and the sequence number. -/
structure RedTag where
  lanB : Bool
  seq : BitVec 16
  deriving DecidableEq, Repr

/-- An Ethernet frame without outer structure: addresses, PCP and VID of its tag, EtherType and the bytes that follow. -/
structure Inner where
  dst : BitVec 48
  src : BitVec 48
  tag : Option (Fin 8 × Fin 4096)
  etype : BitVec 16
  data : List Byte
  deriving DecidableEq, Repr

/-- An MPLS label stack, top first, with the S bits, and the first nibble of the control word (R477). -/
structure Mpls where
  labels : List (Fin 1048576 × Bool)
  nibble : Fin 16
  deriving DecidableEq, Repr

/-- What an IP packet to a local address carries (R475). -/
inductive IpKind where
  | vxlan (vni : Fin 16777216) (zeroCsum : Bool) (inner : Inner)
  | gre (key : Option Word) (hasSeq csumOk : Bool) (inner : Inner)
  | mplsUdp (m : Mpls) (zeroCsum : Bool) (inner : Inner)
  /-- TCP of the shipping connection of a namespace. -/
  | shipping (ns : Fin 16)
  | other
  deriving DecidableEq, Repr

/-- An ESP header with its ICV (R489). -/
structure Esp where
  spi : Word
  seq : Nat
  icv : List Byte
  deriving DecidableEq, Repr

/-- The IP layer of a frame: version, addresses, TTL or hop limit and DSCP, source and destination port where it has ports, ESP
when it is encrypted, what it carries once it is in clear, and DF (IPv4). -/
structure IpHdr where
  v6 : Bool
  dst : BitVec 128
  src : BitVec 128
  ttl : Nat
  dscp : Nat
  ports : Option (BitVec 16 × BitVec 16)
  esp : Option Esp
  kind : IpKind
  df : Bool := false
  deriving DecidableEq, Repr

/-- A frame at a bridge port: its length on the wire with FCS, its arrival (2^-16 ns), and the parts that the packet engine looks
at. -/
structure Frame where
  inner : Inner
  len : Nat
  arrival : Nat
  pause : Option Nat := none
  rtag : Option (BitVec 16) := none
  red : Option RedTag := none
  sec : Option SecTag := none
  ip : Option IpHdr := none
  mpls : Option (Mpls × Inner) := none
  appid : Option (BitVec 16) := none
  ext : Option AuthExt := none
  sv : Option SvFrame := none
  ptp : Option PtpMsg := none
  deriving DecidableEq, Repr
/-- A command of NVMe that failed: its status, none without a completion, and whether its single repetition succeeds (R35, R504). -/
structure NvmeFail where
  status : Option (BitVec 16)
  recovered : Bool
  deriving DecidableEq, Repr
/-- A fetched TX descriptor (Table 11.3), whether its reserved bytes are 0, the buffer bytes read, whether a read was repeated, and
the error with which both reads failed. -/
structure TxDesc where
  addr : Nat
  len : Nat
  op : Nat
  eop : Bool
  ts : Bool
  irq : Bool
  keep : Bool
  ep : Nat
  tc : Option (Fin 8)
  handle : Word
  ofs : Nat
  clean : Bool
  data : List Byte
  retried : Bool
  dmaErr : Option (Fin 4)
  deriving DecidableEq, Repr

/-- An RX descriptor (R521): buffer address and length, whether bytes 10–31 are 0, and the error with which both reads failed. -/
structure RxDesc where
  addr : Nat
  len : Nat
  clean : Bool
  dmaErr : Option (Fin 4)
  deriving DecidableEq, Repr
/-- The clocks that Owl counts (Table 12.2). -/
inductive OwlClock where
  | fclk | refclk
  deriving DecidableEq, Repr



/-- The codes of an aux ADC channel over a read cycle (R731): their sum and their number. -/
structure AuxMean where
  ch : Fin 16
  sum : Nat
  n : Nat
  deriving DecidableEq, Repr

/-- An I²C humidity sensor's transaction in a read cycle (R732): the six bytes that its two attempts read, the first byte highest; none
where an attempt fails. -/
structure HumRead where
  addr : Fin 128
  first : Option (BitVec 48)
  second : Option (BitVec 48)
  deriving DecidableEq, Repr

/-- The timers of the MS/TP master node (R763). -/
inductive MstpTimer where
  | noToken | reply | usage | slot
  deriving DecidableEq, Repr
/-- The tachometer of a fan over the last second (R778): falling edges, and µs between the first and the last. -/
structure TachIn where
  edges : Nat
  span : Nat
  deriving DecidableEq, Repr

/-- One PWM period's conversions (R787, R788): the code of the first and of the second, none where it could not start within 400 ns of its
sampling instant (R790). Mode T: MTR_AIN[4m] and MTR_AIN[4m + 1]; mode S: the shunt after the edge of the max and of the mid phase. -/
structure PwmIn where
  first : Option (Fin 4096)
  second : Option (Fin 4096)
  deriving DecidableEq, Repr

/-- What a motor channel measures in 1 ms: the codes of the bus voltage and of the auxiliary input (R791), and the PWM periods that ended in
it (R786–R790). -/
structure MotorIn where
  vbus : Fin 4096
  aux : Fin 4096
  periods : List PwmIn
  deriving DecidableEq, Repr
/-- A frame on a UART line (R849–R854): samples 7, 8 and 9 of each of its bits, from the start bit on, and how long the line was
idle before it, in ns. -/
structure UartFrame where
  bits : List (BitVec 3)
  idle : Nat
  deriving DecidableEq, Repr

/-- An attempt of an I²C transaction on the bus (R856–R859): a NACK, a lost arbitration, the longest time that a target held SCL low,
in ms, the bytes read, the PEC byte read, and whether SDA stays low after the recovery. -/
structure I2cEnd where
  nack : Bool
  arb : Bool
  low : Nat
  data : List Byte
  pec : Byte
  sdaLow : Bool
  deriving DecidableEq, Repr

/-- The 10 MHz samples of the index line of an encoder. -/
structure QepIndexIn where
  qep : Fin 4
  samples : List Bool
  deriving DecidableEq, Repr

/-- SPIM1_RDY low in a transfer: for how many µs, and the bytes received before. -/
structure RdyLow where
  us : Nat
  data : List Byte
  deriving DecidableEq, Repr

/-- The idle line of a UART: for how long, in ns. -/
structure UartIdle where
  uart : Fin 4
  ns : Nat
  deriving DecidableEq, Repr

/-- The commands: every row of the command table. -/
inductive Instr where
  /-- REGISTER_WRITE (R22): A write to a register that has no row of its own is applied field by field under each field's class. -/
  | registerWrite (a : Access) (addr : Nat) (v : WData)
  /-- LOW_WORD_READ (R10): A read of the low word of a 64-bit pair latches the high word into a snapshot for that initiator. -/
  | lowWordRead (r : RAccess) (addr : Nat)
  /-- RC_READ (R14): A read of an RC field returns its value and clears it, unless the read comes through the debug port. -/
  | rcRead (r : RAccess) (addr : Nat)
  /-- BLOCK_COMMIT_GO (R236): A write of 1 to a block's COMMIT.GO commits that block's dirty software pending values. `page` is the base of the block (or of the tenant window); `discard`: the same write also sets DISCARD. -/
  | blockCommitGo (a : Access) (page : Nat) (discard : Bool)
  /-- BLOCK_COMMIT_DISCARD (R236): A write of 1 to a block's COMMIT.DISCARD drops its software pending values without applying them. -/
  | blockCommitDiscard (a : Access) (page : Nat)
  /-- TICK_EDGE (R58): A tick begins on its TAI grid instant and TIK_COUNT increases by one. `slewed`: by how much the time scale was slewed since the last edge, in 2^-16 ns (R121). -/
  | tickEdge (slewed : Nat)
  /-- SLOT_DEADLINE (R72): A core that has not finished an item at its slot deadline is stopped and its result is discarded. `core` missed its deadline `slot` first; `second` is the other member when it missed too. -/
  | slotDeadline (run : RunKind) (item : Fin 1024) (core : Fin 80) (slot : Fin 512) (second : Option (Fin 80))
  /-- FINAL_VOTE (R94): At slot 496 all thresher activity stops and seam phase 1 collects the final votes. -/
  | finalVote
  /-- HAND_OFF (R348): In seam phase 2 the tick's products are handed to the publisher, the host path and the ring. `adoptFails`: spares whose copy failed, and whether twice. `stateFails`: state copies of an apply seam that failed: item, new member, whether twice. `noAck`: the output paths without acknowledgement in this tick. -/
  | handOff (adoptFails : List (Fin 80 × Bool)) (stateFails : List (Fin 1024 × Fin 80 × Bool)) (noAck : List (Fin 7))
  /-- SEAM_COMMIT (R20): In seam phase 3 dirty pending values of tick-latched fields are copied to their active values. -/
  | seamCommit
  /-- SENTINEL_CHECK (R66): In seam phase 4 the config sentinel checks one chunk and the tick's results are passed on. The pins that read back different from their driven level: 0–7 ALM, 8 HEALTHY. -/
  | sentinelCheck (wrong : List (Fin 9))
  /-- TIK_COMMIT_ARM (R80): A write of 1 to TIK_COMMIT.ARM arms a device-wide commit for the current tick or for the target tick. `v` is the word written to TIK_COMMIT, with ARM set. -/
  | tikCommitArm (a : Access) (v : Word)
  /-- REALIGN_GO (R90): A write of 1 to TIK_CTRL.REALIGN_GO makes this tick or the next the stretch tick of a pending step. -/
  | realignGo (a : Access) (v : Word)
  /-- REALIGN_WITHDRAWN (R91): When slewing brings the phase error below the step threshold, REALIGN_PEND clears and no step takes place. -/
  | realignWithdrawn
  /-- TIME_READ (R104): A read of TIM_NS_LO latches TIM_NS_HI and TIM_FRAC into snapshots for the reader. -/
  | timeRead (i : Ident)
  /-- SOURCE_QUALIFIED (R106): A source valid without interruption for QUAL_TIME seconds becomes qualified and may become the active source. Device time, in 2^-16 ns, since which it has been valid, and of this instant. -/
  | sourceQualified (src : Source) (since : Nat) (now : Nat)
  /-- SOURCE_REVERT (R108): With REVERT set, a newly qualified higher-priority source displaces the active one at the next TAI second. -/
  | sourceRevert
  /-- PHASE_CROSS_CHECK (R112): Every second the timing core compares the phases of two valid sources. `diff` is the phase difference in ns. -/
  | phaseCrossCheck (x : Source) (y : Source) (diff : Int)
  /-- SERVO_UPDATE (R113): A write to TIM_SERVO_OFS is one servo update and restarts the servo watchdog. -/
  | servoUpdate (a : Access) (v : Word)
  /-- SERVO_TIMEOUT (R114): No servo update within the watchdog time raises SERVO_TIMEOUT and the PTP source is lost. `ms` since the last update. -/
  | servoTimeout (ms : Nat)
  /-- FREQ_ADJ_WRITE (R116): A write to TIM_FREQ_ADJ sets the frequency correction on the OCXO code or the DCO increment. -/
  | freqAdjWrite (a : Access) (v : Word)
  /-- PHASE_ADJ_WRITE (R122): A write to TIM_PHASE_ADJ replaces the pending adjustment, to be slewed or stepped. -/
  | phaseAdjWrite (a : Access) (v : Word)
  /-- IRIG_FRAME (R132): A decoded IRIG-B frame is checked and, after two consecutive valid frames, gives TAI at its on-time mark. -/
  | irigFrame (f : IrigFrame)
  /-- PPS_IN_EDGE (R137): A PPS_IN edge is stamped and accepted or rejected against its window. `widthNs`: of the pulse that it starts. -/
  | ppsInEdge (e : PpsEdge) (widthNs : Nat)
  /-- PPS_OUT_PULSE (R139): PPS_OUT rises on each TAI second less its delay, as OUT_MODE allows. The rising edge, at a TAI second boundary less TIM_PPS_OUT_DLY, with its device time through the loop-back in 2^-16 ns; none: the end of the pulse. -/
  | ppsOutPulse (rise : Option Nat)
  /-- TOD_LOAD (R138): A write of TIM_TOD_HI loads the TAI second for the next accepted PPS_IN edge. The write of TIM_TOD_HI. -/
  | todLoad (a : Access) (v : Word)
  /-- PTP_EVENT_TIMESTAMP (R153): A PTP event message timestamp is delivered to the firmware, or dropped when the queue is full. -/
  | ptpEventTimestamp (port : Fin 8) (transmit : Bool) (stamp : Nat) (queueFull : Bool)
  /-- PTP_MASTER_TX (R125): Hardware sends Sync, Follow_Up and Announce on master ports with the announced clockClass. `kind` 0 Sync, 1 Follow_Up, 2 Announce, 3 Pdelay_Req, 4 Pdelay_Resp. -/
  | ptpMasterTx (port : Fin 6) (kind : Fin 5)
  /-- HOLDOVER_ESTIMATE (R144): At every whole second in holdover the holdover estimate is recomputed and compared with the limit. -/
  | holdoverEstimate
  /-- LEAP_APPLIED (R146): At TIM_LEAP_AT the UTC offset changes by one second, the flag clears and LEAP_APPLIED is raised. -/
  | leapApplied
  /-- SOURCE_LOSS (R148): A source stops being valid on the first of its loss conditions. -/
  | sourceLoss (src : Source) (reason : LossReason)
  /-- REFCLK_LOST (R150): No REFCLK_IN edges for 1 µs switches FCLK and the time scale to the backup oscillator. -/
  | refclkLost
  /-- REFCLK_RESTORED (R152): REFCLK within ±50 ppm for 100 ms is taken back at slot 496 of a tick. -/
  | refclkRestored (mhz25 : Bool)
  /-- REFCLK_DETECT (R155): Within 200 µs after the release of PD02 the timing core detects REFCLK_IN and takes it. -/
  | refclkDetect (d : RefDetect)
  /-- IMG_LOAD (R174): A LOAD command starts the fetch of an image from flash slot A or B or from host memory. -/
  | imgLoad (a : Access) (v : Word)
  /-- FETCH_COMPLETE (R175): The copy of the image into structure memory ends and the engine moves to VERIFY. `data` holds the bytes that the DMA delivered, for a host load; `failAt` is the image offset of a read that failed twice, `retried`: a read failed once; `us` since the start of the load. -/
  | fetchComplete (data : List Byte) (retried : Bool) (failAt : Option Nat) (us : Nat)
  /-- VERIFY_COMPLETE (R177): The image and kernel signatures are verified from the sealed copy, and the engine moves to GUARD. `us` since the start of the load. -/
  | verifyComplete (us : Nat)
  /-- GUARD_COMPLETE (R183): The schedule guard finishes its checks and the image becomes READY, STAGED or FAILED. The duration of the guard. -/
  | guardComplete (us : Nat)
  /-- IMG_ACTIVATE (R185): ACTIVATE releases domains, loads tables, kernels and references, and starts the tick and schedule. The write of IMG_CMD, none for an activation that starts on its own. -/
  | imgActivate (cmd : Option (Access × Word)) (test : SelfTest)
  /-- AUTOLOAD (R189): At the release of IMG the engine loads the image slot that the boot record names. -/
  | autoload
  /-- IMG_ABORT (R204): ABORT stops a load in FETCH, VERIFY or GUARD within 10 µs. -/
  | imgAbort (a : Access) (v : Word)
  /-- IMG_DEACTIVATE (R190): DEACTIVATE with its key ends the schedule after the last RUNNING tick. -/
  | imgDeactivate (a : Access) (v : Word)
  /-- STRUCT_MEM_UNCORR (R196): An uncorrectable structure memory error sets COPY_DAMAGED or ends the load. The structure memory offset; or an entry of the restore overlay. -/
  | structMemUncorr (ofs : Fin 8388608) (overlay : Bool)
  /-- PRELOAD_COMPLETE (R211): The preload of kernels and patch words completes and IMG_AMD_LEAD reaches 0. -/
  | preloadComplete
  /-- AMD_ARM (R213): ARM with its key arms the staged amendment for the tick IMG_AMD_AT. -/
  | amdArm (a : Access) (v : Word)
  /-- AMD_DISARM (R222): DISARM before slot 504 of tick AT returns the amendment to STAGED. -/
  | amdDisarm (a : Access) (v : Word)
  /-- AMD_DISCARD (R222): DISCARD in STAGED, REFUSED or APPLIED sets ASTATE to NONE. -/
  | amdDiscard (a : Access) (v : Word)
  /-- SAMPLE_RELEASE (R250): A decimated sample is released at m + H + g and written to main SRAM with its quality. -/
  | sampleRelease (c : Fin 256) (x : Sample)
  /-- LINK_LOST (R280): A modulator input found lost is retired and raises LINK_LOST. -/
  | linkLost (input : Fin 48) (why : LinkFault)
  /-- LINK_LOST_CLEAR (R286): Writing 1 to an input's ACQ_LINK_LOST bit clears RETIRED and starts its return checks. A write to ACQ_LINK_LOST_LO, or with `high` to ACQ_LINK_LOST_HI. -/
  | linkLostClear (a : Access) (high : Bool) (v : Word)
  /-- LINK_RESTORED (R286): An input that passes its checks for one span returns to service and raises LINK_RESTORED. The input has passed the checks of R280 for one span. -/
  | linkRestored (input : Fin 48)
  /-- SV_FRAME_RECEIVE (R266): A subscribed SV frame's ASDUs are placed at their instants or discarded as bad, duplicate or late. -/
  | svFrameReceive (f : SvFrame)
  /-- SV_LOST (R287): A stream with HOLD + 1 missing or unusable instants becomes LOST and raises SV_LOST. -/
  | svLost (stream : Fin 64) (unusable : Bool)
  /-- SV_RESTORED (R287): A LOST stream with 8 on-time usable instants becomes OK and raises SV_RESTORED. -/
  | svRestored (stream : Fin 64)
  /-- JESD_DOWN (R288): 16 invalid sync headers within 64 return the JESD link to DOWN. The lanes with 16 invalid sync headers within 64, as a mask. -/
  | jesdDown (lanes : Fin 4)
  /-- JESD_UP (R272): The JESD link reaches DATA after lock, alignment and one clean extended multiblock. The link goes on to its next state; it is up in DATA. -/
  | jesdUp (x : LinkStep)
  /-- JESD_CRC_ERROR (R288): A CRC-12 error marks a multiblock's samples invalid and increments TWC_CRC_ERR. The multiblock's samples. -/
  | jesdCrcError (first : Nat) (count : Nat)
  /-- SYSREF_EDGE (R289): A SYSREF edge is stamped and compared with its predicted time. The stamp in 2^-16 ns. -/
  | sysrefEdge (stamp : Nat) (x : Aligned)
  /-- SYSREF_MISSING (R289): A SYSREF edge missing for two periods clears SYSREF_OK. -/
  | sysrefMissing
  /-- WAVEFRONT_TRIGGER (R276): A sample step of at least THR triggers the wavefront detection on a TW channel. The samples of the converter before x[i], those not given before, and x[i]. -/
  | wavefrontTrigger (ch : Fin 12) (i : Nat) (xs : List (BitVec 14)) (x : BitVec 14)
  /-- WAVEFRONT_RECORD (R278): The wavefront record is written to the wavefront queue after sample i + 7 arrives, or dropped when full. The samples after the pending trigger, x[i+1] and on. -/
  | wavefrontRecord (ch : Fin 12) (xs : List (BitVec 14))
  /-- COMPARE_POINT (R302): At the item's compare slot the vote logic compares the two members' results. The first-run results of CORE_A and CORE_B; none where a member has none. -/
  | comparePoint (item : Fin 1024) (ra : Option RunOut) (rb : Option RunOut)
  /-- RETRY_COMPARE (R304): When both members have finished their retries the retry results are compared. `cyc` is the FCLK cycle of the tick at which both retries have ended. -/
  | retryCompare (item : Fin 1024) (ra : Option RunOut) (rb : Option RunOut) (cyc : Nat)
  /-- ARBITRATION_VOTE (R309): The arbiter's result is compared with each member's latest result and the outcome is delivered. -/
  | arbitrationVote (item : Fin 1024) (r : ArbOut) (cyc : Nat)
  /-- THR_RETIRE_CMD (R338): RETIRE with its key through THR_CMD retires the named core at slot 496. -/
  | thrRetireCmd (a : Access) (v : Word)
  /-- CORE_MEMORY_ERROR (R334): An uncorrectable data SRAM or kernel store error retires the core. -/
  | coreMemoryError (core : Fin 80) (kstore : Bool) (uncorrectable : Bool)
  /-- GOOSE_RETRANSMIT (R356): A GOOSE retransmission falls due after its interval and is sent with sqNum increased. The slot in which the frame would start. -/
  | gooseRetransmit (g : Fin 128) (slot : Fin 512)
  /-- MAN_TRIG (R369): A write of MPR_CTRL.MAN_TRIG fires the manual triggers. The word written to MPR_CTRL, with MAN_TRIG set. -/
  | manTrig (a : Access) (v : Word)
  /-- DR_CLOSE (R370): A record closes POST_MS after its last trigger and waits in the Silo for shipment. -/
  | drClose
  /-- FLOC_RESULT (R376): At the end of WINDOW_MS the fault location result is chosen, written and raised. -/
  | flocResult (line : Fin 4)
  /-- SWEEP_LAUNCH (R385): At slot 501 a node sets its master view and the master launches a sweep on each link. -/
  | sweepLaunch
  /-- SWEEP_FRAME_RECEIVE (R386): A received sweep frame is checked, forwarded cut-through, and appended with the node's contribution. Link 0 EAST, 1 WEST; `inTime`: with a wrong HCRC, a resend can still be received before the node closes the sweep. -/
  | sweepFrameReceive (link : Fin 2) (f : SweepFrame) (inTime : Bool)
  /-- TIMING_FRAME_SEND (R396): Each node sends one TIMING frame on each link in the first gap after the tick edge. The transmit stamp, 2^-16 ns. -/
  | timingFrameSend (link : Fin 2) (stamp : Nat)
  /-- TIMING_FRAME_RECEIVE (R397): A received TIMING frame completes an exchange that updates hop delay and offset. The receive stamp, 2^-16 ns. -/
  | timingFrameReceive (link : Fin 2) (f : TimingFrame) (stamp : Nat)
  /-- NAK_RECEIVE (R411): A NAK makes the upstream node resend its last sweep frame once when it can still arrive in time. `inTime`: the resend can be received before the receiver closes that sweep. -/
  | nakReceive (link : Fin 2) (west : Bool) (sec insec : Nat) (inTime : Bool)
  /-- RING_LINK_LOST (R403): A ring link that loses lock, fails frames or is miswired becomes BROKEN and raises LINK_LOST. -/
  | ringLinkLost (link : Fin 2)
  /-- FRAME_RECEIVE (R424): A received frame is filtered, policed, looked up and forwarded by the bridge. From an external port 0–5, or into the bridge from an internal port. -/
  | frameReceive (port : Fin 10) (f : Frame) (fcsOk : Bool)
  /-- FRAME_TRANSMIT (R430): A queued frame starts on its port when it fits before its class's gate closes. The port is free at FCLK cycle `cyc` of the tick; `stamp` is the instant of the first symbol at the ball. -/
  | frameTransmit (port : Fin 6) (cyc : Nat) (stamp : Nat)
  /-- FDB_AGE_OUT (R425): A learned entry that has seen no frame for PKT_FDB_AGE seconds is removed. -/
  | fdbAgeOut (mac : BitVec 48) (fid : Fin 4096)
  /-- FDB_FLUSH_PORT (R425): PKT_FDB_CMD flush port removes the learned entries of a port. -/
  | fdbFlushPort (a : Access) (v : Word)
  /-- FDB_FLUSH_VLAN (R425): PKT_FDB_CMD flush VLAN removes the learned entries of a VLAN. -/
  | fdbFlushVlan (a : Access) (v : Word)
  /-- FDB_FLUSH_ALL (R425): PKT_FDB_CMD flush all removes every learned entry. -/
  | fdbFlushAll (a : Access) (v : Word)
  /-- HANDLE_RELEASE (R450): A handle written to a RELEASE doorbell is checked and its chain freed. -/
  | handleRelease (t : Fin 128) (be : BitVec 4) (v : Word)
  /-- HOLD_AGED (R452): A chain held for SLO_HOLD_AGE ms is freed and reported to its holder. The head cell of the chain. -/
  | holdAged (cell : Fin 131072)
  /-- PAUSE_HOLD_EXPIRED (R458): A pause held for PKT_PAUSE_MAX_HOLD ends and raises PAUSE_HOLD_EXPIRED. -/
  | pauseHoldExpired (port : Fin 6)
  /-- PORT_LINK_DOWN (R459): A port that loses its link frees its queued frames and learned entries and raises LINK_DOWN. -/
  | portLinkDown (port : Fin 6)
  /-- PORT_LINK_UP (R466): A port that gains its link raises LINK_UP. -/
  | portLinkUp (port : Fin 6)
  /-- CELL_UNCORR (R461): An uncorrectable Silo cell error drops its frame and retires the cell. -/
  | cellUncorr (cell : Fin 131072) (client : Fin 16)
  /-- KEY_LOAD (R481): A key LOAD command stores the staging buffer into a key slot and reports its check value. The word written to CRY_KEY_CMD. -/
  | keyLoad (a : Access) (v : Word)
  /-- KEY_ZEROISE (R482): A key ZEROISE command erases the slot at once. -/
  | keyZeroise (a : Access) (v : Word)
  /-- SA_READ (R490): CRY_SA_CMD read copies an SA into the initiator's SA window. -/
  | saRead (a : Access)
  /-- SA_WRITE (R490): CRY_SA_CMD write installs the SA window contents into an SA, within the writer's range. -/
  | saWrite (a : Access)
  /-- NS_CONNECT (R500): An enabled namespace starts its TCP, ICReq and Fabrics connection sequence. A connection attempt begins. -/
  | nsConnect (n : Fin 16)
  /-- NS_READY (R500): A namespace completes its connection sequence, becomes READY and raises NS_READY. The attempt succeeded: LBA size in bytes, namespace size in LBAs, MDTS in bytes. -/
  | nsReady (n : Fin 16) (lba size mdts : Nat)
  /-- KEEP_ALIVE (R500): REC sends a Keep Alive every KATO ÷ 2. -/
  | keepAlive (n : Fin 16)
  /-- REC_SHIP (R502): REC starts writing the next waiting record and its header to its namespace. -/
  | recShip (n : Fin 16)
  /-- REC_SHIPPED (R502): After the writes, flushes and superblock update the record's cells are freed and REC_SHIPPED raised. -/
  | recShipped (n : Fin 16)
  /-- NVME_COMMAND_TIMEOUT (R504): A command without completion within CMD_TMO is repeated once, then the namespace reconnects. -/
  | nvmeCommandTimeout (n : Fin 16) (e : NvmeFail)
  /-- NS_RETRY (R504): A FAILED namespace tries to connect again every BACKOFF seconds. A connection attempt failed. -/
  | nsRetry (n : Fin 16) (reason : Fin 5) (status : BitVec 16)
  /-- QUEUE_ENABLE (R513): Enabling a local queue binds it to the lowest free physical pair within the instance's limit. The word written to QCFG, with EN set. -/
  | queueEnable (t : Fin 128) (q : Fin 64) (be : BitVec 4) (v : Word)
  /-- QUEUE_DISABLE (R514): Clearing QCFG.EN stops fetch and frees the queue's physical pair. -/
  | queueDisable (t : Fin 128) (q : Fin 64) (be : BitVec 4) (v : Word)
  /-- TX_DESCRIPTOR (R517): A fetched TX descriptor is processed as SEND, SEND_HELD or FETCH and written back. -/
  | txDescriptor (t : Fin 128) (q : Fin 64) (d : TxDesc)
  /-- RX_DELIVER (R522): A host-bound frame or record is steered to an instance and written into RX descriptors. The RX descriptors fetched from RX_HEAD on. -/
  | rxDeliver (t : Fin 128) (q : Fin 64) (ds : List RxDesc)
  /-- RX_WAIT_EXPIRED (R537): A frame that waits RX_WAIT µs for a descriptor is dropped. -/
  | rxWaitExpired (t : Fin 128) (q : Fin 64)
  /-- RECORD_RING_ENABLE (R524): Enabling a record ring checks its configuration and rights and fixes its slot size. -/
  | recordRingEnable (t : Fin 128) (r : Fin 16) (be : BitVec 4) (v : Word)
  /-- HOST_STALL (R538): No posted credit for 1 ms raises HOST_STALL and drops host-bound traffic. -/
  | hostStall (ms : Nat)
  /-- QUIESCE (R541): A write of 1 to QUIESCE stops fetch and drains instance t. -/
  | quiesce (a : Access) (t : Fin 128) (v : Word)
  /-- QUIESCE_COMPLETE (R541): When every write for the instance has been issued, QUIESCED is set. -/
  | quiesceComplete (t : Fin 128)
  /-- QUIESCE_RESUME (R542): A write of 0 to QUIESCE resumes the instance from its heads and writes kept events. -/
  | quiesceResume (a : Access) (t : Fin 128) (v : Word)
  /-- VF_FLR (R544): An FLR disables the instance's queues and rings, frees its holds and erases its keys. -/
  | vfFlr (t : Fin 128)
  /-- VF_ENABLE_CLEAR (R547): A clear of VF Enable resets every VF as an FLR would. -/
  | vfEnableClear
  /-- PCIE_LINK_UP (R554): The PCIe link trains up and raises LINK_UP. -/
  | pcieLinkUp (speed : Fin 3) (width : Fin 4)
  /-- PCIE_LINK_DOWN (R554): The PCIe link goes down and raises LINK_DOWN. -/
  | pcieLinkDown
  /-- HANDSHAKE_FAULT (R565): A handshake missing, early or miscounting fails and takes the device to L4. 0 missing, 1 early, 2 count (R565). -/
  | handshakeFault (reason : Fin 3)
  /-- CLOCK_CHECK (R564): Owl counts FCLK and REFCLK against its RC oscillator over each tick. The deviation from nominal, or from the detected frequency, in ppm. -/
  | clockCheck (clock : OwlClock) (ppm : Int)
  /-- SUPPLY_FAULT (R564): A rail outside its window for 4 consecutive samples raises SUPPLY_FAULT. `mv`: four consecutive samples, in mV. `lost`: stores of the MGMT pairs left after 2 µs at a reset that follows (Table 14.3), in every command of this chapter. -/
  | supplyFault (rail : Fin 27) (mv : BitVec 16) (lost : Nat)
  /-- OWL_LOCKSTEP_MISMATCH (R568): A mismatch between Owl's cores asserts FAULT_N and de-energises every ALM until POR. -/
  | owlLockstepMismatch
  /-- L4_ACTION (R585): After a latched L4, the snapshot and L4_DELAY, Owl holds or issues a warm safety reset. `ms`: since the entry to L4. -/
  | l4Action (ms lost : Nat)
  /-- SAF_RESTORE (R581): A RESTORE command lets SAF recompute its shed request. The word written to SAF_CMD. -/
  | safRestore (a : Access) (v : Word)
  /-- ENTER_L4 (R583): An ENTER_L4 command enters a latched L4. The word written to SAF_CMD. -/
  | enterL4 (a : Access) (v : Word)
  /-- SAF_INJECT (R591): A keyed write to SAF_INJECT with INJ_EN injects a fault in the next tick. -/
  | safInject (a : Access) (v : Word)
  /-- HEARTBEAT (R564): A write to SAF_HB is a MGMT heartbeat. -/
  | heartbeat (a : Access) (v : Word)
  /-- MGMT_HB_LOST (R564): No heartbeat for SAF_HB_CFG.TIMEOUT ms raises MGMT_HB_LOST. `ms`: since the last heartbeat. -/
  | mgmtHbLost (ms lost : Nat)
  /-- GLEANER_PASS_COMPLETE (R586): A Gleaner pass over every ECC memory completes. `ms`: its duration. `next`: the spares whose BIST starts. -/
  | gleanerPassComplete (ms : Nat) (next : List (Fin 80))
  /-- BIST_COMPLETE (R587): A Gleaner BIST on a spare ends, retiring the spare when it fails. `core`: none when no test ends. `next`: the spares whose BIST starts. -/
  | bistComplete (core : Option (Fin 80)) (ok : Bool) (next : List (Fin 80))
  /-- DIAG_OVERDUE (R589): A pass not complete 1.5 s after its start raises DIAG_OVERDUE, and at 3 s the device enters L4. Since the start of the pass. -/
  | diagOverdue (ms : Nat)
  /-- GLEAN_CHECK (R588): The Gleaner's input check after a VOTE_SPLIT completes and raises GLEAN_CHECK. 0 none, 1 and 2 the staged inputs of CORE_A and of CORE_B differ, 3 main SRAM error. -/
  | gleanCheck (item : Fin 1024) (finding : Fin 4)
  /-- OWL_PARAM_LOAD (R561): After the Granary scan Owl verifies its parameter record and loads it. -/
  | owlParamLoad
  /-- SRAM_UNCORR (R577): An uncorrectable main SRAM error marks affected outputs INVALID, or enters L4 on a repeat. The product slots whose outputs the error affects. -/
  | sramUncorr (word : Nat) (slots : List (Fin 16384))
  /-- DBG_ATTACHED (R595): The debug port becoming clocked raises DBG_ATTACHED. -/
  | dbgAttached
  /-- MBX_LOCK_READ (R601): A read of MBX_LOCK takes the free lock for a permitted sender or returns the owner. `view`: through the channel's place in the tenant window. -/
  | mbxLockRead (i : Ident) (ch : Fin 64) (view : Bool)
  /-- MBX_LOCK_RELEASE (R603): The owner writing its identity to MBX_LOCK releases the lock. -/
  | mbxLockRelease (a : Access) (ch : Fin 64) (v : Word) (view : Bool)
  /-- MBX_MSG_WRITE (R606): A write to MBX_MSG is accepted from the owner while FULL is 0, else sets ERR_WR. -/
  | mbxMsgWrite (a : Access) (ch : Fin 64) (n : Fin 16) (v : Word) (view : Bool)
  /-- MBX_SEND (R607): SEND stamps the owner's identity, sets FULL and notifies the receiver. -/
  | mbxSend (a : Access) (ch : Fin 64) (v : Word) (view : Bool)
  /-- MBX_ACK (R609): The receiver's write of a return code to MBX_ACK ends the message in ACK mode. -/
  | mbxAck (a : Access) (ch : Fin 64) (v : Word) (view : Bool)
  /-- MBX_POP (R610): The receiver's read of MBX_POP ends the message in READ-CLEAR mode. -/
  | mbxPop (i : Ident) (ch : Fin 64) (view : Bool)
  /-- LOCK_EXPIRED (R605): A lock held LOCK_TMO ms with FULL 0 is released and raises LOCK_EXPIRED. -/
  | lockExpired (ch : Fin 64)
  /-- BIND_LOCK (R598): A write of 1 to MBX_BIND_LOCK.LOCK locks every binding until POR. -/
  | bindLock (a : Access) (v : Word)
  /-- MANAGER_DOORBELL_WRITE (R613): The manager sets DOWN bits and clears UP bits through MBX_DB. -/
  | managerDoorbellWrite (a : Access) (t : Fin 128) (v : Word)
  /-- INSTANCE_DOORBELL_WRITE (R613): The instance clears DOWN bits and sets UP bits through TW_DB. -/
  | instanceDoorbellWrite (t : Fin 128) (be : BitVec 4) (v : Word)
  /-- BBX_ENTRY_WRITE (R615): A queued event is written as one black-box entry with the next sequence. -/
  | bbxEntryWrite
  /-- POST_TIMEOUT (R618): After 128 post-trigger entries or POST_MS the ring becomes FROZEN. -/
  | postTimeout
  /-- BBX_SNAPSHOT (R620): The snapshot's 512 entries are programmed, a SNAPSHOT record appended and BBX_SNAPSHOT raised. -/
  | bbxSnapshot
  /-- BBX_UNFREEZE (R628): UNFREEZE returns a FROZEN ring with a complete or failed snapshot to RECORDING. The word written to BBX_CMD. -/
  | bbxUnfreeze (a : Access) (v : Word)
  /-- BBX_SNAPSHOT_CMD (R626): The SNAPSHOT command writes a snapshot of the last 512 entries without freezing. -/
  | bbxSnapshotCmd (a : Access) (v : Word)
  /-- BBX_ERASE_SLOT (R628): ERASE_SLOT appends an ERASE record and erases the slot's four sectors. -/
  | bbxEraseSlot (a : Access) (v : Word)
  /-- SLOT_ERASE_DONE (R627): A snapshot slot erase completes and the slot becomes erased. -/
  | slotEraseDone
  /-- BBX_ENTRY_READ (R630): A read of word 0 of a ring entry latches words 1–7 for the reader. -/
  | bbxEntryRead (i : Ident) (index : Fin 2048)
  /-- INTERNAL_POR (R637): VDD_AON or VDD_OWL below threshold resets every domain. -/
  | internalPor
  /-- PORST_N_ASSERT (R637): PORST_N recognised low resets every domain. -/
  | porstNAssert
  /-- PORST_N_RELEASE (R648): PORST_N recognised high starts the cold release sequence. `aonKept`: VDD_AON stayed within its window throughout the pulse; `cool`: every trip comparator reads below 120 °C. -/
  | porstNRelease (bootSel : Fin 4) (aonKept : Bool) (cool : Bool)
  /-- RELEASE_STEP (R647): After one gap the next domain of the release order leaves reset. -/
  | releaseStep
  /-- WARM_RST_N (R637): WARM_RST_N recognised low resets every domain except PD00 to PD02. `lost`: stores of the MGMT pairs that are left after 2 µs (Table 14.3). -/
  | warmRstN (lost : Nat)
  /-- OWL_DOMAIN_REPOWER (R643): 1 ms after powering a failed domain off, Owl powers it on and releases it. -/
  | owlDomainRepower (pd : Fin 24)
  /-- RST_CMD_WARM (R641): RST_CMD warm with its key starts a warm reset. -/
  | rstCmdWarm (a : Access) (v : Word) (lost : Nat)
  /-- RST_CMD_DOMAIN (R642): RST_CMD per-domain with its key resets the domains in RST_MASK. -/
  | rstCmdDomain (a : Access) (v : Word) (lost : Nat)
  /-- PERST_N (R637): PERST_N low resets PD13 and every instance domain. -/
  | perstN
  /-- HOT_RESET (R637): A PCIe hot reset from the link partner resets PD13 and every instance domain. -/
  | hotReset
  /-- DELAYED_RESET_ASSERT (R660): A reset delayed by a Granary pulse or protect update is asserted when it ends. The delay in µs. -/
  | delayedResetAssert (us : Nat)
  /-- DOMAIN_RESTORED (R653): A restore from the sealed copy and overlay completes and the domain resumes. -/
  | domainRestored (pd : Fin 24)
  /-- PWR_ON (R663): PWR_CMD ON with its key powers a permitted domain on. -/
  | pwrOn (a : Access) (v : Word)
  /-- PWR_OFF (R663): PWR_CMD OFF with its key powers off an optional domain whose PWR_OFF_OK is 1. -/
  | pwrOff (a : Access) (v : Word)
  /-- PFAIL_ASSERTED (R667): PFAIL_N recognised low stops Granary commands, freezes the black box and halts MGMT. -/
  | pfailAsserted
  /-- PFAIL_CLEARED (R668): PFAIL_N recognised high resumes MGMT and the Granary and raises PFAIL_CLEARED. For how long PFAIL_N was low. -/
  | pfailCleared (ms : Nat)
  /-- THM_SAMPLE (R676): Every 1 ms the sensors are sampled, cross-checked and Tj recomputed against the limits. The readings of sensors 0 to 31, in 0.125 °C. -/
  | thmSample (t : List Int)
  /-- THERMAL_TRIP (R683): A comparator at 125 °C drives THERMTRIP_N and powers down every domain except PD00 and PD01. The comparators that tripped. -/
  | thermalTrip (mask : Fin 16)
  /-- GRN_PROGRAM (R699): PROGRAM writes up to 256 bytes from GRN_BUF into one Granary page. The word written to GRN_CMD. -/
  | grnProgram (a : Access) (v : Word)
  /-- PROGRAM_DONE (R701): A program pulse ends and its bytes are verified. Whether the first pulse and the further pulse verified. -/
  | programDone (first second : Bool)
  /-- GRN_ERASE (R702): ERASE with its key writes journal intents and starts the sector erase. The word written to GRN_CMD. -/
  | grnErase (a : Access) (v : Word)
  /-- ERASE_DONE (R702): The erase pulse ends, the sector is verified and the intents are marked done. Whether the first pulse and the further pulse verified. -/
  | eraseDone (first second : Bool)
  /-- GRN_SUSPEND (R705): SUSPEND stops a running erase within 20 µs. The word written to GRN_CMD. -/
  | grnSuspend (a : Access) (v : Word)
  /-- GRN_RESUME (R705): RESUME continues a suspended erase. The word written to GRN_CMD. -/
  | grnResume (a : Access) (v : Word)
  /-- GRANARY_READ (R697): A read through the Granary window senses the cells, waiting or suspending as the bank requires. How many of the two senses find a margin fault. -/
  | granaryRead (i : Ident) (word : Fin 262144) (margin : Fin 3)
  /-- JOURNAL_ERASE (R704): A left journal sector whose entries are all done is erased while no command runs. -/
  | journalErase (ring : Fin 2)
  /-- PROT_WRITE (R707): A write to GRN_PROT while GRAN_WPN is high starts a protect update. The word written to GRN_PROT and the level of GRAN_WPN. -/
  | protWrite (a : Access) (v : Word) (wpn : Bool)
  /-- PROT_STORED (R707): The protect update is stored in the configuration row. -/
  | protStored
  /-- SCAN_DONE (R708): The power-up scan completes and raises SCAN_DONE. The duration; the sectors whose first pulse failed, and those that failed on both. -/
  | scanDone (us : Nat) (retried failed : List (Fin 256))
  /-- FIRMWARE_BOOT (R715): After PD22 release and the first fetch the boot ROM reads the boot record and copies the chosen slot. -/
  | firmwareBoot
  /-- FW_BOOT_COMPLETE (R716): The copied firmware is authenticated and started, or the next decision applies. -/
  | fwBootComplete
  /-- FW_TRIAL (R721): GRN_FW_CMD TRIAL writes a boot record with the other slot on trial. The word written to GRN_FW_CMD; 1: the erase fails on both pulses, 2: the program does. -/
  | fwTrial (a : Access) (v : Word) (fail : Fin 3)
  /-- FW_COMMIT (R723): GRN_FW_CMD COMMIT makes the trial slot ACTIVE and advances anti-rollback. The word written to GRN_FW_CMD; 1: the erase fails, 2: the program of the record, 3: the program of the mirror. -/
  | fwCommit (a : Access) (v : Word) (fail : Fin 4)
  /-- FAIL_TRIAL (R725): GRN_FW_CMD FAIL_TRIAL from a MGMT pair programs FAIL_MARK. -/
  | failTrial (a : Access) (v : Word) (fail : Bool)
  /-- IMG_SLOT_SELECT (R727): GRN_FW_CMD IMG_SLOT writes the image slot for the next autoload. -/
  | imgSlotSelect (a : Access) (v : Word) (fail : Fin 3)
  /-- TRIAL_EXPIRED (R722): The trial window ending without commit programs EXPIRED_MARK and raises TRIAL_EXPIRED. -/
  | trialExpired
  /-- FUSE_PROGRAM (R728): A PF service message 0x21 programs a key slot's hash fuses. Whether the verification of the fuses fails. -/
  | fuseProgram (fail : Bool)
  /-- FUSE_REVOKE (R728): A PF service message 0x22 revokes a key slot. -/
  | fuseRevoke
  /-- SENSOR_READ_CYCLE (R731): Once per second each climate sensor is read and the zones are recomputed. -/
  | sensorReadCycle (adc : List AuxMean) (i2c : List HumRead)
  /-- PRESENCE_CHANGE (R738): A presence input level recognised after 50 samples changes the zone modes and ventilation. -/
  | presenceChange (i : Fin 8) (active : Bool)
  /-- H2_ALARM (R759): The hydrogen alarm recognised active forces battery-zone ventilation on and heat off. -/
  | h2Alarm
  /-- H2_CLEAR (R761): The hydrogen alarm recognised inactive starts the H2_HOLD time. -/
  | h2Clear
  /-- H2_HOLD_END (R759): The H2_HOLD minutes end and the interlock releases its outputs. -/
  | h2HoldEnd
  /-- SCHEDULE_EVALUATION (R742): At each local minute or time change each schedule's value is recomputed. -/
  | scheduleEvaluation
  /-- LOOP_RUN (R746): A PID loop runs in its tick and computes its output. The latest codes of the AUX channels that dampers use as feedback. -/
  | loopRun (l : Fin 32) (aux : List AuxMean)
  /-- DAMPER_STALL (R753): A damper driving STALL_S seconds without movement stops and raises DAMPER_STALL. -/
  | damperStall (d : Fin 8)
  /-- DAMPER_SYNC (R752): An estimated damper position is synchronised by driving it closed. The channel has driven closed for 1.2 times its stroke time. -/
  | damperSync (d : Fin 8) (valve : Bool)
  /-- MSTP_FRAME_RECEIVE (R764): An MS/TP frame is checked and a data frame queued for the firmware. `good`: the header and data CRCs hold. -/
  | mstpFrameReceive (good : Bool) (typ dst src : Byte) (data : List Byte)
  /-- REPLY_POSTPONED (R764): No reply queued 200 ms after a type 5 frame sends Reply Postponed. -/
  | replyPostponed
  /-- MSTP_RX_POP (R765): RX_POP drops the head entry of the receive queue. -/
  | mstpRxPop (a : Access) (v : Word)
  /-- MSTP_TX_PUSH (R765): TX_PUSH queues the built entry for transmission. -/
  | mstpTxPush (a : Access) (v : Word)
  /-- MSTP_HEARTBEAT (R766): A write to CLM_MSTP_HB is a firmware heartbeat. -/
  | mstpHeartbeat (a : Access) (v : Word)
  /-- MSTP_ABSENT (R766): No heartbeat for 1 s puts the link in ABSENT. -/
  | mstpAbsent
  /-- MSTP_LEFT (R766): Five seconds after ABSENT the link passes the token and leaves the ring. -/
  | mstpLeft
  /-- FAN_KICK (R776): A write to FAN_KICK restarts the fan watchdog. `ms`: the time since expiry, where the watchdog has expired. -/
  | fanKick (a : Access) (v : Word) (ms : Nat)
  /-- FAN_WDT_EXPIRED (R776): No kick for FAN_WDT ms expires the fan watchdog. -/
  | fanWdtExpired
  /-- RPM_UPDATE (R778): Every 250 ms each fan's RPM is recomputed and its fault checked. One entry per channel, from channel 0 on. -/
  | rpmUpdate (t : List TachIn)
  /-- FAN_FAULT_CLEAR (R780): A write of 1 to CSTATUS.CLR returns a faulty fan to RUNNING. The word written to CSTATUS. -/
  | fanFaultClear (a : Access) (c : Fin 12) (v : Word)
  /-- MOTOR_SET (R793): A write of SET.RPM changes the target, starting or stopping the motor. -/
  | motorSet (a : Access) (m : Fin 4) (v : Word)
  /-- ALIGN_END (R794): After ALIGN_MS the start attempt moves from alignment to the open-loop ramp. The sums of the 64 conversions of MTR_AIN[4m] and of MTR_AIN[4m + 1]. -/
  | alignEnd (m : Fin 4) (sums : List Nat)
  /-- HANDOVER (R797): Agreement of observer and ramp for HO_CONFIRM hands over to the observer and the motor runs. What its millisecond has measured before it: the conversions of R791, if they came before it, and the PWM periods up to the one from which it counts. -/
  | handover (m : Fin 4) (vbus : Option (Fin 4096)) (aux : Option (Fin 4096)) (periods : List PwmIn)
  /-- START_RETRY (R798): A start attempt without handover by its time limit fails. -/
  | startRetry (m : Fin 4)
  /-- RETRY_DELAY_END (R798): After RETRY_DELAY the channel starts a new attempt. -/
  | retryDelayEnd (m : Fin 4)
  /-- SPEED_LOOP_STEP (R799): Every 1 ms while RUNNING the speed loop sets the amplitude. -/
  | speedLoopStep (m : Fin 4) (x : MotorIn)
  /-- MOTOR_STOPPED (R793): A ramped stop reaching SPEED_MIN makes the outputs inactive. -/
  | motorStopped (m : Fin 4)
  /-- LOCKED_ROTOR (R801): No commutation within LOCK_T × 10 ms faults the motor as LOCKED. -/
  | lockedRotor (m : Fin 4)
  /-- KE_EVALUATION (R802): Every 100 ms the back-EMF constant is checked against its range. The PWM periods of its millisecond that came before it. -/
  | keEvaluation (m : Fin 4) (periods : List PwmIn)
  /-- OVERCURRENT_TRIP (R803): A current comparator trip makes the gates inactive until the counter next reaches 0. `again`: the PWM period before also had a trip. -/
  | overcurrentTrip (m : Fin 4) (again : Bool)
  /-- DRIVER_FAULT (R804): MTR_FLT_N low for 100 ns disables the gates and faults the motor. -/
  | driverFault (m : Fin 4)
  /-- ADC_FAULT (R790): Sixteen periods without a complete current measurement fault the motor. -/
  | adcFault (m : Fin 4)
  /-- MOTOR_FAULT_CLEAR (R805): A write of 1 to MSTATE.CLR returns the motor from FAULT to STOPPED. `high`: MTR_FLT_N[m] is high. -/
  | motorFaultClear (a : Access) (m : Fin 4) (v : Word) (high : Bool)
  /-- MOTOR_AUTO_RESTART (R805): RESTART_S after a START_FAIL or LOCKED fault the motor leaves FAULT and starts again. -/
  | motorAutoRestart (m : Fin 4)
  /-- KEY_WAKE (R809): A row going low in idle starts scanning of the key matrix. `high`: the rows seen high in idle before. `ms`: milliseconds since the panel's last command, in every panel command. -/
  | keyWake (high : BitVec 8) (ms : Nat)
  /-- KEY_SCAN (R810): A 1 ms scan debounces every key and writes FIFO entries. The keys that read closed, by key code. `lost`: stores of the MGMT pairs left after 2 µs at a reset that the scan causes (Table 14.3), here and below. -/
  | keyScan (closed : BitVec 64) (ms lost : Nat)
  /-- LADDER_SAMPLE (R816): Each 1 ms ladder sample is decoded and debounced as a scan. The code of the ladder's AUX channel. -/
  | ladderSample (l : Fin 2) (code : Fin 4096) (ms lost : Nat)
  /-- PNL_EVT_POP (R817): A read of PNL_EVT returns and removes the oldest FIFO entry. -/
  | pnlEvtPop (i : Ident) (ms : Nat)
  /-- PNL_LOCK (R823): A write of 1 to PNL_CTRL.LOCK locks the panel. The word written to PNL_CTRL. -/
  | pnlLock (a : Access) (v : Word) (ms : Nat)
  /-- PNL_UNLOCK (R824): A write of 1 to PNL_CTRL.UNLOCK ends the lock. The word written to PNL_CTRL. -/
  | pnlUnlock (a : Access) (v : Word) (ms : Nat)
  /-- QEP_EDGE (R826): An accepted encoder line change moves COUNT, or counts an error when both change. The 10 MHz samples of both lines. -/
  | qepEdge (e : Fin 4) (qa : List Bool) (qb : List Bool)
  /-- QEP_INDEX (R828): An accepted index rising edge latches COUNT and may clear it. -/
  | qepIndex (x : QepIndexIn)
  /-- SPIM0_INIT (R831): At the release of PD22 SPIM0 resets the flash and enters 8D-8D-8D mode. The first four bytes of the SFDP area, the first in bits 7:0. -/
  | spim0Init (sig : Word)
  /-- FLASH_READ (R833): SPIM0 READ reads up to 256 bytes into the initiator's buffer. The word written to SPM0_CMD. -/
  | flashRead (a : Access) (v : Word)
  /-- FLASH_PROGRAM (R833): SPIM0 PROGRAM with its key writes bytes within one page. The word written to SPM0_CMD. -/
  | flashProgram (a : Access) (v : Word)
  /-- FLASH_ERASE4K (R833): SPIM0 ERASE4K with its key erases a 4 KiB block. The word written to SPM0_CMD. -/
  | flashErase4k (a : Access) (v : Word)
  /-- FLASH_ERASE64K (R833): SPIM0 ERASE64K with its key erases a 64 KiB block. The word written to SPM0_CMD. -/
  | flashErase64k (a : Access) (v : Word)
  /-- FLASH_OP_COMPLETE (R834): Status polling finds the flash program or erase complete. -/
  | flashOpComplete
  /-- FLASH_TIMEOUT (R834): A program or erase not complete in time ends with TIMEOUT. -/
  | flashTimeout
  /-- SPIM1_GO (R835): GO starts an SPIM1 transfer to the selected target. The word written to SPM1_XFER. -/
  | spim1Go (a : Access) (v : Word)
  /-- SPIM1_DONE (R835): An SPIM1 transfer completes and sets its result. The bytes received. -/
  | spim1Done (data : List Byte)
  /-- RDY_TIMEOUT (R838): SPIM1_RDY low for SPM1_RDY_TMO ends the transfer with RDY_TIMEOUT. -/
  | rdyTimeout (x : RdyLow)
  /-- SPIS_READ (R843): An SPIS READ transaction returns bytes of the BMC view. `late`: the data bytes that were not ready at 4 µs. -/
  | spisRead (addr : Fin 16384) (n : Nat) (late : List Nat)
  /-- SPIS_WRITE (R844): An SPIS WRITE transaction writes whole words of the BMC view. -/
  | spisWrite (addr : Fin 16384) (data : List Byte)
  /-- SPIS_STATUS (R842): An SPIS STATUS transaction returns BV_SUMMARY and clears ERR. `n`: the data bytes clocked. -/
  | spisStatus (n : Nat) (late : List Nat)
  /-- SPIS_WARM_RESET (R845): The SPIS WARM_RESET command with its key requests the BMC warm reset. -/
  | spisWarmReset (code : Fin 16384) (data : List Byte) (lost : Nat)
  /-- UART_FRAME_RECEIVE (R851): A UART frame is received with its error and Modbus flags into the RX FIFO. -/
  | uartFrameReceive (u : Fin 4) (f : UartFrame)
  /-- UART_DATA_READ (R855): A read of DATA by the owner pops the oldest received byte. -/
  | uartDataRead (i : Ident) (u : Fin 4)
  /-- UART_DATA_WRITE (R852): A write of DATA by the owner pushes a byte into the TX FIFO. -/
  | uartDataWrite (a : Access) (u : Fin 4) (v : Word)
  /-- MODBUS_EOM (R854): An idle line of T3.5 after a byte raises the EOM interrupt. -/
  | modbusEom (x : UartIdle)
  /-- I2C_GO (R857): GO queues the initiator's I²C transaction for round-robin service. The word written to XFER. `sda`: SDA is high. -/
  | i2cGo (a : Access) (c : Fin 2) (v : Word) (sda : Bool)
  /-- I2C_COMPLETE (R858): An I²C transaction ends, with one retry on failure. -/
  | i2cComplete (c : Fin 2) (e : I2cEnd)
  /-- SFP_PRESENCE_CHANGE (R861): A change of SFP_ABS stable for 100 ms is recognised. `los`: the level of SFP_LOS. -/
  | sfpPresenceChange (p : Fin 6) (present los : Bool)
  /-- WARM_RST_N_RELEASE (R687): WARM_RST_N recognised high ends the hold of its scope and starts the release of its domains. -/
  | warmRstNRelease
  /-- PERST_N_RELEASE (R552): PERST_N released lets PD13 and the instance domains leave reset and the PCIe link train. -/
  | perstNRelease
  /-- POR_RELEASE (R648): VDD_AON and VDD_OWL back above their POR threshold end the internal POR and start the cold release. The pins BOOT_SEL[1:0]. -/
  | porRelease (bootSel : Fin 4)
  /-- HOST_CREDIT_RETURN (R538): Posted credits returning from the link end HOST_STALL and the drop of host-bound traffic. -/
  | hostCreditReturn
  /-- TCP_RETRANSMIT_TIMEOUT (R499): The RTO of a shipping connection expires; the segment is retransmitted, or the connection is reset after 8 retransmissions. -/
  | tcpRetransmitTimeout (n : Fin 16) (admin : Bool)
  /-- FRER_RESET_TIMEOUT (R437): The reset timeout of a sequence recovery function expires, and the function resets and counts it in RESETS. -/
  | frerResetTimeout (r : Fin 512)
  /-- PAUSE_QUANTA_EXPIRED (R458): The pause quanta requested by a received PAUSE or PFC frame run out, and the port transmits again. -/
  | pauseQuantaExpired (port : Fin 6)
  /-- MSTP_TIMER_EXPIRY (R763): A timer of the hardware MS/TP master node (Tno_token, Treply_timeout, Tusage_timeout or Tslot) expires, and the state machine acts. -/
  | mstpTimerExpiry (t : MstpTimer)
  /-- UART_TX_COMPLETE (R853): The last stop bit of a transmitted byte is sent; the next byte starts, or UART_DE is released after LAG. -/
  | uartTxComplete (u : Fin 4)
  /-- DBG_DETACHED (R664): DBG_STATUS.ATTACHED becomes 0 when the debug port stops being clocked, which can make PD23 eligible for OFF. -/
  | dbgDetached
  /-- RING_LINK_LOCK (R408): A ring link gains block lock, and its LSTATUS moves from DOWN to SYNC. -/
  | ringLinkLock (link : Fin 2)
  /-- ITR_EXPIRED (R531): The QCFG.ITR moderation interval of a queue ends, and a held MSI-X message is sent. -/
  | itrExpired (t : Fin 128) (q : Fin 64)
  /-- MASKED_COLUMN_SCAN (R814): Every 50 ms the matrix scans a column that holds a masked key, which can start scanning. The rows that read closed. -/
  | maskedColumnScan (c : Fin 8) (closed : BitVec 8) (ms lost : Nat)
  /-- HEATER_MIN_TIME_END (R755): MIN_ON_S or MIN_OFF_S of a heater or relay channel ends, and a switch that was held back takes place. -/
  | heaterMinTimeEnd (h : Fin 8)
  /-- READ_SUSPEND_END (R696): 10 µs after the last read that suspended it, a Granary erase resumes. How long the erase was suspended by reads. -/
  | readSuspendEnd (us : Nat)
  deriving DecidableEq, Repr

end Sys2Proof
end

