-- ==== Sys2Proof/Config.lean ====
section
/-! DEFINITION. What one chip fixes and what the spec leaves open: every constant here is opaque, so that no proof can lean on
a value of it. -/

namespace Sys2Proof

/-- GLB_REV as the silicon reads it (Table 00.11, "By silicon"). (DESIGN CHOICE, log 2) -/
opaque Config.glbRev : Word

/-- A free value: the `n`-th value that the spec leaves open, as 32 bits. (DESIGN CHOICE, log 4) -/
opaque Config.freeWord : Nat → Word

/-- The FP32 sum of two FP32 values; the spec names no rounding. (DESIGN CHOICE, log 8) -/
opaque Config.fpAdd : Word → Word → Word

/-- The FP32 product of two FP32 values; the spec names no rounding. (DESIGN CHOICE, log 8) -/
opaque Config.fpMul : Word → Word → Word

/-- The FP32 quotient of two FP32 values; the spec names no rounding. (DESIGN CHOICE, log 8) -/
opaque Config.fpDiv : Word → Word → Word

/-- The FP32 square root; the spec names no rounding. (DESIGN CHOICE, log 8) -/
opaque Config.fpSqrt : Word → Word

/-- The FP32 natural logarithm; the spec names no rounding. (DESIGN CHOICE, log 8) -/
opaque Config.fpLn : Word → Word

/-- The FP32 value of a quotient of integers, numerator and denominator; the spec names no rounding. (DESIGN CHOICE, log 8) -/
opaque Config.fpOfQuot : Int → Int → Word

/-- SHA-384 of FIPS 180-4, which the spec names and does not define. (DESIGN CHOICE, log 8) -/
opaque Config.sha384 : List Byte → List Byte

/-- SHA-256, which the spec names and does not define. (DESIGN CHOICE, log 8) -/
opaque Config.sha256 : List Byte → List Byte

/-- Whether an uncompressed P-384 point of 97 bytes lies on the curve (FIPS 186-5). (DESIGN CHOICE, log 8) -/
opaque Config.p384OnCurve : List Byte → Bool

/-- Whether a P-384 signature of 96 bytes verifies (FIPS 186-5): public key, message, signature. (DESIGN CHOICE, log 8) -/
opaque Config.p384Verify : List Byte → List Byte → List Byte → Bool

/-- The Qorfold kernel key held in the boot ROM (R168). (DESIGN CHOICE, log 8) -/
opaque Config.kernelKey : List Byte

/-- The settings schema IDs that a firmware supports, a property of its bytes (R712, R726). (DEDUCED, log 43) -/
opaque Config.fwSchemas : List Byte → List (BitVec 32)

/-- The Qorfold firmware key held in the boot ROM (R715). (DESIGN CHOICE, log 8) -/
opaque Config.firmwareKey : List Byte

/-- The key check value of R483: key type, key bytes. (DESIGN CHOICE, log 8; DEDUCED, log 28) -/
opaque Config.keyCheck : Nat → List Byte → BitVec 24

/-- The authentication tag of a frame under a key: key bytes, algorithm, covered bytes. (DESIGN CHOICE, log 8; DEDUCED, log 28) -/
opaque Config.authTag : List Byte → Nat → List Byte → List Byte

/-- The FP32 cosine; the spec names no rounding. (DESIGN CHOICE, log 8) -/
opaque Config.fpCos : Word → Word

/-- The FP32 sine. (DESIGN CHOICE, log 8) -/
opaque Config.fpSin : Word → Word

/-- The angle of a vector in units of 360° ÷ 65,536, from its α and β components (R796); the spec names no rounding. (DESIGN CHOICE, log 8) -/
opaque Config.fpAngle : Word → Word → BitVec 16

/-- One step of the filter of the observer speed (R796): the filtered value before it, the new value, the length of the step and the time
constant in ns. The spec names no form of the filter. (DESIGN CHOICE, log 8) -/
opaque Config.speedFilter : Word → Word → Nat → Nat → Word

/-- One step of the filter of the current magnitude (R800): the filtered value before it, the new value, the length of the step in ns. The
spec names neither form nor time constant. (DESIGN CHOICE, log 8) -/
opaque Config.currentFilter : Word → Word → Nat → Word

/-- The bytes on the wire of a frame of a publication, by its number, its count of values, and whether it is the routable copy: the
encodings of IEC 61850, IEC 61869-9 and IEEE C37.118.2, which the spec names and does not repeat. (DESIGN CHOICE, log 8, 25) -/
opaque Config.pubLen : Nat → Nat → Bool → Nat

/-- The acceleration of a motor channel in rpm/s: ACCEL of R793 and R797, for which the register tables give no field. (DESIGN CHOICE, log 8; DEDUCED, log 46) -/
opaque Config.motorAccel : Nat → Nat

/-- The bucket of an FDB entry (R425): FID and MAC. (DESIGN CHOICE, log 8; DEDUCED, log 27) -/
opaque Config.fdbHash : Nat → Nat → Nat

/-- Output `j` of a kernel, value and quality word: the kernel's code, the parameter block, the state region it starts from, and the staged
words. The spec names the kernels and gives none of their numbers; a kernel is deterministic (R299). (DESIGN CHOICE, log 8) -/
opaque Config.kernelOut : List Byte → List Byte → List Byte → List Word → Nat → Word × BitVec 16

/-- The state region that a run of a kernel leaves, by the same arguments (R300). (DESIGN CHOICE, log 8) -/
opaque Config.kernelState : List Byte → List Byte → List Byte → List Word → List Byte

end Sys2Proof
end

