-- ==== Sys2Proof/Machine/Operands.lean ====
section
/-! DEFINITION. How an address names a register: the register tables' row types, the lookup of an address in them, and the
places of fields. A command's register operands all go through here. -/

namespace Sys2Proof.Machine

/-- The access codes of Table 00.5 (R12). -/
inductive Acc where
  | rw | ro | wo | w1c | w1s | rc
  deriving DecidableEq, Repr

/-- The field classes of Table 00.6: Live, Tick-latched, Tick-latched safety-marked, Quiet-only, Structure-owned. -/
inductive Cls where
  | live | tick | tickSafe | quiet | struc
  deriving DecidableEq, Repr

/-- Whether a register is one word, or the low or the high word of a 64-bit quantity (R10). -/
inductive PairRole where
  | single | low | high
  deriving DecidableEq, Repr

/-- A field of a register table: its place, access code, class and reset value; `pd` when the chapter puts the field in a
power domain other than its block's (R44). -/
structure FieldD where
  lo : Nat
  w : Nat
  acc : Acc
  cls : Cls
  reset : Nat
  pd : Option Nat
  deriving DecidableEq, Repr

/-- A register of a register table: its offset, the (count, stride) pairs of its array dimensions, whether each initiator
has its own copy, and its fields. -/
structure RegD where
  off : Nat
  dims : List (Nat × Nat)
  perInit : Bool
  pair : PairRole
  pd : Option Nat
  fields : List FieldD
  deriving DecidableEq, Repr

/-- A register block of Table 00.3. -/
structure BlockD where
  base : Nat
  size : Nat
  id : Nat
  pd : Nat
  regs : List RegD
  deriving DecidableEq, Repr

/-- The place of one field: the key of its register, its lowest bit and its width. -/
structure Fld where
  key : Nat
  lo : Nat
  w : Nat
  deriving DecidableEq, Repr

/-- Whether a remaining offset is an element of an array with these dimensions. -/
def dimsMatch : List (Nat × Nat) → Nat → Bool
  | [], r => r == 0
  | (c, s) :: ds, r => decide (r / s < c) && dimsMatch ds (r % s)

/-- The element numbers, outermost first, of a remaining offset. -/
def dimsIndex : List (Nat × Nat) → Nat → List Nat
  | [], _ => []
  | (_, s) :: ds, r => r / s :: dimsIndex ds (r % s)

/-- Whether a block offset is a word of this register. -/
def RegD.has (r : RegD) (o : Nat) : Bool := decide (r.off ≤ o) && dimsMatch r.dims (o - r.off)

/-- The element numbers of a block offset in this register. -/
def RegD.index (r : RegD) (o : Nat) : List Nat := dimsIndex r.dims (o - r.off)

/-- The reset value of a register: its fields' reset values in their places, reserved bits 0 (R8, R48). -/
def RegD.resetNat (r : RegD) : Nat := (r.fields.map (fun f => f.reset * 2 ^ f.lo)).sum

/-- The block that holds an address. -/
def findBlock (bs : List BlockD) (addr : Nat) : Option BlockD :=
  bs.find? (fun b => decide (b.base ≤ addr) && decide (addr < b.base + b.size))

/-- The register row that holds a block offset. -/
def BlockD.findReg (b : BlockD) (off : Nat) : Option RegD := b.regs.find? (fun r => r.has off)

/-- Keys of per-initiator copies: the initiator's identity above bit 28. -/
def initKey (i : Ident) (addr : Nat) : Nat := i.toNat * 2 ^ 28 + addr

/-- The address part of a key. -/
def keyAddr (k : Nat) : Nat := k % 2 ^ 28


end Sys2Proof.Machine
end

