-- ==== Sys2Proof/Machine/RegTable.lean ====
section
/-! DEFINITION. The register tables of the spec, one list per block: every register with its offset, array dimensions, access codes,
classes and reset values; and what each register reads as at the release of its domain (R48). -/

namespace Sys2Proof.Machine

/-- A field row. -/
abbrev fd (hi lo : Nat) (a : Acc) (c : Cls) (reset : Nat := 0) (pd : Option Nat := none) : FieldD :=
  ⟨lo, hi + 1 - lo, a, c, reset, pd⟩

/-- A register row. -/
abbrev rd (off : Nat) (dims : List (Nat × Nat)) (fields : List FieldD) (pair : PairRole := .single)
    (perInit : Bool := false) (pd : Option Nat := none) : RegD :=
  ⟨off, dims, perInit, pair, pd, fields⟩

/-- GLB registers (00_scope.md, Table 00.9-00.12). -/
def regsGlb : List RegD := [
  rd 0 [] [fd 31 0 .ro .struc 0xF77720], -- GLB_ID
  rd 4 [] [fd 15 8 .ro .struc, fd 7 0 .ro .struc], -- GLB_REV
  rd 8 [] [fd 31 0 .rw .live]] -- GLB_SCRATCH

/-- TIK registers (01_the_tick.md, Table 01.6-01.14). -/
def regsTik : List RegD := [
  rd 0 [] [fd 29 16 .ro .struc, fd 13 4 .ro .struc, fd 2 0 .ro .struc], -- TIK_CFG
  rd 4 [] [fd 8 8 .wo .live, fd 1 0 .rw .live 1], -- TIK_CTRL
  rd 8 [] [fd 24 16 .ro .live, fd 11 8 .ro .live, fd 4 4 .ro .live, fd 3 2 .ro .live 2, fd 1 0 .ro .live], -- TIK_STATUS
  rd 0xC [] [fd 14 0 .ro .live], -- TIK_INSEC
  rd 0x10 [] [fd 31 0 .ro .live] .low, -- TIK_COUNT_LO
  rd 0x14 [] [fd 31 0 .ro .live] .high, -- TIK_COUNT_HI
  rd 0x18 [] [fd 31 0 .ro .live], -- TIK_SEC
  rd 0x20 [] [fd 8 8 .w1c .live, fd 2 2 .rw .live, fd 1 1 .rw .live, fd 0 0 .w1s .live], -- TIK_COMMIT
  rd 0x24 [] [fd 31 0 .rw .live] .low, -- TIK_COMMIT_AT_LO
  rd 0x28 [] [fd 31 0 .rw .live] .high, -- TIK_COMMIT_AT_HI
  rd 0x2C [] [fd 31 0 .ro .live] .low, -- TIK_COMMIT_LAST_LO
  rd 0x30 [] [fd 31 0 .ro .live] .high, -- TIK_COMMIT_LAST_HI
  rd 0x40 [] [fd 31 0 .ro .live], -- TIK_OVR_TOTAL
  rd 0x44 [] [fd 31 23 .ro .live, fd 22 16 .ro .live, fd 9 0 .ro .live], -- TIK_OVR_LAST
  rd 0x48 [] [fd 31 0 .ro .live], -- TIK_OVR_REPEAT
  rd 0x4C [] [fd 31 0 .ro .live], -- TIK_RETRY_OVR
  rd 0x50 [] [fd 31 0 .ro .live], -- TIK_REALIGN_CNT
  rd 0x54 [] [fd 31 0 .ro .live], -- TIK_REALIGN_STEP
  rd 0x1000 [(1024, 4)] [fd 31 16 .ro .live, fd 6 0 .ro .live]] -- TIK_ITEM_OVR

/-- TIM registers (02_time_base.md, Table 02.8-02.13), part 1. -/
def regsTimA : List RegD := [
  rd 0 [] [fd 3 3 .rw .live, fd 2 2 .rw .live, fd 1 1 .rw .quiet, fd 0 0 .rw .live], -- TIM_CTRL
  rd 4 [] [fd 11 11 .ro .live, fd 10 10 .ro .live, fd 9 9 .ro .live, fd 8 8 .ro .live 1, fd 5 4 .ro .live, fd 1 0 .ro .live 2], -- TIM_STATUS
  rd 8 [] [fd 15 8 .rw .live 0xA, fd 7 7 .rw .live, fd 6 5 .rw .live, fd 4 3 .rw .live, fd 1 0 .rw .live], -- TIM_SRC_PRIO
  rd 0x10 [] [fd 31 0 .ro .live] .low, -- TIM_NS_LO
  rd 0x14 [] [fd 31 0 .ro .live] .high, -- TIM_NS_HI
  rd 0x18 [] [fd 15 0 .ro .live], -- TIM_FRAC
  rd 0x20 [] [fd 31 0 .rw .live], -- TIM_FREQ_ADJ
  rd 0x24 [] [fd 31 0 .wo .live], -- TIM_PHASE_ADJ
  rd 0x28 [] [fd 9 0 .rw .live 0x3E8], -- TIM_SLEW_MAX
  rd 0x2C [] [fd 19 0 .rw .tickSafe 0x3E8], -- TIM_STEP_THR
  rd 0x30 [] [fd 31 0 .rw .live], -- TIM_SERVO_OFS
  rd 0x34 [] [fd 15 0 .rw .live 0xBB8], -- TIM_SERVO_CFG
  rd 0x38 [] [fd 23 16 .rw .tickSafe 8, fd 15 0 .rw .tickSafe 0x64], -- TIM_LOCK_CFG
  rd 0x3C [] [fd 31 0 .rw .live 0x3E8], -- TIM_XCHK_THR
  rd 0x40 [] [fd 31 0 .rw .tickSafe 0x2710], -- TIM_HO_CFG
  rd 0x44 [] [fd 31 0 .rw .live 0x3E8], -- TIM_HO_FREQ
  rd 0x48 [] [fd 31 0 .rw .live 0xC], -- TIM_HO_DRIFT
  rd 0x4C [] [fd 31 0 .ro .live], -- TIM_HO_E0
  rd 0x50 [] [fd 31 0 .ro .live], -- TIM_HO_EST
  rd 0x54 [] [fd 31 0 .ro .live], -- TIM_HO_TIME
  rd 0x60 [] [fd 17 17 .rw .live, fd 16 16 .rw .live, fd 15 0 .rw .live], -- TIM_UTC_OFS
  rd 0x64 [] [fd 31 0 .rw .live] .low, -- TIM_LEAP_AT_LO
  rd 0x68 [] [fd 31 0 .rw .live] .high, -- TIM_LEAP_AT_HI
  rd 0x70 [] [fd 31 16 .rw .live 0x8000, fd 15 0 .rw .live]] -- TIM_OCXO_CFG

/-- TIM registers (02_time_base.md, Table 02.8-02.13), part 2. -/
def regsTimB : List RegD := [
  rd 0x74 [] [fd 31 16 .rw .live 0xFFFF, fd 15 0 .rw .live], -- TIM_OCXO_LIM
  rd 0x78 [] [fd 15 0 .ro .live 0x8000], -- TIM_OCXO_DAC
  rd 0x80 [] [fd 19 14 .rw .live, fd 13 13 .rw .live, fd 11 8 .rw .live 0xF, fd 7 4 .rw .live 4], -- TIM_IRIG_CFG
  rd 0x84 [] [fd 31 28 .ro .live, fd 23 16 .ro .live, fd 2 0 .ro .live], -- TIM_IRIG_STATUS
  rd 0x88 [] [fd 31 0 .ro .live], -- TIM_IRIG_ERR
  rd 0x90 [] [fd 31 30 .rw .live, fd 29 29 .rw .live, fd 24 16 .rw .live 0x64, fd 15 0 .rw .live 0x3E8], -- TIM_PPS_CFG
  rd 0x94 [] [fd 31 0 .rw .live], -- TIM_PPS_OUT_DLY
  rd 0x98 [] [fd 31 0 .ro .live], -- TIM_PPS_REJ
  rd 0xA0 [] [fd 31 0 .rw .live] .low, -- TIM_TOD_LO
  rd 0xA4 [] [fd 31 0 .rw .live] .high, -- TIM_TOD_HI
  rd 0xB0 [] [fd 31 24 .rw .live 7, fd 23 16 .rw .quiet, fd 15 8 .rw .live, fd 7 5 .rw .quiet, fd 4 3 .rw .quiet], -- TIM_PTP_CFG
  rd 0x100 [(8, 0x20)] [fd 31 0 .rw .tick], -- TIM_PORT_RX_LAT
  rd 0x104 [(8, 0x20)] [fd 31 0 .rw .tick], -- TIM_PORT_TX_LAT
  rd 0x108 [(8, 0x20)] [fd 2 2 .rw .tick, fd 1 1 .rw .tick, fd 0 0 .rw .tick], -- TIM_PORT_PCFG
  rd 0x10C [(8, 0x20)] [fd 31 0 .ro .live]] -- TIM_PORT_TS_DROP

/-- TIM registers. -/
def regsTim : List RegD := regsTimA ++ regsTimB

/-- IMG registers (03_structure_image.md, Table 03.16-03.17, 04.6-04.7), part 1. -/
def regsImgA : List RegD := [
  rd 0 [] [fd 2 2 .rw .live, fd 1 0 .rw .quiet], -- IMG_CTRL
  rd 4 [] [fd 31 16 .wo .live, fd 3 0 .wo .live], -- IMG_CMD
  rd 8 [] [fd 31 16 .ro .live, fd 7 7 .ro .live, fd 6 6 .ro .live, fd 5 4 .ro .live, fd 2 0 .ro .live], -- IMG_STATUS
  rd 0xC [] [fd 31 0 .ro .live], -- IMG_REJ_DETAIL
  rd 0x10 [] [fd 31 0 .ro .live], -- IMG_REJ_COUNT
  rd 0x14 [] [fd 31 0 .ro .struc], -- IMG_ACTIVE_ID
  rd 0x18 [] [fd 31 0 .ro .struc], -- IMG_ACTIVE_VER
  rd 0x1C [] [fd 31 0 .ro .struc], -- IMG_ACTIVE_LEN
  rd 0x20 [] [fd 31 0 .ro .live], -- IMG_STAGED_ID
  rd 0x24 [] [fd 31 0 .ro .live], -- IMG_STAGED_VER
  rd 0x30 [] [fd 31 0 .rw .quiet] .low, -- IMG_HOST_ADDR_LO
  rd 0x34 [] [fd 31 0 .rw .quiet] .high, -- IMG_HOST_ADDR_HI
  rd 0x38 [] [fd 31 0 .rw .quiet], -- IMG_HOST_LEN
  rd 0x40 [] [fd 31 0 .rw .quiet 0x1000000], -- IMG_FLASH_A
  rd 0x44 [] [fd 31 0 .rw .quiet 0x1800000], -- IMG_FLASH_B
  rd 0x50 [] [fd 31 0 .ro .live] .low, -- IMG_ACT_TICK_LO
  rd 0x54 [] [fd 31 0 .ro .live] .high, -- IMG_ACT_TICK_HI
  rd 0x58 [] [fd 31 16 .ro .live, fd 15 0 .ro .live], -- IMG_LOAD_TIME
  rd 0x60 [] [fd 7 4 .ro .struc, fd 3 0 .ro .struc], -- IMG_KEY_STATE
  rd 0x100 [(4, 0x30), (12, 4)] [fd 31 0 .ro .struc], -- IMG_KEYHASH
  rd 0x200 [(16, 8)] [fd 31 0 .ro .live], -- IMG_REJ_LOG_CODE
  rd 0x204 [(16, 8)] [fd 31 0 .ro .live], -- IMG_REJ_LOG_DETAIL
  rd 0x400 [] [fd 31 16 .wo .live, fd 4 4 .wo .live, fd 3 0 .wo .live], -- IMG_AMD_CMD
  rd 0x404 [] [fd 31 16 .ro .live, fd 5 5 .ro .live, fd 4 4 .ro .live, fd 2 0 .ro .live]] -- IMG_AMD_STATUS

/-- IMG registers (03_structure_image.md, Table 03.16-03.17, 04.6-04.7), part 2. -/
def regsImgB : List RegD := [
  rd 0x408 [] [fd 31 0 .ro .live], -- IMG_AMD_DETAIL
  rd 0x40C [] [fd 7 0 .ro .live], -- IMG_AMD_LEAD
  rd 0x410 [] [fd 31 0 .rw .live] .low, -- IMG_AMD_AT_LO
  rd 0x414 [] [fd 31 0 .rw .live] .high, -- IMG_AMD_AT_HI
  rd 0x418 [] [fd 31 0 .ro .live] .low, -- IMG_AMD_LAST_LO
  rd 0x41C [] [fd 31 0 .ro .live] .high, -- IMG_AMD_LAST_HI
  rd 0x420 [] [fd 31 0 .ro .struc], -- IMG_AMD_BASE
  rd 0x424 [] [fd 31 0 .ro .live], -- IMG_AMD_OVERRIDE
  rd 0x428 [] [fd 31 0 .ro .live], -- IMG_AMD_COUNT
  rd 0x42C [] [fd 16 0 .ro .live]] -- IMG_AMD_OVL

/-- IMG registers. -/
def regsImg : List RegD := regsImgA ++ regsImgB

/-- ACQ registers (05_acquisition.md, Table 05.7-05.8), part 1. -/
def regsAcqA : List RegD := [
  rd 0 [] [fd 1 1 .rw .tickSafe, fd 0 0 .rw .tickSafe 1], -- ACQ_CTRL
  rd 4 [] [fd 23 16 .ro .live, fd 15 8 .ro .live, fd 1 0 .ro .live], -- ACQ_STATUS
  rd 8 [] [fd 27 24 .rw .tickSafe 8, fd 23 17 .rw .tickSafe 0x46, fd 16 12 .rw .tickSafe 2, fd 11 6 .rw .tickSafe 0x3A, fd 5 0 .rw .tickSafe 6], -- ACQ_RNG_CFG
  rd 0xC [] [fd 31 0 .ro .live], -- ACQ_RNG_UP
  rd 0x10 [] [fd 31 0 .ro .live], -- ACQ_RNG_DOWN
  rd 0x14 [] [fd 31 0 .w1c .live], -- ACQ_LINK_LOST_LO
  rd 0x18 [] [fd 15 0 .w1c .live], -- ACQ_LINK_LOST_HI
  rd 0x100 [(4, 0x10)] [fd 8 8 .ro .live, fd 4 4 .ro .struc, fd 1 0 .ro .struc], -- ACQ_MCLK
  rd 0x200 [(48, 0x10)] [fd 15 10 .ro .struc 0x3F, fd 9 9 .ro .struc, fd 8 3 .rw .quiet, fd 2 2 .rw .quiet, fd 1 0 .ro .struc], -- ACQ_IN_CFG
  rd 0x204 [(48, 0x10)] [fd 31 0 .rw .tickSafe 0x3F800000], -- ACQ_IN_GAIN
  rd 0x208 [(48, 0x10)] [fd 31 0 .rw .tickSafe], -- ACQ_IN_OFS
  rd 0x20C [(48, 0x10)] [fd 31 16 .ro .live, fd 10 10 .ro .live, fd 9 9 .ro .live, fd 6 0 .ro .live], -- ACQ_IN_STATUS
  rd 0x1000 [(256, 0x10)] [fd 28 24 .ro .struc, fd 21 16 .ro .struc, fd 13 8 .ro .struc, fd 2 2 .ro .struc, fd 1 0 .ro .struc], -- ACQ_CHAN_CFG
  rd 0x1004 [(256, 0x10)] [fd 31 0 .ro .struc], -- ACQ_CHAN_SCALE
  rd 0x1008 [(256, 0x10)] [fd 31 0 .rw .tickSafe], -- ACQ_CHAN_HI_GAIN
  rd 0x100C [(256, 0x10)] [fd 31 0 .rw .tickSafe], -- ACQ_CHAN_HI_OFS
  rd 0x3000 [(64, 0x40)] [fd 15 12 .ro .struc, fd 11 10 .ro .struc, fd 9 9 .ro .struc, fd 8 4 .ro .struc, fd 3 1 .ro .struc, fd 0 0 .ro .struc], -- ACQ_SV_CFG
  rd 0x3004 [(64, 0x40)] [fd 15 0 .ro .struc], -- ACQ_SV_APPID
  rd 0x3008 [(64, 0x40)] [fd 31 0 .ro .struc], -- ACQ_SV_MAC_LO
  rd 0x300C [(64, 0x40)] [fd 15 0 .ro .struc], -- ACQ_SV_MAC_HI
  rd 0x3010 [(64, 0x40)] [fd 31 0 .ro .struc], -- ACQ_SV_SVID_CRC
  rd 0x3014 [(64, 0x40)] [fd 1 0 .ro .live], -- ACQ_SV_STATUS
  rd 0x3018 [(64, 0x40)] [fd 31 0 .ro .live], -- ACQ_SV_RX
  rd 0x301C [(64, 0x40)] [fd 31 0 .ro .live]] -- ACQ_SV_LATE

/-- ACQ registers (05_acquisition.md, Table 05.7-05.8), part 2. -/
def regsAcqB : List RegD := [
  rd 0x3020 [(64, 0x40)] [fd 31 0 .ro .live], -- ACQ_SV_MISSING
  rd 0x3024 [(64, 0x40)] [fd 31 0 .ro .live], -- ACQ_SV_DUP
  rd 0x3028 [(64, 0x40)] [fd 31 0 .ro .live], -- ACQ_SV_BAD
  rd 0x4000 [(256, 8)] [fd 31 0 .ro .live], -- ACQ_LAST_VALUE
  rd 0x4004 [(256, 8)] [fd 16 16 .ro .live, fd 15 0 .ro .live]] -- ACQ_LAST_QUAL

/-- ACQ registers. -/
def regsAcq : List RegD := regsAcqA ++ regsAcqB

/-- TWC registers (05_acquisition.md, Table 05.9-05.10). -/
def regsTwc : List RegD := [
  rd 0 [] [fd 0 0 .ro .struc], -- TWC_CTRL
  rd 4 [] [fd 5 5 .ro .live, fd 4 4 .ro .live, fd 2 0 .ro .live], -- TWC_STATUS
  rd 8 [] [fd 16 16 .ro .struc, fd 15 8 .ro .struc, fd 7 4 .ro .struc, fd 3 0 .ro .struc], -- TWC_JESD_CFG
  rd 0xC [] [fd 31 0 .rw .tickSafe], -- TWC_LAT
  rd 0x10 [] [fd 15 0 .ro .struc 0x7D0], -- TWC_SYSREF_CFG
  rd 0x14 [] [fd 15 0 .rw .tickSafe 0x1F4], -- TWC_SYSREF_TOL
  rd 0x18 [] [fd 31 0 .ro .live], -- TWC_SYSREF_DEV
  rd 0x1C [] [fd 31 0 .ro .live], -- TWC_CRC_ERR
  rd 0x20 [] [fd 31 0 .ro .live], -- TWC_RESYNC
  rd 0x24 [] [fd 31 0 .ro .live], -- TWC_EVT_DROP
  rd 0x100 [(12, 0x10)] [fd 24 24 .rw .tickSafe, fd 23 16 .rw .tickSafe 0x14, fd 13 0 .rw .tickSafe], -- TWC_CH_CFG
  rd 0x104 [(12, 0x10)] [fd 31 0 .ro .live], -- TWC_CH_EVENTS
  rd 0x200 [(8, 4)] [fd 31 0 .ro .live]] -- TWC_LAST_EVT

/-- THR registers (06_thresher_pool.md, Table 06.10-06.11). -/
def regsThr : List RegD := [
  rd 0 [] [fd 1 0 .rw .live], -- THR_CTRL
  rd 4 [] [fd 31 24 .ro .live, fd 23 16 .ro .live, fd 15 8 .ro .live, fd 7 4 .ro .live, fd 1 0 .ro .live], -- THR_STATUS
  rd 8 [] [fd 31 16 .wo .live, fd 14 8 .wo .live, fd 3 0 .wo .live], -- THR_CMD
  rd 0x10 [(3, 4)] [fd 31 0 .ro .live], -- THR_RETIRED
  rd 0x20 [(3, 4)] [fd 31 0 .ro .live], -- THR_SPARE
  rd 0x30 [] [fd 31 0 .ro .live], -- THR_RETRIED_TOTAL
  rd 0x34 [] [fd 31 0 .ro .live], -- THR_VOTED_TOTAL
  rd 0x38 [] [fd 31 0 .ro .live], -- THR_SPLIT_TOTAL
  rd 0x3C [] [fd 31 0 .ro .live], -- THR_RETRY_SKIP
  rd 0x40 [] [fd 31 0 .ro .live], -- THR_ARB_FAIL
  rd 0x44 [] [fd 31 0 .ro .live], -- THR_ADOPT_TOTAL
  rd 0x48 [] [fd 31 0 .ro .live], -- THR_INCOMPLETE
  rd 0x4C [] [fd 31 24 .ro .live, fd 23 16 .ro .live, fd 15 8 .ro .live, fd 7 0 .ro .live], -- THR_LAST_RETIRE
  rd 0x1000 [(80, 0x10)] [fd 30 24 .ro .live 0x7F, fd 15 12 .ro .live, fd 3 3 .ro .live, fd 2 0 .ro .live], -- THR_CORE_CSTATE
  rd 0x1004 [(80, 0x10)] [fd 31 16 .ro .live, fd 1 0 .ro .live], -- THR_CORE_CTRANS
  rd 0x1008 [(80, 0x10)] [fd 31 16 .ro .live, fd 15 0 .ro .live], -- THR_CORE_CECC
  rd 0x100C [(80, 0x10)] [fd 31 0 .ro .live], -- THR_CORE_CARB
  rd 0x2000 [(1024, 0x10)] [fd 31 25 .ro .live, fd 24 18 .ro .live, fd 17 16 .ro .live, fd 15 12 .ro .live], -- THR_ITEM_ISTATUS
  rd 0x2004 [(1024, 0x10)] [fd 15 0 .ro .live], -- THR_ITEM_IWARM
  rd 0x2008 [(1024, 0x10)] [fd 31 16 .ro .live, fd 15 0 .ro .live], -- THR_ITEM_ICNT1
  rd 0x200C [(1024, 0x10)] [fd 31 16 .ro .live, fd 15 0 .ro .live]] -- THR_ITEM_ICNT2

/-- MPR registers (07_measurement_products.md, Table 07.9-07.10), part 1. -/
def regsMprA : List RegD := [
  rd 0 [] [fd 1 1 .wo .live, fd 0 0 .rw .live], -- MPR_CTRL
  rd 4 [] [fd 7 4 .ro .live, fd 3 0 .ro .live], -- MPR_STATUS
  rd 0x10 [] [fd 31 0 .ro .live], -- MPR_PUB_LATE
  rd 0x14 [] [fd 31 0 .ro .live], -- MPR_PORT_DROP
  rd 0x18 [] [fd 31 0 .ro .live], -- MPR_DR_COUNT
  rd 0x1C [] [fd 31 0 .ro .live], -- MPR_DR_DROP
  rd 0x20 [] [fd 31 0 .ro .live], -- MPR_TW_COUNT
  rd 0x24 [] [fd 31 0 .ro .live], -- MPR_TW_DROP
  rd 0x30 [] [fd 31 16 .rw .tick 0x1388, fd 15 0 .rw .tick 0x7D0], -- MPR_DR_CFG
  rd 0x34 [] [fd 31 16 .ro .struc, fd 15 8 .ro .struc, fd 7 0 .ro .struc], -- MPR_DR_CHAN
  rd 0x38 [] [fd 10 0 .rw .tick 0x1F4], -- MPR_TW_CFG
  rd 0x100 [(32, 0x10)] [fd 26 24 .ro .struc, fd 23 20 .ro .struc, fd 19 18 .ro .struc, fd 17 17 .ro .struc, fd 15 0 .ro .struc], -- MPR_TRIG_CFG
  rd 0x104 [(32, 0x10)] [fd 31 0 .rw .tick], -- MPR_TRIG_LEVEL
  rd 0x108 [(32, 0x10)] [fd 31 0 .rw .tick], -- MPR_TRIG_HYST
  rd 0x10C [(32, 0x10)] [fd 31 0 .ro .live], -- MPR_TRIG_COUNT
  rd 0x400 [(64, 0x20)] [fd 10 10 .ro .struc, fd 9 9 .rw .tick, fd 8 8 .ro .struc, fd 7 2 .ro .struc, fd 1 0 .ro .struc], -- MPR_SV_CFG
  rd 0x404 [(64, 0x20)] [fd 31 0 .ro .struc], -- MPR_SV_CH_LO
  rd 0x408 [(64, 0x20)] [fd 31 0 .ro .struc], -- MPR_SV_CH_HI
  rd 0x40C [(64, 0x20)] [fd 31 0 .ro .struc], -- MPR_SV_CONFREV
  rd 0x410 [(64, 0x20)] [fd 31 0 .ro .live], -- MPR_SV_SMPCNT
  rd 0x414 [(64, 0x20)] [fd 31 0 .ro .live], -- MPR_SV_TX
  rd 0xC00 [(128, 0x20)] [fd 26 14 .ro .struc, fd 13 8 .ro .struc, fd 7 2 .ro .struc, fd 1 1 .ro .struc, fd 0 0 .ro .struc], -- MPR_GOOSE_CFG
  rd 0xC04 [(128, 0x20)] [fd 31 16 .ro .struc, fd 15 0 .ro .struc], -- MPR_GOOSE_TIMING
  rd 0xC08 [(128, 0x20)] [fd 31 0 .rw .tick]] -- MPR_GOOSE_DEADBAND

/-- MPR registers (07_measurement_products.md, Table 07.9-07.10), part 2. -/
def regsMprB : List RegD := [
  rd 0xC0C [(128, 0x20)] [fd 31 0 .ro .struc], -- MPR_GOOSE_CONFREV
  rd 0xC10 [(128, 0x20)] [fd 31 0 .ro .live], -- MPR_GOOSE_STNUM
  rd 0xC14 [(128, 0x20)] [fd 31 0 .ro .live], -- MPR_GOOSE_SQNUM
  rd 0xC18 [(128, 0x20)] [fd 31 0 .ro .live], -- MPR_GOOSE_TX
  rd 0x2000 [(32, 0x40)] [fd 31 19 .ro .struc, fd 16 12 .ro .struc, fd 11 6 .ro .struc, fd 4 4 .ro .struc, fd 3 3 .ro .struc, fd 2 2 .rw .tick, fd 0 0 .ro .struc], -- MPR_C37_CFG
  rd 0x2004 [(32, 0x40)] [fd 15 0 .ro .struc], -- MPR_C37_IDCODE
  rd 0x2008 [(32, 0x40)] [fd 15 0 .ro .live], -- MPR_C37_STAT
  rd 0x200C [(32, 0x40)] [fd 15 0 .ro .live], -- MPR_C37_CFG_CNT
  rd 0x2010 [(32, 0x40)] [fd 31 0 .ro .live], -- MPR_C37_TX
  rd 0x2800 [(256, 0x10)] [fd 31 31 .ro .struc, fd 30 30 .ro .struc, fd 29 16 .ro .struc, fd 15 0 .ro .struc], -- MPR_HPUB_CFG
  rd 0x2804 [(256, 0x10)] [fd 12 0 .ro .struc], -- MPR_HPUB_LIST
  rd 0x2808 [(256, 0x10)] [fd 31 0 .ro .live], -- MPR_HPUB_TX
  rd 0x3800 [(4, 0x40)] [fd 31 16 .ro .struc 0xFFFF, fd 15 0 .ro .struc 0xFFFF], -- MPR_FLOC_ITEMS_DA
  rd 0x3804 [(4, 0x40)] [fd 31 16 .rw .tick 0x32, fd 15 0 .ro .struc 0xFFFF], -- MPR_FLOC_ITEM_Z
  rd 0x3820 [(4, 0x40), (8, 4)] [fd 31 0 .ro .live], -- MPR_FLOC_RESULT
  rd 0x3A00 [(16, 4)] [fd 31 16 .ro .struc, fd 15 0 .ro .struc], -- MPR_DR_LIST
  rd 0x10000 [(224, 0x80), (32, 4)] [fd 31 0 .ro .struc], -- MPR_TMPL
  rd 0x20000 [(4096, 4)] [fd 31 16 .ro .struc, fd 15 0 .ro .struc], -- MPR_LIST
  rd 0x40000 [(4, 0x10000), (4096, 8)] [fd 31 0 .ro .live] .low false (some 18), -- MPR_PROD_VALUE
  rd 0x40004 [(4, 0x10000), (4096, 8)] [fd 31 0 .ro .live] .high false (some 18)] -- MPR_PROD_QUAL

/-- MPR registers. -/
def regsMpr : List RegD := regsMprA ++ regsMprB

/-- MRG registers (08_measurement_ring.md, Table 08.9-08.10), part 1. -/
def regsMrgA : List RegD := [
  rd 0 [] [fd 0 0 .rw .tickSafe 1], -- MRG_CTRL
  rd 4 [] [fd 31 16 .ro .struc, fd 11 8 .ro .struc 1, fd 3 0 .ro .struc], -- MRG_CFG
  rd 8 [] [fd 15 0 .ro .struc], -- MRG_MEMBER
  rd 0xC [] [fd 31 16 .ro .live, fd 11 8 .ro .live, fd 7 7 .ro .live, fd 6 6 .ro .live, fd 5 4 .ro .live, fd 3 3 .ro .live, fd 2 2 .ro .live, fd 1 0 .ro .live], -- MRG_STATUS
  rd 0x10 [] [fd 31 0 .ro .live], -- MRG_RING_OFS
  rd 0x14 [] [fd 15 0 .rw .tickSafe 0x64], -- MRG_PHASE_THR
  rd 0x18 [] [fd 15 0 .rw .tick 0x14], -- MRG_DLY_JUMP
  rd 0x1C [] [fd 6 0 .ro .struc], -- MRG_CONTRIB
  rd 0x20 [] [fd 31 0 .ro .live], -- MRG_RES_SEC
  rd 0x24 [] [fd 14 0 .ro .live], -- MRG_RES_INSEC
  rd 0x28 [] [fd 17 17 .ro .live, fd 16 16 .ro .live, fd 15 0 .ro .live], -- MRG_MISSING
  rd 0x30 [] [fd 31 0 .ro .live], -- MRG_PARTIAL_CNT
  rd 0x34 [] [fd 31 0 .ro .live], -- MRG_DEGRADED_CNT
  rd 0x38 [] [fd 31 0 .ro .live], -- MRG_LATE_CNT
  rd 0x3C [] [fd 31 0 .ro .live], -- MRG_ELECT_CNT
  rd 0x40 [] [fd 31 0 .ro .live], -- MRG_FOREIGN_CNT
  rd 0x44 [] [fd 31 0 .ro .live], -- MRG_MISMATCH_CNT
  rd 0x100 [(2, 0x40)] [fd 31 16 .ro .live, fd 11 8 .ro .live, fd 1 0 .ro .live], -- MRG_LINK_LSTATUS
  rd 0x104 [(2, 0x40)] [fd 31 0 .ro .live], -- MRG_LINK_DELAY
  rd 0x108 [(2, 0x40)] [fd 31 0 .ro .live], -- MRG_LINK_OFFSET
  rd 0x10C [(2, 0x40)] [fd 31 0 .rw .tickSafe], -- MRG_LINK_ASYM
  rd 0x110 [(2, 0x40)] [fd 31 0 .ro .live], -- MRG_LINK_CRC_ERR
  rd 0x114 [(2, 0x40)] [fd 31 0 .ro .live], -- MRG_LINK_RESEND
  rd 0x118 [(2, 0x40)] [fd 31 0 .ro .live]] -- MRG_LINK_LOSS_CNT

/-- MRG registers (08_measurement_ring.md, Table 08.9-08.10), part 2. -/
def regsMrgB : List RegD := [
  rd 0x200 [(63, 4)] [fd 31 16 .ro .struc, fd 15 0 .ro .struc], -- MRG_LIST
  rd 0x10000 [(16, 0x400), (256, 4)] [fd 31 0 .ro .live]] -- MRG_RESULT

/-- MRG registers. -/
def regsMrg : List RegD := regsMrgA ++ regsMrgB

/-- PKT registers (09_packet_engine.md, Table 09.9-09.10), part 1. -/
def regsPktA : List RegD := [
  rd 0 [] [fd 0 0 .rw .live 1], -- PKT_CTRL
  rd 4 [] [fd 13 8 .ro .live, fd 1 0 .ro .live], -- PKT_STATUS
  rd 8 [] [fd 19 0 .rw .live 0x12C], -- PKT_FDB_AGE
  rd 0xC [] [fd 31 0 .ro .live], -- PKT_FDB_COUNT
  rd 0x10 [] [fd 27 16 .wo .live, fd 11 8 .wo .live, fd 3 0 .wo .live], -- PKT_FDB_CMD
  rd 0x14 [] [fd 31 0 .ro .live], -- PKT_FDB_LEARN_FAIL
  rd 0x18 [] [fd 13 0 .rw .quiet 0x5F2], -- PKT_MAX_FRAME
  rd 0x1C [] [fd 13 0 .rw .tickSafe 0x1F4], -- PKT_PAUSE_MAX_HOLD
  rd 0x20 [] [fd 7 0 .ro .struc 0x80], -- PKT_TC_PROT
  rd 0x24 [] [fd 31 0 .ro .struc], -- PKT_MAC_LO
  rd 0x28 [] [fd 15 0 .ro .struc], -- PKT_MAC_HI
  rd 0x100 [(6, 0x10)] [fd 27 16 .rw .tick 1, fd 15 13 .rw .tick, fd 5 4 .rw .quiet, fd 3 2 .rw .quiet, fd 1 1 .rw .tickSafe, fd 0 0 .rw .live], -- PKT_PORT_PCFG
  rd 0x104 [(6, 0x10)] [fd 1 0 .ro .live], -- PKT_PORT_PSTATUS
  rd 0x108 [(6, 0x10)] [fd 23 0 .rw .tick 0xFAC688], -- PKT_PORT_PCP_TC
  rd 0x400 [(10, 0x40), (8, 8)] [fd 31 0 .rw .tick], -- PKT_POL_RATE
  rd 0x404 [(10, 0x40), (8, 8)] [fd 23 0 .rw .tick], -- PKT_POL_BURST
  rd 0x800 [(128, 8)] [fd 31 0 .rw .tick], -- PKT_TEN_POL_RATE
  rd 0x804 [(128, 8)] [fd 23 0 .rw .tick], -- PKT_TEN_POL_BURST
  rd 0x1000 [(10, 0x100), (7, 4)] [fd 31 0 .ro .live], -- PKT_CNT
  rd 0x1020 [(10, 0x100), (8, 4)] [fd 31 0 .ro .live], -- PKT_CNT_DROP_POL
  rd 0x1040 [(10, 0x100), (8, 4)] [fd 31 0 .ro .live], -- PKT_CNT_DROP_TAIL
  rd 0x10000 [(4096, 8)] [fd 25 16 .ro .struc, fd 9 0 .ro .struc], -- PKT_VLAN_W0
  rd 0x10004 [(4096, 8)] [fd 16 16 .ro .struc, fd 11 0 .ro .struc], -- PKT_VLAN_W1
  rd 0x20000 [(2048, 0x10)] [fd 31 0 .ro .struc]] -- PKT_FDB_ST_W0

/-- PKT registers (09_packet_engine.md, Table 09.9-09.10), part 2. -/
def regsPktB : List RegD := [
  rd 0x20004 [(2048, 0x10)] [fd 31 31 .ro .struc, fd 27 16 .ro .struc, fd 15 0 .ro .struc], -- PKT_FDB_ST_W1
  rd 0x20008 [(2048, 0x10)] [fd 20 20 .ro .struc, fd 18 16 .ro .struc, fd 9 0 .ro .struc], -- PKT_FDB_ST_W2
  rd 0x30000 [(6, 0x400), (256, 4)] [fd 20 8 .ro .struc, fd 7 0 .ro .struc], -- PKT_GCL
  rd 0x32000 [(6, 0x10)] [fd 20 16 .ro .struc, fd 8 0 .ro .struc], -- PKT_GCFG_LEN
  rd 0x32004 [(6, 0x10)] [fd 7 0 .ro .live], -- PKT_GCFG_CUR
  rd 0x40000 [(1024, 0x20)] [fd 31 0 .ro .struc], -- PKT_SF_MAC_LO
  rd 0x40004 [(1024, 0x20)] [fd 31 31 .ro .struc, fd 28 28 .ro .struc, fd 27 16 .ro .struc, fd 15 0 .ro .struc], -- PKT_SF_MATCH
  rd 0x40008 [(1024, 0x20)] [fd 23 16 .ro .struc, fd 9 0 .ro .struc], -- PKT_SF_PORTS
  rd 0x4000C [(1024, 0x20)] [fd 27 27 .ro .struc, fd 26 24 .ro .struc, fd 17 17 .w1c .live, fd 16 16 .ro .struc, fd 15 0 .ro .struc], -- PKT_SF_CTL
  rd 0x40010 [(1024, 0x20)] [fd 31 0 .rw .tick], -- PKT_SF_CIR
  rd 0x40014 [(1024, 0x20)] [fd 31 0 .rw .tick], -- PKT_SF_CBS
  rd 0x40018 [(1024, 0x20)] [fd 25 16 .ro .struc 0x3FF, fd 9 0 .ro .struc 0x3FF], -- PKT_SF_FRER
  rd 0x4001C [(1024, 0x20)] [fd 31 0 .ro .live], -- PKT_SF_DROPPED
  rd 0x50000 [(512, 0x20)] [fd 31 16 .ro .struc, fd 14 8 .ro .struc, fd 1 1 .ro .struc, fd 0 0 .ro .struc], -- PKT_FRER_REC_CFG
  rd 0x50004 [(512, 0x20)] [fd 31 0 .ro .live], -- PKT_FRER_REC_PASSED
  rd 0x50008 [(512, 0x20)] [fd 31 0 .ro .live], -- PKT_FRER_REC_DISCARDED
  rd 0x5000C [(512, 0x20)] [fd 31 0 .ro .live], -- PKT_FRER_REC_OOO
  rd 0x50010 [(512, 0x20)] [fd 31 0 .ro .live], -- PKT_FRER_REC_RESETS
  rd 0x54000 [(512, 0x10)] [fd 0 0 .ro .struc], -- PKT_FRER_GEN_CFG
  rd 0x54004 [(512, 0x10)] [fd 15 0 .ro .live], -- PKT_FRER_GEN_SEQ
  rd 0x60000 [(2, 0x40)] [fd 31 16 .ro .struc 0x190, fd 2 2 .ro .struc, fd 1 0 .ro .struc], -- PKT_RED_RCFG
  rd 0x60004 [(2, 0x40)] [fd 1 1 .ro .live, fd 0 0 .ro .live], -- PKT_RED_RSTATUS
  rd 0x60008 [(2, 0x40)] [fd 31 0 .ro .live], -- PKT_RED_DUP_DISC
  rd 0x6000C [(2, 0x40)] [fd 31 0 .ro .live]] -- PKT_RED_WRONG_LAN

/-- PKT registers (09_packet_engine.md, Table 09.9-09.10), part 3. -/
def regsPktC : List RegD := [
  rd 0x60010 [(2, 0x40)] [fd 31 0 .ro .live], -- PKT_RED_ERR_A
  rd 0x60014 [(2, 0x40)] [fd 31 0 .ro .live]] -- PKT_RED_ERR_B

/-- PKT registers. -/
def regsPkt : List RegD := regsPktA ++ regsPktB ++ regsPktC

/-- SLO registers (09_packet_engine.md, Table 09.11-09.12). -/
def regsSlo : List RegD := [
  rd 0 [] [fd 17 0 .ro .live 0x20000], -- SLO_STATUS
  rd 4 [] [fd 17 0 .ro .struc], -- SLO_PROT_RSV
  rd 8 [] [fd 17 0 .ro .live], -- SLO_PROT_USED
  rd 0xC [] [fd 17 0 .ro .live], -- SLO_RETIRED
  rd 0x10 [] [fd 31 0 .ro .live], -- SLO_CORR
  rd 0x14 [] [fd 15 0 .rw .tick], -- SLO_HOLD_AGE
  rd 0x18 [] [fd 31 0 .ro .live], -- SLO_HOLD_RECLAIMED
  rd 0x100 [(139, 0x10)] [fd 17 0 .rw .tick], -- SLO_ACCT_GUAR
  rd 0x104 [(139, 0x10)] [fd 17 0 .rw .tick], -- SLO_ACCT_MAX
  rd 0x108 [(139, 0x10)] [fd 17 0 .ro .live], -- SLO_ACCT_USED
  rd 0x10C [(139, 0x10)] [fd 31 0 .ro .live], -- SLO_ACCT_DROP
  rd 0x1000 [(128, 0x10)] [fd 17 0 .ro .live], -- SLO_TEN_HELD
  rd 0x1004 [(128, 0x10)] [fd 31 0 .ro .live], -- SLO_TEN_REL_OK
  rd 0x1008 [(128, 0x10)] [fd 31 0 .ro .live], -- SLO_TEN_REL_REJ
  rd 0x100C [(128, 0x10)] [fd 31 0 .ro .live]] -- SLO_TEN_AGED

/-- TUN registers (10_tunnels_keys_records.md, Table 10.10, 10.13). -/
def regsTun : List RegD := [
  rd 0 [] [fd 16 16 .rw .live, fd 15 0 .rw .quiet 0x12B5], -- TUN_CTRL
  rd 0x10 [] [fd 31 0 .ro .live], -- TUN_NO_EP
  rd 0x14 [] [fd 31 0 .ro .live], -- TUN_OVERSIZE
  rd 0x18 [] [fd 31 0 .ro .live], -- TUN_BAD_HDR
  rd 0x1C [] [fd 31 0 .ro .live], -- TUN_WRONG_SRC
  rd 0x20 [] [fd 31 0 .ro .live], -- TUN_BAD_CFG
  rd 0x100 [(16, 0x20), (4, 4)] [fd 31 0 .rw .tick], -- TUN_LOCAL_ADDR
  rd 0x110 [(16, 0x20)] [fd 1 1 .rw .tick, fd 0 0 .rw .tick], -- TUN_LOCAL_LCFG
  rd 0x400 [(256, 0x10)] [fd 31 0 .rw .tick], -- TUN_NH_MAC_LO
  rd 0x404 [(256, 0x10)] [fd 27 16 .rw .tick, fd 15 0 .rw .tick], -- TUN_NH_VID_MAC
  rd 0x408 [(256, 0x10)] [fd 31 31 .rw .tick, fd 27 8 .rw .tick], -- TUN_NH_LSP
  rd 0x2000 [(128, 0x10)] [fd 12 0 .rw .tick], -- TUN_TEN_BASE
  rd 0x2004 [(128, 0x10)] [fd 13 0 .rw .tick], -- TUN_TEN_COUNT
  rd 0x2008 [(128, 0x10)] [fd 31 0 .ro .live], -- TUN_TEN_REFUSED
  rd 0x10000 [(4, 0x10000), (2048, 0x10)] [fd 31 31 .rw .tick, fd 30 28 .rw .tick, fd 27 27 .rw .tick, fd 26 26 .rw .tick, fd 25 25 .rw .tick, fd 24 17 .rw .tick, fd 16 13 .rw .tick], -- TUN_EP_CFG
  rd 0x10004 [(4, 0x10000), (2048, 0x10)] [fd 31 0 .rw .tick], -- TUN_EP_ID
  rd 0x10008 [(4, 0x10000), (2048, 0x10)] [fd 31 0 .rw .tick], -- TUN_EP_RADDR
  rd 0x1000C [(4, 0x10000), (2048, 0x10)] [fd 31 24 .rw .tick, fd 23 18 .rw .tick, fd 14 14 .rw .tick, fd 13 0 .rw .tick]] -- TUN_EP_OPT

/-- CRY registers (10_tunnels_keys_records.md, Table 10.11, 10.13), part 1. -/
def regsCryA : List RegD := [
  rd 4 [] [fd 14 0 .ro .live], -- CRY_STATUS
  rd 0x10 [(11, 4)] [fd 31 0 .wo .live] .single true, -- CRY_KEY_WR
  rd 0x40 [] [fd 29 28 .wo .live, fd 27 24 .wo .live, fd 13 0 .wo .live], -- CRY_KEY_CMD
  rd 0x44 [] [fd 31 8 .ro .live, fd 3 0 .ro .live] .single true, -- CRY_KEY_RESULT
  rd 0x50 [] [fd 13 0 .rw .live] .single true, -- CRY_SA_SEL
  rd 0x54 [] [fd 1 0 .wo .live], -- CRY_SA_CMD
  rd 0x60 [] [fd 31 0 .ro .live], -- CRY_NOKEY
  rd 0x64 [] [fd 31 0 .ro .live], -- CRY_ESP_NOSA
  rd 0x68 [] [fd 31 0 .ro .live], -- CRY_ESP_DROP
  rd 0x80 [] [fd 31 31 .rw .live, fd 30 30 .rw .live, fd 29 29 .rw .live, fd 28 28 .rw .live, fd 26 24 .rw .live, fd 13 0 .rw .live] .single true, -- CRY_SA_WIN_W0
  rd 0x84 [(5, 4)] [fd 31 0 .rw .live] .single true, -- CRY_SA_WIN_W1_5
  rd 0x98 [] [fd 31 0 .ro .live] .single true, -- CRY_SA_WIN_USED
  rd 0x9C [] [fd 31 0 .rw .live] .single true, -- CRY_SA_WIN_BIND
  rd 0xA0 [(4, 4)] [fd 31 0 .ro .live] .single true, -- CRY_SA_WIN_CNT
  rd 0xB0 [(4, 4)] [fd 31 0 .ro .live] .single true, -- CRY_SA_WIN_TAIL
  rd 0x100 [(128, 0x10)] [fd 31 0 .rw .tick], -- CRY_TEN_KEY_BASE
  rd 0x104 [(128, 0x10)] [fd 31 0 .rw .tick], -- CRY_TEN_KEY_CNT
  rd 0x108 [(128, 0x10)] [fd 31 0 .rw .tick], -- CRY_TEN_SA_BASE
  rd 0x10C [(128, 0x10)] [fd 31 0 .rw .tick], -- CRY_TEN_SA_CNT
  rd 0x1000 [(6, 0x100)] [fd 31 31 .rw .quiet, fd 30 29 .rw .quiet, fd 28 28 .rw .quiet, fd 27 26 .rw .tick, fd 25 24 .rw .tick, fd 23 22 .rw .tick], -- CRY_MS_PCFG
  rd 0x1008 [(6, 0x100)] [fd 31 0 .rw .tick], -- CRY_MS_SCI_LO
  rd 0x100C [(6, 0x100)] [fd 31 0 .rw .tick], -- CRY_MS_SCI_HI
  rd 0x1010 [(6, 0x100)] [fd 1 0 .rw .tick], -- CRY_MS_TX_AN
  rd 0x1020 [(6, 0x100), (4, 0x10)] [fd 31 31 .rw .tick, fd 13 0 .rw .tick]] -- CRY_MS_TX_SA_KEY

/-- CRY registers (10_tunnels_keys_records.md, Table 10.11, 10.13), part 2. -/
def regsCryB : List RegD := [
  rd 0x1024 [(6, 0x100), (4, 0x10)] [fd 31 0 .rw .live], -- CRY_MS_TX_SA_PN_LO
  rd 0x1028 [(6, 0x100), (4, 0x10)] [fd 31 0 .rw .live], -- CRY_MS_TX_SA_PN_HI
  rd 0x102C [(6, 0x100), (4, 0x10)] [fd 31 0 .rw .tick], -- CRY_MS_TX_SA_SSCI
  rd 0x1060 [(6, 0x100), (8, 4)] [fd 31 0 .ro .live], -- CRY_MS_CNT
  rd 0x2000 [(96, 0x80)] [fd 31 0 .rw .tick], -- CRY_MS_RX_SCI_LO
  rd 0x2004 [(96, 0x80)] [fd 31 0 .rw .tick], -- CRY_MS_RX_SCI_HI
  rd 0x2008 [(96, 0x80)] [fd 31 0 .rw .tick], -- CRY_MS_RX_RCFG
  rd 0x200C [(96, 0x80)] [fd 31 0 .rw .tick], -- CRY_MS_RX_WINDOW
  rd 0x2010 [(96, 0x80), (4, 0x10)] [fd 31 31 .rw .tick, fd 13 0 .rw .tick], -- CRY_MS_RX_SA_KEY
  rd 0x2014 [(96, 0x80), (4, 0x10)] [fd 31 0 .rw .live], -- CRY_MS_RX_SA_PN_LO
  rd 0x2018 [(96, 0x80), (4, 0x10)] [fd 31 0 .rw .live], -- CRY_MS_RX_SA_PN_HI
  rd 0x201C [(96, 0x80), (4, 0x10)] [fd 31 0 .rw .tick], -- CRY_MS_RX_SA_SSCI
  rd 0x5000 [(192, 0x10)] [fd 31 31 .rw .tick, fd 30 30 .rw .tick, fd 2 0 .rw .tick], -- CRY_AUTH_TX_CFG
  rd 0x5004 [(192, 0x10)] [fd 29 16 .rw .tick, fd 13 0 .rw .tick], -- CRY_AUTH_TX_KEYS
  rd 0x5008 [(192, 0x10)] [fd 31 0 .rw .tick], -- CRY_AUTH_TX_KEY_ID0
  rd 0x500C [(192, 0x10)] [fd 31 0 .rw .tick], -- CRY_AUTH_TX_KEY_ID1
  rd 0x6000 [(192, 0x20)] [fd 31 31 .rw .tick, fd 30 30 .rw .tick, fd 2 0 .rw .tick], -- CRY_AUTH_RX_CFG
  rd 0x6004 [(192, 0x20)] [fd 29 16 .rw .tick, fd 13 0 .rw .tick], -- CRY_AUTH_RX_KEYS
  rd 0x6008 [(192, 0x20)] [fd 31 0 .rw .tick], -- CRY_AUTH_RX_KEY_ID0
  rd 0x600C [(192, 0x20)] [fd 31 0 .rw .tick], -- CRY_AUTH_RX_KEY_ID1
  rd 0x6010 [(192, 0x20)] [fd 31 0 .rw .tick], -- CRY_AUTH_RX_MAC_LO
  rd 0x6014 [(192, 0x20)] [fd 31 0 .rw .tick], -- CRY_AUTH_RX_APPID_MAC
  rd 0x6018 [(192, 0x20)] [fd 31 0 .ro .live], -- CRY_AUTH_RX_OK
  rd 0x601C [(192, 0x20)] [fd 31 0 .ro .live]] -- CRY_AUTH_RX_FAIL

/-- CRY registers (10_tunnels_keys_records.md, Table 10.11, 10.13), part 3. -/
def regsCryC : List RegD := [
  rd 0x10000 [(2, 0x10000), (8192, 4)] [fd 31 31 .ro .live, fd 29 28 .ro .live, fd 25 16 .ro .live]] -- CRY_KEY_META

/-- CRY registers. -/
def regsCry : List RegD := regsCryA ++ regsCryB ++ regsCryC

/-- REC registers (10_tunnels_keys_records.md, Table 10.12, 10.13). -/
def regsRec : List RegD := [
  rd 0 [] [fd 31 24 .rw .tick 5, fd 23 16 .rw .tick 3, fd 15 8 .rw .tick 0xA, fd 7 0 .rw .tick 5], -- REC_CFG
  rd 4 [] [fd 2 0 .ro .live], -- REC_STATUS
  rd 0x10 [(4, 4)] [fd 31 0 .rw .live], -- REC_HOSTID
  rd 0x400 [(64, 4)] [fd 31 0 .rw .live], -- REC_HOST_NQN
  rd 0x1000 [(16, 0x200), (4, 4)] [fd 31 0 .rw .quiet], -- REC_NS_RADDR
  rd 0x1010 [(16, 0x200)] [fd 31 31 .rw .quiet, fd 30 30 .rw .quiet, fd 29 29 .rw .quiet, fd 28 28 .rw .quiet, fd 27 27 .rw .quiet, fd 26 23 .rw .quiet, fd 22 15 .rw .quiet, fd 14 11 .rw .quiet, fd 10 10 .rw .quiet], -- REC_NS_NCFG
  rd 0x1014 [(16, 0x200)] [fd 31 0 .rw .quiet], -- REC_NS_PORT
  rd 0x1018 [(16, 0x200)] [fd 31 0 .rw .quiet], -- REC_NS_NSID
  rd 0x101C [(16, 0x200)] [fd 31 0 .rw .quiet], -- REC_NS_SA
  rd 0x1020 [(16, 0x200)] [fd 31 0 .rw .quiet] .low, -- REC_NS_START_LBA_LO
  rd 0x1024 [(16, 0x200)] [fd 31 0 .rw .quiet] .high, -- REC_NS_START_LBA_HI
  rd 0x1028 [(16, 0x200)] [fd 31 0 .rw .quiet] .low, -- REC_NS_LBA_COUNT_LO
  rd 0x102C [(16, 0x200)] [fd 31 0 .rw .quiet] .high, -- REC_NS_LBA_COUNT_HI
  rd 0x1030 [(16, 0x200)] [fd 7 4 .ro .live, fd 2 0 .ro .live], -- REC_NS_NSTATE
  rd 0x1034 [(16, 0x200)] [fd 31 0 .ro .live] .low, -- REC_NS_NEXT_LO
  rd 0x1038 [(16, 0x200)] [fd 31 0 .ro .live] .high, -- REC_NS_NEXT_HI
  rd 0x103C [(16, 0x200)] [fd 31 0 .ro .live] .low, -- REC_NS_LAST_SEQ_LO
  rd 0x1040 [(16, 0x200)] [fd 31 0 .ro .live] .high, -- REC_NS_LAST_SEQ_HI
  rd 0x1044 [(16, 0x200)] [fd 31 0 .ro .live], -- REC_NS_RECORDS
  rd 0x1048 [(16, 0x200)] [fd 31 0 .ro .live], -- REC_NS_FAILS
  rd 0x104C [(16, 0x200)] [fd 31 0 .ro .live], -- REC_NS_UNPROT
  rd 0x1100 [(16, 0x200), (64, 4)] [fd 31 0 .rw .quiet]] -- REC_NS_SUBNQN

/-- HIF registers (11_host_and_tenants.md, Table 11.13a, 11.13b). -/
def regsHif : List RegD := [
  rd 0 [] [fd 6 0 .rw .live 0x64], -- HIF_CTRL
  rd 4 [] [fd 15 8 .ro .live, fd 7 7 .ro .live, fd 6 4 .ro .live, fd 3 2 .ro .live, fd 1 1 .ro .live], -- HIF_STATUS
  rd 8 [] [fd 31 0 .ro .live 0x400], -- HIF_QP_FREE
  rd 0xC [] [fd 31 0 .ro .live], -- HIF_NO_INST
  rd 0x10 [] [fd 31 0 .ro .live], -- HIF_STALL_DROP
  rd 0x14 [] [fd 31 0 .ro .live], -- HIF_DMA_ERR
  rd 0x10000 [(128, 0x40)] [fd 3 3 .rw .tick 0 (some 18), fd 2 2 .rw .tick 0 (some 18), fd 0 0 .rw .live], -- HIF_TEN_CTRL
  rd 0x10004 [(128, 0x40)] [fd 2 2 .ro .live, fd 1 1 .ro .live, fd 0 0 .ro .live], -- HIF_TEN_STATUS
  rd 0x10008 [(128, 0x40)] [fd 22 16 .ro .live, fd 6 0 .rw .tick 0 (some 18)], -- HIF_TEN_QP
  rd 0x1000C [(128, 0x40)] [fd 22 16 .ro .live, fd 6 0 .rw .tick 0 (some 18)], -- HIF_TEN_VEC
  rd 0x10010 [(128, 0x40)] [fd 7 0 .rw .tick 1 (some 18)], -- HIF_TEN_EGR
  rd 0x10014 [(128, 0x40)] [fd 6 0 .rw .tick 0 (some 18)], -- HIF_TEN_MBX
  rd 0x10018 [(128, 0x40)] [fd 31 0 .rw .tick 0 (some 18)], -- HIF_TEN_MAC_LO
  rd 0x1001C [(128, 0x40)] [fd 27 16 .rw .tick 0 (some 18), fd 15 0 .rw .tick 0 (some 18)], -- HIF_TEN_MAC_HI
  rd 0x10020 [(128, 0x40), (8, 4)] [fd 31 0 .rw .tick 0 (some 18)], -- HIF_TEN_RIGHTS
  rd 0x20000 [(128, 0x20)] [fd 31 0 .rw .live] .low, -- HIF_DLOG_BASE_LO
  rd 0x20004 [(128, 0x20)] [fd 31 0 .rw .live] .high, -- HIF_DLOG_BASE_HI
  rd 0x20008 [(128, 0x20)] [fd 31 31 .rw .live, fd 30 30 .ro .live, fd 4 0 .rw .quiet], -- HIF_DLOG_DCFG
  rd 0x2000C [(128, 0x20)] [fd 15 0 .rw .live], -- HIF_DLOG_DHEAD
  rd 0x20010 [(128, 0x20)] [fd 15 0 .ro .live], -- HIF_DLOG_DTAIL
  rd 0x30000 [(1024, 4)] [fd 31 31 .ro .live, fd 22 16 .ro .live, fd 5 0 .ro .live]] -- HIF_QP_MAP

/-- SAF registers (12_safety_concept.md, Table 12.12-12.13). -/
def regsSaf : List RegD := [
  rd 0 [] [fd 0 0 .rw .quiet], -- SAF_CTRL
  rd 4 [] [fd 13 12 .ro .live, fd 11 10 .ro .live, fd 9 9 .ro .live, fd 8 8 .ro .live, fd 7 7 .ro .live, fd 6 6 .ro .live, fd 4 4 .ro .live, fd 2 0 .ro .live 4], -- SAF_STATUS
  rd 8 [] [fd 31 16 .wo .live, fd 3 0 .wo .live], -- SAF_CMD
  rd 0xC [] [fd 15 8 .ro .struc 0x64, fd 1 0 .ro .struc], -- SAF_CFG
  rd 0x10 [] [fd 31 0 .wo .live], -- SAF_HB
  rd 0x14 [] [fd 15 0 .ro .struc 0x64], -- SAF_HB_CFG
  rd 0x18 [] [fd 31 16 .ro .live, fd 7 0 .ro .live], -- SAF_FIRST_CAUSE
  rd 0x20 [] [fd 5 0 .ro .live], -- SAF_MIN_SET
  rd 0x24 [] [fd 6 0 .ro .live], -- SAF_PATHS
  rd 0x28 [] [fd 10 0 .ro .struc], -- SAF_VOTE_EXP
  rd 0x2C [] [fd 31 0 .ro .struc], -- SAF_VOTE_REF
  rd 0x30 [] [fd 31 0 .ro .live], -- SAF_SENT_MISMATCH
  rd 0x34 [] [fd 31 0 .ro .live], -- SAF_GLEAN_PASS
  rd 0x38 [] [fd 31 0 .ro .live], -- SAF_GLEAN_LAST
  rd 0x40 [] [fd 31 16 .wo .live, fd 15 4 .wo .live, fd 3 0 .wo .live], -- SAF_INJECT
  rd 0x100 [(64, 4)] [fd 31 0 .ro .live], -- SAF_SENT_REF
  rd 0x200 [(8, 8)] [fd 31 31 .ro .struc, fd 30 30 .ro .struc, fd 13 0 .ro .struc], -- SAF_ALM_CFG
  rd 0x204 [(8, 8)] [fd 31 0 .ro .struc], -- SAF_ALM_LIMIT
  rd 0x300 [(32, 4)] [fd 31 31 .ro .live, fd 15 0 .ro .live]] -- SAF_RAIL

/-- RST registers (14_reset_power_thermal.md, Table 14.10-14.11). -/
def regsRst : List RegD := [
  rd 0 [] [fd 11 0 .rw .live 0x100], -- RST_CTRL
  rd 4 [] [fd 31 16 .wo .live, fd 1 0 .wo .live], -- RST_CMD
  rd 8 [] [fd 24 24 .rw .live, fd 23 2 .rw .live], -- RST_MASK
  rd 0xC [] [fd 10 10 .ro .live, fd 9 9 .ro .live, fd 8 8 .ro .live, fd 7 0 .ro .live 1], -- RST_CAUSE
  rd 0x10 [] [fd 19 16 .ro .live, fd 11 8 .ro .live, fd 1 1 .ro .live, fd 0 0 .ro .live], -- RST_STATUS
  rd 0x14 [] [fd 1 0 .ro .struc], -- RST_BOOT
  rd 0x18 [] [fd 31 0 .ro .live], -- RST_DELAY_CNT
  rd 0x1C [] [fd 31 0 .ro .live], -- RST_DRAIN_LOST
  rd 0x100 [(16, 8)] [fd 25 16 .ro .live, fd 7 0 .ro .live], -- RST_HIST_W0
  rd 0x104 [(16, 8)] [fd 31 0 .ro .live], -- RST_HIST_W1
  rd 0x204 [(14, 4)] [fd 31 0 .ro .live]] -- RST_COUNT

/-- PWR registers (14_reset_power_thermal.md, Table 14.12-14.13). -/
def regsPwr : List RegD := [
  rd 0 [] [fd 23 0 .ro .live 3], -- PWR_STATUS
  rd 4 [] [fd 23 0 .ro .live 0xFFFFFC], -- PWR_RESET
  rd 8 [] [fd 31 16 .wo .live, fd 9 8 .wo .live, fd 4 0 .wo .live], -- PWR_CMD
  rd 0xC [] [fd 23 0 .ro .live], -- PWR_OFF_OK
  rd 0x10 [] [fd 23 0 .ro .struc], -- PWR_USED
  rd 0x14 [] [fd 31 16 .ro .live, fd 0 0 .ro .live], -- PWR_PFAIL
  rd 0x18 [] [fd 23 0 .w1c .live]] -- PWR_FAILED

/-- THM registers (14_reset_power_thermal.md, Table 14.14-14.15). -/
def regsThm : List RegD := [
  rd 0 [] [fd 13 8 .ro .live, fd 7 7 .ro .live, fd 6 6 .ro .live, fd 5 5 .ro .live, fd 4 4 .ro .live, fd 3 3 .ro .live, fd 2 2 .ro .live, fd 1 0 .ro .live], -- THM_STATUS
  rd 4 [] [fd 20 16 .ro .live, fd 15 0 .ro .live], -- THM_TJ
  rd 8 [] [fd 15 8 .rw .tickSafe 0x70, fd 7 0 .rw .tickSafe 0x69], -- THM_LIM
  rd 0xC [] [fd 27 24 .rw .tick 5, fd 19 16 .rw .tick 2, fd 11 8 .rw .tick 3, fd 7 0 .rw .tickSafe 0x10], -- THM_CFG
  rd 0x10 [] [fd 31 0 .ro .live], -- THM_EXCL
  rd 0x14 [] [fd 15 0 .w1c .live], -- THM_PEAK
  rd 0x100 [(32, 4)] [fd 31 31 .ro .live, fd 15 0 .ro .live]] -- THM_SENS

/-- GRN registers (15_granary_settings_firmware.md, Table 15.14-15.15). -/
def regsGrn : List RegD := [
  rd 0 [] [fd 8 8 .ro .live, fd 6 4 .ro .live, fd 3 3 .ro .live, fd 2 2 .ro .live, fd 1 1 .ro .live, fd 0 0 .ro .live 1], -- GRN_STATUS
  rd 4 [] [fd 31 16 .wo .live, fd 3 0 .wo .live], -- GRN_CMD
  rd 8 [] [fd 19 0 .rw .live], -- GRN_ADDR
  rd 0xC [] [fd 8 0 .rw .live], -- GRN_LEN
  rd 0x10 [] [fd 31 31 .ro .live, fd 3 0 .ro .live] .single true, -- GRN_RESULT
  rd 0x14 [] [fd 3 2 .rw .live, fd 1 0 .rw .live], -- GRN_PROT
  rd 0x18 [] [fd 19 12 .ro .live], -- GRN_SUSP_ADDR
  rd 0x20 [] [fd 31 0 .ro .live], -- GRN_WRAP_CNT
  rd 0x24 [] [fd 31 0 .ro .live], -- GRN_READ_ERR
  rd 0x28 [] [fd 31 16 .ro .live, fd 7 4 .ro .live, fd 3 0 .ro .live], -- GRN_SCAN_INFO
  rd 0x30 [] [fd 15 8 .ro .live, fd 6 4 .ro .live, fd 0 0 .ro .live], -- GRN_BOOT_STATUS
  rd 0x34 [] [fd 31 16 .wo .live, fd 15 8 .wo .live, fd 3 0 .wo .live], -- GRN_FW_CMD
  rd 0x38 [] [fd 3 0 .ro .live], -- GRN_FW_RESULT
  rd 0x3C [] [fd 7 0 .rw .live 0xA], -- GRN_FW_CFG
  rd 0x40 [] [fd 15 0 .ro .live], -- GRN_TRIAL_LEFT
  rd 0x44 [] [fd 6 0 .ro .struc], -- GRN_AR_COUNT
  rd 0x48 [(2, 4)] [fd 31 24 .ro .live, fd 18 16 .ro .live, fd 15 0 .ro .live], -- GRN_FW_SLOT
  rd 0x100 [(64, 4)] [fd 31 0 .rw .live] .single true] -- GRN_BUF

/-- CLM registers (16_enclosure_climate.md, Table 16.9-16.10), part 1. -/
def regsClmA : List RegD := [
  rd 0 [] [fd 0 0 .ro .struc], -- CLM_CTRL
  rd 4 [] [fd 4 4 .ro .live, fd 3 3 .ro .live, fd 1 0 .ro .live], -- CLM_STATUS
  rd 8 [] [fd 16 16 .rw .live, fd 15 0 .rw .live], -- CLM_TZ
  rd 0xC [] [fd 15 8 .rw .tick 0x32, fd 7 0 .rw .tick 0x1E], -- CLM_H2CFG
  rd 0x10 [] [fd 26 24 .ro .live, fd 13 8 .ro .live, fd 5 0 .ro .live], -- CLM_LOCAL
  rd 0x100 [(32, 0x20)] [fd 22 16 .ro .struc, fd 11 8 .ro .struc, fd 2 0 .ro .struc], -- CLM_SENS_CFG
  rd 0x104 [(32, 0x20), (3, 4)] [fd 31 0 .rw .tick], -- CLM_SENS_P
  rd 0x110 [(32, 0x20)] [fd 31 0 .ro .live], -- CLM_SENS_VALUE
  rd 0x114 [(32, 0x20)] [fd 15 8 .ro .live, fd 1 0 .ro .live], -- CLM_SENS_STATUS
  rd 0x800 [(16, 0x80)] [fd 31 0 .ro .struc], -- CLM_ZONE_T_MASK
  rd 0x804 [(16, 0x80)] [fd 31 0 .ro .struc], -- CLM_ZONE_RH_MASK
  rd 0x808 [(16, 0x80)] [fd 23 16 .ro .struc, fd 15 8 .ro .struc, fd 5 5 .ro .struc, fd 4 4 .ro .struc, fd 3 0 .ro .struc], -- CLM_ZONE_ZCFG
  rd 0x80C [(16, 0x80)] [fd 15 8 .ro .struc, fd 7 0 .ro .struc], -- CLM_ZONE_VENT
  rd 0x810 [(16, 0x80), (6, 4)] [fd 31 0 .rw .tick], -- CLM_ZONE_SP
  rd 0x828 [(16, 0x80)] [fd 31 0 .rw .tick], -- CLM_ZONE_RH_MAX
  rd 0x82C [(16, 0x80)] [fd 31 0 .rw .tick], -- CLM_ZONE_DP_MARGIN
  rd 0x830 [(16, 0x80)] [fd 31 31 .rw .live, fd 25 16 .ro .live, fd 1 0 .rw .live], -- CLM_ZONE_OVR_MODE
  rd 0x834 [(16, 0x80)] [fd 31 0 .ro .live], -- CLM_ZONE_TEMP
  rd 0x838 [(16, 0x80)] [fd 31 0 .ro .live], -- CLM_ZONE_RH
  rd 0x83C [(16, 0x80)] [fd 31 0 .ro .live], -- CLM_ZONE_DEWPT
  rd 0x840 [(16, 0x80)] [fd 3 3 .ro .live, fd 2 2 .ro .live, fd 1 0 .ro .live], -- CLM_ZONE_ZSTATUS
  rd 0x1000 [(32, 0x40)] [fd 31 31 .ro .struc, fd 30 30 .ro .struc, fd 28 24 .ro .struc, fd 23 20 .ro .struc, fd 19 16 .ro .struc, fd 13 8 .ro .struc, fd 3 0 .ro .struc], -- CLM_LOOP_CFG
  rd 0x1004 [(32, 0x40), (7, 4)] [fd 31 0 .rw .tick], -- CLM_LOOP_PARAM
  rd 0x1020 [(32, 0x40)] [fd 31 0 .ro .live]] -- CLM_LOOP_PV

/-- CLM registers (16_enclosure_climate.md, Table 16.9-16.10), part 2. -/
def regsClmB : List RegD := [
  rd 0x1024 [(32, 0x40)] [fd 31 0 .ro .live], -- CLM_LOOP_OUT
  rd 0x1028 [(32, 0x40)] [fd 1 0 .ro .live], -- CLM_LOOP_LSTATUS
  rd 0x102C [(32, 0x40)] [fd 31 0 .ro .live], -- CLM_LOOP_I
  rd 0x1800 [(8, 0x20)] [fd 31 31 .ro .struc, fd 29 28 .ro .struc, fd 27 24 .ro .struc, fd 21 16 .ro .struc], -- CLM_DMP_CFG
  rd 0x1804 [(8, 0x20)] [fd 31 24 .rw .tick, fd 23 16 .rw .tick, fd 15 0 .rw .tick], -- CLM_DMP_STROKE
  rd 0x1808 [(8, 0x20)] [fd 31 0 .rw .tick], -- CLM_DMP_FB_ZERO
  rd 0x180C [(8, 0x20)] [fd 31 0 .rw .tick], -- CLM_DMP_FB_SPAN
  rd 0x1810 [(8, 0x20)] [fd 31 0 .ro .live], -- CLM_DMP_POS
  rd 0x1814 [(8, 0x20)] [fd 8 8 .w1s .live, fd 1 0 .ro .live], -- CLM_DMP_DSTATUS
  rd 0x1818 [(8, 0x20)] [fd 31 31 .rw .live, fd 25 16 .ro .live, fd 6 0 .rw .live], -- CLM_DMP_OVR
  rd 0x1900 [(8, 0x20)] [fd 31 31 .ro .struc, fd 29 29 .ro .struc, fd 21 16 .ro .struc], -- CLM_VLV_CFG
  rd 0x1904 [(8, 0x20)] [fd 15 0 .rw .tick], -- CLM_VLV_TIME
  rd 0x1908 [(8, 0x20)] [fd 31 0 .ro .live], -- CLM_VLV_POS
  rd 0x190C [(8, 0x20)] [fd 31 31 .rw .live, fd 25 16 .ro .live, fd 6 0 .rw .live], -- CLM_VLV_OVR
  rd 0x1A00 [(8, 0x20)] [fd 31 31 .ro .struc, fd 21 16 .ro .struc], -- CLM_HTR_CFG
  rd 0x1A04 [(8, 0x20)] [fd 31 24 .rw .tick, fd 23 16 .rw .tick, fd 15 8 .rw .tick, fd 7 0 .rw .tick], -- CLM_HTR_SWITCH
  rd 0x1A08 [(8, 0x20)] [fd 1 1 .ro .live, fd 0 0 .ro .live], -- CLM_HTR_HSTATE
  rd 0x1A0C [(8, 0x20)] [fd 31 31 .rw .live, fd 25 16 .ro .live, fd 6 0 .rw .live], -- CLM_HTR_OVR
  rd 0x1B00 [(8, 0x10)] [fd 31 31 .ro .struc, fd 30 30 .ro .struc, fd 27 24 .ro .struc, fd 21 16 .ro .struc], -- CLM_MOV_CFG
  rd 0x1B04 [(8, 0x10)] [fd 15 8 .rw .tick, fd 7 0 .rw .tick], -- CLM_MOV_RANGE
  rd 0x1B08 [(8, 0x10)] [fd 8 8 .ro .live, fd 6 0 .ro .live], -- CLM_MOV_MSTATUS
  rd 0x1B0C [(8, 0x10)] [fd 31 31 .rw .live, fd 25 16 .ro .live, fd 6 0 .rw .live], -- CLM_MOV_OVR
  rd 0x1C00 [(48, 4)] [fd 20 20 .rw .live, fd 16 16 .ro .live, fd 12 12 .ro .struc, fd 10 8 .ro .struc, fd 4 0 .ro .struc], -- CLM_CIO
  rd 0x1D00 [] [fd 1 1 .rw .live, fd 0 0 .rw .live]] -- CLM_MSTP_CTRL

/-- CLM registers (16_enclosure_climate.md, Table 16.9-16.10), part 3. -/
def regsClmC : List RegD := [
  rd 0x1D04 [] [fd 22 20 .rw .quiet 2, fd 19 16 .rw .quiet 1, fd 14 8 .rw .quiet 0x7F, fd 6 0 .rw .quiet 1], -- CLM_MSTP_CFG
  rd 0x1D08 [] [fd 11 8 .ro .live, fd 7 4 .ro .live, fd 1 0 .ro .live], -- CLM_MSTP_STATUS
  rd 0x1D0C [] [fd 31 0 .wo .live], -- CLM_MSTP_HB
  rd 0x1D10 [] [fd 31 0 .ro .live], -- CLM_MSTP_RX_DROP
  rd 0x1D14 [] [fd 31 0 .ro .live], -- CLM_MSTP_ABSENT_DROP
  rd 0x1D18 [] [fd 31 0 .ro .live], -- CLM_MSTP_BAD_FRAME
  rd 0x1D1C [] [fd 31 0 .ro .live], -- CLM_MSTP_DUP_MAC
  rd 0x1D20 [] [fd 0 0 .wo .live], -- CLM_MSTP_RX_POP
  rd 0x1D24 [] [fd 0 0 .wo .live], -- CLM_MSTP_TX_PUSH
  rd 0x2000 [(8, 0x200), (8, 0x20), (8, 4)] [fd 31 31 .rw .tick, fd 28 24 .rw .tick, fd 21 16 .rw .tick, fd 1 0 .rw .tick], -- CLM_SCHED
  rd 0x2100 [(8, 0x200)] [fd 1 0 .rw .tick], -- CLM_SCHED_SCFG
  rd 0x3000 [(32, 8)] [fd 31 31 .rw .tick, fd 30 24 .rw .tick, fd 19 16 .rw .tick, fd 12 8 .rw .tick, fd 2 0 .rw .tick], -- CLM_EXC_DATE
  rd 0x3004 [(32, 8)] [fd 7 0 .rw .tick], -- CLM_EXC_SCHED_MASK
  rd 0x4000 [(128, 4)] [fd 31 0 .ro .live], -- CLM_MSTP_RX
  rd 0x4400 [(128, 4)] [fd 31 0 .rw .live]] -- CLM_MSTP_TX

/-- CLM registers. -/
def regsClm : List RegD := regsClmA ++ regsClmB ++ regsClmC

/-- FAN registers (17_fans_and_motors.md, Table 17.7-17.8). -/
def regsFan : List RegD := [
  rd 0 [] [fd 3 0 .rw .tick], -- FAN_CTRL
  rd 4 [] [fd 15 0 .rw .live 0x1388], -- FAN_WDT
  rd 8 [] [fd 31 0 .wo .live], -- FAN_KICK
  rd 0xC [] [fd 31 31 .ro .live, fd 27 16 .ro .live, fd 11 0 .ro .live], -- FAN_STATUS
  rd 0x100 [(12, 0x20)] [fd 31 31 .ro .struc, fd 30 30 .ro .struc, fd 29 29 .ro .struc, fd 28 28 .ro .struc, fd 27 27 .ro .struc, fd 19 16 .ro .struc 0xF, fd 2 0 .ro .struc 2], -- FAN_CH_CFG
  rd 0x104 [(12, 0x20)] [fd 25 16 .ro .live, fd 6 0 .rw .live], -- FAN_CH_SET
  rd 0x108 [(12, 0x20)] [fd 15 8 .rw .tick 0x1E, fd 7 0 .rw .tick 0x14], -- FAN_CH_LIMITS
  rd 0x10C [(12, 0x20)] [fd 31 16 .rw .tick 0x12C, fd 15 8 .rw .tick 0x1E, fd 7 0 .rw .tick 0x32], -- FAN_CH_TACH_CFG
  rd 0x110 [(12, 0x20)] [fd 15 0 .ro .live], -- FAN_CH_RPM
  rd 0x114 [(12, 0x20)] [fd 10 8 .ro .live, fd 6 0 .ro .live], -- FAN_CH_DUTY
  rd 0x118 [(12, 0x20)] [fd 31 31 .w1s .live, fd 1 0 .ro .live], -- FAN_CH_CSTATUS
  rd 0x11C [(12, 0x20)] [fd 31 0 .ro .live]] -- FAN_CH_FAULTS

/-- MTR registers (17_fans_and_motors.md, Table 17.9-17.10). -/
def regsMtr : List RegD := [
  rd 0x100 [(4, 0x100)] [fd 31 31 .ro .struc, fd 30 30 .ro .struc, fd 29 29 .ro .struc, fd 28 28 .ro .struc, fd 27 27 .ro .struc, fd 19 16 .ro .struc, fd 1 1 .ro .struc, fd 0 0 .ro .struc], -- MTR_CH_CFG
  rd 0x104 [(4, 0x100)] [fd 31 24 .rw .quiet 0x28, fd 23 16 .rw .quiet 0x28, fd 15 0 .rw .quiet 0x1388], -- MTR_CH_PWM
  rd 0x108 [(4, 0x100)] [fd 31 16 .rw .tick, fd 15 0 .rw .tick], -- MTR_CH_SPEED
  rd 0x10C [(4, 0x100)] [fd 25 16 .ro .live, fd 15 0 .rw .live], -- MTR_CH_SET
  rd 0x110 [(4, 0x100)] [fd 31 28 .rw .tick 3, fd 27 16 .rw .tick 0x7D0, fd 15 8 .rw .tick 0x14, fd 7 0 .rw .tick], -- MTR_CH_START
  rd 0x114 [(4, 0x100)] [fd 31 16 .rw .tick 0x5DC, fd 15 0 .rw .tick 0x258], -- MTR_CH_RAMP
  rd 0x118 [(4, 0x100)] [fd 31 24 .rw .tick 0x1E, fd 23 16 .rw .tick 0xA, fd 15 8 .rw .tick 0x32, fd 7 0 .rw .tick], -- MTR_CH_HANDOVER
  rd 0x11C [(4, 0x100)] [fd 31 24 .rw .tick 0x14, fd 23 16 .rw .tick 5, fd 15 8 .rw .tick 0x10, fd 7 0 .rw .tick], -- MTR_CH_FAULT_CFG
  rd 0x120 [(4, 0x100), (10, 4)] [fd 31 0 .rw .tick], -- MTR_CH_FP
  rd 0x148 [(4, 0x100)] [fd 27 16 .rw .tick 0x7D0, fd 15 0 .rw .tick 0x1F4], -- MTR_CH_OC
  rd 0x180 [(4, 0x100)] [fd 31 31 .w1s .live, fd 15 8 .ro .live, fd 7 4 .ro .live, fd 2 0 .ro .live], -- MTR_ST_MSTATE
  rd 0x184 [(4, 0x100)] [fd 15 0 .ro .live], -- MTR_ST_SPEED_RPM
  rd 0x188 [(4, 0x100)] [fd 31 0 .ro .live], -- MTR_ST_AMP
  rd 0x18C [(4, 0x100)] [fd 31 0 .ro .live], -- MTR_ST_I_MAG
  rd 0x190 [(4, 0x100)] [fd 31 0 .ro .live], -- MTR_ST_KE
  rd 0x194 [(4, 0x100)] [fd 31 0 .ro .live], -- MTR_ST_VBUS
  rd 0x198 [(4, 0x100)] [fd 31 0 .ro .live], -- MTR_ST_AUX
  rd 0x19C [(4, 0x100)] [fd 31 0 .ro .live], -- MTR_ST_OC_CYCLES
  rd 0x1A0 [(4, 0x100)] [fd 31 0 .ro .live], -- MTR_ST_STARTS
  rd 0x1A4 [(4, 0x100)] [fd 31 0 .ro .live], -- MTR_ST_FAILED_STARTS
  rd 0x1A8 [(4, 0x100)] [fd 31 0 .ro .live], -- MTR_ST_ADC_LATE
  rd 0x1000 [(512, 4)] [fd 31 16 .ro .struc, fd 15 0 .ro .struc]] -- MTR_WAVE

/-- PNL registers (18_panel_and_serial.md, Table 18.5-18.6). -/
def regsPnl : List RegD := [
  rd 0 [] [fd 3 3 .rw .quiet, fd 2 2 .wo .live, fd 1 1 .wo .live, fd 0 0 .rw .live], -- PNL_CTRL
  rd 4 [] [fd 16 16 .ro .live, fd 15 8 .ro .live, fd 7 4 .ro .live, fd 1 1 .ro .live 0 (some 0), fd 0 0 .ro .live], -- PNL_STATUS
  rd 8 [] [fd 31 24 .rw .live 0x14, fd 23 16 .rw .live 0x1E, fd 15 8 .rw .live 0xA, fd 4 0 .rw .live 0xA], -- PNL_CFG
  rd 0xC [] [fd 31 0 .rc .live], -- PNL_EVT
  rd 0x10 [] [fd 7 7 .rw .live, fd 5 0 .rw .live], -- PNL_IRQ
  rd 0x20 [(3, 4)] [fd 31 0 .ro .live], -- PNL_PRESSED
  rd 0x30 [(3, 4)] [fd 31 0 .ro .live], -- PNL_MASKED
  rd 0x40 [(2, 0x40)] [fd 31 31 .rw .quiet, fd 3 0 .rw .quiet], -- PNL_LADDER_CFG
  rd 0x44 [(2, 0x40), (8, 4)] [fd 11 0 .rw .quiet], -- PNL_LADDER_THR
  rd 0x100 [(4, 0x10)] [fd 31 24 .rw .quiet, fd 23 16 .rw .quiet, fd 15 8 .rw .quiet, fd 7 0 .rw .quiet], -- PNL_COMBO_KEYS
  rd 0x104 [(4, 0x10)] [fd 31 31 .rw .quiet, fd 29 28 .rw .quiet, fd 27 27 .rw .quiet, fd 7 0 .rw .quiet], -- PNL_COMBO_CCFG
  rd 0x200 [] [fd 3 0 .rw .quiet], -- PNL_UNLOCK_LEN
  rd 0x204 [(2, 4)] [fd 31 0 .rw .quiet], -- PNL_UNLOCK_CODES
  rd 0x300 [(4, 0x10)] [fd 31 31 .rw .quiet, fd 30 30 .rw .quiet, fd 29 29 .rw .quiet, fd 28 28 .rw .quiet, fd 27 27 .rw .quiet, fd 3 0 .rw .quiet], -- PNL_QEP_QCFG
  rd 0x304 [(4, 0x10)] [fd 31 0 .rw .live], -- PNL_QEP_COUNT
  rd 0x308 [(4, 0x10)] [fd 31 0 .ro .live], -- PNL_QEP_IDX_LATCH
  rd 0x30C [(4, 0x10)] [fd 31 31 .w1c .live, fd 30 0 .ro .live], -- PNL_QEP_ERR
  rd 0x400 [(16, 4)] [fd 31 31 .rw .live, fd 15 8 .rw .live, fd 3 2 .rw .live, fd 1 0 .rw .live]] -- PNL_LED

/-- SPM registers (18_panel_and_serial.md, Table 18.7-18.8). -/
def regsSpm : List RegD := [
  rd 0 [] [fd 31 24 .rw .quiet 0xE7, fd 20 16 .rw .quiet 0x14, fd 11 8 .rw .quiet 1, fd 0 0 .ro .live], -- SPM0_CFG
  rd 4 [] [fd 4 4 .ro .live, fd 2 2 .ro .live, fd 1 1 .ro .live, fd 0 0 .ro .live], -- SPM0_STATUS
  rd 8 [] [fd 31 16 .rw .live 0x12C, fd 15 0 .rw .live 0x1388], -- SPM0_TMO
  rd 0x10 [] [fd 31 16 .wo .live, fd 3 0 .wo .live], -- SPM0_CMD
  rd 0x14 [] [fd 27 0 .rw .live] .single true, -- SPM0_ADDR
  rd 0x18 [] [fd 8 0 .rw .live] .single true, -- SPM0_LEN
  rd 0x1C [] [fd 31 31 .ro .live, fd 30 30 .ro .live, fd 3 0 .ro .live] .single true, -- SPM0_RESULT
  rd 0x100 [(64, 4)] [fd 31 0 .rw .live] .single true, -- SPM0_BUF
  rd 0x1000 [] [fd 1 1 .rw .quiet, fd 0 0 .rw .live], -- SPM1_CTRL
  rd 0x1004 [] [fd 31 31 .w1s .live, fd 27 24 .rw .live, fd 21 20 .rw .live, fd 18 16 .rw .live, fd 12 12 .rw .live, fd 8 0 .rw .live], -- SPM1_XFER
  rd 0x1008 [] [fd 31 0 .rw .live], -- SPM1_CMDW
  rd 0x100C [] [fd 31 0 .rw .live], -- SPM1_ADDRW
  rd 0x1010 [] [fd 31 31 .ro .live, fd 30 30 .ro .live, fd 3 0 .ro .live], -- SPM1_RESULT
  rd 0x1014 [] [fd 7 0 .rw .live 0x64], -- SPM1_RDY_TMO
  rd 0x1100 [(16, 4)] [fd 31 31 .rw .quiet, fd 30 30 .rw .quiet, fd 28 24 .rw .quiet, fd 22 20 .rw .quiet, fd 18 16 .rw .quiet, fd 14 12 .rw .quiet, fd 7 0 .rw .quiet], -- SPM1_TGT
  rd 0x1200 [(64, 4)] [fd 31 0 .rw .live]] -- SPM1_BUF

/-- SPS registers (18_panel_and_serial.md, Table 18.9). -/
def regsSps : List RegD := [
  rd 0 [] [fd 1 1 .rw .tickSafe 1, fd 0 0 .rw .tickSafe 1], -- SPS_CFG
  rd 4 [] [fd 0 0 .ro .live], -- SPS_STATUS
  rd 8 [] [fd 31 0 .ro .live], -- SPS_XACT
  rd 0xC [] [fd 31 0 .ro .live]] -- SPS_ERR

/-- UAR registers (18_panel_and_serial.md, Table 18.10). -/
def regsUar : List RegD := [
  rd 0 [(4, 0x100)] [fd 31 31 .rw .live, fd 25 25 .rw .quiet, fd 24 24 .rw .quiet, fd 20 20 .rw .quiet, fd 19 19 .rw .quiet, fd 18 18 .rw .quiet, fd 17 16 .rw .quiet, fd 12 12 .rw .quiet, fd 8 8 .rw .quiet], -- UAR_CFG
  rd 4 [(4, 0x100)] [fd 19 4 .rw .quiet 0x516, fd 3 0 .rw .quiet 1], -- UAR_DIV
  rd 8 [(4, 0x100)] [fd 15 8 .rw .quiet, fd 7 0 .rw .quiet], -- UAR_DE
  rd 0xC [(4, 0x100)] [fd 31 31 .rc .live, fd 12 12 .rc .live, fd 11 11 .rc .live, fd 10 10 .rc .live, fd 9 9 .rc .live, fd 8 8 .rc .live, fd 7 0 .rc .live], -- UAR_DATA
  rd 0x10 [(4, 0x100)] [fd 23 16 .ro .live, fd 15 8 .ro .live, fd 2 2 .w1c .live, fd 1 1 .ro .live, fd 0 0 .ro .live 1], -- UAR_STATUS
  rd 0x14 [(4, 0x100)] [fd 31 31 .rw .live, fd 29 24 .rw .live, fd 2 2 .rw .live, fd 1 1 .rw .live, fd 0 0 .rw .live], -- UAR_IRQ
  rd 0x18 [(4, 0x100)] [fd 31 0 .ro .live], -- UAR_FRAMING
  rd 0x1C [(4, 0x100)] [fd 31 0 .ro .live], -- UAR_PARITY
  rd 0x20 [(4, 0x100)] [fd 31 0 .ro .live], -- UAR_OVERRUN
  rd 0x24 [(4, 0x100)] [fd 31 0 .ro .live], -- UAR_BREAK
  rd 0x28 [(4, 0x100)] [fd 31 0 .ro .live]] -- UAR_NOISE

/-- IIC registers (18_panel_and_serial.md, Table 18.11). -/
def regsIic : List RegD := [
  rd 0 [(2, 0x100)] [fd 31 31 .rw .live, fd 15 8 .rw .quiet 0x19, fd 1 0 .rw .quiet], -- IIC_CFG
  rd 4 [(2, 0x100)] [fd 31 31 .w1s .live, fd 30 30 .rw .live, fd 27 27 .rw .live, fd 26 24 .rw .live, fd 22 16 .rw .live, fd 13 8 .rw .live, fd 5 0 .rw .live] .single true, -- IIC_XFER
  rd 8 [(2, 0x100)] [fd 31 31 .ro .live, fd 3 0 .ro .live] .single true, -- IIC_RESULT
  rd 0x10 [(2, 0x100), (8, 4)] [fd 31 0 .rw .live] .single true, -- IIC_WBUF
  rd 0x30 [(2, 0x100), (8, 4)] [fd 31 0 .ro .live] .single true, -- IIC_RBUF
  rd 0x50 [(2, 0x100)] [fd 31 0 .ro .live], -- IIC_FAIL
  rd 0x200 [] [fd 7 7 .rw .quiet, fd 6 0 .rw .quiet 0x70], -- IIC_MUX
  rd 0x300 [(6, 4)] [fd 31 31 .rw .tick, fd 2 2 .ro .live, fd 1 1 .ro .live, fd 0 0 .ro .live]] -- IIC_SFP

/-- MBX registers (13_mailboxes_black_box.md, Table 13.3, 13.8-13.9). -/
def regsMbx : List RegD := [
  rd 0 [(64, 0x100), (16, 4)] [fd 31 0 .rw .live], -- MBX_MSG
  rd 0x40 [(64, 0x100)] [fd 31 31 .rw .live, fd 9 0 .rw .live], -- MBX_LOCK
  rd 0x44 [(64, 0x100)] [fd 0 0 .wo .live], -- MBX_SEND
  rd 0x48 [(64, 0x100)] [fd 9 9 .w1c .live, fd 8 8 .w1c .live, fd 1 1 .ro .live, fd 0 0 .ro .live], -- MBX_STATUS
  rd 0x4C [(64, 0x100)] [fd 15 0 .rw .live], -- MBX_ACK
  rd 0x50 [(64, 0x100)] [fd 31 0 .ro .live], -- MBX_POP
  rd 0x54 [(64, 0x100)] [fd 7 7 .rw .live, fd 5 0 .rw .live], -- MBX_RX_NOTE
  rd 0x58 [(64, 0x100)] [fd 7 7 .rw .live, fd 5 0 .rw .live], -- MBX_TX_NOTE
  rd 0x10000 [(64, 4)] [fd 31 31 .rw .live, fd 19 10 .rw .live, fd 9 0 .rw .live], -- MBX_BIND
  rd 0x10100 [] [fd 0 0 .w1s .live], -- MBX_BIND_LOCK
  rd 0x10104 [] [fd 15 0 .rw .live], -- MBX_CFG
  rd 0x20000 [(128, 4)] [fd 7 4 .w1c .live, fd 3 0 .w1s .live], -- MBX_DB
  rd 0x20200 [] [fd 8 8 .rw .live, fd 5 0 .rw .live]] -- MBX_DB_ROUTE

/-- BBX registers (13_mailboxes_black_box.md, Table 13.10-13.11). -/
def regsBbx : List RegD := [
  rd 0 [] [fd 17 17 .rw .live, fd 16 16 .rw .live 1, fd 15 8 .rw .live 0x32, fd 2 0 .rw .live 1], -- BBX_CFG
  rd 4 [] [fd 20 16 .ro .live, fd 11 8 .ro .live, fd 5 5 .ro .live, fd 4 3 .ro .live, fd 1 0 .ro .live], -- BBX_STATUS
  rd 8 [] [fd 31 16 .wo .live, fd 11 8 .wo .live, fd 3 0 .wo .live], -- BBX_CMD
  rd 0xC [] [fd 15 0 .ro .live], -- BBX_HEAD
  rd 0x10 [] [fd 15 0 .ro .live], -- BBX_TRIG_SEQ
  rd 0x14 [] [fd 31 0 .ro .live], -- BBX_LOST
  rd 0x18 [] [fd 31 0 .ro .live], -- BBX_FROZEN_DROP
  rd 0x1C [] [fd 3 0 .rw .live], -- BBX_BMC_PAGE
  rd 0x100 [(16, 4)] [fd 31 30 .ro .live, fd 15 0 .ro .live], -- BBX_SLOT
  rd 0x10000 [(2, 0x10000), (1024, 0x20), (8, 4)] [fd 31 0 .ro .live]] -- BBX_RING

/-- DBG registers (12_safety_concept.md, Table 12.14). -/
def regsDbg : List RegD := [
  rd 0 [] [fd 0 0 .rw .quiet], -- DBG_CTRL
  rd 4 [] [fd 0 0 .ro .live]] -- DBG_STATUS

/-- TW registers (11_host_and_tenants.md, Table 11.11, 11.13b, 13.9), part 1. -/
def regsTwA : List RegD := [
  rd 0 [(128, 0x40000)] [fd 31 0 .ro .live], -- TW_ID
  rd 4 [(128, 0x40000)] [fd 31 0 .ro .live], -- TW_STATUS
  rd 8 [(128, 0x40000)] [fd 31 0 .ro .live], -- TW_LIMITS
  rd 0xC [(128, 0x40000)] [fd 13 8 .rw .live, fd 5 0 .rw .live], -- TW_CTRL
  rd 0x10 [(128, 0x40000)] [fd 31 0 .wo .live], -- TW_RELEASE
  rd 0x14 [(128, 0x40000)] [fd 31 0 .rw .live], -- TW_EP_PAGE
  rd 0x18 [(128, 0x40000)] [fd 31 0 .rw .live], -- TW_RSS_LO
  rd 0x1C [(128, 0x40000)] [fd 31 0 .rw .live], -- TW_RSS_HI
  rd 0x20 [(128, 0x40000)] [fd 31 0 .ro .live], -- TW_IRQ_DROP
  rd 0x30 [(128, 0x40000)] [fd 31 0 .rw .live] .low, -- EVQ_BASE_LO
  rd 0x34 [(128, 0x40000)] [fd 31 0 .rw .live] .high, -- EVQ_BASE_HI
  rd 0x38 [(128, 0x40000)] [fd 31 31 .rw .live, fd 29 24 .rw .live, fd 3 0 .rw .quiet], -- EVQ_CFG
  rd 0x3C [(128, 0x40000)] [fd 31 0 .rw .live], -- EVQ_HEAD
  rd 0x40 [(128, 0x40000)] [fd 31 0 .ro .live], -- EVQ_LOST
  rd 0x1000 [(128, 0x40000), (64, 0x40)] [fd 31 31 .rw .live, fd 30 30 .rw .quiet, fd 29 28 .rw .quiet, fd 27 24 .rw .quiet, fd 21 16 .rw .live, fd 9 0 .rw .live], -- QCFG
  rd 0x1008 [(128, 0x40000), (64, 0x40)] [fd 31 0 .rw .quiet] .low, -- TX_BASE_LO
  rd 0x100C [(128, 0x40000), (64, 0x40)] [fd 31 0 .rw .quiet] .high, -- TX_BASE_HI
  rd 0x1010 [(128, 0x40000), (64, 0x40)] [fd 31 0 .rw .quiet] .low, -- RX_BASE_LO
  rd 0x1014 [(128, 0x40000), (64, 0x40)] [fd 31 0 .rw .quiet] .high, -- RX_BASE_HI
  rd 0x1018 [(128, 0x40000), (64, 0x40)] [fd 31 0 .rw .live], -- TX_TAIL
  rd 0x101C [(128, 0x40000), (64, 0x40)] [fd 31 0 .rw .live], -- RX_TAIL
  rd 0x1020 [(128, 0x40000), (64, 0x40)] [fd 31 0 .ro .live], -- TX_HEAD
  rd 0x1024 [(128, 0x40000), (64, 0x40)] [fd 31 0 .ro .live], -- RX_HEAD
  rd 0x1028 [(128, 0x40000), (64, 0x40)] [fd 31 28 .ro .live, fd 27 24 .ro .live, fd 11 0 .ro .live]] -- QSTATUS

/-- TW registers (11_host_and_tenants.md, Table 11.11, 11.13b, 13.9), part 2. -/
def regsTwB : List RegD := [
  rd 0x102C [(128, 0x40000), (64, 0x40)] [fd 31 0 .ro .live], -- HOST_DROP
  rd 0x2000 [(128, 0x40000), (16, 0x20)] [fd 31 31 .rw .live, fd 30 30 .rw .live, fd 29 24 .rw .live, fd 23 20 .rw .quiet, fd 7 0 .rw .quiet], -- RCFG
  rd 0x2008 [(128, 0x40000), (16, 0x20)] [fd 31 0 .rw .quiet] .low, -- RBASE_LO
  rd 0x200C [(128, 0x40000), (16, 0x20)] [fd 31 0 .rw .quiet] .high, -- RBASE_HI
  rd 0x2010 [(128, 0x40000), (16, 0x20)] [fd 31 0 .rw .live], -- RHEAD
  rd 0x2014 [(128, 0x40000), (16, 0x20)] [fd 31 28 .ro .live, fd 27 24 .ro .live], -- RSTATUS
  rd 0x2018 [(128, 0x40000), (16, 0x20)] [fd 31 0 .ro .live], -- RLOST
  rd 0x34000 [(128, 0x40000)] [fd 7 4 .w1s .live, fd 3 0 .w1c .live], -- TW_DB
  rd 0x34004 [(128, 0x40000)] [fd 7 7 .rw .live, fd 5 0 .rw .live], -- TW_DB_CFG
  rd 0x36000 [(128, 0x40000), (64, 0x10), (4, 4)] [fd 31 0 .rw .live], -- MSIX_TABLE
  rd 0x37000 [(128, 0x40000), (2, 4)] [fd 31 0 .ro .live]] -- MSIX_PBA

/-- TW registers. -/
def regsTw : List RegD := regsTwA ++ regsTwB

/-- The register blocks of Table 00.3 (R1), and the tenant windows of Table 11.2, which the model places above BAR0's
64 MiB, instance t at 0x400_0000 + t × 0x4_0000. -/
def blocks : List BlockD := [
  ⟨0, 0x10000, 1, 0, regsGlb⟩, -- GLB
  ⟨0x10000, 0x10000, 2, 2, regsTik⟩, -- TIK
  ⟨0x20000, 0x20000, 3, 2, regsTim⟩, -- TIM
  ⟨0x40000, 0x40000, 4, 18, regsImg⟩, -- IMG
  ⟨0x80000, 0x40000, 5, 3, regsAcq⟩, -- ACQ
  ⟨0xC0000, 0x40000, 6, 4, regsTwc⟩, -- TWC
  ⟨0x100000, 0x100000, 7, 18, regsThr⟩, -- THR
  ⟨0x200000, 0x80000, 8, 10, regsMpr⟩, -- MPR
  ⟨0x280000, 0x80000, 9, 9, regsMrg⟩, -- MRG
  ⟨0x300000, 0x100000, 0xA, 10, regsPkt⟩, -- PKT
  ⟨0x400000, 0x80000, 0xB, 12, regsSlo⟩, -- SLO
  ⟨0x480000, 0x80000, 0xC, 10, regsTun⟩, -- TUN
  ⟨0x500000, 0x80000, 0xD, 11, regsCry⟩, -- CRY
  ⟨0x580000, 0x80000, 0xE, 10, regsRec⟩, -- REC
  ⟨0x600000, 0x200000, 0xF, 13, regsHif⟩, -- HIF
  ⟨0x800000, 0x80000, 0x10, 1, regsSaf⟩, -- SAF
  ⟨0x880000, 0x20000, 0x11, 0, regsRst⟩, -- RST
  ⟨0x8A0000, 0x20000, 0x12, 0, regsPwr⟩, -- PWR
  ⟨0x8C0000, 0x40000, 0x13, 0, regsThm⟩, -- THM
  ⟨0x900000, 0x80000, 0x14, 19, regsGrn⟩, -- GRN
  ⟨0x980000, 0x40000, 0x15, 20, regsClm⟩, -- CLM
  ⟨0x9C0000, 0x20000, 0x16, 21, regsFan⟩, -- FAN
  ⟨0x9E0000, 0x20000, 0x17, 21, regsMtr⟩, -- MTR
  ⟨0xA00000, 0x20000, 0x18, 22, regsPnl⟩, -- PNL
  ⟨0xA20000, 0x20000, 0x19, 22, regsSpm⟩, -- SPM
  ⟨0xA40000, 0x20000, 0x1A, 22, regsSps⟩, -- SPS
  ⟨0xA60000, 0x20000, 0x1B, 20, regsUar⟩, -- UAR
  ⟨0xA80000, 0x80000, 0x1C, 22, regsIic⟩, -- IIC
  ⟨0xB00000, 0x80000, 0x1D, 0, regsMbx⟩, -- MBX
  ⟨0xB80000, 0x80000, 0x1E, 0, regsBbx⟩, -- BBX
  ⟨0xC00000, 0x400000, 0x1F, 23, regsDbg⟩, -- DBG
  ⟨0x4000000, 0x2000000, 0xF, 13, regsTw⟩] -- TW

/-- The row of the register at an address, with its block. -/
def regAt (addr : Nat) : Option (BlockD × RegD) :=
  match findBlock blocks addr with
  | none => none
  | some b => (b.findReg (addr - b.base)).map (fun r => (b, r))

/-- What the register with key `k` holds at the release of its power domain (R48): its table's reset value; for GLB_REV the
revision of the silicon. A key that names no register reads 0 (R9). (DESIGN CHOICE, log 2) -/
def resetOf (k : Nat) : Word :=
  if keyAddr k = 4 then Config.glbRev
  else match regAt (keyAddr k) with
    | none => 0
    | some (_, r) => BitVec.ofNat 32 r.resetNat

end Sys2Proof.Machine
end

