-- ==== Sys2Proof/Machine/Regs.lean ====
section
/-! DEFINITION. The place of every register and field of the register tables, under the spec's own names: `Reg.X` is the whole
register X, `Reg.X_F` its field F; an arrayed register takes its element numbers. -/

namespace Sys2Proof.Machine.Reg

/-! ### GLB -/

abbrev GLB_ID : Fld := ⟨0, 0, 32⟩
abbrev GLB_REV : Fld := ⟨4, 0, 32⟩
abbrev GLB_REV_MAJOR : Fld := ⟨4, 8, 8⟩
abbrev GLB_REV_MINOR : Fld := ⟨4, 0, 8⟩
abbrev GLB_SCRATCH : Fld := ⟨8, 0, 32⟩

/-! ### TIK -/

abbrev TIK_CFG : Fld := ⟨0x10000, 0, 32⟩
abbrev TIK_CFG_SEAM_NOM : Fld := ⟨0x10000, 16, 14⟩
abbrev TIK_CFG_SLOT_CYC : Fld := ⟨0x10000, 4, 10⟩
abbrev TIK_CFG_RATE : Fld := ⟨0x10000, 0, 3⟩
abbrev TIK_CTRL : Fld := ⟨0x10004, 0, 32⟩
abbrev TIK_CTRL_REALIGN_GO : Fld := ⟨0x10004, 8, 1⟩
abbrev TIK_CTRL_REALIGN_MODE : Fld := ⟨0x10004, 0, 2⟩
abbrev TIK_STATUS : Fld := ⟨0x10008, 0, 32⟩
abbrev TIK_STATUS_SLOT : Fld := ⟨0x10008, 16, 9⟩
abbrev TIK_STATUS_INVAL_LEFT : Fld := ⟨0x10008, 8, 4⟩
abbrev TIK_STATUS_REALIGN_PEND : Fld := ⟨0x10008, 4, 1⟩
abbrev TIK_STATUS_TIMEQ : Fld := ⟨0x10008, 2, 2⟩
abbrev TIK_STATUS_STATE : Fld := ⟨0x10008, 0, 2⟩
abbrev TIK_INSEC : Fld := ⟨0x1000C, 0, 32⟩
abbrev TIK_INSEC_INSEC : Fld := ⟨0x1000C, 0, 15⟩
abbrev TIK_COUNT_LO : Fld := ⟨0x10010, 0, 32⟩
abbrev TIK_COUNT_HI : Fld := ⟨0x10014, 0, 32⟩
abbrev TIK_SEC : Fld := ⟨0x10018, 0, 32⟩
abbrev TIK_COMMIT : Fld := ⟨0x10020, 0, 32⟩
abbrev TIK_COMMIT_LATE : Fld := ⟨0x10020, 8, 1⟩
abbrev TIK_COMMIT_STICKY : Fld := ⟨0x10020, 2, 1⟩
abbrev TIK_COMMIT_AT : Fld := ⟨0x10020, 1, 1⟩
abbrev TIK_COMMIT_ARM : Fld := ⟨0x10020, 0, 1⟩
abbrev TIK_COMMIT_AT_LO : Fld := ⟨0x10024, 0, 32⟩
abbrev TIK_COMMIT_AT_HI : Fld := ⟨0x10028, 0, 32⟩
abbrev TIK_COMMIT_LAST_LO : Fld := ⟨0x1002C, 0, 32⟩
abbrev TIK_COMMIT_LAST_HI : Fld := ⟨0x10030, 0, 32⟩
abbrev TIK_OVR_TOTAL : Fld := ⟨0x10040, 0, 32⟩
abbrev TIK_OVR_LAST : Fld := ⟨0x10044, 0, 32⟩
abbrev TIK_OVR_LAST_SLOT : Fld := ⟨0x10044, 23, 9⟩
abbrev TIK_OVR_LAST_CORE : Fld := ⟨0x10044, 16, 7⟩
abbrev TIK_OVR_LAST_ITEM : Fld := ⟨0x10044, 0, 10⟩
abbrev TIK_OVR_REPEAT : Fld := ⟨0x10048, 0, 32⟩
abbrev TIK_RETRY_OVR : Fld := ⟨0x1004C, 0, 32⟩
abbrev TIK_REALIGN_CNT : Fld := ⟨0x10050, 0, 32⟩
abbrev TIK_REALIGN_STEP : Fld := ⟨0x10054, 0, 32⟩
abbrev TIK_ITEM_OVR (i : Nat) : Fld := ⟨0x11000 + i * 4, 0, 32⟩
abbrev TIK_ITEM_OVR_TOTAL (i : Nat) : Fld := ⟨0x11000 + i * 4, 16, 16⟩
abbrev TIK_ITEM_OVR_WINDOW (i : Nat) : Fld := ⟨0x11000 + i * 4, 0, 7⟩

/-! ### TIM -/

abbrev TIM_CTRL : Fld := ⟨0x20000, 0, 32⟩
abbrev TIM_CTRL_PPS_TRACE : Fld := ⟨0x20000, 3, 1⟩
abbrev TIM_CTRL_HW_FREQ : Fld := ⟨0x20000, 2, 1⟩
abbrev TIM_CTRL_STEER : Fld := ⟨0x20000, 1, 1⟩
abbrev TIM_CTRL_SERVO_EN : Fld := ⟨0x20000, 0, 1⟩
abbrev TIM_STATUS : Fld := ⟨0x20004, 0, 32⟩
abbrev TIM_STATUS_FREQ_CLAMP : Fld := ⟨0x20004, 11, 1⟩
abbrev TIM_STATUS_REFCLK : Fld := ⟨0x20004, 10, 1⟩
abbrev TIM_STATUS_REFCLK_OK : Fld := ⟨0x20004, 9, 1⟩
abbrev TIM_STATUS_BACKUP : Fld := ⟨0x20004, 8, 1⟩
abbrev TIM_STATUS_ACTIVE_SRC : Fld := ⟨0x20004, 4, 2⟩
abbrev TIM_STATUS_QUALITY : Fld := ⟨0x20004, 0, 2⟩
abbrev TIM_SRC_PRIO : Fld := ⟨0x20008, 0, 32⟩
abbrev TIM_SRC_PRIO_QUAL_TIME : Fld := ⟨0x20008, 8, 8⟩
abbrev TIM_SRC_PRIO_REVERT : Fld := ⟨0x20008, 7, 1⟩
abbrev TIM_SRC_PRIO_PRIO2 : Fld := ⟨0x20008, 5, 2⟩
abbrev TIM_SRC_PRIO_PRIO1 : Fld := ⟨0x20008, 3, 2⟩
abbrev TIM_SRC_PRIO_PRIO0 : Fld := ⟨0x20008, 0, 2⟩
abbrev TIM_NS_LO : Fld := ⟨0x20010, 0, 32⟩
abbrev TIM_NS_HI : Fld := ⟨0x20014, 0, 32⟩
abbrev TIM_FRAC : Fld := ⟨0x20018, 0, 32⟩
abbrev TIM_FRAC_FRAC : Fld := ⟨0x20018, 0, 16⟩
abbrev TIM_FREQ_ADJ : Fld := ⟨0x20020, 0, 32⟩
abbrev TIM_PHASE_ADJ : Fld := ⟨0x20024, 0, 32⟩
abbrev TIM_SLEW_MAX : Fld := ⟨0x20028, 0, 32⟩
abbrev TIM_SLEW_MAX_PPB : Fld := ⟨0x20028, 0, 10⟩
abbrev TIM_STEP_THR : Fld := ⟨0x2002C, 0, 32⟩
abbrev TIM_STEP_THR_NS : Fld := ⟨0x2002C, 0, 20⟩
abbrev TIM_SERVO_OFS : Fld := ⟨0x20030, 0, 32⟩
abbrev TIM_SERVO_CFG : Fld := ⟨0x20034, 0, 32⟩
abbrev TIM_SERVO_CFG_WDT : Fld := ⟨0x20034, 0, 16⟩
abbrev TIM_LOCK_CFG : Fld := ⟨0x20038, 0, 32⟩
abbrev TIM_LOCK_CFG_N : Fld := ⟨0x20038, 16, 8⟩
abbrev TIM_LOCK_CFG_THR : Fld := ⟨0x20038, 0, 16⟩
abbrev TIM_XCHK_THR : Fld := ⟨0x2003C, 0, 32⟩
abbrev TIM_HO_CFG : Fld := ⟨0x20040, 0, 32⟩
abbrev TIM_HO_FREQ : Fld := ⟨0x20044, 0, 32⟩
abbrev TIM_HO_DRIFT : Fld := ⟨0x20048, 0, 32⟩
abbrev TIM_HO_E0 : Fld := ⟨0x2004C, 0, 32⟩
abbrev TIM_HO_EST : Fld := ⟨0x20050, 0, 32⟩
abbrev TIM_HO_TIME : Fld := ⟨0x20054, 0, 32⟩
abbrev TIM_UTC_OFS : Fld := ⟨0x20060, 0, 32⟩
abbrev TIM_UTC_OFS_LEAP59 : Fld := ⟨0x20060, 17, 1⟩
abbrev TIM_UTC_OFS_LEAP61 : Fld := ⟨0x20060, 16, 1⟩
abbrev TIM_UTC_OFS_OFS : Fld := ⟨0x20060, 0, 16⟩
abbrev TIM_LEAP_AT_LO : Fld := ⟨0x20064, 0, 32⟩
abbrev TIM_LEAP_AT_HI : Fld := ⟨0x20068, 0, 32⟩
abbrev TIM_OCXO_CFG : Fld := ⟨0x20070, 0, 32⟩
abbrev TIM_OCXO_CFG_MID : Fld := ⟨0x20070, 16, 16⟩
abbrev TIM_OCXO_CFG_GAIN : Fld := ⟨0x20070, 0, 16⟩
abbrev TIM_OCXO_LIM : Fld := ⟨0x20074, 0, 32⟩
abbrev TIM_OCXO_LIM_MAX : Fld := ⟨0x20074, 16, 16⟩
abbrev TIM_OCXO_LIM_MIN : Fld := ⟨0x20074, 0, 16⟩
abbrev TIM_OCXO_DAC : Fld := ⟨0x20078, 0, 32⟩
abbrev TIM_OCXO_DAC_CODE : Fld := ⟨0x20078, 0, 16⟩
abbrev TIM_IRIG_CFG : Fld := ⟨0x20080, 0, 32⟩
abbrev TIM_IRIG_CFG_LOCAL_OFS : Fld := ⟨0x20080, 14, 6⟩
abbrev TIM_IRIG_CFG_OFS_SENSE : Fld := ⟨0x20080, 13, 1⟩
abbrev TIM_IRIG_CFG_TQ_DEFAULT : Fld := ⟨0x20080, 8, 4⟩
abbrev TIM_IRIG_CFG_TQ_MAX : Fld := ⟨0x20080, 4, 4⟩
abbrev TIM_IRIG_STATUS : Fld := ⟨0x20084, 0, 32⟩
abbrev TIM_IRIG_STATUS_TQ : Fld := ⟨0x20084, 28, 4⟩
abbrev TIM_IRIG_STATUS_CF : Fld := ⟨0x20084, 16, 8⟩
abbrev TIM_IRIG_STATUS_EXPR : Fld := ⟨0x20084, 0, 3⟩
abbrev TIM_IRIG_ERR : Fld := ⟨0x20088, 0, 32⟩
abbrev TIM_PPS_CFG : Fld := ⟨0x20090, 0, 32⟩
abbrev TIM_PPS_CFG_OUT_MODE : Fld := ⟨0x20090, 30, 2⟩
abbrev TIM_PPS_CFG_IN_INV : Fld := ⟨0x20090, 29, 1⟩
abbrev TIM_PPS_CFG_OUT_WIDTH : Fld := ⟨0x20090, 16, 9⟩
abbrev TIM_PPS_CFG_WIN : Fld := ⟨0x20090, 0, 16⟩
abbrev TIM_PPS_OUT_DLY : Fld := ⟨0x20094, 0, 32⟩
abbrev TIM_PPS_REJ : Fld := ⟨0x20098, 0, 32⟩
abbrev TIM_TOD_LO : Fld := ⟨0x200A0, 0, 32⟩
abbrev TIM_TOD_HI : Fld := ⟨0x200A4, 0, 32⟩
abbrev TIM_PTP_CFG : Fld := ⟨0x200B0, 0, 32⟩
abbrev TIM_PTP_CFG_CLASS_MAX : Fld := ⟨0x200B0, 24, 8⟩
abbrev TIM_PTP_CFG_DOMAIN : Fld := ⟨0x200B0, 16, 8⟩
abbrev TIM_PTP_CFG_OWN_INACC : Fld := ⟨0x200B0, 8, 8⟩
abbrev TIM_PTP_CFG_ROLE : Fld := ⟨0x200B0, 5, 3⟩
abbrev TIM_PTP_CFG_PROFILE : Fld := ⟨0x200B0, 3, 2⟩
abbrev TIM_PORT_RX_LAT (i : Nat) : Fld := ⟨0x20100 + i * 0x20, 0, 32⟩
abbrev TIM_PORT_TX_LAT (i : Nat) : Fld := ⟨0x20104 + i * 0x20, 0, 32⟩
abbrev TIM_PORT_PCFG (i : Nat) : Fld := ⟨0x20108 + i * 0x20, 0, 32⟩
abbrev TIM_PORT_PCFG_TWO_STEP (i : Nat) : Fld := ⟨0x20108 + i * 0x20, 2, 1⟩
abbrev TIM_PORT_PCFG_VLAN (i : Nat) : Fld := ⟨0x20108 + i * 0x20, 1, 1⟩
abbrev TIM_PORT_PCFG_EN (i : Nat) : Fld := ⟨0x20108 + i * 0x20, 0, 1⟩
abbrev TIM_PORT_TS_DROP (i : Nat) : Fld := ⟨0x2010C + i * 0x20, 0, 32⟩

/-! ### IMG -/

abbrev IMG_CTRL : Fld := ⟨0x40000, 0, 32⟩
abbrev IMG_CTRL_AUTO_ACT : Fld := ⟨0x40000, 2, 1⟩
abbrev IMG_CTRL_SRC : Fld := ⟨0x40000, 0, 2⟩
abbrev IMG_CMD : Fld := ⟨0x40004, 0, 32⟩
abbrev IMG_CMD_KEY : Fld := ⟨0x40004, 16, 16⟩
abbrev IMG_CMD_CMD : Fld := ⟨0x40004, 0, 4⟩
abbrev IMG_STATUS : Fld := ⟨0x40008, 0, 32⟩
abbrev IMG_STATUS_CODE : Fld := ⟨0x40008, 16, 16⟩
abbrev IMG_STATUS_COPY_DAMAGED : Fld := ⟨0x40008, 7, 1⟩
abbrev IMG_STATUS_BUSY : Fld := ⟨0x40008, 6, 1⟩
abbrev IMG_STATUS_SRC_USED : Fld := ⟨0x40008, 4, 2⟩
abbrev IMG_STATUS_STATE : Fld := ⟨0x40008, 0, 3⟩
abbrev IMG_REJ_DETAIL : Fld := ⟨0x4000C, 0, 32⟩
abbrev IMG_REJ_COUNT : Fld := ⟨0x40010, 0, 32⟩
abbrev IMG_ACTIVE_ID : Fld := ⟨0x40014, 0, 32⟩
abbrev IMG_ACTIVE_VER : Fld := ⟨0x40018, 0, 32⟩
abbrev IMG_ACTIVE_LEN : Fld := ⟨0x4001C, 0, 32⟩
abbrev IMG_STAGED_ID : Fld := ⟨0x40020, 0, 32⟩
abbrev IMG_STAGED_VER : Fld := ⟨0x40024, 0, 32⟩
abbrev IMG_HOST_ADDR_LO : Fld := ⟨0x40030, 0, 32⟩
abbrev IMG_HOST_ADDR_HI : Fld := ⟨0x40034, 0, 32⟩
abbrev IMG_HOST_LEN : Fld := ⟨0x40038, 0, 32⟩
abbrev IMG_FLASH_A : Fld := ⟨0x40040, 0, 32⟩
abbrev IMG_FLASH_B : Fld := ⟨0x40044, 0, 32⟩
abbrev IMG_ACT_TICK_LO : Fld := ⟨0x40050, 0, 32⟩
abbrev IMG_ACT_TICK_HI : Fld := ⟨0x40054, 0, 32⟩
abbrev IMG_LOAD_TIME : Fld := ⟨0x40058, 0, 32⟩
abbrev IMG_LOAD_TIME_GUARD_US : Fld := ⟨0x40058, 16, 16⟩
abbrev IMG_LOAD_TIME_FETCH_US : Fld := ⟨0x40058, 0, 16⟩
abbrev IMG_KEY_STATE : Fld := ⟨0x40060, 0, 32⟩
abbrev IMG_KEY_STATE_REVOKED : Fld := ⟨0x40060, 4, 4⟩
abbrev IMG_KEY_STATE_PROGRAMMED : Fld := ⟨0x40060, 0, 4⟩
abbrev IMG_KEYHASH (i j : Nat) : Fld := ⟨0x40100 + i * 0x30 + j * 4, 0, 32⟩
abbrev IMG_REJ_LOG_CODE (i : Nat) : Fld := ⟨0x40200 + i * 8, 0, 32⟩
abbrev IMG_REJ_LOG_DETAIL (i : Nat) : Fld := ⟨0x40204 + i * 8, 0, 32⟩
abbrev IMG_AMD_CMD : Fld := ⟨0x40400, 0, 32⟩
abbrev IMG_AMD_CMD_KEY : Fld := ⟨0x40400, 16, 16⟩
abbrev IMG_AMD_CMD_PCONF : Fld := ⟨0x40400, 4, 1⟩
abbrev IMG_AMD_CMD_CMD : Fld := ⟨0x40400, 0, 4⟩
abbrev IMG_AMD_STATUS : Fld := ⟨0x40404, 0, 32⟩
abbrev IMG_AMD_STATUS_CODE : Fld := ⟨0x40404, 16, 16⟩
abbrev IMG_AMD_STATUS_POOL_MOVE : Fld := ⟨0x40404, 5, 1⟩
abbrev IMG_AMD_STATUS_P_CHANGE : Fld := ⟨0x40404, 4, 1⟩
abbrev IMG_AMD_STATUS_ASTATE : Fld := ⟨0x40404, 0, 3⟩
abbrev IMG_AMD_DETAIL : Fld := ⟨0x40408, 0, 32⟩
abbrev IMG_AMD_LEAD : Fld := ⟨0x4040C, 0, 32⟩
abbrev IMG_AMD_LEAD_TICKS : Fld := ⟨0x4040C, 0, 8⟩
abbrev IMG_AMD_AT_LO : Fld := ⟨0x40410, 0, 32⟩
abbrev IMG_AMD_AT_HI : Fld := ⟨0x40414, 0, 32⟩
abbrev IMG_AMD_LAST_LO : Fld := ⟨0x40418, 0, 32⟩
abbrev IMG_AMD_LAST_HI : Fld := ⟨0x4041C, 0, 32⟩
abbrev IMG_AMD_BASE : Fld := ⟨0x40420, 0, 32⟩
abbrev IMG_AMD_OVERRIDE : Fld := ⟨0x40424, 0, 32⟩
abbrev IMG_AMD_COUNT : Fld := ⟨0x40428, 0, 32⟩
abbrev IMG_AMD_OVL : Fld := ⟨0x4042C, 0, 32⟩
abbrev IMG_AMD_OVL_ENTRIES : Fld := ⟨0x4042C, 0, 17⟩

/-! ### ACQ -/

abbrev ACQ_CTRL : Fld := ⟨0x80000, 0, 32⟩
abbrev ACQ_CTRL_NOMF : Fld := ⟨0x80000, 1, 1⟩
abbrev ACQ_CTRL_AUTO_SPARE : Fld := ⟨0x80000, 0, 1⟩
abbrev ACQ_STATUS : Fld := ⟨0x80004, 0, 32⟩
abbrev ACQ_STATUS_ADOPTED : Fld := ⟨0x80004, 16, 8⟩
abbrev ACQ_STATUS_LOST : Fld := ⟨0x80004, 8, 8⟩
abbrev ACQ_STATUS_STATE : Fld := ⟨0x80004, 0, 2⟩
abbrev ACQ_RNG_CFG : Fld := ⟨0x80008, 0, 32⟩
abbrev ACQ_RNG_CFG_GUARD : Fld := ⟨0x80008, 24, 4⟩
abbrev ACQ_RNG_CFG_DOWN_PCT : Fld := ⟨0x80008, 17, 7⟩
abbrev ACQ_RNG_CFG_HOLD_CYC : Fld := ⟨0x80008, 12, 5⟩
abbrev ACQ_RNG_CFG_OVL_HI : Fld := ⟨0x80008, 6, 6⟩
abbrev ACQ_RNG_CFG_OVL_LO : Fld := ⟨0x80008, 0, 6⟩
abbrev ACQ_RNG_UP : Fld := ⟨0x8000C, 0, 32⟩
abbrev ACQ_RNG_DOWN : Fld := ⟨0x80010, 0, 32⟩
abbrev ACQ_LINK_LOST_LO : Fld := ⟨0x80014, 0, 32⟩
abbrev ACQ_LINK_LOST_HI : Fld := ⟨0x80018, 0, 32⟩
abbrev ACQ_LINK_LOST_HI_LOST : Fld := ⟨0x80018, 0, 16⟩
abbrev ACQ_MCLK (i : Nat) : Fld := ⟨0x80100 + i * 0x10, 0, 32⟩
abbrev ACQ_MCLK_FAULT (i : Nat) : Fld := ⟨0x80100 + i * 0x10, 8, 1⟩
abbrev ACQ_MCLK_EN (i : Nat) : Fld := ⟨0x80100 + i * 0x10, 4, 1⟩
abbrev ACQ_MCLK_FREQ (i : Nat) : Fld := ⟨0x80100 + i * 0x10, 0, 2⟩
abbrev ACQ_IN_CFG (i : Nat) : Fld := ⟨0x80200 + i * 0x10, 0, 32⟩
abbrev ACQ_IN_CFG_TWIN (i : Nat) : Fld := ⟨0x80200 + i * 0x10, 10, 6⟩
abbrev ACQ_IN_CFG_EN (i : Nat) : Fld := ⟨0x80200 + i * 0x10, 9, 1⟩
abbrev ACQ_IN_CFG_DELAY (i : Nat) : Fld := ⟨0x80200 + i * 0x10, 3, 6⟩
abbrev ACQ_IN_CFG_EDGE (i : Nat) : Fld := ⟨0x80200 + i * 0x10, 2, 1⟩
abbrev ACQ_IN_CFG_CLK (i : Nat) : Fld := ⟨0x80200 + i * 0x10, 0, 2⟩
abbrev ACQ_IN_GAIN (i : Nat) : Fld := ⟨0x80204 + i * 0x10, 0, 32⟩
abbrev ACQ_IN_OFS (i : Nat) : Fld := ⟨0x80208 + i * 0x10, 0, 32⟩
abbrev ACQ_IN_STATUS (i : Nat) : Fld := ⟨0x8020C + i * 0x10, 0, 32⟩
abbrev ACQ_IN_STATUS_LOSS_CNT (i : Nat) : Fld := ⟨0x8020C + i * 0x10, 16, 16⟩
abbrev ACQ_IN_STATUS_ADOPTED (i : Nat) : Fld := ⟨0x8020C + i * 0x10, 10, 1⟩
abbrev ACQ_IN_STATUS_RETIRED (i : Nat) : Fld := ⟨0x8020C + i * 0x10, 9, 1⟩
abbrev ACQ_IN_STATUS_DENSITY (i : Nat) : Fld := ⟨0x8020C + i * 0x10, 0, 7⟩
abbrev ACQ_CHAN_CFG (i : Nat) : Fld := ⟨0x81000 + i * 0x10, 0, 32⟩
abbrev ACQ_CHAN_CFG_D (i : Nat) : Fld := ⟨0x81000 + i * 0x10, 24, 5⟩
abbrev ACQ_CHAN_CFG_SEL_B (i : Nat) : Fld := ⟨0x81000 + i * 0x10, 16, 6⟩
abbrev ACQ_CHAN_CFG_SEL_A (i : Nat) : Fld := ⟨0x81000 + i * 0x10, 8, 6⟩
abbrev ACQ_CHAN_CFG_PROFILE (i : Nat) : Fld := ⟨0x81000 + i * 0x10, 2, 1⟩
abbrev ACQ_CHAN_CFG_SRC (i : Nat) : Fld := ⟨0x81000 + i * 0x10, 0, 2⟩
abbrev ACQ_CHAN_SCALE (i : Nat) : Fld := ⟨0x81004 + i * 0x10, 0, 32⟩
abbrev ACQ_CHAN_HI_GAIN (i : Nat) : Fld := ⟨0x81008 + i * 0x10, 0, 32⟩
abbrev ACQ_CHAN_HI_OFS (i : Nat) : Fld := ⟨0x8100C + i * 0x10, 0, 32⟩
abbrev ACQ_SV_CFG (i : Nat) : Fld := ⟨0x83000 + i * 0x40, 0, 32⟩
abbrev ACQ_SV_CFG_HOLD (i : Nat) : Fld := ⟨0x83000 + i * 0x40, 12, 4⟩
abbrev ACQ_SV_CFG_SYNC_MIN (i : Nat) : Fld := ⟨0x83000 + i * 0x40, 10, 2⟩
abbrev ACQ_SV_CFG_TEST_OK (i : Nat) : Fld := ⟨0x83000 + i * 0x40, 9, 1⟩
abbrev ACQ_SV_CFG_DELAY (i : Nat) : Fld := ⟨0x83000 + i * 0x40, 4, 5⟩
abbrev ACQ_SV_CFG_KIND (i : Nat) : Fld := ⟨0x83000 + i * 0x40, 1, 3⟩
abbrev ACQ_SV_CFG_EN (i : Nat) : Fld := ⟨0x83000 + i * 0x40, 0, 1⟩
abbrev ACQ_SV_APPID (i : Nat) : Fld := ⟨0x83004 + i * 0x40, 0, 32⟩
abbrev ACQ_SV_APPID_APPID (i : Nat) : Fld := ⟨0x83004 + i * 0x40, 0, 16⟩
abbrev ACQ_SV_MAC_LO (i : Nat) : Fld := ⟨0x83008 + i * 0x40, 0, 32⟩
abbrev ACQ_SV_MAC_HI (i : Nat) : Fld := ⟨0x8300C + i * 0x40, 0, 32⟩
abbrev ACQ_SV_MAC_HI_MAC (i : Nat) : Fld := ⟨0x8300C + i * 0x40, 0, 16⟩
abbrev ACQ_SV_SVID_CRC (i : Nat) : Fld := ⟨0x83010 + i * 0x40, 0, 32⟩
abbrev ACQ_SV_STATUS (i : Nat) : Fld := ⟨0x83014 + i * 0x40, 0, 32⟩
abbrev ACQ_SV_STATUS_STATE (i : Nat) : Fld := ⟨0x83014 + i * 0x40, 0, 2⟩
abbrev ACQ_SV_RX (i : Nat) : Fld := ⟨0x83018 + i * 0x40, 0, 32⟩
abbrev ACQ_SV_LATE (i : Nat) : Fld := ⟨0x8301C + i * 0x40, 0, 32⟩
abbrev ACQ_SV_MISSING (i : Nat) : Fld := ⟨0x83020 + i * 0x40, 0, 32⟩
abbrev ACQ_SV_DUP (i : Nat) : Fld := ⟨0x83024 + i * 0x40, 0, 32⟩
abbrev ACQ_SV_BAD (i : Nat) : Fld := ⟨0x83028 + i * 0x40, 0, 32⟩
abbrev ACQ_LAST_VALUE (i : Nat) : Fld := ⟨0x84000 + i * 8, 0, 32⟩
abbrev ACQ_LAST_QUAL (i : Nat) : Fld := ⟨0x84004 + i * 8, 0, 32⟩
abbrev ACQ_LAST_QUAL_HI (i : Nat) : Fld := ⟨0x84004 + i * 8, 16, 1⟩
abbrev ACQ_LAST_QUAL_QUAL (i : Nat) : Fld := ⟨0x84004 + i * 8, 0, 16⟩

/-! ### TWC -/

abbrev TWC_CTRL : Fld := ⟨0xC0000, 0, 32⟩
abbrev TWC_CTRL_EN : Fld := ⟨0xC0000, 0, 1⟩
abbrev TWC_STATUS : Fld := ⟨0xC0004, 0, 32⟩
abbrev TWC_STATUS_CAPTURE_VALID : Fld := ⟨0xC0004, 5, 1⟩
abbrev TWC_STATUS_SYSREF_OK : Fld := ⟨0xC0004, 4, 1⟩
abbrev TWC_STATUS_LINK : Fld := ⟨0xC0004, 0, 3⟩
abbrev TWC_JESD_CFG : Fld := ⟨0xC0008, 0, 32⟩
abbrev TWC_JESD_CFG_L2 : Fld := ⟨0xC0008, 16, 1⟩
abbrev TWC_JESD_CFG_E : Fld := ⟨0xC0008, 8, 8⟩
abbrev TWC_JESD_CFG_F : Fld := ⟨0xC0008, 4, 4⟩
abbrev TWC_JESD_CFG_M : Fld := ⟨0xC0008, 0, 4⟩
abbrev TWC_LAT : Fld := ⟨0xC000C, 0, 32⟩
abbrev TWC_SYSREF_CFG : Fld := ⟨0xC0010, 0, 32⟩
abbrev TWC_SYSREF_CFG_PER_SMP : Fld := ⟨0xC0010, 0, 16⟩
abbrev TWC_SYSREF_TOL : Fld := ⟨0xC0014, 0, 32⟩
abbrev TWC_SYSREF_TOL_PS : Fld := ⟨0xC0014, 0, 16⟩
abbrev TWC_SYSREF_DEV : Fld := ⟨0xC0018, 0, 32⟩
abbrev TWC_CRC_ERR : Fld := ⟨0xC001C, 0, 32⟩
abbrev TWC_RESYNC : Fld := ⟨0xC0020, 0, 32⟩
abbrev TWC_EVT_DROP : Fld := ⟨0xC0024, 0, 32⟩
abbrev TWC_CH_CFG (i : Nat) : Fld := ⟨0xC0100 + i * 0x10, 0, 32⟩
abbrev TWC_CH_CFG_EN (i : Nat) : Fld := ⟨0xC0100 + i * 0x10, 24, 1⟩
abbrev TWC_CH_CFG_DEAD (i : Nat) : Fld := ⟨0xC0100 + i * 0x10, 16, 8⟩
abbrev TWC_CH_CFG_THR (i : Nat) : Fld := ⟨0xC0100 + i * 0x10, 0, 14⟩
abbrev TWC_CH_EVENTS (i : Nat) : Fld := ⟨0xC0104 + i * 0x10, 0, 32⟩
abbrev TWC_LAST_EVT (i : Nat) : Fld := ⟨0xC0200 + i * 4, 0, 32⟩

/-! ### THR -/

abbrev THR_CTRL : Fld := ⟨0x100000, 0, 32⟩
abbrev THR_CTRL_SHED_REQ : Fld := ⟨0x100000, 0, 2⟩
abbrev THR_STATUS : Fld := ⟨0x100004, 0, 32⟩
abbrev THR_STATUS_SPARES_FREE : Fld := ⟨0x100004, 24, 8⟩
abbrev THR_STATUS_WORKING : Fld := ⟨0x100004, 16, 8⟩
abbrev THR_STATUS_RETIRED : Fld := ⟨0x100004, 8, 8⟩
abbrev THR_STATUS_QUAD_LOST : Fld := ⟨0x100004, 4, 4⟩
abbrev THR_STATUS_SHED : Fld := ⟨0x100004, 0, 2⟩
abbrev THR_CMD : Fld := ⟨0x100008, 0, 32⟩
abbrev THR_CMD_KEY : Fld := ⟨0x100008, 16, 16⟩
abbrev THR_CMD_CORE : Fld := ⟨0x100008, 8, 7⟩
abbrev THR_CMD_CMD : Fld := ⟨0x100008, 0, 4⟩
abbrev THR_RETIRED (i : Nat) : Fld := ⟨0x100010 + i * 4, 0, 32⟩
abbrev THR_SPARE (i : Nat) : Fld := ⟨0x100020 + i * 4, 0, 32⟩
abbrev THR_RETRIED_TOTAL : Fld := ⟨0x100030, 0, 32⟩
abbrev THR_VOTED_TOTAL : Fld := ⟨0x100034, 0, 32⟩
abbrev THR_SPLIT_TOTAL : Fld := ⟨0x100038, 0, 32⟩
abbrev THR_RETRY_SKIP : Fld := ⟨0x10003C, 0, 32⟩
abbrev THR_ARB_FAIL : Fld := ⟨0x100040, 0, 32⟩
abbrev THR_ADOPT_TOTAL : Fld := ⟨0x100044, 0, 32⟩
abbrev THR_INCOMPLETE : Fld := ⟨0x100048, 0, 32⟩
abbrev THR_LAST_RETIRE : Fld := ⟨0x10004C, 0, 32⟩
abbrev THR_LAST_RETIRE_TICK : Fld := ⟨0x10004C, 24, 8⟩
abbrev THR_LAST_RETIRE_ADOPTER : Fld := ⟨0x10004C, 16, 8⟩
abbrev THR_LAST_RETIRE_REASON : Fld := ⟨0x10004C, 8, 8⟩
abbrev THR_LAST_RETIRE_CORE : Fld := ⟨0x10004C, 0, 8⟩
abbrev THR_CORE_CSTATE (i : Nat) : Fld := ⟨0x101000 + i * 0x10, 0, 32⟩
abbrev THR_CORE_CSTATE_ADOPTED_OF (i : Nat) : Fld := ⟨0x101000 + i * 0x10, 24, 7⟩
abbrev THR_CORE_CSTATE_REASON (i : Nat) : Fld := ⟨0x101000 + i * 0x10, 12, 4⟩
abbrev THR_CORE_CSTATE_BUSY (i : Nat) : Fld := ⟨0x101000 + i * 0x10, 3, 1⟩
abbrev THR_CORE_CSTATE_ROLE (i : Nat) : Fld := ⟨0x101000 + i * 0x10, 0, 3⟩
abbrev THR_CORE_CTRANS (i : Nat) : Fld := ⟨0x101004 + i * 0x10, 0, 32⟩
abbrev THR_CORE_CTRANS_TOTAL (i : Nat) : Fld := ⟨0x101004 + i * 0x10, 16, 16⟩
abbrev THR_CORE_CTRANS_WINDOW (i : Nat) : Fld := ⟨0x101004 + i * 0x10, 0, 2⟩
abbrev THR_CORE_CECC (i : Nat) : Fld := ⟨0x101008 + i * 0x10, 0, 32⟩
abbrev THR_CORE_CECC_DATA (i : Nat) : Fld := ⟨0x101008 + i * 0x10, 16, 16⟩
abbrev THR_CORE_CECC_KSTORE (i : Nat) : Fld := ⟨0x101008 + i * 0x10, 0, 16⟩
abbrev THR_CORE_CARB (i : Nat) : Fld := ⟨0x10100C + i * 0x10, 0, 32⟩
abbrev THR_ITEM_ISTATUS (i : Nat) : Fld := ⟨0x102000 + i * 0x10, 0, 32⟩
abbrev THR_ITEM_ISTATUS_CORE_B (i : Nat) : Fld := ⟨0x102000 + i * 0x10, 25, 7⟩
abbrev THR_ITEM_ISTATUS_CORE_A (i : Nat) : Fld := ⟨0x102000 + i * 0x10, 18, 7⟩
abbrev THR_ITEM_ISTATUS_CLASS (i : Nat) : Fld := ⟨0x102000 + i * 0x10, 16, 2⟩
abbrev THR_ITEM_ISTATUS_LAST (i : Nat) : Fld := ⟨0x102000 + i * 0x10, 12, 4⟩
abbrev THR_ITEM_IWARM (i : Nat) : Fld := ⟨0x102004 + i * 0x10, 0, 32⟩
abbrev THR_ITEM_IWARM_WARM_LEFT (i : Nat) : Fld := ⟨0x102004 + i * 0x10, 0, 16⟩
abbrev THR_ITEM_ICNT1 (i : Nat) : Fld := ⟨0x102008 + i * 0x10, 0, 32⟩
abbrev THR_ITEM_ICNT1_RETRIED (i : Nat) : Fld := ⟨0x102008 + i * 0x10, 16, 16⟩
abbrev THR_ITEM_ICNT1_VOTED (i : Nat) : Fld := ⟨0x102008 + i * 0x10, 0, 16⟩
abbrev THR_ITEM_ICNT2 (i : Nat) : Fld := ⟨0x10200C + i * 0x10, 0, 32⟩
abbrev THR_ITEM_ICNT2_HELD_INVALID (i : Nat) : Fld := ⟨0x10200C + i * 0x10, 16, 16⟩
abbrev THR_ITEM_ICNT2_SPLIT (i : Nat) : Fld := ⟨0x10200C + i * 0x10, 0, 16⟩

/-! ### MPR -/

abbrev MPR_CTRL : Fld := ⟨0x200000, 0, 32⟩
abbrev MPR_CTRL_MAN_TRIG : Fld := ⟨0x200000, 1, 1⟩
abbrev MPR_CTRL_REC_EN : Fld := ⟨0x200000, 0, 1⟩
abbrev MPR_STATUS : Fld := ⟨0x200004, 0, 32⟩
abbrev MPR_STATUS_WAITING : Fld := ⟨0x200004, 4, 4⟩
abbrev MPR_STATUS_OPEN : Fld := ⟨0x200004, 0, 4⟩
abbrev MPR_PUB_LATE : Fld := ⟨0x200010, 0, 32⟩
abbrev MPR_PORT_DROP : Fld := ⟨0x200014, 0, 32⟩
abbrev MPR_DR_COUNT : Fld := ⟨0x200018, 0, 32⟩
abbrev MPR_DR_DROP : Fld := ⟨0x20001C, 0, 32⟩
abbrev MPR_TW_COUNT : Fld := ⟨0x200020, 0, 32⟩
abbrev MPR_TW_DROP : Fld := ⟨0x200024, 0, 32⟩
abbrev MPR_DR_CFG : Fld := ⟨0x200030, 0, 32⟩
abbrev MPR_DR_CFG_POST_MS : Fld := ⟨0x200030, 16, 16⟩
abbrev MPR_DR_CFG_PRE_MS : Fld := ⟨0x200030, 0, 16⟩
abbrev MPR_DR_CHAN : Fld := ⟨0x200034, 0, 32⟩
abbrev MPR_DR_CHAN_DEST : Fld := ⟨0x200034, 16, 16⟩
abbrev MPR_DR_CHAN_ND : Fld := ⟨0x200034, 8, 8⟩
abbrev MPR_DR_CHAN_NA : Fld := ⟨0x200034, 0, 8⟩
abbrev MPR_TW_CFG : Fld := ⟨0x200038, 0, 32⟩
abbrev MPR_TW_CFG_PRE_US : Fld := ⟨0x200038, 0, 11⟩
abbrev MPR_TRIG_CFG (i : Nat) : Fld := ⟨0x200100 + i * 0x10, 0, 32⟩
abbrev MPR_TRIG_CFG_TYPE (i : Nat) : Fld := ⟨0x200100 + i * 0x10, 24, 3⟩
abbrev MPR_TRIG_CFG_TRIG_REASON (i : Nat) : Fld := ⟨0x200100 + i * 0x10, 20, 4⟩
abbrev MPR_TRIG_CFG_LINE (i : Nat) : Fld := ⟨0x200100 + i * 0x10, 18, 2⟩
abbrev MPR_TRIG_CFG_LINE_EN (i : Nat) : Fld := ⟨0x200100 + i * 0x10, 17, 1⟩
abbrev MPR_TRIG_CFG_SRC (i : Nat) : Fld := ⟨0x200100 + i * 0x10, 0, 16⟩
abbrev MPR_TRIG_LEVEL (i : Nat) : Fld := ⟨0x200104 + i * 0x10, 0, 32⟩
abbrev MPR_TRIG_HYST (i : Nat) : Fld := ⟨0x200108 + i * 0x10, 0, 32⟩
abbrev MPR_TRIG_COUNT (i : Nat) : Fld := ⟨0x20010C + i * 0x10, 0, 32⟩
abbrev MPR_SV_CFG (i : Nat) : Fld := ⟨0x200400 + i * 0x20, 0, 32⟩
abbrev MPR_SV_CFG_ROUTABLE (i : Nat) : Fld := ⟨0x200400 + i * 0x20, 10, 1⟩
abbrev MPR_SV_CFG_TEST (i : Nat) : Fld := ⟨0x200400 + i * 0x20, 9, 1⟩
abbrev MPR_SV_CFG_EN (i : Nat) : Fld := ⟨0x200400 + i * 0x20, 8, 1⟩
abbrev MPR_SV_CFG_PORTS (i : Nat) : Fld := ⟨0x200400 + i * 0x20, 2, 6⟩
abbrev MPR_SV_CFG_KIND (i : Nat) : Fld := ⟨0x200400 + i * 0x20, 0, 2⟩
abbrev MPR_SV_CH_LO (i : Nat) : Fld := ⟨0x200404 + i * 0x20, 0, 32⟩
abbrev MPR_SV_CH_HI (i : Nat) : Fld := ⟨0x200408 + i * 0x20, 0, 32⟩
abbrev MPR_SV_CONFREV (i : Nat) : Fld := ⟨0x20040C + i * 0x20, 0, 32⟩
abbrev MPR_SV_SMPCNT (i : Nat) : Fld := ⟨0x200410 + i * 0x20, 0, 32⟩
abbrev MPR_SV_TX (i : Nat) : Fld := ⟨0x200414 + i * 0x20, 0, 32⟩
abbrev MPR_GOOSE_CFG (i : Nat) : Fld := ⟨0x200C00 + i * 0x20, 0, 32⟩
abbrev MPR_GOOSE_CFG_LIST_IDX (i : Nat) : Fld := ⟨0x200C00 + i * 0x20, 14, 13⟩
abbrev MPR_GOOSE_CFG_N_ENT (i : Nat) : Fld := ⟨0x200C00 + i * 0x20, 8, 6⟩
abbrev MPR_GOOSE_CFG_PORTS (i : Nat) : Fld := ⟨0x200C00 + i * 0x20, 2, 6⟩
abbrev MPR_GOOSE_CFG_ROUTABLE (i : Nat) : Fld := ⟨0x200C00 + i * 0x20, 1, 1⟩
abbrev MPR_GOOSE_CFG_EN (i : Nat) : Fld := ⟨0x200C00 + i * 0x20, 0, 1⟩
abbrev MPR_GOOSE_TIMING (i : Nat) : Fld := ⟨0x200C04 + i * 0x20, 0, 32⟩
abbrev MPR_GOOSE_TIMING_T_MAX (i : Nat) : Fld := ⟨0x200C04 + i * 0x20, 16, 16⟩
abbrev MPR_GOOSE_TIMING_T_MIN (i : Nat) : Fld := ⟨0x200C04 + i * 0x20, 0, 16⟩
abbrev MPR_GOOSE_DEADBAND (i : Nat) : Fld := ⟨0x200C08 + i * 0x20, 0, 32⟩
abbrev MPR_GOOSE_CONFREV (i : Nat) : Fld := ⟨0x200C0C + i * 0x20, 0, 32⟩
abbrev MPR_GOOSE_STNUM (i : Nat) : Fld := ⟨0x200C10 + i * 0x20, 0, 32⟩
abbrev MPR_GOOSE_SQNUM (i : Nat) : Fld := ⟨0x200C14 + i * 0x20, 0, 32⟩
abbrev MPR_GOOSE_TX (i : Nat) : Fld := ⟨0x200C18 + i * 0x20, 0, 32⟩
abbrev MPR_C37_CFG (i : Nat) : Fld := ⟨0x202000 + i * 0x40, 0, 32⟩
abbrev MPR_C37_CFG_LIST_IDX (i : Nat) : Fld := ⟨0x202000 + i * 0x40, 19, 13⟩
abbrev MPR_C37_CFG_N_ANALOG (i : Nat) : Fld := ⟨0x202000 + i * 0x40, 12, 5⟩
abbrev MPR_C37_CFG_N_PHASOR_M1 (i : Nat) : Fld := ⟨0x202000 + i * 0x40, 6, 6⟩
abbrev MPR_C37_CFG_DIGITAL (i : Nat) : Fld := ⟨0x202000 + i * 0x40, 4, 1⟩
abbrev MPR_C37_CFG_POLAR (i : Nat) : Fld := ⟨0x202000 + i * 0x40, 3, 1⟩
abbrev MPR_C37_CFG_TEST (i : Nat) : Fld := ⟨0x202000 + i * 0x40, 2, 1⟩
abbrev MPR_C37_CFG_EN (i : Nat) : Fld := ⟨0x202000 + i * 0x40, 0, 1⟩
abbrev MPR_C37_IDCODE (i : Nat) : Fld := ⟨0x202004 + i * 0x40, 0, 32⟩
abbrev MPR_C37_IDCODE_IDCODE (i : Nat) : Fld := ⟨0x202004 + i * 0x40, 0, 16⟩
abbrev MPR_C37_STAT (i : Nat) : Fld := ⟨0x202008 + i * 0x40, 0, 32⟩
abbrev MPR_C37_STAT_VALUE (i : Nat) : Fld := ⟨0x202008 + i * 0x40, 0, 16⟩
abbrev MPR_C37_CFG_CNT (i : Nat) : Fld := ⟨0x20200C + i * 0x40, 0, 32⟩
abbrev MPR_C37_CFG_CNT_VALUE (i : Nat) : Fld := ⟨0x20200C + i * 0x40, 0, 16⟩
abbrev MPR_C37_TX (i : Nat) : Fld := ⟨0x202010 + i * 0x40, 0, 32⟩
abbrev MPR_HPUB_CFG (i : Nat) : Fld := ⟨0x202800 + i * 0x10, 0, 32⟩
abbrev MPR_HPUB_CFG_EN (i : Nat) : Fld := ⟨0x202800 + i * 0x10, 31, 1⟩
abbrev MPR_HPUB_CFG_RESULT_EN (i : Nat) : Fld := ⟨0x202800 + i * 0x10, 30, 1⟩
abbrev MPR_HPUB_CFG_N (i : Nat) : Fld := ⟨0x202800 + i * 0x10, 16, 14⟩
abbrev MPR_HPUB_CFG_DIV (i : Nat) : Fld := ⟨0x202800 + i * 0x10, 0, 16⟩
abbrev MPR_HPUB_LIST (i : Nat) : Fld := ⟨0x202804 + i * 0x10, 0, 32⟩
abbrev MPR_HPUB_LIST_LIST_IDX (i : Nat) : Fld := ⟨0x202804 + i * 0x10, 0, 13⟩
abbrev MPR_HPUB_TX (i : Nat) : Fld := ⟨0x202808 + i * 0x10, 0, 32⟩
abbrev MPR_FLOC_ITEMS_DA (i : Nat) : Fld := ⟨0x203800 + i * 0x40, 0, 32⟩
abbrev MPR_FLOC_ITEMS_DA_A_ITEM (i : Nat) : Fld := ⟨0x203800 + i * 0x40, 16, 16⟩
abbrev MPR_FLOC_ITEMS_DA_D_ITEM (i : Nat) : Fld := ⟨0x203800 + i * 0x40, 0, 16⟩
abbrev MPR_FLOC_ITEM_Z (i : Nat) : Fld := ⟨0x203804 + i * 0x40, 0, 32⟩
abbrev MPR_FLOC_ITEM_Z_WINDOW_MS (i : Nat) : Fld := ⟨0x203804 + i * 0x40, 16, 16⟩
abbrev MPR_FLOC_ITEM_Z_Z_ITEM (i : Nat) : Fld := ⟨0x203804 + i * 0x40, 0, 16⟩
abbrev MPR_FLOC_RESULT (i j : Nat) : Fld := ⟨0x203820 + i * 0x40 + j * 4, 0, 32⟩
abbrev MPR_DR_LIST (i : Nat) : Fld := ⟨0x203A00 + i * 4, 0, 32⟩
abbrev MPR_DR_LIST_ENTRY1 (i : Nat) : Fld := ⟨0x203A00 + i * 4, 16, 16⟩
abbrev MPR_DR_LIST_ENTRY0 (i : Nat) : Fld := ⟨0x203A00 + i * 4, 0, 16⟩
abbrev MPR_TMPL (i j : Nat) : Fld := ⟨0x210000 + i * 0x80 + j * 4, 0, 32⟩
abbrev MPR_LIST (i : Nat) : Fld := ⟨0x220000 + i * 4, 0, 32⟩
abbrev MPR_LIST_ENTRY1 (i : Nat) : Fld := ⟨0x220000 + i * 4, 16, 16⟩
abbrev MPR_LIST_ENTRY0 (i : Nat) : Fld := ⟨0x220000 + i * 4, 0, 16⟩
abbrev MPR_PROD_VALUE (i j : Nat) : Fld := ⟨0x240000 + i * 0x10000 + j * 8, 0, 32⟩
abbrev MPR_PROD_QUAL (i j : Nat) : Fld := ⟨0x240004 + i * 0x10000 + j * 8, 0, 32⟩

/-! ### MRG -/

abbrev MRG_CTRL : Fld := ⟨0x280000, 0, 32⟩
abbrev MRG_CTRL_MASTER_OK : Fld := ⟨0x280000, 0, 1⟩
abbrev MRG_CFG : Fld := ⟨0x280004, 0, 32⟩
abbrev MRG_CFG_RING_ID : Fld := ⟨0x280004, 16, 16⟩
abbrev MRG_CFG_D : Fld := ⟨0x280004, 8, 4⟩
abbrev MRG_CFG_NODE_ID : Fld := ⟨0x280004, 0, 4⟩
abbrev MRG_MEMBER : Fld := ⟨0x280008, 0, 32⟩
abbrev MRG_MEMBER_MASK : Fld := ⟨0x280008, 0, 16⟩
abbrev MRG_STATUS : Fld := ⟨0x28000C, 0, 32⟩
abbrev MRG_STATUS_REACH : Fld := ⟨0x28000C, 16, 16⟩
abbrev MRG_STATUS_MASTER_ID : Fld := ⟨0x28000C, 8, 4⟩
abbrev MRG_STATUS_UNWRAP_PEND : Fld := ⟨0x28000C, 7, 1⟩
abbrev MRG_STATUS_SEGMENTED : Fld := ⟨0x28000C, 6, 1⟩
abbrev MRG_STATUS_WRAP : Fld := ⟨0x28000C, 4, 2⟩
abbrev MRG_STATUS_TIME_SUSPECT : Fld := ⟨0x28000C, 3, 1⟩
abbrev MRG_STATUS_MASTER : Fld := ⟨0x28000C, 2, 1⟩
abbrev MRG_STATUS_STATE : Fld := ⟨0x28000C, 0, 2⟩
abbrev MRG_RING_OFS : Fld := ⟨0x280010, 0, 32⟩
abbrev MRG_PHASE_THR : Fld := ⟨0x280014, 0, 32⟩
abbrev MRG_PHASE_THR_NS : Fld := ⟨0x280014, 0, 16⟩
abbrev MRG_DLY_JUMP : Fld := ⟨0x280018, 0, 32⟩
abbrev MRG_DLY_JUMP_NS : Fld := ⟨0x280018, 0, 16⟩
abbrev MRG_CONTRIB : Fld := ⟨0x28001C, 0, 32⟩
abbrev MRG_CONTRIB_N : Fld := ⟨0x28001C, 0, 7⟩
abbrev MRG_RES_SEC : Fld := ⟨0x280020, 0, 32⟩
abbrev MRG_RES_INSEC : Fld := ⟨0x280024, 0, 32⟩
abbrev MRG_RES_INSEC_VALUE : Fld := ⟨0x280024, 0, 15⟩
abbrev MRG_MISSING : Fld := ⟨0x280028, 0, 32⟩
abbrev MRG_MISSING_DEGRADED : Fld := ⟨0x280028, 17, 1⟩
abbrev MRG_MISSING_PARTIAL : Fld := ⟨0x280028, 16, 1⟩
abbrev MRG_MISSING_MISSING : Fld := ⟨0x280028, 0, 16⟩
abbrev MRG_PARTIAL_CNT : Fld := ⟨0x280030, 0, 32⟩
abbrev MRG_DEGRADED_CNT : Fld := ⟨0x280034, 0, 32⟩
abbrev MRG_LATE_CNT : Fld := ⟨0x280038, 0, 32⟩
abbrev MRG_ELECT_CNT : Fld := ⟨0x28003C, 0, 32⟩
abbrev MRG_FOREIGN_CNT : Fld := ⟨0x280040, 0, 32⟩
abbrev MRG_MISMATCH_CNT : Fld := ⟨0x280044, 0, 32⟩
abbrev MRG_LINK_LSTATUS (i : Nat) : Fld := ⟨0x280100 + i * 0x40, 0, 32⟩
abbrev MRG_LINK_LSTATUS_CLEAN (i : Nat) : Fld := ⟨0x280100 + i * 0x40, 16, 16⟩
abbrev MRG_LINK_LSTATUS_NBR_ID (i : Nat) : Fld := ⟨0x280100 + i * 0x40, 8, 4⟩
abbrev MRG_LINK_LSTATUS_STATE (i : Nat) : Fld := ⟨0x280100 + i * 0x40, 0, 2⟩
abbrev MRG_LINK_DELAY (i : Nat) : Fld := ⟨0x280104 + i * 0x40, 0, 32⟩
abbrev MRG_LINK_OFFSET (i : Nat) : Fld := ⟨0x280108 + i * 0x40, 0, 32⟩
abbrev MRG_LINK_ASYM (i : Nat) : Fld := ⟨0x28010C + i * 0x40, 0, 32⟩
abbrev MRG_LINK_CRC_ERR (i : Nat) : Fld := ⟨0x280110 + i * 0x40, 0, 32⟩
abbrev MRG_LINK_RESEND (i : Nat) : Fld := ⟨0x280114 + i * 0x40, 0, 32⟩
abbrev MRG_LINK_LOSS_CNT (i : Nat) : Fld := ⟨0x280118 + i * 0x40, 0, 32⟩
abbrev MRG_LIST (i : Nat) : Fld := ⟨0x280200 + i * 4, 0, 32⟩
abbrev MRG_LIST_ENTRY1 (i : Nat) : Fld := ⟨0x280200 + i * 4, 16, 16⟩
abbrev MRG_LIST_ENTRY0 (i : Nat) : Fld := ⟨0x280200 + i * 4, 0, 16⟩
abbrev MRG_RESULT (i j : Nat) : Fld := ⟨0x290000 + i * 0x400 + j * 4, 0, 32⟩

/-! ### PKT -/

abbrev PKT_CTRL : Fld := ⟨0x300000, 0, 32⟩
abbrev PKT_CTRL_LEARN_EN : Fld := ⟨0x300000, 0, 1⟩
abbrev PKT_STATUS : Fld := ⟨0x300004, 0, 32⟩
abbrev PKT_STATUS_LINK : Fld := ⟨0x300004, 8, 6⟩
abbrev PKT_STATUS_STATE : Fld := ⟨0x300004, 0, 2⟩
abbrev PKT_FDB_AGE : Fld := ⟨0x300008, 0, 32⟩
abbrev PKT_FDB_AGE_SEC : Fld := ⟨0x300008, 0, 20⟩
abbrev PKT_FDB_COUNT : Fld := ⟨0x30000C, 0, 32⟩
abbrev PKT_FDB_CMD : Fld := ⟨0x300010, 0, 32⟩
abbrev PKT_FDB_CMD_VID : Fld := ⟨0x300010, 16, 12⟩
abbrev PKT_FDB_CMD_PORT : Fld := ⟨0x300010, 8, 4⟩
abbrev PKT_FDB_CMD_CMD : Fld := ⟨0x300010, 0, 4⟩
abbrev PKT_FDB_LEARN_FAIL : Fld := ⟨0x300014, 0, 32⟩
abbrev PKT_MAX_FRAME : Fld := ⟨0x300018, 0, 32⟩
abbrev PKT_MAX_FRAME_BYTES : Fld := ⟨0x300018, 0, 14⟩
abbrev PKT_PAUSE_MAX_HOLD : Fld := ⟨0x30001C, 0, 32⟩
abbrev PKT_PAUSE_MAX_HOLD_US : Fld := ⟨0x30001C, 0, 14⟩
abbrev PKT_TC_PROT : Fld := ⟨0x300020, 0, 32⟩
abbrev PKT_TC_PROT_MASK : Fld := ⟨0x300020, 0, 8⟩
abbrev PKT_MAC_LO : Fld := ⟨0x300024, 0, 32⟩
abbrev PKT_MAC_HI : Fld := ⟨0x300028, 0, 32⟩
abbrev PKT_MAC_HI_MAC : Fld := ⟨0x300028, 0, 16⟩
abbrev PKT_PORT_PCFG (i : Nat) : Fld := ⟨0x300100 + i * 0x10, 0, 32⟩
abbrev PKT_PORT_PCFG_PVID (i : Nat) : Fld := ⟨0x300100 + i * 0x10, 16, 12⟩
abbrev PKT_PORT_PCFG_DEF_PCP (i : Nat) : Fld := ⟨0x300100 + i * 0x10, 13, 3⟩
abbrev PKT_PORT_PCFG_FEC (i : Nat) : Fld := ⟨0x300100 + i * 0x10, 4, 2⟩
abbrev PKT_PORT_PCFG_SPEED (i : Nat) : Fld := ⟨0x300100 + i * 0x10, 2, 2⟩
abbrev PKT_PORT_PCFG_PAUSE_RX (i : Nat) : Fld := ⟨0x300100 + i * 0x10, 1, 1⟩
abbrev PKT_PORT_PCFG_EN (i : Nat) : Fld := ⟨0x300100 + i * 0x10, 0, 1⟩
abbrev PKT_PORT_PSTATUS (i : Nat) : Fld := ⟨0x300104 + i * 0x10, 0, 32⟩
abbrev PKT_PORT_PSTATUS_LINK (i : Nat) : Fld := ⟨0x300104 + i * 0x10, 0, 2⟩
abbrev PKT_PORT_PCP_TC (i : Nat) : Fld := ⟨0x300108 + i * 0x10, 0, 32⟩
abbrev PKT_PORT_PCP_TC_MAP (i : Nat) : Fld := ⟨0x300108 + i * 0x10, 0, 24⟩
abbrev PKT_POL_RATE (i j : Nat) : Fld := ⟨0x300400 + i * 0x40 + j * 8, 0, 32⟩
abbrev PKT_POL_BURST (i j : Nat) : Fld := ⟨0x300404 + i * 0x40 + j * 8, 0, 32⟩
abbrev PKT_POL_BURST_BYTES (i j : Nat) : Fld := ⟨0x300404 + i * 0x40 + j * 8, 0, 24⟩
abbrev PKT_TEN_POL_RATE (i : Nat) : Fld := ⟨0x300800 + i * 8, 0, 32⟩
abbrev PKT_TEN_POL_BURST (i : Nat) : Fld := ⟨0x300804 + i * 8, 0, 32⟩
abbrev PKT_TEN_POL_BURST_BYTES (i : Nat) : Fld := ⟨0x300804 + i * 8, 0, 24⟩
abbrev PKT_CNT (i j : Nat) : Fld := ⟨0x301000 + i * 0x100 + j * 4, 0, 32⟩
abbrev PKT_CNT_DROP_POL (i j : Nat) : Fld := ⟨0x301020 + i * 0x100 + j * 4, 0, 32⟩
abbrev PKT_CNT_DROP_TAIL (i j : Nat) : Fld := ⟨0x301040 + i * 0x100 + j * 4, 0, 32⟩
abbrev PKT_VLAN_W0 (i : Nat) : Fld := ⟨0x310000 + i * 8, 0, 32⟩
abbrev PKT_VLAN_W0_UNTAG (i : Nat) : Fld := ⟨0x310000 + i * 8, 16, 10⟩
abbrev PKT_VLAN_W0_MEMBER (i : Nat) : Fld := ⟨0x310000 + i * 8, 0, 10⟩
abbrev PKT_VLAN_W1 (i : Nat) : Fld := ⟨0x310004 + i * 8, 0, 32⟩
abbrev PKT_VLAN_W1_NO_LEARN (i : Nat) : Fld := ⟨0x310004 + i * 8, 16, 1⟩
abbrev PKT_VLAN_W1_FID (i : Nat) : Fld := ⟨0x310004 + i * 8, 0, 12⟩
abbrev PKT_FDB_ST_W0 (i : Nat) : Fld := ⟨0x320000 + i * 0x10, 0, 32⟩
abbrev PKT_FDB_ST_W1 (i : Nat) : Fld := ⟨0x320004 + i * 0x10, 0, 32⟩
abbrev PKT_FDB_ST_W1_VALID (i : Nat) : Fld := ⟨0x320004 + i * 0x10, 31, 1⟩
abbrev PKT_FDB_ST_W1_VID (i : Nat) : Fld := ⟨0x320004 + i * 0x10, 16, 12⟩
abbrev PKT_FDB_ST_W1_MAC_HI (i : Nat) : Fld := ⟨0x320004 + i * 0x10, 0, 16⟩
abbrev PKT_FDB_ST_W2 (i : Nat) : Fld := ⟨0x320008 + i * 0x10, 0, 32⟩
abbrev PKT_FDB_ST_W2_TC_EN (i : Nat) : Fld := ⟨0x320008 + i * 0x10, 20, 1⟩
abbrev PKT_FDB_ST_W2_TC (i : Nat) : Fld := ⟨0x320008 + i * 0x10, 16, 3⟩
abbrev PKT_FDB_ST_W2_PORTS (i : Nat) : Fld := ⟨0x320008 + i * 0x10, 0, 10⟩
abbrev PKT_GCL (i j : Nat) : Fld := ⟨0x330000 + i * 0x400 + j * 4, 0, 32⟩
abbrev PKT_GCL_DUR_M1 (i j : Nat) : Fld := ⟨0x330000 + i * 0x400 + j * 4, 8, 13⟩
abbrev PKT_GCL_GATES (i j : Nat) : Fld := ⟨0x330000 + i * 0x400 + j * 4, 0, 8⟩
abbrev PKT_GCFG_LEN (i : Nat) : Fld := ⟨0x332000 + i * 0x10, 0, 32⟩
abbrev PKT_GCFG_LEN_MULT (i : Nat) : Fld := ⟨0x332000 + i * 0x10, 16, 5⟩
abbrev PKT_GCFG_LEN_LEN (i : Nat) : Fld := ⟨0x332000 + i * 0x10, 0, 9⟩
abbrev PKT_GCFG_CUR (i : Nat) : Fld := ⟨0x332004 + i * 0x10, 0, 32⟩
abbrev PKT_GCFG_CUR_CUR (i : Nat) : Fld := ⟨0x332004 + i * 0x10, 0, 8⟩
abbrev PKT_SF_MAC_LO (i : Nat) : Fld := ⟨0x340000 + i * 0x20, 0, 32⟩
abbrev PKT_SF_MATCH (i : Nat) : Fld := ⟨0x340004 + i * 0x20, 0, 32⟩
abbrev PKT_SF_MATCH_EN (i : Nat) : Fld := ⟨0x340004 + i * 0x20, 31, 1⟩
abbrev PKT_SF_MATCH_SRC (i : Nat) : Fld := ⟨0x340004 + i * 0x20, 28, 1⟩
abbrev PKT_SF_MATCH_VID (i : Nat) : Fld := ⟨0x340004 + i * 0x20, 16, 12⟩
abbrev PKT_SF_MATCH_MAC_HI (i : Nat) : Fld := ⟨0x340004 + i * 0x20, 0, 16⟩
abbrev PKT_SF_PORTS (i : Nat) : Fld := ⟨0x340008 + i * 0x20, 0, 32⟩
abbrev PKT_SF_PORTS_PCP_MASK (i : Nat) : Fld := ⟨0x340008 + i * 0x20, 16, 8⟩
abbrev PKT_SF_PORTS_PORTS (i : Nat) : Fld := ⟨0x340008 + i * 0x20, 0, 10⟩
abbrev PKT_SF_CTL (i : Nat) : Fld := ⟨0x34000C + i * 0x20, 0, 32⟩
abbrev PKT_SF_CTL_TC_EN (i : Nat) : Fld := ⟨0x34000C + i * 0x20, 27, 1⟩
abbrev PKT_SF_CTL_TC (i : Nat) : Fld := ⟨0x34000C + i * 0x20, 24, 3⟩
abbrev PKT_SF_CTL_BLOCKED (i : Nat) : Fld := ⟨0x34000C + i * 0x20, 17, 1⟩
abbrev PKT_SF_CTL_BLOCK_EN (i : Nat) : Fld := ⟨0x34000C + i * 0x20, 16, 1⟩
abbrev PKT_SF_CTL_MAX_SDU (i : Nat) : Fld := ⟨0x34000C + i * 0x20, 0, 16⟩
abbrev PKT_SF_CIR (i : Nat) : Fld := ⟨0x340010 + i * 0x20, 0, 32⟩
abbrev PKT_SF_CBS (i : Nat) : Fld := ⟨0x340014 + i * 0x20, 0, 32⟩
abbrev PKT_SF_FRER (i : Nat) : Fld := ⟨0x340018 + i * 0x20, 0, 32⟩
abbrev PKT_SF_FRER_GEN (i : Nat) : Fld := ⟨0x340018 + i * 0x20, 16, 10⟩
abbrev PKT_SF_FRER_REC (i : Nat) : Fld := ⟨0x340018 + i * 0x20, 0, 10⟩
abbrev PKT_SF_DROPPED (i : Nat) : Fld := ⟨0x34001C + i * 0x20, 0, 32⟩
abbrev PKT_FRER_REC_CFG (i : Nat) : Fld := ⟨0x350000 + i * 0x20, 0, 32⟩
abbrev PKT_FRER_REC_CFG_RESET_MS (i : Nat) : Fld := ⟨0x350000 + i * 0x20, 16, 16⟩
abbrev PKT_FRER_REC_CFG_HISTORY (i : Nat) : Fld := ⟨0x350000 + i * 0x20, 8, 7⟩
abbrev PKT_FRER_REC_CFG_ALG (i : Nat) : Fld := ⟨0x350000 + i * 0x20, 1, 1⟩
abbrev PKT_FRER_REC_CFG_EN (i : Nat) : Fld := ⟨0x350000 + i * 0x20, 0, 1⟩
abbrev PKT_FRER_REC_PASSED (i : Nat) : Fld := ⟨0x350004 + i * 0x20, 0, 32⟩
abbrev PKT_FRER_REC_DISCARDED (i : Nat) : Fld := ⟨0x350008 + i * 0x20, 0, 32⟩
abbrev PKT_FRER_REC_OOO (i : Nat) : Fld := ⟨0x35000C + i * 0x20, 0, 32⟩
abbrev PKT_FRER_REC_RESETS (i : Nat) : Fld := ⟨0x350010 + i * 0x20, 0, 32⟩
abbrev PKT_FRER_GEN_CFG (i : Nat) : Fld := ⟨0x354000 + i * 0x10, 0, 32⟩
abbrev PKT_FRER_GEN_CFG_EN (i : Nat) : Fld := ⟨0x354000 + i * 0x10, 0, 1⟩
abbrev PKT_FRER_GEN_SEQ (i : Nat) : Fld := ⟨0x354004 + i * 0x10, 0, 32⟩
abbrev PKT_FRER_GEN_SEQ_NEXT (i : Nat) : Fld := ⟨0x354004 + i * 0x10, 0, 16⟩
abbrev PKT_RED_RCFG (i : Nat) : Fld := ⟨0x360000 + i * 0x40, 0, 32⟩
abbrev PKT_RED_RCFG_ENTRY_FORGET (i : Nat) : Fld := ⟨0x360000 + i * 0x40, 16, 16⟩
abbrev PKT_RED_RCFG_REDBOX (i : Nat) : Fld := ⟨0x360000 + i * 0x40, 2, 1⟩
abbrev PKT_RED_RCFG_MODE (i : Nat) : Fld := ⟨0x360000 + i * 0x40, 0, 2⟩
abbrev PKT_RED_RSTATUS (i : Nat) : Fld := ⟨0x360004 + i * 0x40, 0, 32⟩
abbrev PKT_RED_RSTATUS_B_UP (i : Nat) : Fld := ⟨0x360004 + i * 0x40, 1, 1⟩
abbrev PKT_RED_RSTATUS_A_UP (i : Nat) : Fld := ⟨0x360004 + i * 0x40, 0, 1⟩
abbrev PKT_RED_DUP_DISC (i : Nat) : Fld := ⟨0x360008 + i * 0x40, 0, 32⟩
abbrev PKT_RED_WRONG_LAN (i : Nat) : Fld := ⟨0x36000C + i * 0x40, 0, 32⟩
abbrev PKT_RED_ERR_A (i : Nat) : Fld := ⟨0x360010 + i * 0x40, 0, 32⟩
abbrev PKT_RED_ERR_B (i : Nat) : Fld := ⟨0x360014 + i * 0x40, 0, 32⟩

/-! ### SLO -/

abbrev SLO_STATUS : Fld := ⟨0x400000, 0, 32⟩
abbrev SLO_STATUS_FREE : Fld := ⟨0x400000, 0, 18⟩
abbrev SLO_PROT_RSV : Fld := ⟨0x400004, 0, 32⟩
abbrev SLO_PROT_RSV_CELLS : Fld := ⟨0x400004, 0, 18⟩
abbrev SLO_PROT_USED : Fld := ⟨0x400008, 0, 32⟩
abbrev SLO_PROT_USED_CELLS : Fld := ⟨0x400008, 0, 18⟩
abbrev SLO_RETIRED : Fld := ⟨0x40000C, 0, 32⟩
abbrev SLO_RETIRED_CELLS : Fld := ⟨0x40000C, 0, 18⟩
abbrev SLO_CORR : Fld := ⟨0x400010, 0, 32⟩
abbrev SLO_HOLD_AGE : Fld := ⟨0x400014, 0, 32⟩
abbrev SLO_HOLD_AGE_MS : Fld := ⟨0x400014, 0, 16⟩
abbrev SLO_HOLD_RECLAIMED : Fld := ⟨0x400018, 0, 32⟩
abbrev SLO_ACCT_GUAR (i : Nat) : Fld := ⟨0x400100 + i * 0x10, 0, 32⟩
abbrev SLO_ACCT_GUAR_CELLS (i : Nat) : Fld := ⟨0x400100 + i * 0x10, 0, 18⟩
abbrev SLO_ACCT_MAX (i : Nat) : Fld := ⟨0x400104 + i * 0x10, 0, 32⟩
abbrev SLO_ACCT_MAX_CELLS (i : Nat) : Fld := ⟨0x400104 + i * 0x10, 0, 18⟩
abbrev SLO_ACCT_USED (i : Nat) : Fld := ⟨0x400108 + i * 0x10, 0, 32⟩
abbrev SLO_ACCT_USED_CELLS (i : Nat) : Fld := ⟨0x400108 + i * 0x10, 0, 18⟩
abbrev SLO_ACCT_DROP (i : Nat) : Fld := ⟨0x40010C + i * 0x10, 0, 32⟩
abbrev SLO_TEN_HELD (i : Nat) : Fld := ⟨0x401000 + i * 0x10, 0, 32⟩
abbrev SLO_TEN_HELD_CELLS (i : Nat) : Fld := ⟨0x401000 + i * 0x10, 0, 18⟩
abbrev SLO_TEN_REL_OK (i : Nat) : Fld := ⟨0x401004 + i * 0x10, 0, 32⟩
abbrev SLO_TEN_REL_REJ (i : Nat) : Fld := ⟨0x401008 + i * 0x10, 0, 32⟩
abbrev SLO_TEN_AGED (i : Nat) : Fld := ⟨0x40100C + i * 0x10, 0, 32⟩

/-! ### TUN -/

abbrev TUN_CTRL : Fld := ⟨0x480000, 0, 32⟩
abbrev TUN_CTRL_V6_ZCSUM_OK : Fld := ⟨0x480000, 16, 1⟩
abbrev TUN_CTRL_VXLAN_PORT : Fld := ⟨0x480000, 0, 16⟩
abbrev TUN_NO_EP : Fld := ⟨0x480010, 0, 32⟩
abbrev TUN_OVERSIZE : Fld := ⟨0x480014, 0, 32⟩
abbrev TUN_BAD_HDR : Fld := ⟨0x480018, 0, 32⟩
abbrev TUN_WRONG_SRC : Fld := ⟨0x48001C, 0, 32⟩
abbrev TUN_BAD_CFG : Fld := ⟨0x480020, 0, 32⟩
abbrev TUN_LOCAL_ADDR (i j : Nat) : Fld := ⟨0x480100 + i * 0x20 + j * 4, 0, 32⟩
abbrev TUN_LOCAL_LCFG (i : Nat) : Fld := ⟨0x480110 + i * 0x20, 0, 32⟩
abbrev TUN_LOCAL_LCFG_AF (i : Nat) : Fld := ⟨0x480110 + i * 0x20, 1, 1⟩
abbrev TUN_LOCAL_LCFG_VALID (i : Nat) : Fld := ⟨0x480110 + i * 0x20, 0, 1⟩
abbrev TUN_NH_MAC_LO (i : Nat) : Fld := ⟨0x480400 + i * 0x10, 0, 32⟩
abbrev TUN_NH_VID_MAC (i : Nat) : Fld := ⟨0x480404 + i * 0x10, 0, 32⟩
abbrev TUN_NH_VID_MAC_VID (i : Nat) : Fld := ⟨0x480404 + i * 0x10, 16, 12⟩
abbrev TUN_NH_VID_MAC_MAC_HI (i : Nat) : Fld := ⟨0x480404 + i * 0x10, 0, 16⟩
abbrev TUN_NH_LSP (i : Nat) : Fld := ⟨0x480408 + i * 0x10, 0, 32⟩
abbrev TUN_NH_LSP_LSP_EN (i : Nat) : Fld := ⟨0x480408 + i * 0x10, 31, 1⟩
abbrev TUN_NH_LSP_LSP_LABEL (i : Nat) : Fld := ⟨0x480408 + i * 0x10, 8, 20⟩
abbrev TUN_TEN_BASE (i : Nat) : Fld := ⟨0x482000 + i * 0x10, 0, 32⟩
abbrev TUN_TEN_BASE_BASE (i : Nat) : Fld := ⟨0x482000 + i * 0x10, 0, 13⟩
abbrev TUN_TEN_COUNT (i : Nat) : Fld := ⟨0x482004 + i * 0x10, 0, 32⟩
abbrev TUN_TEN_COUNT_COUNT (i : Nat) : Fld := ⟨0x482004 + i * 0x10, 0, 14⟩
abbrev TUN_TEN_REFUSED (i : Nat) : Fld := ⟨0x482008 + i * 0x10, 0, 32⟩
abbrev TUN_EP_CFG (i j : Nat) : Fld := ⟨0x490000 + i * 0x10000 + j * 0x10, 0, 32⟩
abbrev TUN_EP_CFG_EN (i j : Nat) : Fld := ⟨0x490000 + i * 0x10000 + j * 0x10, 31, 1⟩
abbrev TUN_EP_CFG_TYPE (i j : Nat) : Fld := ⟨0x490000 + i * 0x10000 + j * 0x10, 28, 3⟩
abbrev TUN_EP_CFG_AF (i j : Nat) : Fld := ⟨0x490000 + i * 0x10000 + j * 0x10, 27, 1⟩
abbrev TUN_EP_CFG_CW (i j : Nat) : Fld := ⟨0x490000 + i * 0x10000 + j * 0x10, 26, 1⟩
abbrev TUN_EP_CFG_ANY_SRC (i j : Nat) : Fld := ⟨0x490000 + i * 0x10000 + j * 0x10, 25, 1⟩
abbrev TUN_EP_CFG_NH (i j : Nat) : Fld := ⟨0x490000 + i * 0x10000 + j * 0x10, 17, 8⟩
abbrev TUN_EP_CFG_LOCAL (i j : Nat) : Fld := ⟨0x490000 + i * 0x10000 + j * 0x10, 13, 4⟩
abbrev TUN_EP_ID (i j : Nat) : Fld := ⟨0x490004 + i * 0x10000 + j * 0x10, 0, 32⟩
abbrev TUN_EP_RADDR (i j : Nat) : Fld := ⟨0x490008 + i * 0x10000 + j * 0x10, 0, 32⟩
abbrev TUN_EP_OPT (i j : Nat) : Fld := ⟨0x49000C + i * 0x10000 + j * 0x10, 0, 32⟩
abbrev TUN_EP_OPT_TTL (i j : Nat) : Fld := ⟨0x49000C + i * 0x10000 + j * 0x10, 24, 8⟩
abbrev TUN_EP_OPT_DSCP (i j : Nat) : Fld := ⟨0x49000C + i * 0x10000 + j * 0x10, 18, 6⟩
abbrev TUN_EP_OPT_SA_EN (i j : Nat) : Fld := ⟨0x49000C + i * 0x10000 + j * 0x10, 14, 1⟩
abbrev TUN_EP_OPT_SA (i j : Nat) : Fld := ⟨0x49000C + i * 0x10000 + j * 0x10, 0, 14⟩

/-! ### CRY -/

abbrev CRY_STATUS : Fld := ⟨0x500004, 0, 32⟩
abbrev CRY_STATUS_LOADED : Fld := ⟨0x500004, 0, 15⟩
abbrev CRY_KEY_WR (n : Ident) (i : Nat) : Fld := ⟨initKey n (0x500010 + i * 4), 0, 32⟩
abbrev CRY_KEY_CMD : Fld := ⟨0x500040, 0, 32⟩
abbrev CRY_KEY_CMD_OP : Fld := ⟨0x500040, 28, 2⟩
abbrev CRY_KEY_CMD_TYPE : Fld := ⟨0x500040, 24, 4⟩
abbrev CRY_KEY_CMD_SLOT : Fld := ⟨0x500040, 0, 14⟩
abbrev CRY_KEY_RESULT (n : Ident) : Fld := ⟨initKey n 0x500044, 0, 32⟩
abbrev CRY_KEY_RESULT_KCV (n : Ident) : Fld := ⟨initKey n 0x500044, 8, 24⟩
abbrev CRY_KEY_RESULT_CODE (n : Ident) : Fld := ⟨initKey n 0x500044, 0, 4⟩
abbrev CRY_SA_SEL (n : Ident) : Fld := ⟨initKey n 0x500050, 0, 32⟩
abbrev CRY_SA_SEL_INDEX (n : Ident) : Fld := ⟨initKey n 0x500050, 0, 14⟩
abbrev CRY_SA_CMD : Fld := ⟨0x500054, 0, 32⟩
abbrev CRY_SA_CMD_CMD : Fld := ⟨0x500054, 0, 2⟩
abbrev CRY_NOKEY : Fld := ⟨0x500060, 0, 32⟩
abbrev CRY_ESP_NOSA : Fld := ⟨0x500064, 0, 32⟩
abbrev CRY_ESP_DROP : Fld := ⟨0x500068, 0, 32⟩
abbrev CRY_SA_WIN_W0 (n : Ident) : Fld := ⟨initKey n 0x500080, 0, 32⟩
abbrev CRY_SA_WIN_W0_EN (n : Ident) : Fld := ⟨initKey n 0x500080, 31, 1⟩
abbrev CRY_SA_WIN_W0_DIR (n : Ident) : Fld := ⟨initKey n 0x500080, 30, 1⟩
abbrev CRY_SA_WIN_W0_AF (n : Ident) : Fld := ⟨initKey n 0x500080, 29, 1⟩
abbrev CRY_SA_WIN_W0_ESN (n : Ident) : Fld := ⟨initKey n 0x500080, 28, 1⟩
abbrev CRY_SA_WIN_W0_WIN (n : Ident) : Fld := ⟨initKey n 0x500080, 24, 3⟩
abbrev CRY_SA_WIN_W0_KEY (n : Ident) : Fld := ⟨initKey n 0x500080, 0, 14⟩
abbrev CRY_SA_WIN_W1_5 (n : Ident) (i : Nat) : Fld := ⟨initKey n (0x500084 + i * 4), 0, 32⟩
abbrev CRY_SA_WIN_USED (n : Ident) : Fld := ⟨initKey n 0x500098, 0, 32⟩
abbrev CRY_SA_WIN_BIND (n : Ident) : Fld := ⟨initKey n 0x50009C, 0, 32⟩
abbrev CRY_SA_WIN_CNT (n : Ident) (i : Nat) : Fld := ⟨initKey n (0x5000A0 + i * 4), 0, 32⟩
abbrev CRY_SA_WIN_TAIL (n : Ident) (i : Nat) : Fld := ⟨initKey n (0x5000B0 + i * 4), 0, 32⟩
abbrev CRY_TEN_KEY_BASE (i : Nat) : Fld := ⟨0x500100 + i * 0x10, 0, 32⟩
abbrev CRY_TEN_KEY_CNT (i : Nat) : Fld := ⟨0x500104 + i * 0x10, 0, 32⟩
abbrev CRY_TEN_SA_BASE (i : Nat) : Fld := ⟨0x500108 + i * 0x10, 0, 32⟩
abbrev CRY_TEN_SA_CNT (i : Nat) : Fld := ⟨0x50010C + i * 0x10, 0, 32⟩
abbrev CRY_MS_PCFG (i : Nat) : Fld := ⟨0x501000 + i * 0x100, 0, 32⟩
abbrev CRY_MS_PCFG_EN (i : Nat) : Fld := ⟨0x501000 + i * 0x100, 31, 1⟩
abbrev CRY_MS_PCFG_SUITE (i : Nat) : Fld := ⟨0x501000 + i * 0x100, 29, 2⟩
abbrev CRY_MS_PCFG_XPN_SCI (i : Nat) : Fld := ⟨0x501000 + i * 0x100, 28, 1⟩
abbrev CRY_MS_PCFG_VALIDATE (i : Nat) : Fld := ⟨0x501000 + i * 0x100, 26, 2⟩
abbrev CRY_MS_PCFG_CONF_OFS (i : Nat) : Fld := ⟨0x501000 + i * 0x100, 24, 2⟩
abbrev CRY_MS_PCFG_SCI_MODE (i : Nat) : Fld := ⟨0x501000 + i * 0x100, 22, 2⟩
abbrev CRY_MS_SCI_LO (i : Nat) : Fld := ⟨0x501008 + i * 0x100, 0, 32⟩
abbrev CRY_MS_SCI_HI (i : Nat) : Fld := ⟨0x50100C + i * 0x100, 0, 32⟩
abbrev CRY_MS_TX_AN (i : Nat) : Fld := ⟨0x501010 + i * 0x100, 0, 32⟩
abbrev CRY_MS_TX_AN_AN (i : Nat) : Fld := ⟨0x501010 + i * 0x100, 0, 2⟩
abbrev CRY_MS_TX_SA_KEY (i j : Nat) : Fld := ⟨0x501020 + i * 0x100 + j * 0x10, 0, 32⟩
abbrev CRY_MS_TX_SA_KEY_EN (i j : Nat) : Fld := ⟨0x501020 + i * 0x100 + j * 0x10, 31, 1⟩
abbrev CRY_MS_TX_SA_KEY_SLOT (i j : Nat) : Fld := ⟨0x501020 + i * 0x100 + j * 0x10, 0, 14⟩
abbrev CRY_MS_TX_SA_PN_LO (i j : Nat) : Fld := ⟨0x501024 + i * 0x100 + j * 0x10, 0, 32⟩
abbrev CRY_MS_TX_SA_PN_HI (i j : Nat) : Fld := ⟨0x501028 + i * 0x100 + j * 0x10, 0, 32⟩
abbrev CRY_MS_TX_SA_SSCI (i j : Nat) : Fld := ⟨0x50102C + i * 0x100 + j * 0x10, 0, 32⟩
abbrev CRY_MS_CNT (i j : Nat) : Fld := ⟨0x501060 + i * 0x100 + j * 4, 0, 32⟩
abbrev CRY_MS_RX_SCI_LO (i : Nat) : Fld := ⟨0x502000 + i * 0x80, 0, 32⟩
abbrev CRY_MS_RX_SCI_HI (i : Nat) : Fld := ⟨0x502004 + i * 0x80, 0, 32⟩
abbrev CRY_MS_RX_RCFG (i : Nat) : Fld := ⟨0x502008 + i * 0x80, 0, 32⟩
abbrev CRY_MS_RX_WINDOW (i : Nat) : Fld := ⟨0x50200C + i * 0x80, 0, 32⟩
abbrev CRY_MS_RX_SA_KEY (i j : Nat) : Fld := ⟨0x502010 + i * 0x80 + j * 0x10, 0, 32⟩
abbrev CRY_MS_RX_SA_KEY_EN (i j : Nat) : Fld := ⟨0x502010 + i * 0x80 + j * 0x10, 31, 1⟩
abbrev CRY_MS_RX_SA_KEY_SLOT (i j : Nat) : Fld := ⟨0x502010 + i * 0x80 + j * 0x10, 0, 14⟩
abbrev CRY_MS_RX_SA_PN_LO (i j : Nat) : Fld := ⟨0x502014 + i * 0x80 + j * 0x10, 0, 32⟩
abbrev CRY_MS_RX_SA_PN_HI (i j : Nat) : Fld := ⟨0x502018 + i * 0x80 + j * 0x10, 0, 32⟩
abbrev CRY_MS_RX_SA_SSCI (i j : Nat) : Fld := ⟨0x50201C + i * 0x80 + j * 0x10, 0, 32⟩
abbrev CRY_AUTH_TX_CFG (i : Nat) : Fld := ⟨0x505000 + i * 0x10, 0, 32⟩
abbrev CRY_AUTH_TX_CFG_EN (i : Nat) : Fld := ⟨0x505000 + i * 0x10, 31, 1⟩
abbrev CRY_AUTH_TX_CFG_SEL (i : Nat) : Fld := ⟨0x505000 + i * 0x10, 30, 1⟩
abbrev CRY_AUTH_TX_CFG_ALG (i : Nat) : Fld := ⟨0x505000 + i * 0x10, 0, 3⟩
abbrev CRY_AUTH_TX_KEYS (i : Nat) : Fld := ⟨0x505004 + i * 0x10, 0, 32⟩
abbrev CRY_AUTH_TX_KEYS_KEY1 (i : Nat) : Fld := ⟨0x505004 + i * 0x10, 16, 14⟩
abbrev CRY_AUTH_TX_KEYS_KEY0 (i : Nat) : Fld := ⟨0x505004 + i * 0x10, 0, 14⟩
abbrev CRY_AUTH_TX_KEY_ID0 (i : Nat) : Fld := ⟨0x505008 + i * 0x10, 0, 32⟩
abbrev CRY_AUTH_TX_KEY_ID1 (i : Nat) : Fld := ⟨0x50500C + i * 0x10, 0, 32⟩
abbrev CRY_AUTH_RX_CFG (i : Nat) : Fld := ⟨0x506000 + i * 0x20, 0, 32⟩
abbrev CRY_AUTH_RX_CFG_EN (i : Nat) : Fld := ⟨0x506000 + i * 0x20, 31, 1⟩
abbrev CRY_AUTH_RX_CFG_REQUIRED (i : Nat) : Fld := ⟨0x506000 + i * 0x20, 30, 1⟩
abbrev CRY_AUTH_RX_CFG_ALG (i : Nat) : Fld := ⟨0x506000 + i * 0x20, 0, 3⟩
abbrev CRY_AUTH_RX_KEYS (i : Nat) : Fld := ⟨0x506004 + i * 0x20, 0, 32⟩
abbrev CRY_AUTH_RX_KEYS_KEY1 (i : Nat) : Fld := ⟨0x506004 + i * 0x20, 16, 14⟩
abbrev CRY_AUTH_RX_KEYS_KEY0 (i : Nat) : Fld := ⟨0x506004 + i * 0x20, 0, 14⟩
abbrev CRY_AUTH_RX_KEY_ID0 (i : Nat) : Fld := ⟨0x506008 + i * 0x20, 0, 32⟩
abbrev CRY_AUTH_RX_KEY_ID1 (i : Nat) : Fld := ⟨0x50600C + i * 0x20, 0, 32⟩
abbrev CRY_AUTH_RX_MAC_LO (i : Nat) : Fld := ⟨0x506010 + i * 0x20, 0, 32⟩
abbrev CRY_AUTH_RX_APPID_MAC (i : Nat) : Fld := ⟨0x506014 + i * 0x20, 0, 32⟩
abbrev CRY_AUTH_RX_OK (i : Nat) : Fld := ⟨0x506018 + i * 0x20, 0, 32⟩
abbrev CRY_AUTH_RX_FAIL (i : Nat) : Fld := ⟨0x50601C + i * 0x20, 0, 32⟩
abbrev CRY_KEY_META (i j : Nat) : Fld := ⟨0x510000 + i * 0x10000 + j * 4, 0, 32⟩
abbrev CRY_KEY_META_LOADED (i j : Nat) : Fld := ⟨0x510000 + i * 0x10000 + j * 4, 31, 1⟩
abbrev CRY_KEY_META_TYPE (i j : Nat) : Fld := ⟨0x510000 + i * 0x10000 + j * 4, 28, 2⟩
abbrev CRY_KEY_META_LOADER (i j : Nat) : Fld := ⟨0x510000 + i * 0x10000 + j * 4, 16, 10⟩

/-! ### REC -/

abbrev REC_CFG : Fld := ⟨0x580000, 0, 32⟩
abbrev REC_CFG_KATO : Fld := ⟨0x580000, 24, 8⟩
abbrev REC_CFG_BACKOFF : Fld := ⟨0x580000, 16, 8⟩
abbrev REC_CFG_CMD_TMO : Fld := ⟨0x580000, 8, 8⟩
abbrev REC_CFG_MAX_TRY : Fld := ⟨0x580000, 0, 8⟩
abbrev REC_STATUS : Fld := ⟨0x580004, 0, 32⟩
abbrev REC_STATUS_WAITING : Fld := ⟨0x580004, 0, 3⟩
abbrev REC_HOSTID (i : Nat) : Fld := ⟨0x580010 + i * 4, 0, 32⟩
abbrev REC_HOST_NQN (i : Nat) : Fld := ⟨0x580400 + i * 4, 0, 32⟩
abbrev REC_NS_RADDR (i j : Nat) : Fld := ⟨0x581000 + i * 0x200 + j * 4, 0, 32⟩
abbrev REC_NS_NCFG (i : Nat) : Fld := ⟨0x581010 + i * 0x200, 0, 32⟩
abbrev REC_NS_NCFG_EN (i : Nat) : Fld := ⟨0x581010 + i * 0x200, 31, 1⟩
abbrev REC_NS_NCFG_AF (i : Nat) : Fld := ⟨0x581010 + i * 0x200, 30, 1⟩
abbrev REC_NS_NCFG_HDGST (i : Nat) : Fld := ⟨0x581010 + i * 0x200, 29, 1⟩
abbrev REC_NS_NCFG_DDGST (i : Nat) : Fld := ⟨0x581010 + i * 0x200, 28, 1⟩
abbrev REC_NS_NCFG_WRAP (i : Nat) : Fld := ⟨0x581010 + i * 0x200, 27, 1⟩
abbrev REC_NS_NCFG_LOCAL (i : Nat) : Fld := ⟨0x581010 + i * 0x200, 23, 4⟩
abbrev REC_NS_NCFG_NH (i : Nat) : Fld := ⟨0x581010 + i * 0x200, 15, 8⟩
abbrev REC_NS_NCFG_ALT (i : Nat) : Fld := ⟨0x581010 + i * 0x200, 11, 4⟩
abbrev REC_NS_NCFG_ALT_EN (i : Nat) : Fld := ⟨0x581010 + i * 0x200, 10, 1⟩
abbrev REC_NS_PORT (i : Nat) : Fld := ⟨0x581014 + i * 0x200, 0, 32⟩
abbrev REC_NS_NSID (i : Nat) : Fld := ⟨0x581018 + i * 0x200, 0, 32⟩
abbrev REC_NS_SA (i : Nat) : Fld := ⟨0x58101C + i * 0x200, 0, 32⟩
abbrev REC_NS_START_LBA_LO (i : Nat) : Fld := ⟨0x581020 + i * 0x200, 0, 32⟩
abbrev REC_NS_START_LBA_HI (i : Nat) : Fld := ⟨0x581024 + i * 0x200, 0, 32⟩
abbrev REC_NS_LBA_COUNT_LO (i : Nat) : Fld := ⟨0x581028 + i * 0x200, 0, 32⟩
abbrev REC_NS_LBA_COUNT_HI (i : Nat) : Fld := ⟨0x58102C + i * 0x200, 0, 32⟩
abbrev REC_NS_NSTATE (i : Nat) : Fld := ⟨0x581030 + i * 0x200, 0, 32⟩
abbrev REC_NS_NSTATE_REASON (i : Nat) : Fld := ⟨0x581030 + i * 0x200, 4, 4⟩
abbrev REC_NS_NSTATE_STATE (i : Nat) : Fld := ⟨0x581030 + i * 0x200, 0, 3⟩
abbrev REC_NS_NEXT_LO (i : Nat) : Fld := ⟨0x581034 + i * 0x200, 0, 32⟩
abbrev REC_NS_NEXT_HI (i : Nat) : Fld := ⟨0x581038 + i * 0x200, 0, 32⟩
abbrev REC_NS_LAST_SEQ_LO (i : Nat) : Fld := ⟨0x58103C + i * 0x200, 0, 32⟩
abbrev REC_NS_LAST_SEQ_HI (i : Nat) : Fld := ⟨0x581040 + i * 0x200, 0, 32⟩
abbrev REC_NS_RECORDS (i : Nat) : Fld := ⟨0x581044 + i * 0x200, 0, 32⟩
abbrev REC_NS_FAILS (i : Nat) : Fld := ⟨0x581048 + i * 0x200, 0, 32⟩
abbrev REC_NS_UNPROT (i : Nat) : Fld := ⟨0x58104C + i * 0x200, 0, 32⟩
abbrev REC_NS_SUBNQN (i j : Nat) : Fld := ⟨0x581100 + i * 0x200 + j * 4, 0, 32⟩

/-! ### HIF -/

abbrev HIF_CTRL : Fld := ⟨0x600000, 0, 32⟩
abbrev HIF_CTRL_RX_WAIT : Fld := ⟨0x600000, 0, 7⟩
abbrev HIF_STATUS : Fld := ⟨0x600004, 0, 32⟩
abbrev HIF_STATUS_NUM_VFS : Fld := ⟨0x600004, 8, 8⟩
abbrev HIF_STATUS_VF_EN : Fld := ⟨0x600004, 7, 1⟩
abbrev HIF_STATUS_WIDTH : Fld := ⟨0x600004, 4, 3⟩
abbrev HIF_STATUS_SPEED : Fld := ⟨0x600004, 2, 2⟩
abbrev HIF_STATUS_LINK_UP : Fld := ⟨0x600004, 1, 1⟩
abbrev HIF_QP_FREE : Fld := ⟨0x600008, 0, 32⟩
abbrev HIF_NO_INST : Fld := ⟨0x60000C, 0, 32⟩
abbrev HIF_STALL_DROP : Fld := ⟨0x600010, 0, 32⟩
abbrev HIF_DMA_ERR : Fld := ⟨0x600014, 0, 32⟩
abbrev HIF_TEN_CTRL (i : Nat) : Fld := ⟨0x610000 + i * 0x40, 0, 32⟩
abbrev HIF_TEN_CTRL_ANY_SRC (i : Nat) : Fld := ⟨0x610000 + i * 0x40, 3, 1⟩
abbrev HIF_TEN_CTRL_MCAST (i : Nat) : Fld := ⟨0x610000 + i * 0x40, 2, 1⟩
abbrev HIF_TEN_CTRL_QUIESCE (i : Nat) : Fld := ⟨0x610000 + i * 0x40, 0, 1⟩
abbrev HIF_TEN_STATUS (i : Nat) : Fld := ⟨0x610004 + i * 0x40, 0, 32⟩
abbrev HIF_TEN_STATUS_OVR_RESET (i : Nat) : Fld := ⟨0x610004 + i * 0x40, 2, 1⟩
abbrev HIF_TEN_STATUS_FLR_ACTIVE (i : Nat) : Fld := ⟨0x610004 + i * 0x40, 1, 1⟩
abbrev HIF_TEN_STATUS_QUIESCED (i : Nat) : Fld := ⟨0x610004 + i * 0x40, 0, 1⟩
abbrev HIF_TEN_QP (i : Nat) : Fld := ⟨0x610008 + i * 0x40, 0, 32⟩
abbrev HIF_TEN_QP_IN_USE (i : Nat) : Fld := ⟨0x610008 + i * 0x40, 16, 7⟩
abbrev HIF_TEN_QP_LIMIT (i : Nat) : Fld := ⟨0x610008 + i * 0x40, 0, 7⟩
abbrev HIF_TEN_VEC (i : Nat) : Fld := ⟨0x61000C + i * 0x40, 0, 32⟩
abbrev HIF_TEN_VEC_IN_USE (i : Nat) : Fld := ⟨0x61000C + i * 0x40, 16, 7⟩
abbrev HIF_TEN_VEC_LIMIT (i : Nat) : Fld := ⟨0x61000C + i * 0x40, 0, 7⟩
abbrev HIF_TEN_EGR (i : Nat) : Fld := ⟨0x610010 + i * 0x40, 0, 32⟩
abbrev HIF_TEN_EGR_WEIGHT (i : Nat) : Fld := ⟨0x610010 + i * 0x40, 0, 8⟩
abbrev HIF_TEN_MBX (i : Nat) : Fld := ⟨0x610014 + i * 0x40, 0, 32⟩
abbrev HIF_TEN_MBX_COUNT (i : Nat) : Fld := ⟨0x610014 + i * 0x40, 0, 7⟩
abbrev HIF_TEN_MAC_LO (i : Nat) : Fld := ⟨0x610018 + i * 0x40, 0, 32⟩
abbrev HIF_TEN_MAC_HI (i : Nat) : Fld := ⟨0x61001C + i * 0x40, 0, 32⟩
abbrev HIF_TEN_MAC_HI_VID (i : Nat) : Fld := ⟨0x61001C + i * 0x40, 16, 12⟩
abbrev HIF_TEN_MAC_HI_MAC (i : Nat) : Fld := ⟨0x61001C + i * 0x40, 0, 16⟩
abbrev HIF_TEN_RIGHTS (i j : Nat) : Fld := ⟨0x610020 + i * 0x40 + j * 4, 0, 32⟩
abbrev HIF_DLOG_BASE_LO (i : Nat) : Fld := ⟨0x620000 + i * 0x20, 0, 32⟩
abbrev HIF_DLOG_BASE_HI (i : Nat) : Fld := ⟨0x620004 + i * 0x20, 0, 32⟩
abbrev HIF_DLOG_DCFG (i : Nat) : Fld := ⟨0x620008 + i * 0x20, 0, 32⟩
abbrev HIF_DLOG_DCFG_EN (i : Nat) : Fld := ⟨0x620008 + i * 0x20, 31, 1⟩
abbrev HIF_DLOG_DCFG_OVERFLOW (i : Nat) : Fld := ⟨0x620008 + i * 0x20, 30, 1⟩
abbrev HIF_DLOG_DCFG_SZ (i : Nat) : Fld := ⟨0x620008 + i * 0x20, 0, 5⟩
abbrev HIF_DLOG_DHEAD (i : Nat) : Fld := ⟨0x62000C + i * 0x20, 0, 32⟩
abbrev HIF_DLOG_DHEAD_INDEX (i : Nat) : Fld := ⟨0x62000C + i * 0x20, 0, 16⟩
abbrev HIF_DLOG_DTAIL (i : Nat) : Fld := ⟨0x620010 + i * 0x20, 0, 32⟩
abbrev HIF_DLOG_DTAIL_INDEX (i : Nat) : Fld := ⟨0x620010 + i * 0x20, 0, 16⟩
abbrev HIF_QP_MAP (i : Nat) : Fld := ⟨0x630000 + i * 4, 0, 32⟩
abbrev HIF_QP_MAP_BOUND (i : Nat) : Fld := ⟨0x630000 + i * 4, 31, 1⟩
abbrev HIF_QP_MAP_INSTANCE (i : Nat) : Fld := ⟨0x630000 + i * 4, 16, 7⟩
abbrev HIF_QP_MAP_LOCAL (i : Nat) : Fld := ⟨0x630000 + i * 4, 0, 6⟩

/-! ### SAF -/

abbrev SAF_CTRL : Fld := ⟨0x800000, 0, 32⟩
abbrev SAF_CTRL_INJ_EN : Fld := ⟨0x800000, 0, 1⟩
abbrev SAF_STATUS : Fld := ⟨0x800004, 0, 32⟩
abbrev SAF_STATUS_PARAM : Fld := ⟨0x800004, 12, 2⟩
abbrev SAF_STATUS_SHED_REQ : Fld := ⟨0x800004, 10, 2⟩
abbrev SAF_STATUS_DIAG_OK : Fld := ⟨0x800004, 9, 1⟩
abbrev SAF_STATUS_MIN_SET_OK : Fld := ⟨0x800004, 8, 1⟩
abbrev SAF_STATUS_SAFE_OP : Fld := ⟨0x800004, 7, 1⟩
abbrev SAF_STATUS_OWL_FAULT : Fld := ⟨0x800004, 6, 1⟩
abbrev SAF_STATUS_LATCHED : Fld := ⟨0x800004, 4, 1⟩
abbrev SAF_STATUS_LEVEL : Fld := ⟨0x800004, 0, 3⟩
abbrev SAF_CMD : Fld := ⟨0x800008, 0, 32⟩
abbrev SAF_CMD_KEY : Fld := ⟨0x800008, 16, 16⟩
abbrev SAF_CMD_CMD : Fld := ⟨0x800008, 0, 4⟩
abbrev SAF_CFG : Fld := ⟨0x80000C, 0, 32⟩
abbrev SAF_CFG_L4_DELAY : Fld := ⟨0x80000C, 8, 8⟩
abbrev SAF_CFG_L4_ACTION : Fld := ⟨0x80000C, 0, 2⟩
abbrev SAF_HB : Fld := ⟨0x800010, 0, 32⟩
abbrev SAF_HB_CFG : Fld := ⟨0x800014, 0, 32⟩
abbrev SAF_HB_CFG_TIMEOUT : Fld := ⟨0x800014, 0, 16⟩
abbrev SAF_FIRST_CAUSE : Fld := ⟨0x800018, 0, 32⟩
abbrev SAF_FIRST_CAUSE_TICK : Fld := ⟨0x800018, 16, 16⟩
abbrev SAF_FIRST_CAUSE_ID : Fld := ⟨0x800018, 0, 8⟩
abbrev SAF_MIN_SET : Fld := ⟨0x800020, 0, 32⟩
abbrev SAF_MIN_SET_OK : Fld := ⟨0x800020, 0, 6⟩
abbrev SAF_PATHS : Fld := ⟨0x800024, 0, 32⟩
abbrev SAF_PATHS_OK : Fld := ⟨0x800024, 0, 7⟩
abbrev SAF_VOTE_EXP : Fld := ⟨0x800028, 0, 32⟩
abbrev SAF_VOTE_EXP_COUNT : Fld := ⟨0x800028, 0, 11⟩
abbrev SAF_VOTE_REF : Fld := ⟨0x80002C, 0, 32⟩
abbrev SAF_SENT_MISMATCH : Fld := ⟨0x800030, 0, 32⟩
abbrev SAF_GLEAN_PASS : Fld := ⟨0x800034, 0, 32⟩
abbrev SAF_GLEAN_LAST : Fld := ⟨0x800038, 0, 32⟩
abbrev SAF_INJECT : Fld := ⟨0x800040, 0, 32⟩
abbrev SAF_INJECT_KEY : Fld := ⟨0x800040, 16, 16⟩
abbrev SAF_INJECT_TARGET : Fld := ⟨0x800040, 4, 12⟩
abbrev SAF_INJECT_KIND : Fld := ⟨0x800040, 0, 4⟩
abbrev SAF_SENT_REF (i : Nat) : Fld := ⟨0x800100 + i * 4, 0, 32⟩
abbrev SAF_ALM_CFG (i : Nat) : Fld := ⟨0x800200 + i * 8, 0, 32⟩
abbrev SAF_ALM_CFG_EN (i : Nat) : Fld := ⟨0x800200 + i * 8, 31, 1⟩
abbrev SAF_ALM_CFG_POL (i : Nat) : Fld := ⟨0x800200 + i * 8, 30, 1⟩
abbrev SAF_ALM_CFG_SLOT (i : Nat) : Fld := ⟨0x800200 + i * 8, 0, 14⟩
abbrev SAF_ALM_LIMIT (i : Nat) : Fld := ⟨0x800204 + i * 8, 0, 32⟩
abbrev SAF_RAIL (i : Nat) : Fld := ⟨0x800300 + i * 4, 0, 32⟩
abbrev SAF_RAIL_FAULT (i : Nat) : Fld := ⟨0x800300 + i * 4, 31, 1⟩
abbrev SAF_RAIL_MV (i : Nat) : Fld := ⟨0x800300 + i * 4, 0, 16⟩

/-! ### RST -/

abbrev RST_CTRL : Fld := ⟨0x880000, 0, 32⟩
abbrev RST_CTRL_GAP : Fld := ⟨0x880000, 0, 12⟩
abbrev RST_CMD : Fld := ⟨0x880004, 0, 32⟩
abbrev RST_CMD_KEY : Fld := ⟨0x880004, 16, 16⟩
abbrev RST_CMD_TYPE : Fld := ⟨0x880004, 0, 2⟩
abbrev RST_MASK : Fld := ⟨0x880008, 0, 32⟩
abbrev RST_MASK_IMG : Fld := ⟨0x880008, 24, 1⟩
abbrev RST_MASK_PD : Fld := ⟨0x880008, 2, 22⟩
abbrev RST_CAUSE : Fld := ⟨0x88000C, 0, 32⟩
abbrev RST_CAUSE_DRAIN_LOST : Fld := ⟨0x88000C, 10, 1⟩
abbrev RST_CAUSE_DELAYED : Fld := ⟨0x88000C, 9, 1⟩
abbrev RST_CAUSE_AON_KEPT : Fld := ⟨0x88000C, 8, 1⟩
abbrev RST_CAUSE_CODE : Fld := ⟨0x88000C, 0, 8⟩
abbrev RST_STATUS : Fld := ⟨0x880010, 0, 32⟩
abbrev RST_STATUS_HIST_NEXT : Fld := ⟨0x880010, 16, 4⟩
abbrev RST_STATUS_STEP : Fld := ⟨0x880010, 8, 4⟩
abbrev RST_STATUS_DELAYED : Fld := ⟨0x880010, 1, 1⟩
abbrev RST_STATUS_BUSY : Fld := ⟨0x880010, 0, 1⟩
abbrev RST_BOOT : Fld := ⟨0x880014, 0, 32⟩
abbrev RST_BOOT_BOOT_SEL : Fld := ⟨0x880014, 0, 2⟩
abbrev RST_DELAY_CNT : Fld := ⟨0x880018, 0, 32⟩
abbrev RST_DRAIN_LOST : Fld := ⟨0x88001C, 0, 32⟩
abbrev RST_HIST_W0 (i : Nat) : Fld := ⟨0x880100 + i * 8, 0, 32⟩
abbrev RST_HIST_W0_INIT (i : Nat) : Fld := ⟨0x880100 + i * 8, 16, 10⟩
abbrev RST_HIST_W0_CODE (i : Nat) : Fld := ⟨0x880100 + i * 8, 0, 8⟩
abbrev RST_HIST_W1 (i : Nat) : Fld := ⟨0x880104 + i * 8, 0, 32⟩
abbrev RST_COUNT (i : Nat) : Fld := ⟨0x880204 + i * 4, 0, 32⟩

/-! ### PWR -/

abbrev PWR_STATUS : Fld := ⟨0x8A0000, 0, 32⟩
abbrev PWR_STATUS_MASK : Fld := ⟨0x8A0000, 0, 24⟩
abbrev PWR_RESET : Fld := ⟨0x8A0004, 0, 32⟩
abbrev PWR_RESET_MASK : Fld := ⟨0x8A0004, 0, 24⟩
abbrev PWR_CMD : Fld := ⟨0x8A0008, 0, 32⟩
abbrev PWR_CMD_KEY : Fld := ⟨0x8A0008, 16, 16⟩
abbrev PWR_CMD_OP : Fld := ⟨0x8A0008, 8, 2⟩
abbrev PWR_CMD_PD : Fld := ⟨0x8A0008, 0, 5⟩
abbrev PWR_OFF_OK : Fld := ⟨0x8A000C, 0, 32⟩
abbrev PWR_OFF_OK_MASK : Fld := ⟨0x8A000C, 0, 24⟩
abbrev PWR_USED : Fld := ⟨0x8A0010, 0, 32⟩
abbrev PWR_USED_MASK : Fld := ⟨0x8A0010, 0, 24⟩
abbrev PWR_PFAIL : Fld := ⟨0x8A0014, 0, 32⟩
abbrev PWR_PFAIL_COUNT : Fld := ⟨0x8A0014, 16, 16⟩
abbrev PWR_PFAIL_LOW : Fld := ⟨0x8A0014, 0, 1⟩
abbrev PWR_FAILED : Fld := ⟨0x8A0018, 0, 32⟩
abbrev PWR_FAILED_MASK : Fld := ⟨0x8A0018, 0, 24⟩

/-! ### THM -/

abbrev THM_STATUS : Fld := ⟨0x8C0000, 0, 32⟩
abbrev THM_STATUS_EXCL_COUNT : Fld := ⟨0x8C0000, 8, 6⟩
abbrev THM_STATUS_DEGRADED : Fld := ⟨0x8C0000, 7, 1⟩
abbrev THM_STATUS_CRIT : Fld := ⟨0x8C0000, 6, 1⟩
abbrev THM_STATUS_THROTTLE : Fld := ⟨0x8C0000, 5, 1⟩
abbrev THM_STATUS_WARN : Fld := ⟨0x8C0000, 4, 1⟩
abbrev THM_STATUS_RISE : Fld := ⟨0x8C0000, 3, 1⟩
abbrev THM_STATUS_FAN_FULL : Fld := ⟨0x8C0000, 2, 1⟩
abbrev THM_STATUS_SHED_REQ : Fld := ⟨0x8C0000, 0, 2⟩
abbrev THM_TJ : Fld := ⟨0x8C0004, 0, 32⟩
abbrev THM_TJ_SENSOR : Fld := ⟨0x8C0004, 16, 5⟩
abbrev THM_TJ_TJ : Fld := ⟨0x8C0004, 0, 16⟩
abbrev THM_LIM : Fld := ⟨0x8C0008, 0, 32⟩
abbrev THM_LIM_THROTTLE : Fld := ⟨0x8C0008, 8, 8⟩
abbrev THM_LIM_WARN : Fld := ⟨0x8C0008, 0, 8⟩
abbrev THM_CFG : Fld := ⟨0x8C000C, 0, 32⟩
abbrev THM_CFG_HOLD : Fld := ⟨0x8C000C, 24, 4⟩
abbrev THM_CFG_STEP : Fld := ⟨0x8C000C, 16, 4⟩
abbrev THM_CFG_HYST : Fld := ⟨0x8C000C, 8, 4⟩
abbrev THM_CFG_RISE : Fld := ⟨0x8C000C, 0, 8⟩
abbrev THM_EXCL : Fld := ⟨0x8C0010, 0, 32⟩
abbrev THM_PEAK : Fld := ⟨0x8C0014, 0, 32⟩
abbrev THM_PEAK_TJ : Fld := ⟨0x8C0014, 0, 16⟩
abbrev THM_SENS (i : Nat) : Fld := ⟨0x8C0100 + i * 4, 0, 32⟩
abbrev THM_SENS_EXCLUDED (i : Nat) : Fld := ⟨0x8C0100 + i * 4, 31, 1⟩
abbrev THM_SENS_READING (i : Nat) : Fld := ⟨0x8C0100 + i * 4, 0, 16⟩

/-! ### GRN -/

abbrev GRN_STATUS : Fld := ⟨0x900000, 0, 32⟩
abbrev GRN_STATUS_WPN : Fld := ⟨0x900000, 8, 1⟩
abbrev GRN_STATUS_OP : Fld := ⟨0x900000, 4, 3⟩
abbrev GRN_STATUS_PROT_BUSY : Fld := ⟨0x900000, 3, 1⟩
abbrev GRN_STATUS_SUSPENDED : Fld := ⟨0x900000, 2, 1⟩
abbrev GRN_STATUS_BUSY : Fld := ⟨0x900000, 1, 1⟩
abbrev GRN_STATUS_SCAN : Fld := ⟨0x900000, 0, 1⟩
abbrev GRN_CMD : Fld := ⟨0x900004, 0, 32⟩
abbrev GRN_CMD_KEY : Fld := ⟨0x900004, 16, 16⟩
abbrev GRN_CMD_OP : Fld := ⟨0x900004, 0, 4⟩
abbrev GRN_ADDR : Fld := ⟨0x900008, 0, 32⟩
abbrev GRN_ADDR_ADDR : Fld := ⟨0x900008, 0, 20⟩
abbrev GRN_LEN : Fld := ⟨0x90000C, 0, 32⟩
abbrev GRN_LEN_LEN : Fld := ⟨0x90000C, 0, 9⟩
abbrev GRN_RESULT (n : Ident) : Fld := ⟨initKey n 0x900010, 0, 32⟩
abbrev GRN_RESULT_DONE (n : Ident) : Fld := ⟨initKey n 0x900010, 31, 1⟩
abbrev GRN_RESULT_CODE (n : Ident) : Fld := ⟨initKey n 0x900010, 0, 4⟩
abbrev GRN_PROT : Fld := ⟨0x900014, 0, 32⟩
abbrev GRN_PROT_BP1 : Fld := ⟨0x900014, 2, 2⟩
abbrev GRN_PROT_BP0 : Fld := ⟨0x900014, 0, 2⟩
abbrev GRN_SUSP_ADDR : Fld := ⟨0x900018, 0, 32⟩
abbrev GRN_SUSP_ADDR_SECTOR : Fld := ⟨0x900018, 12, 8⟩
abbrev GRN_WRAP_CNT : Fld := ⟨0x900020, 0, 32⟩
abbrev GRN_READ_ERR : Fld := ⟨0x900024, 0, 32⟩
abbrev GRN_SCAN_INFO : Fld := ⟨0x900028, 0, 32⟩
abbrev GRN_SCAN_INFO_US_DIV4 : Fld := ⟨0x900028, 16, 16⟩
abbrev GRN_SCAN_INFO_JREPAIR : Fld := ⟨0x900028, 4, 4⟩
abbrev GRN_SCAN_INFO_ERASED : Fld := ⟨0x900028, 0, 4⟩
abbrev GRN_BOOT_STATUS : Fld := ⟨0x900030, 0, 32⟩
abbrev GRN_BOOT_STATUS_REASON : Fld := ⟨0x900030, 8, 8⟩
abbrev GRN_BOOT_STATUS_MODE : Fld := ⟨0x900030, 4, 3⟩
abbrev GRN_BOOT_STATUS_SLOT : Fld := ⟨0x900030, 0, 1⟩
abbrev GRN_FW_CMD : Fld := ⟨0x900034, 0, 32⟩
abbrev GRN_FW_CMD_KEY : Fld := ⟨0x900034, 16, 16⟩
abbrev GRN_FW_CMD_ARG : Fld := ⟨0x900034, 8, 8⟩
abbrev GRN_FW_CMD_CMD : Fld := ⟨0x900034, 0, 4⟩
abbrev GRN_FW_RESULT : Fld := ⟨0x900038, 0, 32⟩
abbrev GRN_FW_RESULT_CODE : Fld := ⟨0x900038, 0, 4⟩
abbrev GRN_FW_CFG : Fld := ⟨0x90003C, 0, 32⟩
abbrev GRN_FW_CFG_TRIAL_MIN : Fld := ⟨0x90003C, 0, 8⟩
abbrev GRN_TRIAL_LEFT : Fld := ⟨0x900040, 0, 32⟩
abbrev GRN_TRIAL_LEFT_SEC : Fld := ⟨0x900040, 0, 16⟩
abbrev GRN_AR_COUNT : Fld := ⟨0x900044, 0, 32⟩
abbrev GRN_AR_COUNT_COUNT : Fld := ⟨0x900044, 0, 7⟩
abbrev GRN_FW_SLOT (i : Nat) : Fld := ⟨0x900048 + i * 4, 0, 32⟩
abbrev GRN_FW_SLOT_SVN (i : Nat) : Fld := ⟨0x900048 + i * 4, 24, 8⟩
abbrev GRN_FW_SLOT_STATE (i : Nat) : Fld := ⟨0x900048 + i * 4, 16, 3⟩
abbrev GRN_FW_SLOT_VER (i : Nat) : Fld := ⟨0x900048 + i * 4, 0, 16⟩
abbrev GRN_BUF (n : Ident) (i : Nat) : Fld := ⟨initKey n (0x900100 + i * 4), 0, 32⟩

/-! ### CLM -/

abbrev CLM_CTRL : Fld := ⟨0x980000, 0, 32⟩
abbrev CLM_CTRL_EN : Fld := ⟨0x980000, 0, 1⟩
abbrev CLM_STATUS : Fld := ⟨0x980004, 0, 32⟩
abbrev CLM_STATUS_INTERLOCK : Fld := ⟨0x980004, 4, 1⟩
abbrev CLM_STATUS_H2 : Fld := ⟨0x980004, 3, 1⟩
abbrev CLM_STATUS_STATE : Fld := ⟨0x980004, 0, 2⟩
abbrev CLM_TZ : Fld := ⟨0x980008, 0, 32⟩
abbrev CLM_TZ_DST : Fld := ⟨0x980008, 16, 1⟩
abbrev CLM_TZ_OFS_MIN : Fld := ⟨0x980008, 0, 16⟩
abbrev CLM_H2CFG : Fld := ⟨0x98000C, 0, 32⟩
abbrev CLM_H2CFG_H2_HOLD : Fld := ⟨0x98000C, 8, 8⟩
abbrev CLM_H2CFG_VENT_PRES_PCT : Fld := ⟨0x98000C, 0, 8⟩
abbrev CLM_LOCAL : Fld := ⟨0x980010, 0, 32⟩
abbrev CLM_LOCAL_DOW : Fld := ⟨0x980010, 24, 3⟩
abbrev CLM_LOCAL_HOUR : Fld := ⟨0x980010, 8, 6⟩
abbrev CLM_LOCAL_MINUTE : Fld := ⟨0x980010, 0, 6⟩
abbrev CLM_SENS_CFG (i : Nat) : Fld := ⟨0x980100 + i * 0x20, 0, 32⟩
abbrev CLM_SENS_CFG_ADDR (i : Nat) : Fld := ⟨0x980100 + i * 0x20, 16, 7⟩
abbrev CLM_SENS_CFG_CH (i : Nat) : Fld := ⟨0x980100 + i * 0x20, 8, 4⟩
abbrev CLM_SENS_CFG_TYPE (i : Nat) : Fld := ⟨0x980100 + i * 0x20, 0, 3⟩
abbrev CLM_SENS_P (i j : Nat) : Fld := ⟨0x980104 + i * 0x20 + j * 4, 0, 32⟩
abbrev CLM_SENS_VALUE (i : Nat) : Fld := ⟨0x980110 + i * 0x20, 0, 32⟩
abbrev CLM_SENS_STATUS (i : Nat) : Fld := ⟨0x980114 + i * 0x20, 0, 32⟩
abbrev CLM_SENS_STATUS_FAILS (i : Nat) : Fld := ⟨0x980114 + i * 0x20, 8, 8⟩
abbrev CLM_SENS_STATUS_STATE (i : Nat) : Fld := ⟨0x980114 + i * 0x20, 0, 2⟩
abbrev CLM_ZONE_T_MASK (i : Nat) : Fld := ⟨0x980800 + i * 0x80, 0, 32⟩
abbrev CLM_ZONE_RH_MASK (i : Nat) : Fld := ⟨0x980804 + i * 0x80, 0, 32⟩
abbrev CLM_ZONE_ZCFG (i : Nat) : Fld := ⟨0x980808 + i * 0x80, 0, 32⟩
abbrev CLM_ZONE_ZCFG_PRES_HOLD (i : Nat) : Fld := ⟨0x980808 + i * 0x80, 16, 8⟩
abbrev CLM_ZONE_ZCFG_PRES_MASK (i : Nat) : Fld := ⟨0x980808 + i * 0x80, 8, 8⟩
abbrev CLM_ZONE_ZCFG_BATT (i : Nat) : Fld := ⟨0x980808 + i * 0x80, 5, 1⟩
abbrev CLM_ZONE_ZCFG_AGG (i : Nat) : Fld := ⟨0x980808 + i * 0x80, 4, 1⟩
abbrev CLM_ZONE_ZCFG_SCHED (i : Nat) : Fld := ⟨0x980808 + i * 0x80, 0, 4⟩
abbrev CLM_ZONE_VENT (i : Nat) : Fld := ⟨0x98080C + i * 0x80, 0, 32⟩
abbrev CLM_ZONE_VENT_RELAYS (i : Nat) : Fld := ⟨0x98080C + i * 0x80, 8, 8⟩
abbrev CLM_ZONE_VENT_MOVERS (i : Nat) : Fld := ⟨0x98080C + i * 0x80, 0, 8⟩
abbrev CLM_ZONE_SP (i j : Nat) : Fld := ⟨0x980810 + i * 0x80 + j * 4, 0, 32⟩
abbrev CLM_ZONE_RH_MAX (i : Nat) : Fld := ⟨0x980828 + i * 0x80, 0, 32⟩
abbrev CLM_ZONE_DP_MARGIN (i : Nat) : Fld := ⟨0x98082C + i * 0x80, 0, 32⟩
abbrev CLM_ZONE_OVR_MODE (i : Nat) : Fld := ⟨0x980830 + i * 0x80, 0, 32⟩
abbrev CLM_ZONE_OVR_MODE_EN (i : Nat) : Fld := ⟨0x980830 + i * 0x80, 31, 1⟩
abbrev CLM_ZONE_OVR_MODE_WRITER (i : Nat) : Fld := ⟨0x980830 + i * 0x80, 16, 10⟩
abbrev CLM_ZONE_OVR_MODE_MODE (i : Nat) : Fld := ⟨0x980830 + i * 0x80, 0, 2⟩
abbrev CLM_ZONE_TEMP (i : Nat) : Fld := ⟨0x980834 + i * 0x80, 0, 32⟩
abbrev CLM_ZONE_RH (i : Nat) : Fld := ⟨0x980838 + i * 0x80, 0, 32⟩
abbrev CLM_ZONE_DEWPT (i : Nat) : Fld := ⟨0x98083C + i * 0x80, 0, 32⟩
abbrev CLM_ZONE_ZSTATUS (i : Nat) : Fld := ⟨0x980840 + i * 0x80, 0, 32⟩
abbrev CLM_ZONE_ZSTATUS_PRES (i : Nat) : Fld := ⟨0x980840 + i * 0x80, 3, 1⟩
abbrev CLM_ZONE_ZSTATUS_COND (i : Nat) : Fld := ⟨0x980840 + i * 0x80, 2, 1⟩
abbrev CLM_ZONE_ZSTATUS_MODE (i : Nat) : Fld := ⟨0x980840 + i * 0x80, 0, 2⟩
abbrev CLM_LOOP_CFG (i : Nat) : Fld := ⟨0x981000 + i * 0x40, 0, 32⟩
abbrev CLM_LOOP_CFG_EN (i : Nat) : Fld := ⟨0x981000 + i * 0x40, 31, 1⟩
abbrev CLM_LOOP_CFG_ACTION (i : Nat) : Fld := ⟨0x981000 + i * 0x40, 30, 1⟩
abbrev CLM_LOOP_CFG_DIV (i : Nat) : Fld := ⟨0x981000 + i * 0x40, 24, 5⟩
abbrev CLM_LOOP_CFG_PV_SRC (i : Nat) : Fld := ⟨0x981000 + i * 0x40, 20, 4⟩
abbrev CLM_LOOP_CFG_SP_SRC (i : Nat) : Fld := ⟨0x981000 + i * 0x40, 16, 4⟩
abbrev CLM_LOOP_CFG_PV_IDX (i : Nat) : Fld := ⟨0x981000 + i * 0x40, 8, 6⟩
abbrev CLM_LOOP_CFG_ZONE (i : Nat) : Fld := ⟨0x981000 + i * 0x40, 0, 4⟩
abbrev CLM_LOOP_PARAM (i j : Nat) : Fld := ⟨0x981004 + i * 0x40 + j * 4, 0, 32⟩
abbrev CLM_LOOP_PV (i : Nat) : Fld := ⟨0x981020 + i * 0x40, 0, 32⟩
abbrev CLM_LOOP_OUT (i : Nat) : Fld := ⟨0x981024 + i * 0x40, 0, 32⟩
abbrev CLM_LOOP_LSTATUS (i : Nat) : Fld := ⟨0x981028 + i * 0x40, 0, 32⟩
abbrev CLM_LOOP_LSTATUS_STATE (i : Nat) : Fld := ⟨0x981028 + i * 0x40, 0, 2⟩
abbrev CLM_LOOP_I (i : Nat) : Fld := ⟨0x98102C + i * 0x40, 0, 32⟩
abbrev CLM_DMP_CFG (i : Nat) : Fld := ⟨0x981800 + i * 0x20, 0, 32⟩
abbrev CLM_DMP_CFG_EN (i : Nat) : Fld := ⟨0x981800 + i * 0x20, 31, 1⟩
abbrev CLM_DMP_CFG_FB (i : Nat) : Fld := ⟨0x981800 + i * 0x20, 28, 2⟩
abbrev CLM_DMP_CFG_CH (i : Nat) : Fld := ⟨0x981800 + i * 0x20, 24, 4⟩
abbrev CLM_DMP_CFG_LOOP (i : Nat) : Fld := ⟨0x981800 + i * 0x20, 16, 6⟩
abbrev CLM_DMP_STROKE (i : Nat) : Fld := ⟨0x981804 + i * 0x20, 0, 32⟩
abbrev CLM_DMP_STROKE_STALL_S (i : Nat) : Fld := ⟨0x981804 + i * 0x20, 24, 8⟩
abbrev CLM_DMP_STROKE_DB (i : Nat) : Fld := ⟨0x981804 + i * 0x20, 16, 8⟩
abbrev CLM_DMP_STROKE_STROKE_S (i : Nat) : Fld := ⟨0x981804 + i * 0x20, 0, 16⟩
abbrev CLM_DMP_FB_ZERO (i : Nat) : Fld := ⟨0x981808 + i * 0x20, 0, 32⟩
abbrev CLM_DMP_FB_SPAN (i : Nat) : Fld := ⟨0x98180C + i * 0x20, 0, 32⟩
abbrev CLM_DMP_POS (i : Nat) : Fld := ⟨0x981810 + i * 0x20, 0, 32⟩
abbrev CLM_DMP_DSTATUS (i : Nat) : Fld := ⟨0x981814 + i * 0x20, 0, 32⟩
abbrev CLM_DMP_DSTATUS_STALL_CLR (i : Nat) : Fld := ⟨0x981814 + i * 0x20, 8, 1⟩
abbrev CLM_DMP_DSTATUS_STATE (i : Nat) : Fld := ⟨0x981814 + i * 0x20, 0, 2⟩
abbrev CLM_DMP_OVR (i : Nat) : Fld := ⟨0x981818 + i * 0x20, 0, 32⟩
abbrev CLM_DMP_OVR_EN (i : Nat) : Fld := ⟨0x981818 + i * 0x20, 31, 1⟩
abbrev CLM_DMP_OVR_WRITER (i : Nat) : Fld := ⟨0x981818 + i * 0x20, 16, 10⟩
abbrev CLM_DMP_OVR_PCT (i : Nat) : Fld := ⟨0x981818 + i * 0x20, 0, 7⟩
abbrev CLM_VLV_CFG (i : Nat) : Fld := ⟨0x981900 + i * 0x20, 0, 32⟩
abbrev CLM_VLV_CFG_EN (i : Nat) : Fld := ⟨0x981900 + i * 0x20, 31, 1⟩
abbrev CLM_VLV_CFG_MODE (i : Nat) : Fld := ⟨0x981900 + i * 0x20, 29, 1⟩
abbrev CLM_VLV_CFG_LOOP (i : Nat) : Fld := ⟨0x981900 + i * 0x20, 16, 6⟩
abbrev CLM_VLV_TIME (i : Nat) : Fld := ⟨0x981904 + i * 0x20, 0, 32⟩
abbrev CLM_VLV_TIME_PERIOD (i : Nat) : Fld := ⟨0x981904 + i * 0x20, 0, 16⟩
abbrev CLM_VLV_POS (i : Nat) : Fld := ⟨0x981908 + i * 0x20, 0, 32⟩
abbrev CLM_VLV_OVR (i : Nat) : Fld := ⟨0x98190C + i * 0x20, 0, 32⟩
abbrev CLM_VLV_OVR_EN (i : Nat) : Fld := ⟨0x98190C + i * 0x20, 31, 1⟩
abbrev CLM_VLV_OVR_WRITER (i : Nat) : Fld := ⟨0x98190C + i * 0x20, 16, 10⟩
abbrev CLM_VLV_OVR_PCT (i : Nat) : Fld := ⟨0x98190C + i * 0x20, 0, 7⟩
abbrev CLM_HTR_CFG (i : Nat) : Fld := ⟨0x981A00 + i * 0x20, 0, 32⟩
abbrev CLM_HTR_CFG_EN (i : Nat) : Fld := ⟨0x981A00 + i * 0x20, 31, 1⟩
abbrev CLM_HTR_CFG_LOOP (i : Nat) : Fld := ⟨0x981A00 + i * 0x20, 16, 6⟩
abbrev CLM_HTR_SWITCH (i : Nat) : Fld := ⟨0x981A04 + i * 0x20, 0, 32⟩
abbrev CLM_HTR_SWITCH_MIN_OFF_S (i : Nat) : Fld := ⟨0x981A04 + i * 0x20, 24, 8⟩
abbrev CLM_HTR_SWITCH_MIN_ON_S (i : Nat) : Fld := ⟨0x981A04 + i * 0x20, 16, 8⟩
abbrev CLM_HTR_SWITCH_OFF_PCT (i : Nat) : Fld := ⟨0x981A04 + i * 0x20, 8, 8⟩
abbrev CLM_HTR_SWITCH_ON_PCT (i : Nat) : Fld := ⟨0x981A04 + i * 0x20, 0, 8⟩
abbrev CLM_HTR_HSTATE (i : Nat) : Fld := ⟨0x981A08 + i * 0x20, 0, 32⟩
abbrev CLM_HTR_HSTATE_FORCED (i : Nat) : Fld := ⟨0x981A08 + i * 0x20, 1, 1⟩
abbrev CLM_HTR_HSTATE_ON (i : Nat) : Fld := ⟨0x981A08 + i * 0x20, 0, 1⟩
abbrev CLM_HTR_OVR (i : Nat) : Fld := ⟨0x981A0C + i * 0x20, 0, 32⟩
abbrev CLM_HTR_OVR_EN (i : Nat) : Fld := ⟨0x981A0C + i * 0x20, 31, 1⟩
abbrev CLM_HTR_OVR_WRITER (i : Nat) : Fld := ⟨0x981A0C + i * 0x20, 16, 10⟩
abbrev CLM_HTR_OVR_PCT (i : Nat) : Fld := ⟨0x981A0C + i * 0x20, 0, 7⟩
abbrev CLM_MOV_CFG (i : Nat) : Fld := ⟨0x981B00 + i * 0x10, 0, 32⟩
abbrev CLM_MOV_CFG_EN (i : Nat) : Fld := ⟨0x981B00 + i * 0x10, 31, 1⟩
abbrev CLM_MOV_CFG_KIND (i : Nat) : Fld := ⟨0x981B00 + i * 0x10, 30, 1⟩
abbrev CLM_MOV_CFG_CHAN (i : Nat) : Fld := ⟨0x981B00 + i * 0x10, 24, 4⟩
abbrev CLM_MOV_CFG_LOOP (i : Nat) : Fld := ⟨0x981B00 + i * 0x10, 16, 6⟩
abbrev CLM_MOV_RANGE (i : Nat) : Fld := ⟨0x981B04 + i * 0x10, 0, 32⟩
abbrev CLM_MOV_RANGE_MAX_PCT (i : Nat) : Fld := ⟨0x981B04 + i * 0x10, 8, 8⟩
abbrev CLM_MOV_RANGE_MIN_PCT (i : Nat) : Fld := ⟨0x981B04 + i * 0x10, 0, 8⟩
abbrev CLM_MOV_MSTATUS (i : Nat) : Fld := ⟨0x981B08 + i * 0x10, 0, 32⟩
abbrev CLM_MOV_MSTATUS_NO_DOMAIN (i : Nat) : Fld := ⟨0x981B08 + i * 0x10, 8, 1⟩
abbrev CLM_MOV_MSTATUS_REQ (i : Nat) : Fld := ⟨0x981B08 + i * 0x10, 0, 7⟩
abbrev CLM_MOV_OVR (i : Nat) : Fld := ⟨0x981B0C + i * 0x10, 0, 32⟩
abbrev CLM_MOV_OVR_EN (i : Nat) : Fld := ⟨0x981B0C + i * 0x10, 31, 1⟩
abbrev CLM_MOV_OVR_WRITER (i : Nat) : Fld := ⟨0x981B0C + i * 0x10, 16, 10⟩
abbrev CLM_MOV_OVR_PCT (i : Nat) : Fld := ⟨0x981B0C + i * 0x10, 0, 7⟩
abbrev CLM_CIO (i : Nat) : Fld := ⟨0x981C00 + i * 4, 0, 32⟩
abbrev CLM_CIO_OUT (i : Nat) : Fld := ⟨0x981C00 + i * 4, 20, 1⟩
abbrev CLM_CIO_LEVEL (i : Nat) : Fld := ⟨0x981C00 + i * 4, 16, 1⟩
abbrev CLM_CIO_INV (i : Nat) : Fld := ⟨0x981C00 + i * 4, 12, 1⟩
abbrev CLM_CIO_CHAN (i : Nat) : Fld := ⟨0x981C00 + i * 4, 8, 3⟩
abbrev CLM_CIO_FUNC (i : Nat) : Fld := ⟨0x981C00 + i * 4, 0, 5⟩
abbrev CLM_MSTP_CTRL : Fld := ⟨0x981D00, 0, 32⟩
abbrev CLM_MSTP_CTRL_FW_READY : Fld := ⟨0x981D00, 1, 1⟩
abbrev CLM_MSTP_CTRL_EN : Fld := ⟨0x981D00, 0, 1⟩
abbrev CLM_MSTP_CFG : Fld := ⟨0x981D04, 0, 32⟩
abbrev CLM_MSTP_CFG_BAUD : Fld := ⟨0x981D04, 20, 3⟩
abbrev CLM_MSTP_CFG_MAX_INFO : Fld := ⟨0x981D04, 16, 4⟩
abbrev CLM_MSTP_CFG_MAX_MASTER : Fld := ⟨0x981D04, 8, 7⟩
abbrev CLM_MSTP_CFG_MAC : Fld := ⟨0x981D04, 0, 7⟩
abbrev CLM_MSTP_STATUS : Fld := ⟨0x981D08, 0, 32⟩
abbrev CLM_MSTP_STATUS_TX_Q : Fld := ⟨0x981D08, 8, 4⟩
abbrev CLM_MSTP_STATUS_RX_Q : Fld := ⟨0x981D08, 4, 4⟩
abbrev CLM_MSTP_STATUS_LINK : Fld := ⟨0x981D08, 0, 2⟩
abbrev CLM_MSTP_HB : Fld := ⟨0x981D0C, 0, 32⟩
abbrev CLM_MSTP_RX_DROP : Fld := ⟨0x981D10, 0, 32⟩
abbrev CLM_MSTP_ABSENT_DROP : Fld := ⟨0x981D14, 0, 32⟩
abbrev CLM_MSTP_BAD_FRAME : Fld := ⟨0x981D18, 0, 32⟩
abbrev CLM_MSTP_DUP_MAC : Fld := ⟨0x981D1C, 0, 32⟩
abbrev CLM_MSTP_RX_POP : Fld := ⟨0x981D20, 0, 32⟩
abbrev CLM_MSTP_RX_POP_GO : Fld := ⟨0x981D20, 0, 1⟩
abbrev CLM_MSTP_TX_PUSH : Fld := ⟨0x981D24, 0, 32⟩
abbrev CLM_MSTP_TX_PUSH_GO : Fld := ⟨0x981D24, 0, 1⟩
abbrev CLM_SCHED (i j k : Nat) : Fld := ⟨0x982000 + i * 0x200 + j * 0x20 + k * 4, 0, 32⟩
abbrev CLM_SCHED_VALID (i j k : Nat) : Fld := ⟨0x982000 + i * 0x200 + j * 0x20 + k * 4, 31, 1⟩
abbrev CLM_SCHED_HOUR (i j k : Nat) : Fld := ⟨0x982000 + i * 0x200 + j * 0x20 + k * 4, 24, 5⟩
abbrev CLM_SCHED_MINUTE (i j k : Nat) : Fld := ⟨0x982000 + i * 0x200 + j * 0x20 + k * 4, 16, 6⟩
abbrev CLM_SCHED_MODE (i j k : Nat) : Fld := ⟨0x982000 + i * 0x200 + j * 0x20 + k * 4, 0, 2⟩
abbrev CLM_SCHED_SCFG (i : Nat) : Fld := ⟨0x982100 + i * 0x200, 0, 32⟩
abbrev CLM_SCHED_SCFG_DEFAULT (i : Nat) : Fld := ⟨0x982100 + i * 0x200, 0, 2⟩
abbrev CLM_EXC_DATE (i : Nat) : Fld := ⟨0x983000 + i * 8, 0, 32⟩
abbrev CLM_EXC_DATE_EN (i : Nat) : Fld := ⟨0x983000 + i * 8, 31, 1⟩
abbrev CLM_EXC_DATE_YEAR (i : Nat) : Fld := ⟨0x983000 + i * 8, 24, 7⟩
abbrev CLM_EXC_DATE_MONTH (i : Nat) : Fld := ⟨0x983000 + i * 8, 16, 4⟩
abbrev CLM_EXC_DATE_DAY (i : Nat) : Fld := ⟨0x983000 + i * 8, 8, 5⟩
abbrev CLM_EXC_DATE_PROFILE (i : Nat) : Fld := ⟨0x983000 + i * 8, 0, 3⟩
abbrev CLM_EXC_SCHED_MASK (i : Nat) : Fld := ⟨0x983004 + i * 8, 0, 32⟩
abbrev CLM_EXC_SCHED_MASK_MASK (i : Nat) : Fld := ⟨0x983004 + i * 8, 0, 8⟩
abbrev CLM_MSTP_RX (i : Nat) : Fld := ⟨0x984000 + i * 4, 0, 32⟩
abbrev CLM_MSTP_TX (i : Nat) : Fld := ⟨0x984400 + i * 4, 0, 32⟩

/-! ### FAN -/

abbrev FAN_CTRL : Fld := ⟨0x9C0000, 0, 32⟩
abbrev FAN_CTRL_BOOST : Fld := ⟨0x9C0000, 0, 4⟩
abbrev FAN_WDT : Fld := ⟨0x9C0004, 0, 32⟩
abbrev FAN_WDT_MS : Fld := ⟨0x9C0004, 0, 16⟩
abbrev FAN_KICK : Fld := ⟨0x9C0008, 0, 32⟩
abbrev FAN_STATUS : Fld := ⟨0x9C000C, 0, 32⟩
abbrev FAN_STATUS_WDT_EXPIRED : Fld := ⟨0x9C000C, 31, 1⟩
abbrev FAN_STATUS_FULL : Fld := ⟨0x9C000C, 16, 12⟩
abbrev FAN_STATUS_FAULT : Fld := ⟨0x9C000C, 0, 12⟩
abbrev FAN_CH_CFG (i : Nat) : Fld := ⟨0x9C0100 + i * 0x20, 0, 32⟩
abbrev FAN_CH_CFG_EN (i : Nat) : Fld := ⟨0x9C0100 + i * 0x20, 31, 1⟩
abbrev FAN_CH_CFG_INV (i : Nat) : Fld := ⟨0x9C0100 + i * 0x20, 30, 1⟩
abbrev FAN_CH_CFG_LOSS (i : Nat) : Fld := ⟨0x9C0100 + i * 0x20, 29, 1⟩
abbrev FAN_CH_CFG_THM_FULL (i : Nat) : Fld := ⟨0x9C0100 + i * 0x20, 28, 1⟩
abbrev FAN_CH_CFG_STOP_OK (i : Nat) : Fld := ⟨0x9C0100 + i * 0x20, 27, 1⟩
abbrev FAN_CH_CFG_GROUP (i : Nat) : Fld := ⟨0x9C0100 + i * 0x20, 16, 4⟩
abbrev FAN_CH_CFG_PPR (i : Nat) : Fld := ⟨0x9C0100 + i * 0x20, 0, 3⟩
abbrev FAN_CH_SET (i : Nat) : Fld := ⟨0x9C0104 + i * 0x20, 0, 32⟩
abbrev FAN_CH_SET_WRITER (i : Nat) : Fld := ⟨0x9C0104 + i * 0x20, 16, 10⟩
abbrev FAN_CH_SET_PCT (i : Nat) : Fld := ⟨0x9C0104 + i * 0x20, 0, 7⟩
abbrev FAN_CH_LIMITS (i : Nat) : Fld := ⟨0x9C0108 + i * 0x20, 0, 32⟩
abbrev FAN_CH_LIMITS_FAULT_PCT (i : Nat) : Fld := ⟨0x9C0108 + i * 0x20, 8, 8⟩
abbrev FAN_CH_LIMITS_MIN_PCT (i : Nat) : Fld := ⟨0x9C0108 + i * 0x20, 0, 8⟩
abbrev FAN_CH_TACH_CFG (i : Nat) : Fld := ⟨0x9C010C + i * 0x20, 0, 32⟩
abbrev FAN_CH_TACH_CFG_TACH_MIN (i : Nat) : Fld := ⟨0x9C010C + i * 0x20, 16, 16⟩
abbrev FAN_CH_TACH_CFG_TACH_T (i : Nat) : Fld := ⟨0x9C010C + i * 0x20, 8, 8⟩
abbrev FAN_CH_TACH_CFG_SPINUP (i : Nat) : Fld := ⟨0x9C010C + i * 0x20, 0, 8⟩
abbrev FAN_CH_RPM (i : Nat) : Fld := ⟨0x9C0110 + i * 0x20, 0, 32⟩
abbrev FAN_CH_RPM_RPM (i : Nat) : Fld := ⟨0x9C0110 + i * 0x20, 0, 16⟩
abbrev FAN_CH_DUTY (i : Nat) : Fld := ⟨0x9C0114 + i * 0x20, 0, 32⟩
abbrev FAN_CH_DUTY_SOURCE (i : Nat) : Fld := ⟨0x9C0114 + i * 0x20, 8, 3⟩
abbrev FAN_CH_DUTY_PCT (i : Nat) : Fld := ⟨0x9C0114 + i * 0x20, 0, 7⟩
abbrev FAN_CH_CSTATUS (i : Nat) : Fld := ⟨0x9C0118 + i * 0x20, 0, 32⟩
abbrev FAN_CH_CSTATUS_CLR (i : Nat) : Fld := ⟨0x9C0118 + i * 0x20, 31, 1⟩
abbrev FAN_CH_CSTATUS_STATE (i : Nat) : Fld := ⟨0x9C0118 + i * 0x20, 0, 2⟩
abbrev FAN_CH_FAULTS (i : Nat) : Fld := ⟨0x9C011C + i * 0x20, 0, 32⟩

/-! ### MTR -/

abbrev MTR_CH_CFG (i : Nat) : Fld := ⟨0x9E0100 + i * 0x100, 0, 32⟩
abbrev MTR_CH_CFG_EN (i : Nat) : Fld := ⟨0x9E0100 + i * 0x100, 31, 1⟩
abbrev MTR_CH_CFG_MODE_I (i : Nat) : Fld := ⟨0x9E0100 + i * 0x100, 30, 1⟩
abbrev MTR_CH_CFG_STOP_MODE (i : Nat) : Fld := ⟨0x9E0100 + i * 0x100, 29, 1⟩
abbrev MTR_CH_CFG_THM_FULL (i : Nat) : Fld := ⟨0x9E0100 + i * 0x100, 28, 1⟩
abbrev MTR_CH_CFG_DIR (i : Nat) : Fld := ⟨0x9E0100 + i * 0x100, 27, 1⟩
abbrev MTR_CH_CFG_POLE_PAIRS (i : Nat) : Fld := ⟨0x9E0100 + i * 0x100, 16, 4⟩
abbrev MTR_CH_CFG_POL_H (i : Nat) : Fld := ⟨0x9E0100 + i * 0x100, 1, 1⟩
abbrev MTR_CH_CFG_POL_L (i : Nat) : Fld := ⟨0x9E0100 + i * 0x100, 0, 1⟩
abbrev MTR_CH_PWM (i : Nat) : Fld := ⟨0x9E0104 + i * 0x100, 0, 32⟩
abbrev MTR_CH_PWM_SETTLE (i : Nat) : Fld := ⟨0x9E0104 + i * 0x100, 24, 8⟩
abbrev MTR_CH_PWM_DT (i : Nat) : Fld := ⟨0x9E0104 + i * 0x100, 16, 8⟩
abbrev MTR_CH_PWM_TOP (i : Nat) : Fld := ⟨0x9E0104 + i * 0x100, 0, 16⟩
abbrev MTR_CH_SPEED (i : Nat) : Fld := ⟨0x9E0108 + i * 0x100, 0, 32⟩
abbrev MTR_CH_SPEED_SPEED_MAX (i : Nat) : Fld := ⟨0x9E0108 + i * 0x100, 16, 16⟩
abbrev MTR_CH_SPEED_SPEED_MIN (i : Nat) : Fld := ⟨0x9E0108 + i * 0x100, 0, 16⟩
abbrev MTR_CH_SET (i : Nat) : Fld := ⟨0x9E010C + i * 0x100, 0, 32⟩
abbrev MTR_CH_SET_WRITER (i : Nat) : Fld := ⟨0x9E010C + i * 0x100, 16, 10⟩
abbrev MTR_CH_SET_RPM (i : Nat) : Fld := ⟨0x9E010C + i * 0x100, 0, 16⟩
abbrev MTR_CH_START (i : Nat) : Fld := ⟨0x9E0110 + i * 0x100, 0, 32⟩
abbrev MTR_CH_START_TRIES (i : Nat) : Fld := ⟨0x9E0110 + i * 0x100, 28, 4⟩
abbrev MTR_CH_START_RETRY_DELAY (i : Nat) : Fld := ⟨0x9E0110 + i * 0x100, 16, 12⟩
abbrev MTR_CH_START_ALIGN_AMP (i : Nat) : Fld := ⟨0x9E0110 + i * 0x100, 8, 8⟩
abbrev MTR_CH_START_ALIGN_ANGLE (i : Nat) : Fld := ⟨0x9E0110 + i * 0x100, 0, 8⟩
abbrev MTR_CH_RAMP (i : Nat) : Fld := ⟨0x9E0114 + i * 0x100, 0, 32⟩
abbrev MTR_CH_RAMP_RAMP_MS (i : Nat) : Fld := ⟨0x9E0114 + i * 0x100, 16, 16⟩
abbrev MTR_CH_RAMP_RAMP_END (i : Nat) : Fld := ⟨0x9E0114 + i * 0x100, 0, 16⟩
abbrev MTR_CH_HANDOVER (i : Nat) : Fld := ⟨0x9E0118 + i * 0x100, 0, 32⟩
abbrev MTR_CH_HANDOVER_RAMP_AMP (i : Nat) : Fld := ⟨0x9E0118 + i * 0x100, 24, 8⟩
abbrev MTR_CH_HANDOVER_HO_TOL (i : Nat) : Fld := ⟨0x9E0118 + i * 0x100, 16, 8⟩
abbrev MTR_CH_HANDOVER_HO_CONFIRM (i : Nat) : Fld := ⟨0x9E0118 + i * 0x100, 8, 8⟩
abbrev MTR_CH_HANDOVER_ADV (i : Nat) : Fld := ⟨0x9E0118 + i * 0x100, 0, 8⟩
abbrev MTR_CH_FAULT_CFG (i : Nat) : Fld := ⟨0x9E011C + i * 0x100, 0, 32⟩
abbrev MTR_CH_FAULT_CFG_LOCK_T (i : Nat) : Fld := ⟨0x9E011C + i * 0x100, 24, 8⟩
abbrev MTR_CH_FAULT_CFG_KE_T (i : Nat) : Fld := ⟨0x9E011C + i * 0x100, 16, 8⟩
abbrev MTR_CH_FAULT_CFG_OC_N (i : Nat) : Fld := ⟨0x9E011C + i * 0x100, 8, 8⟩
abbrev MTR_CH_FAULT_CFG_RESTART_S (i : Nat) : Fld := ⟨0x9E011C + i * 0x100, 0, 8⟩
abbrev MTR_CH_FP (i j : Nat) : Fld := ⟨0x9E0120 + i * 0x100 + j * 4, 0, 32⟩
abbrev MTR_CH_OC (i : Nat) : Fld := ⟨0x9E0148 + i * 0x100, 0, 32⟩
abbrev MTR_CH_OC_OC_LIM (i : Nat) : Fld := ⟨0x9E0148 + i * 0x100, 16, 12⟩
abbrev MTR_CH_OC_HO_MAX (i : Nat) : Fld := ⟨0x9E0148 + i * 0x100, 0, 16⟩
abbrev MTR_ST_MSTATE (i : Nat) : Fld := ⟨0x9E0180 + i * 0x100, 0, 32⟩
abbrev MTR_ST_MSTATE_CLR (i : Nat) : Fld := ⟨0x9E0180 + i * 0x100, 31, 1⟩
abbrev MTR_ST_MSTATE_FAULT_CODE (i : Nat) : Fld := ⟨0x9E0180 + i * 0x100, 8, 8⟩
abbrev MTR_ST_MSTATE_TRIES_LEFT (i : Nat) : Fld := ⟨0x9E0180 + i * 0x100, 4, 4⟩
abbrev MTR_ST_MSTATE_STATE (i : Nat) : Fld := ⟨0x9E0180 + i * 0x100, 0, 3⟩
abbrev MTR_ST_SPEED_RPM (i : Nat) : Fld := ⟨0x9E0184 + i * 0x100, 0, 32⟩
abbrev MTR_ST_SPEED_RPM_RPM (i : Nat) : Fld := ⟨0x9E0184 + i * 0x100, 0, 16⟩
abbrev MTR_ST_AMP (i : Nat) : Fld := ⟨0x9E0188 + i * 0x100, 0, 32⟩
abbrev MTR_ST_I_MAG (i : Nat) : Fld := ⟨0x9E018C + i * 0x100, 0, 32⟩
abbrev MTR_ST_KE (i : Nat) : Fld := ⟨0x9E0190 + i * 0x100, 0, 32⟩
abbrev MTR_ST_VBUS (i : Nat) : Fld := ⟨0x9E0194 + i * 0x100, 0, 32⟩
abbrev MTR_ST_AUX (i : Nat) : Fld := ⟨0x9E0198 + i * 0x100, 0, 32⟩
abbrev MTR_ST_OC_CYCLES (i : Nat) : Fld := ⟨0x9E019C + i * 0x100, 0, 32⟩
abbrev MTR_ST_STARTS (i : Nat) : Fld := ⟨0x9E01A0 + i * 0x100, 0, 32⟩
abbrev MTR_ST_FAILED_STARTS (i : Nat) : Fld := ⟨0x9E01A4 + i * 0x100, 0, 32⟩
abbrev MTR_ST_ADC_LATE (i : Nat) : Fld := ⟨0x9E01A8 + i * 0x100, 0, 32⟩
abbrev MTR_WAVE (i : Nat) : Fld := ⟨0x9E1000 + i * 4, 0, 32⟩
abbrev MTR_WAVE_ODD (i : Nat) : Fld := ⟨0x9E1000 + i * 4, 16, 16⟩
abbrev MTR_WAVE_EVEN (i : Nat) : Fld := ⟨0x9E1000 + i * 4, 0, 16⟩

/-! ### PNL -/

abbrev PNL_CTRL : Fld := ⟨0xA00000, 0, 32⟩
abbrev PNL_CTRL_DIODES : Fld := ⟨0xA00000, 3, 1⟩
abbrev PNL_CTRL_LOCK : Fld := ⟨0xA00000, 2, 1⟩
abbrev PNL_CTRL_UNLOCK : Fld := ⟨0xA00000, 1, 1⟩
abbrev PNL_CTRL_EN : Fld := ⟨0xA00000, 0, 1⟩
abbrev PNL_STATUS : Fld := ⟨0xA00004, 0, 32⟩
abbrev PNL_STATUS_OVF : Fld := ⟨0xA00004, 16, 1⟩
abbrev PNL_STATUS_FIFO_CNT : Fld := ⟨0xA00004, 8, 8⟩
abbrev PNL_STATUS_UNLOCK_POS : Fld := ⟨0xA00004, 4, 4⟩
abbrev PNL_STATUS_LOCKED : Fld := ⟨0xA00004, 1, 1⟩
abbrev PNL_STATUS_SCANNING : Fld := ⟨0xA00004, 0, 1⟩
abbrev PNL_CFG : Fld := ⟨0xA00008, 0, 32⟩
abbrev PNL_CFG_UNLOCK_GAP : Fld := ⟨0xA00008, 24, 8⟩
abbrev PNL_CFG_STUCK : Fld := ⟨0xA00008, 16, 8⟩
abbrev PNL_CFG_LONG : Fld := ⟨0xA00008, 8, 8⟩
abbrev PNL_CFG_DEB : Fld := ⟨0xA00008, 0, 5⟩
abbrev PNL_EVT : Fld := ⟨0xA0000C, 0, 32⟩
abbrev PNL_IRQ : Fld := ⟨0xA00010, 0, 32⟩
abbrev PNL_IRQ_EN : Fld := ⟨0xA00010, 7, 1⟩
abbrev PNL_IRQ_VEC : Fld := ⟨0xA00010, 0, 6⟩
abbrev PNL_PRESSED (i : Nat) : Fld := ⟨0xA00020 + i * 4, 0, 32⟩
abbrev PNL_MASKED (i : Nat) : Fld := ⟨0xA00030 + i * 4, 0, 32⟩
abbrev PNL_LADDER_CFG (i : Nat) : Fld := ⟨0xA00040 + i * 0x40, 0, 32⟩
abbrev PNL_LADDER_CFG_EN (i : Nat) : Fld := ⟨0xA00040 + i * 0x40, 31, 1⟩
abbrev PNL_LADDER_CFG_CH (i : Nat) : Fld := ⟨0xA00040 + i * 0x40, 0, 4⟩
abbrev PNL_LADDER_THR (i j : Nat) : Fld := ⟨0xA00044 + i * 0x40 + j * 4, 0, 32⟩
abbrev PNL_LADDER_THR_CODE (i j : Nat) : Fld := ⟨0xA00044 + i * 0x40 + j * 4, 0, 12⟩
abbrev PNL_COMBO_KEYS (i : Nat) : Fld := ⟨0xA00100 + i * 0x10, 0, 32⟩
abbrev PNL_COMBO_KEYS_CODE3 (i : Nat) : Fld := ⟨0xA00100 + i * 0x10, 24, 8⟩
abbrev PNL_COMBO_KEYS_CODE2 (i : Nat) : Fld := ⟨0xA00100 + i * 0x10, 16, 8⟩
abbrev PNL_COMBO_KEYS_CODE1 (i : Nat) : Fld := ⟨0xA00100 + i * 0x10, 8, 8⟩
abbrev PNL_COMBO_KEYS_CODE0 (i : Nat) : Fld := ⟨0xA00100 + i * 0x10, 0, 8⟩
abbrev PNL_COMBO_CCFG (i : Nat) : Fld := ⟨0xA00104 + i * 0x10, 0, 32⟩
abbrev PNL_COMBO_CCFG_EN (i : Nat) : Fld := ⟨0xA00104 + i * 0x10, 31, 1⟩
abbrev PNL_COMBO_CCFG_ACTION (i : Nat) : Fld := ⟨0xA00104 + i * 0x10, 28, 2⟩
abbrev PNL_COMBO_CCFG_LOCKED_OK (i : Nat) : Fld := ⟨0xA00104 + i * 0x10, 27, 1⟩
abbrev PNL_COMBO_CCFG_HOLD (i : Nat) : Fld := ⟨0xA00104 + i * 0x10, 0, 8⟩
abbrev PNL_UNLOCK_LEN : Fld := ⟨0xA00200, 0, 32⟩
abbrev PNL_UNLOCK_LEN_LEN : Fld := ⟨0xA00200, 0, 4⟩
abbrev PNL_UNLOCK_CODES (i : Nat) : Fld := ⟨0xA00204 + i * 4, 0, 32⟩
abbrev PNL_QEP_QCFG (i : Nat) : Fld := ⟨0xA00300 + i * 0x10, 0, 32⟩
abbrev PNL_QEP_QCFG_EN (i : Nat) : Fld := ⟨0xA00300 + i * 0x10, 31, 1⟩
abbrev PNL_QEP_QCFG_STEP2 (i : Nat) : Fld := ⟨0xA00300 + i * 0x10, 30, 1⟩
abbrev PNL_QEP_QCFG_IDX_EN (i : Nat) : Fld := ⟨0xA00300 + i * 0x10, 29, 1⟩
abbrev PNL_QEP_QCFG_IDX_CLR (i : Nat) : Fld := ⟨0xA00300 + i * 0x10, 28, 1⟩
abbrev PNL_QEP_QCFG_SWAP (i : Nat) : Fld := ⟨0xA00300 + i * 0x10, 27, 1⟩
abbrev PNL_QEP_QCFG_FILT (i : Nat) : Fld := ⟨0xA00300 + i * 0x10, 0, 4⟩
abbrev PNL_QEP_COUNT (i : Nat) : Fld := ⟨0xA00304 + i * 0x10, 0, 32⟩
abbrev PNL_QEP_IDX_LATCH (i : Nat) : Fld := ⟨0xA00308 + i * 0x10, 0, 32⟩
abbrev PNL_QEP_ERR (i : Nat) : Fld := ⟨0xA0030C + i * 0x10, 0, 32⟩
abbrev PNL_QEP_ERR_FLAG (i : Nat) : Fld := ⟨0xA0030C + i * 0x10, 31, 1⟩
abbrev PNL_QEP_ERR_QEP_ERR (i : Nat) : Fld := ⟨0xA0030C + i * 0x10, 0, 31⟩
abbrev PNL_LED (i : Nat) : Fld := ⟨0xA00400 + i * 4, 0, 32⟩
abbrev PNL_LED_POL (i : Nat) : Fld := ⟨0xA00400 + i * 4, 31, 1⟩
abbrev PNL_LED_DUTY (i : Nat) : Fld := ⟨0xA00400 + i * 4, 8, 8⟩
abbrev PNL_LED_RATE (i : Nat) : Fld := ⟨0xA00400 + i * 4, 2, 2⟩
abbrev PNL_LED_MODE (i : Nat) : Fld := ⟨0xA00400 + i * 4, 0, 2⟩

/-! ### SPM -/

abbrev SPM0_CFG : Fld := ⟨0xA20000, 0, 32⟩
abbrev SPM0_CFG_ENTRY_VAL : Fld := ⟨0xA20000, 24, 8⟩
abbrev SPM0_CFG_DUMMY : Fld := ⟨0xA20000, 16, 5⟩
abbrev SPM0_CFG_DIV : Fld := ⟨0xA20000, 8, 4⟩
abbrev SPM0_CFG_MODE : Fld := ⟨0xA20000, 0, 1⟩
abbrev SPM0_STATUS : Fld := ⟨0xA20004, 0, 32⟩
abbrev SPM0_STATUS_FALLBACK : Fld := ⟨0xA20004, 4, 1⟩
abbrev SPM0_STATUS_QUEUED : Fld := ⟨0xA20004, 2, 1⟩
abbrev SPM0_STATUS_FETCH : Fld := ⟨0xA20004, 1, 1⟩
abbrev SPM0_STATUS_BUSY : Fld := ⟨0xA20004, 0, 1⟩
abbrev SPM0_TMO : Fld := ⟨0xA20008, 0, 32⟩
abbrev SPM0_TMO_ERASE_MAX : Fld := ⟨0xA20008, 16, 16⟩
abbrev SPM0_TMO_PROG_MAX : Fld := ⟨0xA20008, 0, 16⟩
abbrev SPM0_CMD : Fld := ⟨0xA20010, 0, 32⟩
abbrev SPM0_CMD_KEY : Fld := ⟨0xA20010, 16, 16⟩
abbrev SPM0_CMD_OP : Fld := ⟨0xA20010, 0, 4⟩
abbrev SPM0_ADDR (n : Ident) : Fld := ⟨initKey n 0xA20014, 0, 32⟩
abbrev SPM0_ADDR_ADDR (n : Ident) : Fld := ⟨initKey n 0xA20014, 0, 28⟩
abbrev SPM0_LEN (n : Ident) : Fld := ⟨initKey n 0xA20018, 0, 32⟩
abbrev SPM0_LEN_LEN (n : Ident) : Fld := ⟨initKey n 0xA20018, 0, 9⟩
abbrev SPM0_RESULT (n : Ident) : Fld := ⟨initKey n 0xA2001C, 0, 32⟩
abbrev SPM0_RESULT_DONE (n : Ident) : Fld := ⟨initKey n 0xA2001C, 31, 1⟩
abbrev SPM0_RESULT_QUEUED (n : Ident) : Fld := ⟨initKey n 0xA2001C, 30, 1⟩
abbrev SPM0_RESULT_CODE (n : Ident) : Fld := ⟨initKey n 0xA2001C, 0, 4⟩
abbrev SPM0_BUF (n : Ident) (i : Nat) : Fld := ⟨initKey n (0xA20100 + i * 4), 0, 32⟩
abbrev SPM1_CTRL : Fld := ⟨0xA21000, 0, 32⟩
abbrev SPM1_CTRL_OWNER : Fld := ⟨0xA21000, 1, 1⟩
abbrev SPM1_CTRL_EN : Fld := ⟨0xA21000, 0, 1⟩
abbrev SPM1_XFER : Fld := ⟨0xA21004, 0, 32⟩
abbrev SPM1_XFER_GO : Fld := ⟨0xA21004, 31, 1⟩
abbrev SPM1_XFER_TGT : Fld := ⟨0xA21004, 24, 4⟩
abbrev SPM1_XFER_CMD_LEN : Fld := ⟨0xA21004, 20, 2⟩
abbrev SPM1_XFER_ADDR_LEN : Fld := ⟨0xA21004, 16, 3⟩
abbrev SPM1_XFER_DIR : Fld := ⟨0xA21004, 12, 1⟩
abbrev SPM1_XFER_DATA_LEN : Fld := ⟨0xA21004, 0, 9⟩
abbrev SPM1_CMDW : Fld := ⟨0xA21008, 0, 32⟩
abbrev SPM1_ADDRW : Fld := ⟨0xA2100C, 0, 32⟩
abbrev SPM1_RESULT : Fld := ⟨0xA21010, 0, 32⟩
abbrev SPM1_RESULT_DONE : Fld := ⟨0xA21010, 31, 1⟩
abbrev SPM1_RESULT_QUEUED : Fld := ⟨0xA21010, 30, 1⟩
abbrev SPM1_RESULT_CODE : Fld := ⟨0xA21010, 0, 4⟩
abbrev SPM1_RDY_TMO : Fld := ⟨0xA21014, 0, 32⟩
abbrev SPM1_RDY_TMO_US : Fld := ⟨0xA21014, 0, 8⟩
abbrev SPM1_TGT (i : Nat) : Fld := ⟨0xA21100 + i * 4, 0, 32⟩
abbrev SPM1_TGT_RDY_EN (i : Nat) : Fld := ⟨0xA21100 + i * 4, 31, 1⟩
abbrev SPM1_TGT_MODE3 (i : Nat) : Fld := ⟨0xA21100 + i * 4, 30, 1⟩
abbrev SPM1_TGT_DUMMY (i : Nat) : Fld := ⟨0xA21100 + i * 4, 24, 5⟩
abbrev SPM1_TGT_LANES_DATA (i : Nat) : Fld := ⟨0xA21100 + i * 4, 20, 3⟩
abbrev SPM1_TGT_LANES_ADDR (i : Nat) : Fld := ⟨0xA21100 + i * 4, 16, 3⟩
abbrev SPM1_TGT_LANES_CMD (i : Nat) : Fld := ⟨0xA21100 + i * 4, 12, 3⟩
abbrev SPM1_TGT_DIV (i : Nat) : Fld := ⟨0xA21100 + i * 4, 0, 8⟩
abbrev SPM1_BUF (i : Nat) : Fld := ⟨0xA21200 + i * 4, 0, 32⟩

/-! ### SPS -/

abbrev SPS_CFG : Fld := ⟨0xA40000, 0, 32⟩
abbrev SPS_CFG_RESET_EN : Fld := ⟨0xA40000, 1, 1⟩
abbrev SPS_CFG_WR_EN : Fld := ⟨0xA40000, 0, 1⟩
abbrev SPS_STATUS : Fld := ⟨0xA40004, 0, 32⟩
abbrev SPS_STATUS_SELECTED : Fld := ⟨0xA40004, 0, 1⟩
abbrev SPS_XACT : Fld := ⟨0xA40008, 0, 32⟩
abbrev SPS_ERR : Fld := ⟨0xA4000C, 0, 32⟩

/-! ### UAR -/

abbrev UAR_CFG (i : Nat) : Fld := ⟨0xA60000 + i * 0x100, 0, 32⟩
abbrev UAR_CFG_EN (i : Nat) : Fld := ⟨0xA60000 + i * 0x100, 31, 1⟩
abbrev UAR_CFG_OWNER (i : Nat) : Fld := ⟨0xA60000 + i * 0x100, 25, 1⟩
abbrev UAR_CFG_MODBUS (i : Nat) : Fld := ⟨0xA60000 + i * 0x100, 24, 1⟩
abbrev UAR_CFG_ECHO (i : Nat) : Fld := ⟨0xA60000 + i * 0x100, 20, 1⟩
abbrev UAR_CFG_DE_POL (i : Nat) : Fld := ⟨0xA60000 + i * 0x100, 19, 1⟩
abbrev UAR_CFG_DE_EN (i : Nat) : Fld := ⟨0xA60000 + i * 0x100, 18, 1⟩
abbrev UAR_CFG_PARITY (i : Nat) : Fld := ⟨0xA60000 + i * 0x100, 16, 2⟩
abbrev UAR_CFG_STOP2 (i : Nat) : Fld := ⟨0xA60000 + i * 0x100, 12, 1⟩
abbrev UAR_CFG_DATA7 (i : Nat) : Fld := ⟨0xA60000 + i * 0x100, 8, 1⟩
abbrev UAR_DIV (i : Nat) : Fld := ⟨0xA60004 + i * 0x100, 0, 32⟩
abbrev UAR_DIV_INT (i : Nat) : Fld := ⟨0xA60004 + i * 0x100, 4, 16⟩
abbrev UAR_DIV_FRAC (i : Nat) : Fld := ⟨0xA60004 + i * 0x100, 0, 4⟩
abbrev UAR_DE (i : Nat) : Fld := ⟨0xA60008 + i * 0x100, 0, 32⟩
abbrev UAR_DE_LAG (i : Nat) : Fld := ⟨0xA60008 + i * 0x100, 8, 8⟩
abbrev UAR_DE_LEAD (i : Nat) : Fld := ⟨0xA60008 + i * 0x100, 0, 8⟩
abbrev UAR_DATA (i : Nat) : Fld := ⟨0xA6000C + i * 0x100, 0, 32⟩
abbrev UAR_DATA_VALID (i : Nat) : Fld := ⟨0xA6000C + i * 0x100, 31, 1⟩
abbrev UAR_DATA_SOM (i : Nat) : Fld := ⟨0xA6000C + i * 0x100, 12, 1⟩
abbrev UAR_DATA_GAP (i : Nat) : Fld := ⟨0xA6000C + i * 0x100, 11, 1⟩
abbrev UAR_DATA_BRK (i : Nat) : Fld := ⟨0xA6000C + i * 0x100, 10, 1⟩
abbrev UAR_DATA_PE (i : Nat) : Fld := ⟨0xA6000C + i * 0x100, 9, 1⟩
abbrev UAR_DATA_FE (i : Nat) : Fld := ⟨0xA6000C + i * 0x100, 8, 1⟩
abbrev UAR_DATA_BYTE (i : Nat) : Fld := ⟨0xA6000C + i * 0x100, 0, 8⟩
abbrev UAR_STATUS (i : Nat) : Fld := ⟨0xA60010 + i * 0x100, 0, 32⟩
abbrev UAR_STATUS_RX_CNT (i : Nat) : Fld := ⟨0xA60010 + i * 0x100, 16, 8⟩
abbrev UAR_STATUS_TX_CNT (i : Nat) : Fld := ⟨0xA60010 + i * 0x100, 8, 8⟩
abbrev UAR_STATUS_TX_DROP (i : Nat) : Fld := ⟨0xA60010 + i * 0x100, 2, 1⟩
abbrev UAR_STATUS_IDLE (i : Nat) : Fld := ⟨0xA60010 + i * 0x100, 1, 1⟩
abbrev UAR_STATUS_TX_EMPTY (i : Nat) : Fld := ⟨0xA60010 + i * 0x100, 0, 1⟩
abbrev UAR_IRQ (i : Nat) : Fld := ⟨0xA60014 + i * 0x100, 0, 32⟩
abbrev UAR_IRQ_EN (i : Nat) : Fld := ⟨0xA60014 + i * 0x100, 31, 1⟩
abbrev UAR_IRQ_VEC (i : Nat) : Fld := ⟨0xA60014 + i * 0x100, 24, 6⟩
abbrev UAR_IRQ_RX (i : Nat) : Fld := ⟨0xA60014 + i * 0x100, 2, 1⟩
abbrev UAR_IRQ_EOM (i : Nat) : Fld := ⟨0xA60014 + i * 0x100, 1, 1⟩
abbrev UAR_IRQ_TXE (i : Nat) : Fld := ⟨0xA60014 + i * 0x100, 0, 1⟩
abbrev UAR_FRAMING (i : Nat) : Fld := ⟨0xA60018 + i * 0x100, 0, 32⟩
abbrev UAR_PARITY (i : Nat) : Fld := ⟨0xA6001C + i * 0x100, 0, 32⟩
abbrev UAR_OVERRUN (i : Nat) : Fld := ⟨0xA60020 + i * 0x100, 0, 32⟩
abbrev UAR_BREAK (i : Nat) : Fld := ⟨0xA60024 + i * 0x100, 0, 32⟩
abbrev UAR_NOISE (i : Nat) : Fld := ⟨0xA60028 + i * 0x100, 0, 32⟩

/-! ### IIC -/

abbrev IIC_CFG (i : Nat) : Fld := ⟨0xA80000 + i * 0x100, 0, 32⟩
abbrev IIC_CFG_EN (i : Nat) : Fld := ⟨0xA80000 + i * 0x100, 31, 1⟩
abbrev IIC_CFG_STRETCH (i : Nat) : Fld := ⟨0xA80000 + i * 0x100, 8, 8⟩
abbrev IIC_CFG_SPEED (i : Nat) : Fld := ⟨0xA80000 + i * 0x100, 0, 2⟩
abbrev IIC_XFER (n : Ident) (i : Nat) : Fld := ⟨initKey n (0xA80004 + i * 0x100), 0, 32⟩
abbrev IIC_XFER_GO (n : Ident) (i : Nat) : Fld := ⟨initKey n (0xA80004 + i * 0x100), 31, 1⟩
abbrev IIC_XFER_PEC (n : Ident) (i : Nat) : Fld := ⟨initKey n (0xA80004 + i * 0x100), 30, 1⟩
abbrev IIC_XFER_SFP_SEL (n : Ident) (i : Nat) : Fld := ⟨initKey n (0xA80004 + i * 0x100), 27, 1⟩
abbrev IIC_XFER_SFP (n : Ident) (i : Nat) : Fld := ⟨initKey n (0xA80004 + i * 0x100), 24, 3⟩
abbrev IIC_XFER_ADDR (n : Ident) (i : Nat) : Fld := ⟨initKey n (0xA80004 + i * 0x100), 16, 7⟩
abbrev IIC_XFER_RLEN (n : Ident) (i : Nat) : Fld := ⟨initKey n (0xA80004 + i * 0x100), 8, 6⟩
abbrev IIC_XFER_WLEN (n : Ident) (i : Nat) : Fld := ⟨initKey n (0xA80004 + i * 0x100), 0, 6⟩
abbrev IIC_RESULT (n : Ident) (i : Nat) : Fld := ⟨initKey n (0xA80008 + i * 0x100), 0, 32⟩
abbrev IIC_RESULT_DONE (n : Ident) (i : Nat) : Fld := ⟨initKey n (0xA80008 + i * 0x100), 31, 1⟩
abbrev IIC_RESULT_CODE (n : Ident) (i : Nat) : Fld := ⟨initKey n (0xA80008 + i * 0x100), 0, 4⟩
abbrev IIC_WBUF (n : Ident) (i j : Nat) : Fld := ⟨initKey n (0xA80010 + i * 0x100 + j * 4), 0, 32⟩
abbrev IIC_RBUF (n : Ident) (i j : Nat) : Fld := ⟨initKey n (0xA80030 + i * 0x100 + j * 4), 0, 32⟩
abbrev IIC_FAIL (i : Nat) : Fld := ⟨0xA80050 + i * 0x100, 0, 32⟩
abbrev IIC_MUX : Fld := ⟨0xA80200, 0, 32⟩
abbrev IIC_MUX_EN : Fld := ⟨0xA80200, 7, 1⟩
abbrev IIC_MUX_ADDR : Fld := ⟨0xA80200, 0, 7⟩
abbrev IIC_SFP (i : Nat) : Fld := ⟨0xA80300 + i * 4, 0, 32⟩
abbrev IIC_SFP_TXDIS_FORCE (i : Nat) : Fld := ⟨0xA80300 + i * 4, 31, 1⟩
abbrev IIC_SFP_TXDIS (i : Nat) : Fld := ⟨0xA80300 + i * 4, 2, 1⟩
abbrev IIC_SFP_LOS (i : Nat) : Fld := ⟨0xA80300 + i * 4, 1, 1⟩
abbrev IIC_SFP_PRESENT (i : Nat) : Fld := ⟨0xA80300 + i * 4, 0, 1⟩

/-! ### MBX -/

abbrev MBX_MSG (i j : Nat) : Fld := ⟨0xB00000 + i * 0x100 + j * 4, 0, 32⟩
abbrev MBX_LOCK (i : Nat) : Fld := ⟨0xB00040 + i * 0x100, 0, 32⟩
abbrev MBX_LOCK_DENIED (i : Nat) : Fld := ⟨0xB00040 + i * 0x100, 31, 1⟩
abbrev MBX_LOCK_OWNER (i : Nat) : Fld := ⟨0xB00040 + i * 0x100, 0, 10⟩
abbrev MBX_SEND (i : Nat) : Fld := ⟨0xB00044 + i * 0x100, 0, 32⟩
abbrev MBX_SEND_GO (i : Nat) : Fld := ⟨0xB00044 + i * 0x100, 0, 1⟩
abbrev MBX_STATUS (i : Nat) : Fld := ⟨0xB00048 + i * 0x100, 0, 32⟩
abbrev MBX_STATUS_ERR_SEND (i : Nat) : Fld := ⟨0xB00048 + i * 0x100, 9, 1⟩
abbrev MBX_STATUS_ERR_WR (i : Nat) : Fld := ⟨0xB00048 + i * 0x100, 8, 1⟩
abbrev MBX_STATUS_ACKED (i : Nat) : Fld := ⟨0xB00048 + i * 0x100, 1, 1⟩
abbrev MBX_STATUS_FULL (i : Nat) : Fld := ⟨0xB00048 + i * 0x100, 0, 1⟩
abbrev MBX_ACK (i : Nat) : Fld := ⟨0xB0004C + i * 0x100, 0, 32⟩
abbrev MBX_ACK_CODE (i : Nat) : Fld := ⟨0xB0004C + i * 0x100, 0, 16⟩
abbrev MBX_POP (i : Nat) : Fld := ⟨0xB00050 + i * 0x100, 0, 32⟩
abbrev MBX_RX_NOTE (i : Nat) : Fld := ⟨0xB00054 + i * 0x100, 0, 32⟩
abbrev MBX_RX_NOTE_EN (i : Nat) : Fld := ⟨0xB00054 + i * 0x100, 7, 1⟩
abbrev MBX_RX_NOTE_VEC (i : Nat) : Fld := ⟨0xB00054 + i * 0x100, 0, 6⟩
abbrev MBX_TX_NOTE (i : Nat) : Fld := ⟨0xB00058 + i * 0x100, 0, 32⟩
abbrev MBX_TX_NOTE_EN (i : Nat) : Fld := ⟨0xB00058 + i * 0x100, 7, 1⟩
abbrev MBX_TX_NOTE_VEC (i : Nat) : Fld := ⟨0xB00058 + i * 0x100, 0, 6⟩
abbrev MBX_BIND (i : Nat) : Fld := ⟨0xB10000 + i * 4, 0, 32⟩
abbrev MBX_BIND_MODE (i : Nat) : Fld := ⟨0xB10000 + i * 4, 31, 1⟩
abbrev MBX_BIND_SENDER (i : Nat) : Fld := ⟨0xB10000 + i * 4, 10, 10⟩
abbrev MBX_BIND_RECEIVER (i : Nat) : Fld := ⟨0xB10000 + i * 4, 0, 10⟩
abbrev MBX_BIND_LOCK : Fld := ⟨0xB10100, 0, 32⟩
abbrev MBX_BIND_LOCK_LOCK : Fld := ⟨0xB10100, 0, 1⟩
abbrev MBX_CFG : Fld := ⟨0xB10104, 0, 32⟩
abbrev MBX_CFG_LOCK_TMO : Fld := ⟨0xB10104, 0, 16⟩
abbrev MBX_DB (i : Nat) : Fld := ⟨0xB20000 + i * 4, 0, 32⟩
abbrev MBX_DB_UP (i : Nat) : Fld := ⟨0xB20000 + i * 4, 4, 4⟩
abbrev MBX_DB_DOWN (i : Nat) : Fld := ⟨0xB20000 + i * 4, 0, 4⟩
abbrev MBX_DB_ROUTE : Fld := ⟨0xB20200, 0, 32⟩
abbrev MBX_DB_ROUTE_MGR : Fld := ⟨0xB20200, 8, 1⟩
abbrev MBX_DB_ROUTE_PF_VEC : Fld := ⟨0xB20200, 0, 6⟩

/-! ### BBX -/

abbrev BBX_CFG : Fld := ⟨0xB80000, 0, 32⟩
abbrev BBX_CFG_OVERWRITE : Fld := ⟨0xB80000, 17, 1⟩
abbrev BBX_CFG_AUTO_UNFREEZE : Fld := ⟨0xB80000, 16, 1⟩
abbrev BBX_CFG_POST_MS : Fld := ⟨0xB80000, 8, 8⟩
abbrev BBX_CFG_MIN_SEV : Fld := ⟨0xB80000, 0, 3⟩
abbrev BBX_STATUS : Fld := ⟨0xB80004, 0, 32⟩
abbrev BBX_STATUS_ERASED : Fld := ⟨0xB80004, 16, 5⟩
abbrev BBX_STATUS_LAST_SLOT : Fld := ⟨0xB80004, 8, 4⟩
abbrev BBX_STATUS_MISSED_SAFETY : Fld := ⟨0xB80004, 5, 1⟩
abbrev BBX_STATUS_SNAP : Fld := ⟨0xB80004, 3, 2⟩
abbrev BBX_STATUS_STATE : Fld := ⟨0xB80004, 0, 2⟩
abbrev BBX_CMD : Fld := ⟨0xB80008, 0, 32⟩
abbrev BBX_CMD_KEY : Fld := ⟨0xB80008, 16, 16⟩
abbrev BBX_CMD_SLOT : Fld := ⟨0xB80008, 8, 4⟩
abbrev BBX_CMD_CMD : Fld := ⟨0xB80008, 0, 4⟩
abbrev BBX_HEAD : Fld := ⟨0xB8000C, 0, 32⟩
abbrev BBX_HEAD_SEQ : Fld := ⟨0xB8000C, 0, 16⟩
abbrev BBX_TRIG_SEQ : Fld := ⟨0xB80010, 0, 32⟩
abbrev BBX_TRIG_SEQ_SEQ : Fld := ⟨0xB80010, 0, 16⟩
abbrev BBX_LOST : Fld := ⟨0xB80014, 0, 32⟩
abbrev BBX_FROZEN_DROP : Fld := ⟨0xB80018, 0, 32⟩
abbrev BBX_BMC_PAGE : Fld := ⟨0xB8001C, 0, 32⟩
abbrev BBX_BMC_PAGE_PAGE : Fld := ⟨0xB8001C, 0, 4⟩
abbrev BBX_SLOT (i : Nat) : Fld := ⟨0xB80100 + i * 4, 0, 32⟩
abbrev BBX_SLOT_SSTATE (i : Nat) : Fld := ⟨0xB80100 + i * 4, 30, 2⟩
abbrev BBX_SLOT_COUNT (i : Nat) : Fld := ⟨0xB80100 + i * 4, 0, 16⟩
abbrev BBX_RING (i j k : Nat) : Fld := ⟨0xB90000 + i * 0x10000 + j * 0x20 + k * 4, 0, 32⟩

/-! ### DBG -/

abbrev DBG_CTRL : Fld := ⟨0xC00000, 0, 32⟩
abbrev DBG_CTRL_PORT_EN : Fld := ⟨0xC00000, 0, 1⟩
abbrev DBG_STATUS : Fld := ⟨0xC00004, 0, 32⟩
abbrev DBG_STATUS_ATTACHED : Fld := ⟨0xC00004, 0, 1⟩

/-! ### TW -/

abbrev TW_ID (i : Nat) : Fld := ⟨0x4000000 + i * 0x40000, 0, 32⟩
abbrev TW_STATUS (i : Nat) : Fld := ⟨0x4000004 + i * 0x40000, 0, 32⟩
abbrev TW_LIMITS (i : Nat) : Fld := ⟨0x4000008 + i * 0x40000, 0, 32⟩
abbrev TW_CTRL (i : Nat) : Fld := ⟨0x400000C + i * 0x40000, 0, 32⟩
abbrev TW_CTRL_TUNQ (i : Nat) : Fld := ⟨0x400000C + i * 0x40000, 8, 6⟩
abbrev TW_CTRL_DRQ (i : Nat) : Fld := ⟨0x400000C + i * 0x40000, 0, 6⟩
abbrev TW_RELEASE (i : Nat) : Fld := ⟨0x4000010 + i * 0x40000, 0, 32⟩
abbrev TW_EP_PAGE (i : Nat) : Fld := ⟨0x4000014 + i * 0x40000, 0, 32⟩
abbrev TW_RSS_LO (i : Nat) : Fld := ⟨0x4000018 + i * 0x40000, 0, 32⟩
abbrev TW_RSS_HI (i : Nat) : Fld := ⟨0x400001C + i * 0x40000, 0, 32⟩
abbrev TW_IRQ_DROP (i : Nat) : Fld := ⟨0x4000020 + i * 0x40000, 0, 32⟩
abbrev EVQ_BASE_LO (i : Nat) : Fld := ⟨0x4000030 + i * 0x40000, 0, 32⟩
abbrev EVQ_BASE_HI (i : Nat) : Fld := ⟨0x4000034 + i * 0x40000, 0, 32⟩
abbrev EVQ_CFG (i : Nat) : Fld := ⟨0x4000038 + i * 0x40000, 0, 32⟩
abbrev EVQ_CFG_EN (i : Nat) : Fld := ⟨0x4000038 + i * 0x40000, 31, 1⟩
abbrev EVQ_CFG_VEC (i : Nat) : Fld := ⟨0x4000038 + i * 0x40000, 24, 6⟩
abbrev EVQ_CFG_SZ_M6 (i : Nat) : Fld := ⟨0x4000038 + i * 0x40000, 0, 4⟩
abbrev EVQ_HEAD (i : Nat) : Fld := ⟨0x400003C + i * 0x40000, 0, 32⟩
abbrev EVQ_LOST (i : Nat) : Fld := ⟨0x4000040 + i * 0x40000, 0, 32⟩
abbrev QCFG (i j : Nat) : Fld := ⟨0x4001000 + i * 0x40000 + j * 0x40, 0, 32⟩
abbrev QCFG_EN (i j : Nat) : Fld := ⟨0x4001000 + i * 0x40000 + j * 0x40, 31, 1⟩
abbrev QCFG_HOLD (i j : Nat) : Fld := ⟨0x4001000 + i * 0x40000 + j * 0x40, 30, 1⟩
abbrev QCFG_HDR_LEN (i j : Nat) : Fld := ⟨0x4001000 + i * 0x40000 + j * 0x40, 28, 2⟩
abbrev QCFG_SZ (i j : Nat) : Fld := ⟨0x4001000 + i * 0x40000 + j * 0x40, 24, 4⟩
abbrev QCFG_VEC (i j : Nat) : Fld := ⟨0x4001000 + i * 0x40000 + j * 0x40, 16, 6⟩
abbrev QCFG_ITR (i j : Nat) : Fld := ⟨0x4001000 + i * 0x40000 + j * 0x40, 0, 10⟩
abbrev TX_BASE_LO (i j : Nat) : Fld := ⟨0x4001008 + i * 0x40000 + j * 0x40, 0, 32⟩
abbrev TX_BASE_HI (i j : Nat) : Fld := ⟨0x400100C + i * 0x40000 + j * 0x40, 0, 32⟩
abbrev RX_BASE_LO (i j : Nat) : Fld := ⟨0x4001010 + i * 0x40000 + j * 0x40, 0, 32⟩
abbrev RX_BASE_HI (i j : Nat) : Fld := ⟨0x4001014 + i * 0x40000 + j * 0x40, 0, 32⟩
abbrev TX_TAIL (i j : Nat) : Fld := ⟨0x4001018 + i * 0x40000 + j * 0x40, 0, 32⟩
abbrev RX_TAIL (i j : Nat) : Fld := ⟨0x400101C + i * 0x40000 + j * 0x40, 0, 32⟩
abbrev TX_HEAD (i j : Nat) : Fld := ⟨0x4001020 + i * 0x40000 + j * 0x40, 0, 32⟩
abbrev RX_HEAD (i j : Nat) : Fld := ⟨0x4001024 + i * 0x40000 + j * 0x40, 0, 32⟩
abbrev QSTATUS (i j : Nat) : Fld := ⟨0x4001028 + i * 0x40000 + j * 0x40, 0, 32⟩
abbrev QSTATUS_STATE (i j : Nat) : Fld := ⟨0x4001028 + i * 0x40000 + j * 0x40, 28, 4⟩
abbrev QSTATUS_CODE (i j : Nat) : Fld := ⟨0x4001028 + i * 0x40000 + j * 0x40, 24, 4⟩
abbrev QSTATUS_INDEX (i j : Nat) : Fld := ⟨0x4001028 + i * 0x40000 + j * 0x40, 0, 12⟩
abbrev HOST_DROP (i j : Nat) : Fld := ⟨0x400102C + i * 0x40000 + j * 0x40, 0, 32⟩
abbrev RCFG (i j : Nat) : Fld := ⟨0x4002000 + i * 0x40000 + j * 0x20, 0, 32⟩
abbrev RCFG_EN (i j : Nat) : Fld := ⟨0x4002000 + i * 0x40000 + j * 0x20, 31, 1⟩
abbrev RCFG_IRQ (i j : Nat) : Fld := ⟨0x4002000 + i * 0x40000 + j * 0x20, 30, 1⟩
abbrev RCFG_VEC (i j : Nat) : Fld := ⟨0x4002000 + i * 0x40000 + j * 0x20, 24, 6⟩
abbrev RCFG_SZ (i j : Nat) : Fld := ⟨0x4002000 + i * 0x40000 + j * 0x20, 20, 4⟩
abbrev RCFG_PUB (i j : Nat) : Fld := ⟨0x4002000 + i * 0x40000 + j * 0x20, 0, 8⟩
abbrev RBASE_LO (i j : Nat) : Fld := ⟨0x4002008 + i * 0x40000 + j * 0x20, 0, 32⟩
abbrev RBASE_HI (i j : Nat) : Fld := ⟨0x400200C + i * 0x40000 + j * 0x20, 0, 32⟩
abbrev RHEAD (i j : Nat) : Fld := ⟨0x4002010 + i * 0x40000 + j * 0x20, 0, 32⟩
abbrev RSTATUS (i j : Nat) : Fld := ⟨0x4002014 + i * 0x40000 + j * 0x20, 0, 32⟩
abbrev RSTATUS_STATE (i j : Nat) : Fld := ⟨0x4002014 + i * 0x40000 + j * 0x20, 28, 4⟩
abbrev RSTATUS_CODE (i j : Nat) : Fld := ⟨0x4002014 + i * 0x40000 + j * 0x20, 24, 4⟩
abbrev RLOST (i j : Nat) : Fld := ⟨0x4002018 + i * 0x40000 + j * 0x20, 0, 32⟩
abbrev TW_DB (i : Nat) : Fld := ⟨0x4034000 + i * 0x40000, 0, 32⟩
abbrev TW_DB_UP (i : Nat) : Fld := ⟨0x4034000 + i * 0x40000, 4, 4⟩
abbrev TW_DB_DOWN (i : Nat) : Fld := ⟨0x4034000 + i * 0x40000, 0, 4⟩
abbrev TW_DB_CFG (i : Nat) : Fld := ⟨0x4034004 + i * 0x40000, 0, 32⟩
abbrev TW_DB_CFG_EN (i : Nat) : Fld := ⟨0x4034004 + i * 0x40000, 7, 1⟩
abbrev TW_DB_CFG_VEC (i : Nat) : Fld := ⟨0x4034004 + i * 0x40000, 0, 6⟩
abbrev MSIX_TABLE (i j k : Nat) : Fld := ⟨0x4036000 + i * 0x40000 + j * 0x10 + k * 4, 0, 32⟩
abbrev MSIX_PBA (i j : Nat) : Fld := ⟨0x4037000 + i * 0x40000 + j * 4, 0, 32⟩

end Sys2Proof.Machine.Reg
end

