-- ==== Sys2Proof/Machine/Tab.lean ====
section
/-! DEFINITION. A sparse table in canonical form: (key, value) pairs with keys strictly rising and no entry equal to
the value that an unlisted key reads as. Every indexed store of the machine (registers, memories, per-item and per-channel
state) is one of these. -/

namespace Sys2Proof.Machine

/-- A sparse table from numbers to values. -/
abbrev Tab (α : Type) := List (Nat × α)

/-- The value at key `a`; `d` is what an unlisted key reads as. -/
def Tab.get {α : Type} (d : α) : Tab α → Nat → α
  | [], _ => d
  | (k, v) :: m, a => if k = a then v else Tab.get d m a

/-- The table with `v` listed at key `a`, keys kept rising. -/
def Tab.insert {α : Type} : Tab α → Nat → α → Tab α
  | [], a, v => [(a, v)]
  | (k, w) :: m, a, v =>
    if a < k then (a, v) :: (k, w) :: m
    else if a = k then (a, v) :: m
    else (k, w) :: Tab.insert m a v

/-- The table without key `a`. -/
def Tab.erase {α : Type} (m : Tab α) (a : Nat) : Tab α := m.filter (fun p => p.1 != a)

/-- Write `v` at key `a`: writing the value that an unlisted key reads as removes the entry. -/
def Tab.put {α : Type} [DecidableEq α] (d : α) (m : Tab α) (a : Nat) (v : α) : Tab α :=
  if v = d then Tab.erase m a else Tab.insert m a v

/-- The canonical form: keys strictly rising, no entry equal to the default of its key. -/
abbrev Tab.wf {α : Type} (d : Nat → α) (m : Tab α) : Prop :=
  (m.map Prod.fst).Pairwise (· < ·) ∧ ∀ p ∈ m, p.2 ≠ d p.1

end Sys2Proof.Machine
end

