-- ==== Sys2Proof/Machine/State.lean ====
section
/-! DEFINITION. The state of the FV-7720 as plain data: the registers, and beside them everything that the spec says the blocks
hold; the reasons for which a step can stop; and the state right after reset. -/

namespace Sys2Proof.Machine

/-- A pending value of a register with tick-latched fields (R16, R19): the dirty bits, their values, and the dirty bits whose
latest write was accepted at or after the start of slot 504 of the current tick (R21, R236). -/
structure Pend where
  val : Word := 0
  mask : Word := 0
  late : Word := 0
  deriving DecidableEq, Repr

/-- The tick generator beside its registers. -/
structure Tik where
  /-- The TAI second of the current tick edge, all bits (TIK_SEC holds 32 of them). -/
  sec : Nat := 0
  /-- TIK_COUNT and the edge instant of the last ticks, the latest first (R248, R268). -/
  edges : List (Nat × Nat) := []
  /-- Whether a tick has begun since the release of PD02 (R98). -/
  ran : Bool := false
  /-- Second and in-second number of the next edge where it is not the plain successor (R87, R98). -/
  next : Option (Nat × Nat) := none
  /-- The target tick of an armed commit with AT = 1 (R80). -/
  target : Option Nat := none
  /-- The first tick whose seam an ARM with AT = 0 may commit in (R79). -/
  armFrom : Nat := 0
  /-- The tick in which a requested step is carried out (R90). -/
  stepTick : Option Nat := none
  /-- Whether this tick is the stretch tick whose step has been made. -/
  stretched : Bool := false
  /-- TIK_COUNT of the last stretch tick (R92, R95). -/
  lastStretch : Option Nat := none
  /-- The tick state to return to after STRETCH. -/
  stateBefore : Nat := 0
  /-- Overrun ticks of each item in its current history (R77). -/
  hist : Tab (List Nat) := []
  /-- Items counted as overrun in this tick (R73). -/
  overran : List Nat := []
  /-- Items whose eighth overrun fell in this tick, raised in phase 4 (R77). -/
  repeats : List Nat := []
  /-- Block COMMIT writes waiting for the end of slot 507 (R84). -/
  deferredGo : List Nat := []
  /-- The time quality in force at the start of slot 496 (R39). -/
  qual496 : Nat := 2
  /-- A schedule activation (R185 step 8, R99): 0 none, 1 waits for the first tick that follows, 2 waits for that tick's seam, 3 the next
  tick is RUNNING. -/
  activate : Nat := 0
  /-- The tick generator starts at the edge that `next` names (R98). -/
  starts : Bool := false
  /-- Device time of the command that starts it (R98). -/
  startAt : Nat := 0
  deriving DecidableEq, Repr

/-- One source of the timing core: valid, qualified (R106). -/
structure Src where
  valid : Bool := false
  qualified : Bool := false
  deriving DecidableEq, Repr

/-- A loaded time of day for 1PPS (R138): the second of the next accepted edge with the device time of the load, or, after an accepted edge
that did not use it, the second of that edge with its stamp. -/
structure Tod where
  sec : Nat
  at_ : Nat
  edge : Bool
  deriving DecidableEq, Repr

/-- The timing core beside its registers. -/
structure Tim where
  /-- Device time in units of 2^-16 ns (R104, R105). -/
  now : Nat := 0
  /-- The PTP source (Table 02.1). -/
  ptp : Src := {}
  /-- The IRIG-B source (Table 02.1). -/
  irig : Src := {}
  /-- The 1PPS source (Table 02.1). -/
  pps : Src := {}
  /-- clockClass and totalTimeInaccuracy (ns) that the PTP parent announced last (R110, R125, R143), and whether its Announce messages
  arrive: no receipt timeout since the last one (Table 02.5). -/
  parentClass : Nat := 255
  inacc : Nat := 0
  announce : Bool := false
  /-- A PTP source lost to the servo watchdog, until the next servo update (R114). -/
  servoLost : Bool := false
  /-- A higher-priority source waits for the next TAI second (R108). -/
  revertPending : Bool := false
  /-- Consecutive disagreeing phase comparisons, per pair of sources (R112). -/
  disagree : Tab Nat := []
  /-- Consecutive offsets within THR, and outside 4 × THR; the last offset (R142, R143). -/
  inRun : Nat := 0
  outRun : Nat := 0
  lastOfs : Int := 0
  /-- The exact holdover estimate in units of 0.5 fs (R144). -/
  est : Nat := 0
  /-- The phase adjustment that has not yet been applied, in units of 2^-16 ns; whether it is being slewed (R120, R121); and whether a
  step of it waits until one may be requested again (R95). -/
  phaseRem : Int := 0
  slewing : Bool := false
  stepWanted : Bool := false
  /-- The frequency correction in force, ppt (R116, R118). -/
  freqInForce : Int := 0
  /-- Last accepted IRIG frame time and how many consecutive valid and invalid frames (R132, R148). -/
  irigLast : Option Nat := none
  irigGood : Nat := 0
  irigBad : Nat := 0
  irigTq : Nat := 15
  /-- The loaded TIM_TOD second (R137, R138); whether any time of day is known (R111). -/
  tod : Option Tod := none
  todKnown : Bool := false
  /-- PPS_OUT is high (R139), and the stamp of its last rising edge through the loop-back (R141). -/
  ppsOut : Bool := false
  ppsStamp : Option Nat := none
  /-- TIM_UTC_OFS.OFS before its last change, and the device time of that change (R134). -/
  ofsWas : Int := 0
  ofsAt : Nat := 0
  /-- The peer delay of each port, in units of 2^-16 ns (R129). -/
  peerDelay : Tab Nat := []
  /-- TAI ns at which the time quality last left LOCKED (R365), and whether the last applied leap was a LEAP59. -/
  leftLocked : Option Nat := none
  leap59 : Bool := false
  /-- REFCLK may be taken back at slot 496 (R152). -/
  refBack : Bool := false
  /-- Timestamps of PTP event messages handed to the firmware: port, transmit, stamp (R153). -/
  stamps : List (Nat × Bool × Nat) := []
  deriving DecidableEq, Repr

/-- A slot map entry (Table 03.6). -/
structure SlotE where
  rtype : Nat
  retry : Bool
  res : Nat
  first : Nat
  last : Nat
  owner : Nat
  deriving DecidableEq, Repr

/-- A work item entry (Table 03.8). -/
structure ItemE where
  item : Nat
  kernel : Nat
  cls : Nat
  onFail : Nat
  coreA : Nat
  coreB : Nat
  compare : Nat
  nIn : Nat
  nOut : Nat
  inIndex : Nat
  outBase : Nat
  paramOfs : Nat
  paramLen : Nat
  stateLen : Nat
  deriving DecidableEq, Repr

/-- A kernel of the KERN section (Table 03.9). -/
structure KernE where
  id : Nat
  kver : Nat
  codeLen : Nat
  wcetBase : Nat
  wcetPerIn : Nat
  stateMax : Nat
  pQual : Bool
  /-- The code of the blob. -/
  code : List Byte := []
  deriving DecidableEq, Repr

/-- The schedule that the TICK, POOL and KERN sections give (R165, R167, R168). -/
structure Sched where
  rate : Nat := 0
  slots : List SlotE := []
  items : List ItemE := []
  /-- WORK_MASK and SPARE_MASK, 80 bits each. -/
  work : Nat := 0
  spare : Nat := 0
  /-- The cover mask of each spare. -/
  cover : List (Nat × Nat) := []
  /-- The channel list. -/
  chlist : List Nat := []
  /-- The parameter area. -/
  params : List Byte := []
  /-- The kernels of the KERN section. -/
  kerns : List KernE := []
  deriving DecidableEq, Repr

/-- A word of a patch section, a REGS triple or a restore overlay entry (R171, R223): target, value, mask, and whether it is a
REGS triple. -/
structure PatchW where
  target : Nat
  value : Word
  mask : Word
  triple : Bool := false
  deriving DecidableEq, Repr

/-- A load in progress (R174–R177). -/
structure LoadRec where
  /-- 0 flash A, 1 flash B, 2 host. -/
  src : Nat
  /-- It is (part of) an autoload (R189). -/
  auto : Bool
  /-- The fetched header has AMENDMENT set (R204). -/
  amend : Bool
  /-- TOTAL_LEN of the fetched header; 0 before the header is written. -/
  total : Nat
  deriving DecidableEq, Repr

/-- An amendment in structure memory that passed the guard (R209–R212). -/
structure Amend where
  ver : Nat
  sched : Sched
  /-- Patch words and triples in the order of the apply. -/
  words : List PatchW
  /-- The domains that a reset reached after the preload, of blocks that a patch word targets (TARGET_RESET). -/
  resetPd : Option Nat := none
  /-- A core was retired or a spare adopted work after GUARD began (POOL_CHANGED). -/
  poolChanged : Option Nat := none
  deriving DecidableEq, Repr

/-- The fuses of the image keys (R164, R198, R728). -/
structure Fuses where
  programmed : Nat := 0
  revoked : Nat := 0
  /-- Four key hashes of 48 bytes. -/
  hash : Tab (List Byte) := []
  deriving DecidableEq, Repr

/-- The image engine beside its registers. -/
structure Img where
  /-- Structure memory, 8 MiB (R175–R179). -/
  mem : Tab Byte := []
  /-- The load in progress (R174). -/
  load : Option LoadRec := none
  /-- The autoload: the slot tried first, and the code with which it failed (R189). -/
  auto : Option (Nat × Option Nat) := none
  /-- The schedule in force (R185, R219). -/
  sched : Option Sched := none
  /-- TOTAL_LEN of the full image in structure memory, 0 when none is complete (R179). -/
  fullLen : Nat := 0
  /-- The last RUNNING tick of a deactivation (R190). -/
  deact : Option Nat := none
  /-- The domains that step 1 of R185 released. -/
  released : List Nat := []
  /-- The amendment that is staged or armed (R209). -/
  amd : Option Amend := none
  /-- A core was retired, or a spare adopted, after the GUARD of the current amendment load began (Table 04.2). -/
  guardPool : Option Nat := none
  /-- The armed tick (R213). -/
  armAt : Nat := 0
  /-- The restore overlay (R223). -/
  ovl : List PatchW := []
  /-- The schedule that governs from the next tick edge (R219, R220). -/
  next : Option Sched := none
  /-- The seam conditions failed or the amendment applied at this tick's seam: waiting AMD_APPLIED (R220). -/
  applied : Bool := false
  /-- The fuses of the image keys. -/
  fuses : Fuses := {}
  /-- IMG was released and its autoload has not begun (R189). -/
  autoWait : Bool := false
  /-- An activation starts on its own (R184). -/
  actWait : Bool := false
  deriving DecidableEq, Repr

/-- A channel's range and hold state (R259–R262, R270). -/
structure Chan where
  /-- The entry that this state belongs to. -/
  cfg : Word := 0
  /-- A pair channel: the previous sample used HI. -/
  hi : Bool := false
  /-- Consecutive qualifying samples before the next one (R260). -/
  run : Nat := 0
  /-- Samples that still carry RANGE_SWITCHED (R262). -/
  switched : Nat := 0
  /-- A stream channel: consecutive ticks of HELD (R270), and whether a value has been delivered. -/
  held : Nat := 0
  had : Bool := false
  /-- The tick whose input was delivered last (R252). -/
  given : Option Nat := none
  deriving DecidableEq, Repr

/-- A subscribed stream (R266–R270, R287). -/
structure Stream where
  /-- ASDUs held, by sample index since the TAI epoch, and whether the frame's simulation bit was set. -/
  asdus : List (Nat × Asdu × Bool) := []
  /-- The highest sample index whose instant a tick has needed (R269). -/
  done : Option Nat := none
  /-- Consecutive missing, unusable and usable instants. -/
  missRun : Nat := 0
  badRun : Nat := 0
  goodRun : Nat := 0
  deriving DecidableEq, Repr

/-- A modulator input: its last 64 bits, the latest in bit 0, how many bits it has sampled up to 64, and the intervals that its overload
detector has marked, the latest first (R247, R257, R258). -/
structure ModIn where
  bits : Nat := 0
  n : Nat := 0
  marks : List (Nat × Nat) := []
  deriving DecidableEq, Repr

/-- Acquisition beside its registers. -/
structure Acq where
  inputs : Tab ModIn := []
  /-- The samples that are the input of the current tick: the words of ACQ_LAST as they stood before its slot 0 (R70, R248). -/
  latched : Tab Word := []
  /-- What each channel remembers from sample to sample. -/
  chan : Tab Chan := []
  /-- The subscribed streams. -/
  stream : Tab Stream := []
  /-- TIK_COUNT of the first RUNNING tick (R293). -/
  first : Nat := 0
  /-- Inputs whose RETIRED was cleared and that still have to pass the checks of R286. -/
  returning : List Nat := []
  deriving DecidableEq, Repr

/-- A wavefront record (Table 05.4). -/
structure Front where
  /-- Front time in 125 ps steps since the TAI epoch. -/
  time : Int
  /-- Its channel. -/
  ch : Nat
  /-- Its polarity (R276). -/
  negative : Bool
  /-- Its amplitude in LSB (R276). -/
  amplitude : Nat
  /-- The time from the front to the peak (Table 05.4). -/
  toPeak : Int
  /-- Its quality word (R290). -/
  qual : Nat
  /-- Its sequence number (R278). -/
  seq : Nat
  /-- The index of its trigger sample. -/
  index : Nat
  deriving DecidableEq, Repr

/-- The travelling-wave capture beside its registers. -/
structure Twc where
  /-- The last two SYSREF stamps (2^-16 ns) and the sample index aligned to the last (R274). -/
  last : Option Nat := none
  prev : Option Nat := none
  index : Nat := 0
  /-- How many SYSREF periods lie between these two stamps (R289). -/
  gap : Nat := 1
  /-- The capture ring of each TW channel: sample indices and values of the last 4 ms, the latest first (R275). -/
  ring : Tab (List (Nat × Int)) := []
  /-- Consecutive stamps within tolerance (R289). -/
  good : Nat := 0
  /-- Sample index up to which a channel ignores triggers (R277), and the trigger that waits for its samples. -/
  dead : Tab Nat := []
  trigger : Tab (Option Nat) := []
  /-- Invalid multiblocks: first sample and count (R288). -/
  invalid : List (Nat × Nat) := []
  /-- The wavefront queue (R291), and the records that are the input of the current tick (R278). -/
  queue : List Front := []
  input : List Front := []
  /-- The sequence number of the next record (R278). -/
  seq : Nat := 0
  deriving DecidableEq, Repr

/-- How far an item has come in the current tick (R302–R309). -/
inductive Phase where
  /-- Before the compare. -/
  | open
  /-- The first runs differ and both members retry. -/
  | retrying
  /-- An arbitration request waits for a spare (R308). -/
  | queued
  /-- A spare arbitrates. -/
  | arbitrating (spare : Nat)
  /-- The final outcome has been reached. -/
  | decided
  deriving DecidableEq, Repr

/-- The vote kinds that the vote summary counts (R566) and ISTATUS.LAST shows (Table 06.11). -/
inductive Outcome where
  | paired | retried | voted | unpaired | held | invalid | shed | warmup
  deriving DecidableEq, Repr

/-- One item in the current tick. -/
structure Run where
  phase : Phase := .open
  /-- Members that missed their first-run or retry deadline (R72, R76). -/
  missA : Bool := false
  missB : Bool := false
  retryMissA : Bool := false
  retryMissB : Bool := false
  /-- The results of the first runs and of the retries (R302, R304). -/
  firstA : Option Res := none
  firstB : Option Res := none
  retryA : Option Res := none
  retryB : Option Res := none
  /-- FCLK cycle at which each member has started the retry (R304). -/
  startA : Option Nat := none
  startB : Option Nat := none
  /-- R305 prevented the retry. -/
  skipped : Bool := false
  /-- Order of the arbitration request (R308). -/
  order : Nat := 0
  /-- The delivered outputs, value and quality without TIMEQ, and the outcome. -/
  out : List (Word × Nat) := []
  outcome : Outcome := .invalid
  deriving DecidableEq, Repr

/-- An adoption that waits for its seam (R318–R320). -/
structure Adopt where
  /-- The retired core, and the chosen spare. -/
  core : Nat
  spare : Nat
  /-- The first tick whose seam may copy. -/
  due : Nat
  /-- The copies ran in this seam. -/
  copied : Bool := false
  deriving DecidableEq, Repr

/-- The memories of a core (R295). -/
structure CoreMem where
  /-- The kernels that its kernel store holds. -/
  store : List KernE := []
  /-- Data SRAM: the staged inputs of each item (R297). -/
  staged : Tab (List Word) := []
  /-- Data SRAM: the committed state of each item (R300); nothing listed is the zeroed region. -/
  states : Tab (List Byte) := []
  deriving DecidableEq, Repr

/-- The thresher pool beside its registers. -/
structure Thr where
  /-- The memories of the cores. -/
  core : Tab CoreMem := []
  /-- What each item does in the current tick. -/
  runs : Tab Run := []
  /-- FCLK cycle up to which the retries that a core has started in this tick take its RETRY slots (R304). -/
  cursor : Tab Nat := []
  /-- FCLK cycle of the tick that the pool has reached. -/
  clock : Nat := 0
  /-- Arbitration requests of the tick so far (R308). -/
  requests : Nat := 0
  /-- Ticks of the transient charges of each core (R311). -/
  charges : Tab (List Nat) := []
  /-- RETIRE commands that wait for slot 496 (Table 06.3). -/
  commands : List Nat := []
  /-- The planned adoptions (R318). -/
  adoptions : List Adopt := []
  /-- Retired cores without an adopter (R324), and those already reported. -/
  orphans : List Nat := []
  reported : List Nat := []
  /-- Cores retired in the current tick (R329). -/
  retiredNow : List Nat := []
  /-- Quadrants whose loss has been reported since activation. -/
  lost : List Nat := []
  /-- The shed requests of Owl and of THM (R331). -/
  shedSaf : Nat := 0
  shedThm : Nat := 0
  /-- The outputs of the latest event of a TWDET or FLOC item, with its sequence number (R346). -/
  kept : Tab (Option (Word × List (Word × BitVec 16))) := []
  /-- Items whose members are both retired until spares have adopted both (R325). -/
  broken : List Nat := []
  /-- The last VALID value of each output since activation (R313), by 64 × item + output. -/
  lastValid : Tab (Option Word) := []
  /-- Items that start from a zeroed state in the next tick (R314, R333). -/
  restart : List Nat := []
  /-- The pool runs no item in this tick: no schedule, or L4 at its edge (R583). -/
  idle : Bool := true
  /-- Items that wait for the Gleaner check of R588: item, CORE_A, CORE_B. -/
  glean : List (Nat × Nat × Nat) := []
  /-- Members whose state copy in the apply seam failed twice (R229): item and core. -/
  copyLost : List (Nat × Nat) := []
  /-- Spares under BIST (R587). -/
  bist : List Nat := []
  deriving DecidableEq, Repr

/-- The validity of an IEC 61850 quality. -/
inductive IecValidity where
  | good | questionable | invalid
  deriving DecidableEq, Repr

/-- An IEC 61850 quality as Table 07.4 and R352 give it. -/
structure IecQ where
  validity : IecValidity := .good
  overflow : Bool := false
  oldData : Bool := false
  inconsistent : Bool := false
  failure : Bool := false
  test : Bool := false
  deriving DecidableEq, Repr

/-- A GOOSE value: FLOAT32 or BOOLEAN (R354). -/
inductive GooseVal where
  | float (v : Word)
  | bool (b : Bool)
  deriving DecidableEq, Repr

/-- What a published frame carries. -/
inductive PubBody where
  /-- ASDUs of a sampled-value frame: SmpCnt and the eight elements; smpSynch and the simulation bit (R351–R353). -/
  | sv (asdus : List (Nat × List (Int × IecQ))) (synch : Nat) (sim : Bool)
  /-- A GOOSE dataset: its entries; TimeAccuracy and ClockNotSynchronized (R354–R356). -/
  | goose (stNum sqNum ttl confRev : Nat) (acc : Nat) (notSynch : Bool) (entries : List (GooseVal × IecQ))
  /-- A C37.118.2 data frame (R360, R361, R364). -/
  | c37 (idcode soc frac stat : Nat) (values : List Word) (digital : Option Nat)
  deriving DecidableEq, Repr

/-- A frame of a publication: its number, the header template that gives destination, VLAN tag, svID, datSet and confRev (R353), the SPDU
number of a routable copy (R358), the key identifier and algorithm of its authentication (R495), and its content. -/
structure PubFrame where
  pub : Nat
  tmpl : List Word
  spdu : Option Nat
  auth : Option (Nat × Nat)
  body : PubBody
  deriving DecidableEq, Repr

/-- One GOOSE dataset (R355, R356): the entries last sent, the interval in ms, the tick at which the next retransmission falls due,
the tick of the last frame, the tick and ports of the last retransmission, and whether a commit forces a frame (R357). -/
structure Gds where
  last : Option (List (Word × Nat)) := none
  ival : Nat := 0
  due : Nat := 0
  sent : Option Nat := none
  rtx : Option (Nat × Nat) := none
  force : Bool := false
  deriving DecidableEq, Repr

/-- One sample of the disturbance recorder: tick, analog values, trigger states. -/
structure DrSample where
  tick : Nat
  vals : List Word
  trig : Nat
  deriving DecidableEq, Repr

/-- The samples of one channel in a travelling-wave window: channel, then value and whether it is invalid, oldest first (R374). -/
structure TwChan where
  ch : Nat
  samples : List (Int × Bool)
  deriving DecidableEq, Repr

/-- A disturbance record or travelling-wave window (R368–R374): type 1 or 2, sequence, TAI ns of its first sample, ticks of its
first and last trigger, samples, Silo chains, truncation, and for a window the record that it names. `fileLen` and `fileCrc` are
those of the .CFF file, whose text IEEE C37.111 gives. -/
structure DrRec where
  kind : Nat
  seq : Nat
  first : Nat
  start : Nat
  last : Nat
  samples : List DrSample
  chains : List Nat
  trunc : Bool
  names : Nat
  /-- A window: its channels, and whether its INF section marks it invalid (Table 07.7). -/
  tw : List TwChan := []
  marked : Bool := false
  /-- The length and the CRC-32C of its file. -/
  fileLen : Nat
  fileCrc : Nat
  deriving DecidableEq, Repr

/-- A fault location result that is open (R375): its start tick; front time (2^-16 ns) and sequence number of a TWDET event; the trigger
instant. -/
structure FlocOpen where
  start : Nat
  front : Option (Nat × Word) := none
  trig : Option Nat := none
  deriving DecidableEq, Repr

/-- The publisher beside its registers. -/
structure Mpr where
  goose : Tab Gds := []
  /-- ASDUs of an SV frame that is not complete. -/
  svHold : Tab (List (Nat × List (Int × IecQ))) := []
  /-- The elements of a stream in the last ticks, the latest first: its channels may have different group delays (R351). -/
  svPast : Tab (List (Nat × List (Int × IecQ))) := []
  /-- The last SPDU number of a publication. -/
  spdu : Tab Nat := []
  /-- Triggers whose condition is true; a MAN_TRIG write of this tick; the recorder is on in this tick. -/
  trigOn : Nat := 0
  man : Bool := false
  armed : Bool := false
  /-- The history, newest first, the open record, and the closed records that wait, oldest first. -/
  hist : List DrSample := []
  record : Option DrRec := none
  waiting : List DrRec := []
  seq : Nat := 0
  twSeq : Nat := 0
  /-- The TAI second and number of the windows started in it, and their fronts (2^-16 ns). -/
  twSec : Nat × Nat := (0, 0)
  twFronts : List Nat := []
  /-- Windows that have started, with the instant of their first sample (2^-16 ns), until their last sample is there. -/
  twOpen : List (Nat × DrRec) := []
  /-- The last event sequence number seen of each TWDET item. -/
  twSeen : Tab (Option Word) := []
  /-- The open fault location results (R375). -/
  floc : Tab (Option FlocOpen) := []
  /-- C37.118.2 streams whose definition an armed amendment (1) or one just applied (2) changes (R364). -/
  c37Change : Tab Nat := []
  deriving DecidableEq, Repr

/-- One ring link (R396–R409, R415). -/
structure RLink where
  locked : Bool := false
  /-- In this tick: lock held throughout, an exchange completed, a frame failed. -/
  held : Bool := false
  exch : Bool := false
  failed : Bool := false
  /-- Ticks of the failed frames (R403). -/
  fails : List Nat := []
  /-- Consecutive exchanges since lock (R415). -/
  run : Nat := 0
  /-- Sequence of the next TIMING frame, the last one's transmit stamp, and recent (sequence, stamp) pairs. -/
  seq : Nat := 0
  sent : List (Nat × Nat) := []
  /-- Sequence and receive stamp of the neighbour's last frame. -/
  got : Option (Nat × Nat) := none
  /-- The link wraps at the next slot 501 (R404). -/
  wrapNext : Bool := false
  /-- TIK_INSEC of the announced unwrap (R409), and whether this node announces it. -/
  unwrapAt : Option Nat := none
  /-- An announced unwrap that a tick which was not clean has cancelled (R409). -/
  cancelled : Option Nat := none
  /-- The last sweep frame sent on the link (R411). -/
  last : Option SweepFrame := none
  /-- Identities of sweeps for which a NAK was sent. -/
  nak : List (Bool × Nat × Nat) := []
  deriving DecidableEq, Repr

/-- A sweep's contributions (R385, R389): the node's tick, SEC and INSEC, its own contribution, the copies from EAST- and WEST-launched
frames, each with its frame's WRAPPED, and whether the result is closed (R390). -/
structure Coll where
  tick : Nat
  sec : Nat
  insec : Nat
  own : Contrib
  east : List (Contrib × Bool) := []
  west : List (Contrib × Bool) := []
  closed : Bool := false
  deriving DecidableEq, Repr

/-- The measurement ring beside its registers. -/
structure Mrg where
  link : Tab RLink := []
  colls : List Coll := []
  /-- The valid sweep frames of the last 3 ticks (R394): the starts of slot 501 since each was received, and its MASTER. -/
  masters : List (Nat × Nat) := []
  /-- The ring offset of this tick came from an EAST-launched frame (R398). -/
  ofsEast : Option Nat := none
  /-- Late contributions since the last SWEEP_LATE. -/
  late : Nat := 0
  /-- The tick whose slot 501 has begun. -/
  slot501 : Option Nat := none
  /-- A result has been closed since the ring joined (R416). -/
  fresh : Bool := false
  deriving DecidableEq, Repr

/-- A chain of Silo cells (R442, R448): its cells, head first, the account it is charged to, how many come from the protection
reserve, the queues that still hold it, the instance that holds it with the TAI ns of the hold, whether a transmission names it
and whether it is freed when that ends, and the frame it holds. -/
structure Chain where
  id : Nat
  cells : List Nat
  acct : Nat
  prot : Nat
  refs : Nat := 0
  holder : Option Nat := none
  since : Nat := 0
  busy : Nat := 0
  dying : Bool := false
  frame : Option Frame := none
  deriving DecidableEq, Repr

/-- The Silo beside its registers. -/
structure Slo where
  gen : Tab Nat := []
  chains : List Chain := []
  nextId : Nat := 0
  retired : List Nat := []
  deriving DecidableEq, Repr

/-- What a queued frame is. -/
inductive QBody where
  /-- A frame of the bridge, and the VID of its egress tag. -/
  | bridged (f : Frame) (vid : Option Nat)
  | pub (p : PubFrame)
  deriving DecidableEq, Repr

/-- The TX descriptor that waits for the stamp of a frame: instance, queue, ring index, length (R519). -/
structure TsWait where
  t : Nat
  q : Nat
  ix : Nat
  len : Nat
  irq : Bool
  deriving DecidableEq, Repr

/-- A frame in an egress queue: length on the wire with every header (R430), chain, class, EAPOL, the PRP or HSR tag of a publication, and a
waiting TX stamp. -/
structure QFrame where
  body : QBody
  len : Nat
  chain : Nat
  eapol : Bool := false
  red : Option RedTag := none
  ts : Option TsWait := none
  deriving DecidableEq, Repr

/-- A learned FDB entry (R425). -/
structure FdbE where
  mac : Nat
  fid : Nat
  port : Nat
  seen : Nat
  deriving DecidableEq, Repr

/-- A sequence recovery function (R437): takeAny, the last accepted number, the history bits, the TAI ns of the last frame passed. -/
structure FrerRec where
  takeAny : Bool := true
  last : Nat := 0
  hist : List Bool := []
  at_ : Nat := 0
  deriving DecidableEq, Repr

/-- The packet engine beside its registers. -/
structure Pkt where
  /-- Egress queues, port × 8 + class. -/
  queue : Tab (List QFrame) := []
  /-- The learned entries of the FDB (R425). -/
  fdb : List FdbE := []
  /-- Token buckets: level in bytes × 65,536 × 10^9 and the instant of the last refill. -/
  bucket : Tab (Nat × Nat) := []
  /-- The recovery functions (R437). -/
  frer : Tab FrerRec := []
  /-- Duplicate tables of the LREs: source, sequence and TAI ns of the first copy. -/
  dup : Tab (List (Nat × Nat × Nat)) := []
  /-- TIK_COUNT at which the gate cycle began (R428). -/
  gate0 : Nat := 0
  /-- Sequence number of the next frame of an LRE (R440). -/
  lreSeq : Tab Nat := []
  /-- A paused port: the instants at which it paused and at which the requested quanta end, 2^-16 ns (R458). -/
  paused : Tab (Option (Nat × Nat)) := []
  /-- Bytes that a port sends before it obeys another pause (R458). -/
  owes : Tab Nat := []
  /-- Ports that had MACsec when PD11 was reset (Table 10.8). -/
  msHold : List Nat := []
  deriving DecidableEq, Repr

/-- The vault, the security associations and what the cipher engine keeps (R479–R498). -/
structure Cry where
  /-- Key and salt bytes of a loaded slot. -/
  key : Tab (List Byte) := []
  /-- SA words, index × 12 + word. -/
  sa : Tab Word := []
  /-- Protected bytes of an SA, its replay window (highest number, numbers seen), and the soft lifetime already raised. -/
  bytes : Tab Nat := []
  replay : Tab (Nat × List Nat) := []
  soft : List Nat := []
  /-- MACsec transmit SAs (port × 4 + AN) whose threshold has been raised, and receive SAs' highest PN. -/
  warned : List Nat := []
  /-- ESP (R494): the lengths of the packets that each source has in the engine, the instant up to which they are served (2^-16 ns), what the
  packet in service has had, in 1/32,768 byte, and the source whose turn it is. -/
  espQ : Tab (List Nat) := []
  espAt : Nat := 0
  espCredit : Nat := 0
  espTurn : Nat := 0
  deriving DecidableEq, Repr

/-- One remote namespace (R499–R505). -/
structure Ns where
  tries : Nat := 0
  mdts : Nat := 0
  lba : Nat := 0
  /-- The record that is being written, its first unit, and whether it wraps. -/
  now : Option DrRec := none
  unit : Nat := 0
  wraps : Bool := false
  /-- NEXT, wrap count and superblock write count, once they are known. -/
  wrapCount : Nat := 0
  superCount : Nat := 0
  /-- TCP retransmissions in a row: admin and I/O. -/
  rtxAdmin : Nat := 0
  rtxIo : Nat := 0
  deriving DecidableEq, Repr

/-- What waits for RX descriptors of a queue (R522, R523). -/
inductive HostItem where
  /-- A frame: its chain, the frame, the ingress port, the traffic class and the tunnel endpoint. -/
  | frame (chain : Nat) (f : Frame) (port tc : Nat) (ep : Option Nat)
  | record (r : DrRec)
  deriving DecidableEq, Repr

/-- An enabled record ring (R524–R528): slot size, write index, sequence, records lost since the last one, GAP. -/
structure Ring where
  slot : Nat
  index : Nat := 0
  seq : Nat := 0
  lost : Nat := 0
  deriving DecidableEq, Repr

/-- The host interface beside its registers. -/
structure Hif where
  /-- Waiting items of a queue, instance × 64 + queue. -/
  wait : Tab (List HostItem) := []
  /-- The next RX write-back of the queue carries GAP. -/
  gap : List Nat := []
  /-- Descriptors of a frame that is not complete. -/
  part : Tab (List TxDesc) := []
  /-- The record rings beside their registers (R524). -/
  ring : Tab (Option Ring) := []
  /-- Event rings: entries written since enable. -/
  evq : Tab Nat := []
  /-- Events kept for a quiesced instance, oldest first. -/
  kept : Tab (List Event) := []
  /-- Moderation: TAI ns of the last message of a queue, and queues whose message waits. -/
  itrAt : Tab Nat := []
  itrDue : List Nat := []
  /-- Descriptor fetch (R520): the instance served last, the fetches left of its weight, and the next queue of each instance. -/
  rrInst : Nat := 0
  rrLeft : Nat := 0
  rrQueue : Tab Nat := []
  /-- No posted credit: host-bound work is dropped (R538). -/
  stalled : Bool := false
  /-- Pages logged in this tick, and the phase of the log, per instance (R549). -/
  pages : Tab (List Nat) := []
  logWraps : Tab Nat := []
  /-- Rows of Table 11.9 that this tick's commit changed, per instance (R535). -/
  resChanged : Tab Nat := []
  deriving DecidableEq, Repr

/-- The Owl parameter record that Owl has loaded (R561–R563): its IMAGE_ID and its rail windows in mV. -/
structure OwlRec where
  imageId : Nat
  rails : List (Nat × Nat)
  deriving DecidableEq, Repr

/-- The vote summary of a tick (R566). -/
structure Summary where
  count : Nat := 0
  idCrc : Nat := 0
  paired : Nat := 0
  retried : Nat := 0
  voted : Nat := 0
  unpaired : Nat := 0
  other : Nat := 0
  deriving DecidableEq, Repr

/-- Safety beside its registers. -/
structure Saf where
  /-- The pins: ALM energised, HEALTHY high, FAULT_N asserted (low). -/
  alm : Nat := 0
  healthy : Bool := false
  faultN : Bool := false
  /-- The lockstep latch of R568. -/
  owlLatch : Bool := false
  /-- The signed parameter record in force; none: ROM defaults. -/
  record : Option OwlRec := none
  /-- PARAM_MISMATCH has been raised for this activation. -/
  mismatchSaid : Bool := false
  /-- TIK_COUNT of the latest entry to L4, and of the safe-state reaction (Table 12.9). -/
  l4Tick : Option Nat := none
  /-- TIK_COUNT of the previous handshake; `none`: Owl has seen none (R565). -/
  handshake : Option Nat := none
  /-- The vote summary of the current tick (R566), and consecutive wrong summaries. -/
  summary : Summary := {}
  summaryBad : Nat := 0
  /-- SAF_VOTE_EXP and SAF_VOTE_REF as Owl last received them (R567). -/
  voteExp : Nat := 0
  voteRef : Nat := 0
  /-- Owl's own copy of the references (R575). -/
  owlRef : Tab Word := []
  /-- Bits of covered words that an injection has flipped: register, mask, and the word as the flip left it (Table 12.10). -/
  flips : List (Nat × Word × Word) := []
  /-- Chunks to be checked again in the next tick (R576). -/
  recheck : List Nat := []
  /-- A RESTORE that waits for phase 4 (R581), and the request of R589. -/
  restore : Bool := false
  diagShed : Bool := false
  /-- The requested level of R581 before a RESTORE. -/
  adoptShed : Nat := 0
  /-- Quarantined items (R579). -/
  quarantine : List Nat := []
  /-- The TAI ns (plus one) of the last uncorrectable error of a main SRAM word, and the product slots that the errors of this tick affect
  (ID 15). -/
  sramLog : Tab Nat := []
  sramBad : List Nat := []
  /-- Missing hand-off acknowledgements of each path (ID 18) and wrong readbacks of each pin (ID 19), in consecutive ticks. -/
  pathMiss : Tab Nat := []
  readMiss : Tab Nat := []
  /-- Injections that wait for the next tick: kind and target (R591), and those in force in this tick; kind + 16 in its second tick. -/
  injectNext : List (Nat × Nat) := []
  inject : List (Nat × Nat) := []
  deriving DecidableEq, Repr

/-- A snapshot in progress: slot, cause, first sequence, entries after the trigger, the bytes of its 512 entries, and the sequence and
the TAI ns that its records name (R620, R622). -/
structure Snap where
  slot : Nat
  cause : Nat
  first : Nat
  after : Nat
  data : List Byte
  seq : Nat
  time : Nat
  deriving DecidableEq, Repr

/-- The black box beside its registers and ring. -/
structure Bbx where
  /-- The event queue that feeds the ring (R617). -/
  queue : List Event := []
  /-- Events lost since the last BBX_GAP entry (R617). -/
  lostRun : Nat := 0
  /-- Entries written after the trigger (R618). -/
  after : Nat := 0
  /-- The service level that entries carry (R580). -/
  level : Nat := 4
  /-- A snapshot of the current freeze exists, or has FAILED (R625, R628). -/
  done : Bool := false
  snap : Option Snap := none
  /-- The slots whose erases run, in order (R627, R628). -/
  erasing : List Nat := []
  /-- Entry words 1–7 latched for a reader (R630): initiator, ring index, words. -/
  latch : Tab (Option (Nat × List Word)) := []
  /-- An entry into FROZEN by PFAIL_N: its snapshot has cause 2 (R625). -/
  byFail : Bool := false
  deriving DecidableEq, Repr

/-- The mailboxes beside their registers: the channels whose notification of the BMC is set (R611). -/
structure Mbx where
  bmc : Nat := 0
  /-- Channels that a commit made inaccessible to an instance, until the next tick edge (R634): channel and instance. -/
  withdrawn : List (Nat × Nat) := []
  deriving DecidableEq, Repr

/-- A reset that waits for a Granary pulse or a protect update (R660): its code, its scope (bit d PDd, bit 24 IMG), the initiator, the
stores lost, and what it waits for (1 program, 2 erase, 3 protect update). -/
structure Delayed where
  code : Nat
  scope : Nat
  init : Nat
  lost : Nat
  kind : Nat
  deriving DecidableEq, Repr

/-- The thermal manager beside its registers (R671–R681). -/
structure Thm where
  /-- Consecutive samples of a sensor more than 10 °C from its neighbour median; of an excluded one within 5 °C. -/
  far : Tab Nat := []
  near : Tab Nat := []
  /-- The last 250 values of Tj, newest first (R677). -/
  hist : List Int := []
  /-- The last amount of the rise over 250 ms had reached the limit; ms for which the rise has stayed below it. -/
  steep : Bool := false
  calm : Nat := 0
  /-- The throttle level, ms since it was reached, ms below THROTTLE − HYST since then, the limits of the last sample (R678, R680). -/
  level : Nat := 0
  ms : Nat := 0
  cool : Nat := 0
  lim : Nat := 0
  deriving DecidableEq, Repr

/-- Reset, power and thermal state beside the registers. -/
structure Rst where
  /-- The IMG reset domain within PD18 is in reset (R637). -/
  imgReset : Bool := true
  /-- The internal POR holds; the pins PORST_N, WARM_RST_N and PERST_N are low (R687). -/
  porHeld : Bool := false
  porstLow : Bool := false
  warmLow : Bool := false
  perstLow : Bool := false
  /-- Domains that wait for their release step (bit d PDd, bit 24 IMG), and those that PWR_CMD powered on (R648, R651, R662). -/
  rel : Nat := 0x1CE2006
  on : Nat := 0
  /-- The code that RESET_DONE will name, the domains released so far in the sequence, and the code of the last reset of IMG. -/
  code : Nat := 1
  done : Nat := 0
  imgCode : Nat := 1
  delayed : List Delayed := []
  /-- Domains in restore, those that resume at the next tick edge, and those that resumed in this tick (R652, R653, R656). -/
  restoring : List Nat := []
  resume : List Nat := []
  resumed : List Nat := []
  /-- Domains that Owl powered off and powers on again, and the TAI ns of the release after that (R643). -/
  owlOff : List Nat := []
  owlRel : Tab (Option Nat) := []
  /-- The hardware thermal trip is latched: THERMTRIP_N is low (R685). -/
  trip : Bool := false
  /-- The thermal sensors and the throttle. -/
  thm : Thm := {}
  deriving DecidableEq, Repr

/-- A Granary command that runs or is suspended (R698–R705): a program with its new bytes by address, or an erase of a sector with
the journal sequence of its intents. -/
inductive GrnOp where
  | program (init addr : Nat) (cells : List (Nat × Byte))
  | erase (init sector seq : Nat)
  deriving DecidableEq, Repr

/-- A read of the Granary window that waits for the end of a pulse (R696): initiator, byte address, margin faults. -/
structure GrnRead where
  init : Nat
  addr : Nat
  margin : Nat
  deriving DecidableEq, Repr

/-- A boot in progress (R715, R719): the slot being copied, the mode with which it will run, the slot left and the reason of a
fallback, the reasons found for slots A and B, and whether a new record waits for the outcome. -/
structure Boot where
  slot : Nat
  mode : Nat
  left : Nat := 0
  reason : Nat := 0
  whyA : Nat := 0
  whyB : Nat := 0
  second : Bool := false
  deriving DecidableEq, Repr

/-- The Granary and the firmware boot beside their registers. -/
structure Grn where
  /-- The 1 MiB of R693; an unlisted byte reads as erased, 0xFF. -/
  mem : Tab Byte := []
  /-- GRN_PROT as the configuration row stores it (R707). -/
  row : Nat := 0
  /-- Steps blown of the anti-rollback fuses (R724). -/
  ar : Nat := 0
  /-- The operation that runs. -/
  run : Option GrnOp := none
  /-- The erase that is suspended (R705). -/
  susp : Option GrnOp := none
  /-- The running erase is suspended by reads, and for how long it has been in total, µs (R696). -/
  readHold : Bool := false
  heldUs : Nat := 0
  /-- The running erase is suspended for a power failure (Table 14.5). -/
  failHold : Bool := false
  /-- The reads that wait for the end of a pulse. -/
  waiting : List GrnRead := []
  /-- A protect update: initiator and value (R707). -/
  prot : Option (Nat × Nat) := none
  /-- Sectors whose reads complete with an error response (R709). -/
  held : List Nat := []
  /-- PD17 was released and the boot ROM has not booted yet (R715). -/
  bootWait : Bool := false
  /-- The boot in progress (R715). -/
  boot : Option Boot := none
  /-- The firmware that runs: slot and SVN; none while the MGMT pairs are halted. -/
  fw : Option (Nat × Nat) := none
  /-- TAI ns at which the trial window ends (R722). -/
  trialEnd : Option Nat := none
  deriving DecidableEq, Repr

/-- A damper or valve with a position, beside its registers (R750–R753): TAI ns of the last update; the direction in which it drives
(1 open, 2 close); TAI ns of the end of the last drive, and that drive's direction; a synchronisation is pending; ns of run time since
the last one; the demand at which it stalled; the stroke time in use. -/
structure Act where
  seen : Nat := 0
  dir : Nat := 0
  stop : Nat := 0
  lastDir : Nat := 0
  sync : Bool := false
  ran : Nat := 0
  stallAt : Word := 0
  stroke : Nat := 0
  deriving DecidableEq, Repr

/-- A PID loop beside its registers (R744, R746, R748): the previous process value, none before the first run, the last P and D, and the
tick (plus one) of its last run. -/
structure Pid where
  prev : Option Word := none
  p : Word := 0
  d : Word := 0
  ranIn : Nat := 0
  deriving DecidableEq, Repr

/-- A frame of the MS/TP link (R764, R765). -/
structure MstpFrame where
  typ : Nat
  dst : Nat
  src : Nat
  reply : Bool
  data : List Byte
  deriving DecidableEq, Repr

/-- The states of the MS/TP master node (R763). -/
inductive MstpState where
  | idle | useToken | waitReply | doneWithToken | passToken | noToken | pollForMaster | answer
  deriving DecidableEq, Repr

/-- The MS/TP link beside its registers (R763–R767). -/
structure Mstp where
  state : MstpState := .idle
  /-- The next station, the station last polled, and the counters of the node. -/
  next : Nat := 0
  poll : Nat := 0
  tokens : Nat := 0
  retries : Nat := 0
  frames : Nat := 0
  sole : Bool := false
  /-- A heartbeat was written within the last second. -/
  hb : Bool := false
  /-- The receive queue (R764). -/
  rx : List MstpFrame := []
  /-- The transmit queue (R764). -/
  tx : List MstpFrame := []
  /-- The station that waits for a reply (R764). -/
  asker : Nat := 0
  deriving DecidableEq, Repr

/-- The climate engine beside its registers. -/
structure Clm where
  /-- Consecutive failed and good read cycles of each input (R733). -/
  bad : Tab Nat := []
  good : Tab Nat := []
  /-- The recognised levels of the presence inputs, and the TAI second (plus one) in which each was last active. -/
  pres : Nat := 0
  presAt : Tab Nat := []
  /-- The hydrogen alarm input is recognised active; H2_HOLD runs. -/
  h2 : Bool := false
  h2Hold : Bool := false
  /-- The schedules' values, and the local minute of their last evaluation (R742). -/
  sched : Tab Nat := []
  minute : Option Int := none
  /-- The loops. -/
  pid : Tab Pid := []
  /-- The dampers. -/
  dmp : Tab Act := []
  /-- The valves. -/
  vlv : Tab Act := []
  /-- Heater and relay channels whose minimum time runs (R755). -/
  lock : Nat := 0
  /-- CLM starts at the first RUNNING tick (R770). -/
  starts : Bool := false
  /-- The node on the token bus. -/
  mstp : Mstp := {}
  deriving DecidableEq, Repr

/-- A fan channel beside its registers (R779, R780): ms below TACH_MIN, ms of spin-up left, ms at or above TACH_MIN while faulty. -/
structure Fan where
  below : Nat := 0
  spin : Nat := 0
  good : Nat := 0
  deriving DecidableEq, Repr

/-- The high-side command of a phase in a PWM period (R782, R789): it is on from `rise` to `fall`, in cycles of the 200 MHz counter since the
counter was 0; never on where the two are equal. -/
structure PhaseEdges where
  rise : Nat
  fall : Nat
  deriving DecidableEq, Repr

/-- A motor channel beside its registers. -/
structure Mot where
  /-- The channel was started by an activation or restore (R807). -/
  on : Bool := false
  /-- The speed target in force (R792). -/
  target : Nat := 0
  /-- The ramped target in 0.001 rpm, and the speed loop's integral (R797, R799). -/
  ramped : Int := 0
  integ : Word := 0
  /-- The current offsets of the attempt, as sums of 64 codes (R794). -/
  iofs : List Nat := []
  /-- The electrical angle, and the phase duties as numerators over `dutyDen` (R785). -/
  angle : Nat := 0
  duty : List Int := []
  /-- Consecutive evaluations outside KE_MIN–KE_MAX, and consecutive PWM periods with a trip (R802, R803). -/
  keRun : Nat := 0
  ocRun : Nat := 0
  /-- Gate commands are inactive until the counter next reaches 0 (R803). -/
  blank : Bool := false
  /-- The edges of the last PWM period, phases U, V, W (R782, R789). -/
  edges : List PhaseEdges := []
  /-- The phase currents U, V, W of the last complete measurement, none before it, and the periods in a row without one (R790). -/
  amps : Option (Word × Word × Word) := none
  miss : Nat := 0
  /-- The observer (R796): the α and β currents of the period before, e, the angle, none before the first, and the filtered speed in rpm. -/
  iab : Option (Word × Word) := none
  emf : Word × Word := (0, 0)
  obs : Option Nat := none
  speed : Word := 0
  /-- The filtered current magnitude (R800). -/
  imag : Word := 0
  /-- ns of the ramp that have passed, and ns for which the observer speed has agreed with the open-loop speed (R794, R797). -/
  ramp : Nat := 0
  agree : Nat := 0
  deriving DecidableEq, Repr

/-- The movers beside their registers. -/
structure Mov where
  fan : Tab Fan := []
  /-- The groups whose boost is in force (R781). -/
  boost : Nat := 0
  /-- The motor channels. -/
  mot : Tab Mot := []
  deriving DecidableEq, Repr

/-- A key beside PNL_PRESSED and PNL_MASKED (R810–R815, R822): its debounced level, the scans in a row that read the other level,
the counter at its press, and whether its LONG entry is written and whether it has been seen released. -/
structure Key where
  down : Bool := false
  masked : Bool := false
  cnt : Nat := 0
  since : Nat := 0
  long : Bool := false
  seen : Bool := false
  deriving DecidableEq, Repr

/-- A sampled line of an encoder (R826): its accepted level, and the samples in a row that read the other level. -/
structure Line where
  level : Bool := false
  cnt : Nat := 0
  deriving DecidableEq, Repr

/-- An encoder beside its registers (R826–R828): its lines, and the direction of the last valid step (positive: true). -/
structure Qep where
  a : Line := {}
  b : Line := {}
  index : Line := {}
  dir : Option Bool := none
  deriving DecidableEq, Repr

/-- The panel beside its registers. -/
structure Pnl where
  /-- The millisecond counter of R817. -/
  ms : Nat := 0
  /-- The keys, by code. -/
  keys : Tab Key := []
  /-- The event FIFO (R818). -/
  fifo : List Word := []
  /-- Entries lost since it was full (R818). -/
  lost : Nat := 0
  /-- The counter at the last step of the unlock sequence (R824). -/
  stepAt : Nat := 0
  /-- The counter when each combination began to be held, and whether it has had its entry (R820). -/
  hold : Tab (Option (Nat × Bool)) := []
  /-- The encoders. -/
  qep : Tab Qep := []
  /-- The settings that each LED showed when its register was last written, and the TAI instant of that write: they hold to the end
  of their period (Table 18.6). -/
  led : Tab (Word × Nat) := []
  deriving DecidableEq, Repr

/-- A SPIM0 command, running or queued (R832, R833); the bytes of a program as SPM0_BUF held them at the command. -/
structure FlashCmd where
  init : Nat
  op : Nat
  addr : Nat
  len : Nat
  data : List Byte
  deriving DecidableEq, Repr

/-- A SPIM1 transfer in progress (R835): read, full duplex, data bytes, and whether the target's RDY is obeyed. -/
structure Xfer1 where
  tgt : Nat
  read : Bool
  full : Bool
  len : Nat
  rdy : Bool
  deriving DecidableEq, Repr

/-- The SPI masters beside their registers. -/
structure Spm where
  run : Option FlashCmd := none
  /-- The initiator of the running command still waits for it. -/
  owned : Bool := true
  /-- The SPIM0 commands that wait. -/
  queue : List FlashCmd := []
  /-- A fetch waits for the flash to report ready (R832). -/
  fetchWait : Bool := false
  /-- The SPIM1 transfer in progress. -/
  xfer : Option Xfer1 := none
  deriving DecidableEq, Repr

/-- The SPI slave beside its registers: BV_MBX_SEL and BV_SUMMARY.ERR. -/
structure Sps where
  sel : Nat := 0
  err : Bool := false
  deriving DecidableEq, Repr

/-- A UART beside its registers. -/
structure Uart where
  /-- The RX FIFO, as words of DATA (R852). -/
  rx : List Word := []
  /-- The TX FIFO. -/
  tx : List Byte := []
  /-- The byte being sent. -/
  shift : Option Byte := none
  /-- UART_DE is asserted (R853). -/
  de : Bool := false
  /-- The line has been idle for T3.5 since the last stop bit (R854). -/
  quiet : Bool := true
  /-- Bytes lost since the last UART_OVERRUN. -/
  lost : Nat := 0
  deriving DecidableEq, Repr

/-- An I²C controller beside its registers (R857–R859): the initiators that wait, the one served, whether its repeat is used, the one
served last, and whether SDA stays low. -/
structure Iic where
  wait : List Nat := []
  cur : Option Nat := none
  again : Bool := false
  last : Nat := 0
  stuck : Bool := false
  deriving DecidableEq, Repr

/-- What the block sends to the outside (the model's own list of what leaves it). -/
inductive Output where
  /-- An MSI-X message: function (0 the PF, t an instance) and vector. -/
  | msix (fn vec : Nat)
  /-- The internal interrupt of the MGMT pairs, by the block that raises it. -/
  | mgmtIrq (block : Nat)
  /-- The internal interrupt of Owl (R611). -/
  | owlIrq (block : Nat)
  /-- A PTP message from a hardware template: port, kind, clockClass, totalTimeInaccuracy, two-step. -/
  | ptp (port kind clockClass inacc : Nat) (twoStep : Bool)
  /-- A write to host memory on behalf of a function. -/
  | hostWrite (fn addr : Nat) (data : List Byte)
  /-- A write to host memory of bytes `ofs` onwards of the .CFF file of a record. -/
  | hostFile (fn addr ofs len seq : Nat)
  /-- A frame that starts on an external port; for a bridged frame the VID of its tag; the AN and PN of its SecTAG. -/
  | frame (port : Nat) (f : Frame) (vid : Option Nat) (sec : Option (Nat × Nat))
  /-- A publication frame that starts on an external port; the AN and PN of its SecTAG. -/
  | pubFrame (port : Nat) (p : PubFrame) (red : Option RedTag) (sec : Option (Nat × Nat))
  /-- A frame delivered to the MGMT complex. -/
  | toMgmt (port : Nat) (f : Frame)
  /-- A sweep, TIMING or NAK frame on a ring link. -/
  | sweep (link : Nat) (f : SweepFrame)
  | timing (link : Nat) (f : TimingFrame)
  | nak (link : Nat) (west : Bool) (sec insec : Nat)
  /-- A step of the record shipper on a namespace: 1 connect, 2 keep alive, 3 Flush. -/
  | nvme (ns step unit : Nat)
  /-- A Write command: the first unit of 4 KiB, the units, and the bytes with which its data begins where they are not the file's. -/
  | nvmeWrite (ns unit units : Nat) (head : List Byte)
  /-- A frame on the MS/TP link: type, destination, source, data. -/
  | mstp (typ dst src : Nat) (data : List Byte)
  /-- A byte that a UART sends. -/
  | uart (u : Nat) (b : Byte)
  /-- UART_DE is asserted or released, so many sixteenths of a bit time before the start bit or after the stop bit. -/
  | uartDe (u : Nat) (on : Bool) (sixteenths : Nat)
  /-- A command to the external flash: in 8D-8D-8D mode or in 1S-1S-1S, the command byte, the address, and the bytes sent. -/
  | flash (octal : Bool) (cmd addr : Nat) (data : List Byte)
  /-- A SPIM1 transfer: target, the bytes sent, and the bytes to read. -/
  | spim1 (tgt : Nat) (sent : List Byte) (read : Nat)
  /-- The data bytes that the SPI slave returns to the BMC. -/
  | miso (data : List Byte)
  /-- An I²C transaction: controller, the byte for the multiplexer, target, bytes written, bytes to read. -/
  | i2c (c : Nat) (mux : Option Byte) (addr : Nat) (data : List Byte) (rlen : Nat)
  deriving DecidableEq, Repr

/-- The state of the block. -/
structure State where
  /-- The commands that wait, first in, first out (the model's own). -/
  pending : List Instr := []
  /-- Active values of the registers, by address; an unlisted register holds its reset value (R48). -/
  regs : Tab Word := []
  /-- Pending values of the tick-latched fields (R16). -/
  pend : Tab Pend := []
  /-- Low words held for an initiator and a pair (R11). -/
  held : Tab (Option Word) := []
  /-- High-word snapshots of an initiator and a pair (R10, R104). -/
  snaps : Tab (Option Word) := []
  /-- The TAI second (plus one) of the last event of a limited subject (R34, R903). -/
  limits : Tab Nat := []
  /-- Drops since the last OVERLOAD of a resource (Table 00.7). -/
  drops : Tab Nat := []
  /-- Events raised, newest first (R30). -/
  events : List Event := []
  /-- What the block has sent out, newest first (the model's own). -/
  outputs : List Output := []
  /-- The word that the last read returned (the model's own). -/
  resp : Option Word := none
  /-- The high word of the last read, where it was one of 64 bits (R43; the model's own). -/
  respHigh : Option Word := none
  /-- Free values used so far (the model's own, log 4). -/
  freeCtr : Nat := 0
  /-- The tick generator. -/
  tik : Tik := {}
  /-- The timing core. -/
  tim : Tim := {}
  /-- The image engine. -/
  img : Img := {}
  /-- Acquisition. -/
  acq : Acq := {}
  /-- Travelling-wave capture. -/
  twc : Twc := {}
  /-- The thresher pool. -/
  thr : Thr := {}
  /-- The publisher. -/
  mpr : Mpr := {}
  /-- The measurement ring. -/
  mrg : Mrg := {}
  /-- The Silo. -/
  slo : Slo := {}
  /-- The bridge. -/
  pkt : Pkt := {}
  /-- Keys, MACsec and ESP. -/
  cry : Cry := {}
  /-- The namespaces of the record shipper. -/
  ns : Tab Ns := []
  /-- The host interface. -/
  hif : Hif := {}
  /-- Owl, the sentinel and the Gleaner. -/
  saf : Saf := {}
  /-- The black box. -/
  bbx : Bbx := {}
  /-- Mailboxes and doorbells. -/
  mbx : Mbx := {}
  /-- Resets, power domains and thermal management. -/
  rst : Rst := {}
  /-- The Granary. -/
  grn : Grn := {}
  /-- The external octal flash, which holds the firmware and image slots (R714, R830); an unlisted byte reads 0xFF. -/
  flash : Tab Byte := []
  /-- The climate engine. -/
  clm : Clm := {}
  /-- Fans and motors. -/
  mov : Mov := {}
  /-- The panel. -/
  pnl : Pnl := {}
  /-- The SPI masters. -/
  spm : Spm := {}
  /-- The SPI slave. -/
  sps : Sps := {}
  /-- The UARTs. -/
  uar : Tab Uart := []
  /-- The I²C controllers. -/
  iic : Tab Iic := []
  deriving DecidableEq, Repr

/-- Why the block stops. No command of the table stops it. -/
inductive Fault where
  /-- Raised by a register write or read whose address lies outside PF BAR0 and the tenant windows (R3): the spec says that no
  such access exists. Safe. -/
  | outsideBar (addr : Nat)
  deriving DecidableEq, Repr

/-- Why a command has no meaning. -/
inductive Refusal where
  /-- Raised by the arm of a command that has no meaning yet. Safe. -/
  | notModelled (mnemonic : String)
  deriving DecidableEq, Repr

/-- The machine right after the internal POR: every register at its reset value, PD00 and PD01 powered and released
(Table 14.12), no event raised and no command waiting. -/
def State.reset : State := {}

end Sys2Proof.Machine
end

