-- ==== Sys2Proof/Machine/Ops.lean ====
section
/-! DEFINITION. The named operations over the registers: fields, events, isolation, the write of a register under the access
codes and classes of its fields, pending values and commits, and what a reset of a domain does to them. -/

namespace Sys2Proof.Machine

/-- The outcome of a command. -/
abbrev Out := Host.Outcome State Fault Refusal

/-! ### Registers and fields -/

/-- The active value of the register with a key. -/
def State.reg (s : State) (k : Nat) : Word := Tab.get (resetOf k) s.regs k

/-- The state with a register's active value set. -/
def State.setReg (s : State) (k : Nat) (v : Word) : State := { s with regs := Tab.put (resetOf k) s.regs k v }

/-- The bits of a field in a word. -/
def fieldOf (w : Word) (lo n : Nat) : Nat := bitsAt w.toNat lo n

/-- A word with ones at the bits of a field. -/
def maskOf (lo n : Nat) : Word := BitVec.ofNat 32 ((2 ^ n - 1) * 2 ^ lo)

/-- The word `w` with the bits of mask `m` taken from `v`. -/
def mergeBits (w m v : Word) : Word := (w &&& ~~~m) ||| (v &&& m)

/-- The word `w` with a field replaced. -/
def withField (w : Word) (lo n v : Nat) : Word :=
  mergeBits w (maskOf lo n) (BitVec.ofNat 32 ((v % 2 ^ n) * 2 ^ lo))

/-- The active value of a field. -/
def State.rd (s : State) (f : Fld) : Nat := fieldOf (s.reg f.key) f.lo f.w

/-- The state with a field's active value set; the other fields of the register keep theirs. -/
def State.wr (s : State) (f : Fld) (v : Nat) : State := s.setReg f.key (withField (s.reg f.key) f.lo f.w v)

/-- A counter advances by `n` and saturates at its maximum value (R102 and the block chapters). -/
def State.add (s : State) (f : Fld) (n : Nat) : State := s.wr f (min (s.rd f + n) (2 ^ f.w - 1))

/-- A counter advances by one and saturates. -/
def State.inc (s : State) (f : Fld) : State := s.add f 1

/-- A counter goes down by `n`, not below 0. -/
def State.sub (s : State) (f : Fld) (n : Nat) : State := s.wr f (s.rd f - n)

/-- A single-bit field. -/
def State.bit (s : State) (f : Fld) : Bool := s.rd f != 0

/-- A single-bit field set from a truth value. -/
def State.setBit (s : State) (f : Fld) (b : Bool) : State := s.wr f b.toNat

/-- The 64-bit quantity of a low and a high register (R10). -/
def State.rd64 (s : State) (lo hi : Fld) : Nat := s.rd lo + 2 ^ 32 * s.rd hi

/-- Set the 64-bit quantity of a low and a high register. -/
def State.wr64 (s : State) (lo hi : Fld) (v : Nat) : State := (s.wr lo v).wr hi (v / 2 ^ 32)

/-- A field read as a signed number. -/
def State.rdInt (s : State) (f : Fld) : Int := signedOf f.w (s.rd f)

/-- A field set from a signed number. -/
def State.wrInt (s : State) (f : Fld) (v : Int) : State := s.wr f (unsignedOf f.w v)

/-! ### Block IDs (Table 00.3) -/

namespace Blk
abbrev glb := 0x0001
abbrev tik := 0x0002
abbrev tim := 0x0003
abbrev img := 0x0004
abbrev acq := 0x0005
abbrev twc := 0x0006
abbrev thr := 0x0007
abbrev mpr := 0x0008
abbrev mrg := 0x0009
abbrev pkt := 0x000A
abbrev slo := 0x000B
abbrev tun := 0x000C
abbrev cry := 0x000D
abbrev recb := 0x000E
abbrev hif := 0x000F
abbrev saf := 0x0010
abbrev rst := 0x0011
abbrev pwr := 0x0012
abbrev thm := 0x0013
abbrev grn := 0x0014
abbrev clm := 0x0015
abbrev fan := 0x0016
abbrev mtr := 0x0017
abbrev pnl := 0x0018
abbrev spm := 0x0019
abbrev sps := 0x001A
abbrev uar := 0x001B
abbrev iic := 0x001C
abbrev mbx := 0x001D
abbrev bbx := 0x001E
abbrev dbg := 0x001F
/-- The firmware's block ID (R2). -/
abbrev firmware := 0x0020
end Blk

/-! ### Time and free values -/

/-- The current TAI second of the device time scale. -/
def State.taiSec (s : State) : Nat := s.tim.now / 65536 / 1000000000

/-- The current TAI time in whole ns. (DEDUCED, log 11) -/
def State.taiNs (s : State) : Nat := s.tim.now / 65536

/-- TIK_COUNT, all 64 bits. -/
def State.tick (s : State) : Nat := s.rd64 Reg.TIK_COUNT_LO Reg.TIK_COUNT_HI

/-- The next value that the spec leaves open. (DESIGN CHOICE, log 4) -/
def State.free (s : State) : Word := Config.freeWord s.freeCtr

/-- The state after a free value has been used. (DESIGN CHOICE, log 4) -/
def State.used (s : State) : State := { s with freeCtr := s.freeCtr + 1 }

/-! ### Events -/

/-- The severity codes of R31. -/
def sevCode : Sev → Nat
  | .info => 1
  | .warn => 2
  | .fault => 3
  | .safety => 4

/-- MIN_SEV of BBX_CFG; values outside 1–4 act as 1 (Table 13.11). -/
def bbxMinSev (s : State) : Nat :=
  let m := s.rd Reg.BBX_CFG_MIN_SEV
  if 1 ≤ m ∧ m ≤ 4 then m else 1

/-- An event goes towards the black box (R615, R617, R619): into the queue of 64, or counted when the ring is FROZEN or the
queue is full. `always` is for BBX_GAP, RESET_MARK and POWER_FAIL, which are written whatever MIN_SEV holds. (DEDUCED, log 37) -/
def bbxOffer (s : State) (e : Event) (always : Bool) : State :=
  if !always && e.sev != .safety && sevCode e.sev < bbxMinSev s then s
  else if s.rd Reg.BBX_STATUS_STATE = 2 then
    let s := s.inc Reg.BBX_FROZEN_DROP
    if e.sev = .safety then s.wr Reg.BBX_STATUS_MISSED_SAFETY 1 else s
  else if 64 ≤ s.bbx.queue.length then
    { s.inc Reg.BBX_LOST with bbx := { s.bbx with lostRun := s.bbx.lostRun + 1 } }
  else { s with bbx := { s.bbx with queue := s.bbx.queue ++ [e] } }

/-- The event record of R30. -/
def mkEvent (block code : Nat) (sev : Sev) (payload : Nat) : Event :=
  ⟨BitVec.ofNat 16 block, BitVec.ofNat 16 code, sev, BitVec.ofNat 64 payload⟩

/-- A block raises an event (R30): it is logged and offered to the black box. -/
def raise (s : State) (block code : Nat) (sev : Sev) (payload : Nat) : State :=
  let e := mkEvent block code sev payload
  bbxOffer { s with events := e :: s.events } e false

/-- The key of a limited subject (R903). (DEDUCED, log 56) -/
def limitKey (block code subject : Nat) : Nat := (block * 2 ^ 16 + code) * 2 ^ 40 + subject

/-- Whether a limited event of this subject may still be raised in this TAI second (R903). -/
def limitOpen (s : State) (block code subject : Nat) : Bool :=
  Tab.get 0 s.limits (limitKey block code subject) != s.taiSec + 1

/-- An event limited to one for each subject in each TAI second (R903). (DEDUCED, log 56) -/
def raiseLimited (s : State) (block code : Nat) (sev : Sev) (subject payload : Nat) : State :=
  if limitOpen s block code subject then
    raise { s with limits := Tab.put 0 s.limits (limitKey block code subject) (s.taiSec + 1) } block code sev payload
  else s

/-- An event limited to one for each subject in each TAI minute (R903). -/
def raiseMinute (s : State) (block code : Nat) (sev : Sev) (subject payload : Nat) : State :=
  let k := limitKey block code subject
  if Tab.get 0 s.limits k = s.taiSec / 60 + 1 then s
  else raise { s with limits := Tab.put 0 s.limits k (s.taiSec / 60 + 1) } block code sev payload

/-- OVERLOAD of a resource (Table 00.7, R34): at most once per second for the resource; bytes 4–7 of the payload count the
drops since the last OVERLOAD, this one among them. -/
def overload (s : State) (block resource : Nat) : State :=
  let k := block * 2 ^ 32 + resource
  let n := Tab.get 0 s.drops k + 1
  if limitOpen s block 4 resource then
    raiseLimited { s with drops := Tab.put 0 s.drops k 0 } block 4 .warn resource
      (resource + 2 ^ 32 * (n % 2 ^ 32))
  else { s with drops := Tab.put 0 s.drops k n }

/-- TRANSIENT (Table 00.7, R35). -/
def transient (s : State) (block op detail : Nat) : State := raise s block 5 .info (op + 2 ^ 16 * detail)

/-- TRANSIENT of an operation for which the block's chapter defines no operation code: the payload is a free value (R35). (DEDUCED, log 55) -/
def transientOpen (s : State) (block : Nat) : State := raise s.used block 5 .info s.free.toNat

/-- CFG_VIOL of an access (Table 00.7): the offset or view address, and the initiator. -/
def cfgViol (s : State) (block : Nat) (i : Ident) (addr : Nat) : State :=
  raise s block 1 .warn (addr % 2 ^ 32 + 2 ^ 32 * i.toNat)

/-- ACC_SIZE of an access (R41). -/
def accSize (s : State) (block : Nat) (i : Ident) (addr : Nat) : State :=
  raise s block 2 .warn (addr % 2 ^ 32 + 2 ^ 32 * i.toNat)

/-- ISO_ERR of an access (R44): at most once per second for each pair of domain and initiator, over all blocks. (DEDUCED, log 56) -/
def isoErr (s : State) (block : Nat) (i : Ident) (addr pd : Nat) : State :=
  if limitOpen s 0 3 (pd * 1024 + i.toNat) then
    raise { s with limits := Tab.put 0 s.limits (limitKey 0 3 (pd * 1024 + i.toNat)) (s.taiSec + 1) } block 3 .warn
      (addr % 2 ^ 32 + 2 ^ 32 * i.toNat + 2 ^ 48 * pd)
  else s

/-- Send something out of the block. (DESIGN CHOICE, log 57) -/
def emit (s : State) (o : Output) : State := { s with outputs := o :: s.outputs }

/-! ### Power domains (R44) -/

/-- The internal POR holds, or PORST_N is low and its reset has been asserted: every domain is in reset until the cold release starts
(R637, R648, R660). -/
def coldHeld (s : State) : Bool := s.rst.porHeld || (s.rst.porstLow && !s.rst.delayed.any (fun x => x.code == 2))

/-- Whether a power domain is powered and out of reset. -/
def domainUp (s : State) (d : Nat) : Bool :=
  bitAt (s.rd Reg.PWR_STATUS) d && !bitAt (s.rd Reg.PWR_RESET) d && !coldHeld s

/-- Whether a block with this base is accessible: its own domain is up; IMG lies in the IMG reset domain within PD18 (R637). -/
def blockUp (s : State) (base pd : Nat) : Bool := domainUp s pd && (base != 0x40000 || !s.rst.imgReset)

/-- Whether a field of a register is accessible (R44). -/
def fieldUp (s : State) (b : BlockD) (r : RegD) (f : FieldD) : Bool :=
  match f.pd with
  | some d => domainUp s d
  | none => match r.pd with
    | some d => domainUp s d
    | none => blockUp s b.base b.pd

/-- Whether some field of a register is accessible; a register without fields lies in its block's domain (R44). -/
def regUp (s : State) (b : BlockD) (r : RegD) : Bool :=
  r.fields.any (fieldUp s b r) || (r.fields.isEmpty && blockUp s b.base b.pd)

/-- The domain that a field lies in. -/
def fieldPd (b : BlockD) (r : RegD) (f : FieldD) : Nat := f.pd.getD (r.pd.getD b.pd)

/-- The address that an event names: the BAR0 offset, or the view address in a tenant window (R238). -/
def viewAddr (addr : Nat) : Nat := if addr < 0x4000000 then addr else (addr - 0x4000000) % 0x40000

/-- Whether the debug port is confined to reads of GLB, SAF and BBX (R594). -/
def debugShut (s : State) (i : Ident) : Bool := i.toNat == 0x104 && !s.bit Reg.DBG_CTRL_PORT_EN

/-- A write to a register of a block in domain `pd` that carries out an action: dropped with CFG_VIOL through the confined debug
port (R594), with ISO_ERR while the domain is down (R44), with ACC_SIZE when a byte enable is missing (R41), else `k`. A write to
which more than one of them applies raises the first of these alone. (DEDUCED, log 9) -/
def withWrite (s : State) (a : Access) (base block pd addr : Nat) (k : State → State) : State :=
  if debugShut s a.init then cfgViol s block a.init (viewAddr addr)
  else if !blockUp s base pd then isoErr s block a.init (viewAddr addr) pd
  else if a.be ≠ 15 then accSize s block a.init (viewAddr addr)
  else k s

/-! ### Quiet states (R23 and the block chapters) -/

/-- The state FAULT of a motor channel (MSTATE.STATE). -/
abbrev motFault := 6

/-- Whether the part of a block that a class Q field belongs to is in its Quiet state. `o` is the offset in the block (for a
tenant window, in the window) and `ix` the element numbers of the register. -/
def quietState (s : State) (base o : Nat) (ix : List Nat) : Bool :=
  let i := ix.headD 0
  let j := (ix.drop 1).headD 0
  match base with
  | 0x0020000 => s.rd Reg.TIM_STATUS_QUALITY == 2 && !s.bit Reg.TIM_CTRL_SERVO_EN
  | 0x0040000 => !s.bit Reg.IMG_STATUS_BUSY
  | 0x0080000 => s.rd Reg.ACQ_STATUS_STATE == 0
  | 0x0280000 => s.rd Reg.MRG_STATUS_STATE == 0
  | 0x0300000 =>
    if 0x100 ≤ o ∧ o < 0x160 then !s.bit (Reg.PKT_PORT_PCFG_EN i) else s.rd Reg.PKT_STATUS_STATE == 0
  | 0x0480000 => s.rd Reg.PKT_STATUS_STATE == 0
  | 0x0500000 => !s.bit (Reg.PKT_PORT_PCFG_EN i)
  | 0x0580000 => s.rd (Reg.REC_NS_NSTATE_STATE i) == 0
  | 0x0600000 => !s.bit (Reg.HIF_DLOG_DCFG_EN i)
  | 0x0800000 => s.rd Reg.IMG_STATUS_STATE != 6 && s.rd Reg.IMG_STATUS_STATE != 5
  | 0x0C00000 => s.rd Reg.IMG_STATUS_STATE != 6 && s.rd Reg.IMG_STATUS_STATE != 5
  | 0x0980000 => !s.bit Reg.CLM_MSTP_CTRL_EN
  | 0x09E0000 => s.rd (Reg.MTR_ST_MSTATE_STATE i) == 0 || s.rd (Reg.MTR_ST_MSTATE_STATE i) == motFault
  | 0x0A00000 => !s.bit Reg.PNL_CTRL_EN
  | 0x0A20000 =>
    if o < 0x1000 then !s.bit Reg.SPM0_STATUS_BUSY && !s.bit Reg.SPM0_STATUS_FETCH else !s.bit Reg.SPM1_XFER_GO
  | 0x0A60000 => !s.bit (Reg.UAR_CFG_EN i)
  | 0x0A80000 => if o < 0x200 then !s.bit (Reg.IIC_CFG_EN i) else !s.bit (Reg.IIC_CFG_EN 1)
  | 0x4000000 =>
    if o < 0x1000 then !s.bit (Reg.EVQ_CFG_EN i)
    else if o < 0x2000 then s.rd (Reg.QSTATUS_STATE i j) == 0
    else s.rd (Reg.RSTATUS_STATE i j) == 0
  | _ => true

/-! ### Writing a register (R12, R15, R16, R22, R23) -/

/-- Whether slot 504 of the current tick has begun (R21). -/
def afterSlot504 (s : State) : Bool := decide (504 ≤ s.rd Reg.TIK_STATUS_SLOT)

/-- A pending value takes the bits `m` of `v` (R16, R19). (DEDUCED, log 9) -/
def State.setPend (s : State) (k : Nat) (m v : Word) : State :=
  let p := Tab.get {} s.pend k
  let q : Pend := { val := mergeBits p.val m v, mask := p.mask ||| m,
                    late := if afterSlot504 s then p.late ||| m else p.late &&& ~~~m }
  { s with pend := Tab.put {} s.pend k q }

/-- What one field of a write does: the new state, and whether the field refused its value (R23). (DEDUCED, log 9) -/
def writeField (s : State) (k : Nat) (quiet : Bool) (v : Word) (f : FieldD) : State × Bool :=
  let m := maskOf f.lo f.w
  let old := s.reg k
  let same := (v &&& m) == (old &&& m)
  match f.cls with
  | .struc => (s, !same)
  | .quiet =>
    match f.acc with
    | .rw => if same then (s, false) else if quiet then (s.setReg k (mergeBits old m v), false) else (s, true)
    | _ => (s, false)
  | .tick | .tickSafe => (s.setPend k m v, false)
  | .live =>
    match f.acc with
    | .rw => (s.setReg k (mergeBits old m v), false)
    | .w1c => (s.setReg k (old &&& ~~~(v &&& m)), false)
    | .w1s => (s.setReg k (old ||| (v &&& m)), false)
    | .ro | .wo | .rc => (s, false)

/-- What the fields of a write do, in turn; a field whose domain is down keeps its value (R44, R47). (DEDUCED, log 9) -/
def writeFields (s : State) (b : BlockD) (r : RegD) (k : Nat) (quiet : Bool) (v : Word) :
    List FieldD → Bool → State × Bool
  | [], viol => (s, viol)
  | f :: fs, viol =>
    if fieldUp s b r f then
      let p := writeField s k quiet v f
      writeFields p.1 b r k quiet v fs (viol || p.2)
    else writeFields s b r k quiet v fs viol

/-- The first field of a register that lies in a domain that is down. -/
def downField (s : State) (b : BlockD) (r : RegD) : Option FieldD := r.fields.find? (fun f => !fieldUp s b r f)

/-- Raise ISO_ERR when some field of the register is isolated (R44). -/
def isoIfDown (s : State) (b : BlockD) (r : RegD) (i : Ident) (addr : Nat) : State :=
  match downField s b r with
  | some f => isoErr s b.id i (viewAddr addr) (fieldPd b r f)
  | none => s

/-- The key of a register for an initiator. -/
def regKey (r : RegD) (i : Ident) (addr : Nat) : Nat := if r.perInit then initKey i addr else addr

/-- Whether some field of the register can be written. -/
def RegD.writable (r : RegD) : Bool := r.fields.any (fun f => f.acc == .rw)

/-- A reset of the initiators that `p` picks drops the low words held for them (R11). (DEDUCED, log 9) -/
def dropHeld (s : State) (p : Nat → Bool) : State := { s with held := s.held.filter (fun x => !p (x.1 / 2 ^ 28)) }

/-- The offset of an address in its block; in a tenant window, in the window. -/
def offIn (b : BlockD) (addr : Nat) : Nat :=
  if b.base = 0x4000000 then (addr - b.base) % 0x40000 else addr - b.base

/-- A write of a whole register, field by field under each field's class (R22), with at most one CFG_VIOL (R47). A low word of
a 64-bit quantity is held (R11); a high word takes effect with the held low word, or with the low word's active value. (DEDUCED, log 9) -/
def writeReg (s : State) (b : BlockD) (r : RegD) (i : Ident) (addr : Nat) (v : Word) : State :=
  let k := regKey r i addr
  let q := quietState s b.base (offIn b addr) (r.index (addr - b.base))
  match r.pair with
  | .low =>
    if r.writable then
      if r.fields.all (fieldUp s b r) then
        { s with held := Tab.put none s.held (initKey i addr) (some v) }
      else isoIfDown s b r i addr
    else
      let p := writeFields s b r k q v r.fields false
      isoIfDown (if p.2 then cfgViol p.1 b.id i (viewAddr addr) else p.1) b r i addr
  | .high =>
    let lo := (Tab.get none s.held (initKey i (addr - 4))).getD (s.reg (addr - 4))
    let s := { s with held := Tab.put none s.held (initKey i (addr - 4)) none }
    let p := writeFields s b r (addr - 4) q lo r.fields false
    let p := writeFields p.1 b r k q v r.fields p.2
    isoIfDown (if p.2 then cfgViol p.1 b.id i (viewAddr addr) else p.1) b r i addr
  | .single =>
    let p := writeFields s b r k q v r.fields false
    isoIfDown (if p.2 then cfgViol p.1 b.id i (viewAddr addr) else p.1) b r i addr

/-! ### Reading a register (R9, R17, R44) -/

/-- What the fields of a register read as: write-only fields 0, fields of a domain that is down all ones (R12, R44). -/
def readFields (s : State) (b : BlockD) (r : RegD) (k : Nat) : List FieldD → Word
  | [] => 0
  | f :: fs =>
    let m := maskOf f.lo f.w
    let x := if !fieldUp s b r f then m else if f.acc = .wo then 0 else s.reg k &&& m
    x ||| readFields s b r k fs

/-- What a register reads as: all ones where none of its fields is accessible, else its fields, each as its domain lets (R8, R44). -/
def readReg (s : State) (b : BlockD) (r : RegD) (k : Nat) : Word :=
  if regUp s b r then readFields s b r k r.fields else 0xFFFFFFFF

/-- What a register's image in the shadow page reads as (R17): the pending values of the tick-latched fields, or their active values
where none is pending; 0 for the other fields; all ones for a field of a domain that is down (R44). -/
def readShadow (s : State) (b : BlockD) (r : RegD) (k : Nat) : Word :=
  let p := Tab.get {} s.pend k
  if !regUp s b r then 0xFFFFFFFF
  else r.fields.foldl (fun w f =>
    let m := maskOf f.lo f.w
    if !fieldUp s b r f then w ||| m
    else if f.cls == .tick || f.cls == .tickSafe then w ||| (mergeBits (s.reg k) p.mask p.val &&& m)
    else w) 0

/-- Whether a block has class T or T* fields, and so the registers PEND and COMMIT (R235). -/
def hasCommit (b : BlockD) : Bool :=
  b.base == 0x4000000 || b.regs.any (fun r => r.fields.any (fun f => f.cls == .tick || f.cls == .tickSafe))

/-- Whether an address is the PEND register (`o` 0x7FF8) or the COMMIT register (0x7FFC) of a block or tenant window (R235). -/
def isCommon (b : BlockD) (addr o : Nat) : Bool := offIn b addr == o && hasCommit b

/-- The offset in the active page of an offset in a block (R18). -/
def activeOff (o : Nat) : Nat := if o % 0x10000 < 0x8000 then o else o - 0x8000

/-- The endpoint whose TUN_EP entry holds a key. (DEDUCED, log 54) -/
def endpointOf (k : Nat) : Option Nat :=
  let o := keyAddr k - 0x490000
  if 0x490000 ≤ keyAddr k ∧ o < 0x40000 ∧ o % 0x10000 < 0x8000 then some (o / 0x10000 * 2048 + o % 0x10000 / 16) else none

/-- Whether a key lies in the pages of a block; for a tenant window, in the window or in the instance's endpoints (R512, R235). (DEDUCED, log 54) -/
def inPages (s : State) (page : Nat) (k : Nat) : Bool :=
  match findBlock blocks page with
  | none => false
  | some b =>
    if b.base = 0x4000000 then
      let t := (page - b.base) / 0x40000
      (decide (page ≤ keyAddr k) && decide (keyAddr k < page + 0x40000)) ||
        (endpointOf k).any (fun n => decide (s.rd (Reg.TUN_TEN_BASE t) ≤ n) &&
          decide (n < s.rd (Reg.TUN_TEN_BASE t) + s.rd (Reg.TUN_TEN_COUNT t)))
    else decide (page ≤ keyAddr k) && decide (keyAddr k < page + b.size)

/-- A block's PEND register (Table 04.8): its registers with software pending values, and whether the preload holds amendment values for
it. -/
def pendWord (s : State) (page : Nat) : Nat :=
  min ((s.pend.filter (fun p => inPages s page p.1 && p.2.mask != 0)).length) 65535 +
    2 ^ 16 * (s.img.amd.any (fun x => x.words.any (fun w => inPages s page w.target))).toNat

/-- What a read of an address returns to an initiator, without its side effects: the active values (R17), the pending values
on a shadow page, 0 at an unimplemented offset (R9), all ones in a domain that is down (R44). -/
def readWord (s : State) (i : Ident) (addr : Nat) : Word :=
  match findBlock blocks addr with
  | none => 0
  | some b =>
    let o := addr - b.base
    match b.findReg (activeOff o) with
    | none =>
      if !blockUp s b.base b.pd then 0xFFFFFFFF
      else if isCommon b addr 0x7FF8 then BitVec.ofNat 32 (pendWord s (addr - 0x7FF8))
      else 0
    | some r =>
      if o % 0x10000 < 0x8000 then readReg s b r (regKey r i addr) else readShadow s b r (regKey r i (addr - 0x8000))

/-! ### Commits (R20, R84, R236) -/

/-- Copy the pending values of the keys that `sel` picks to their active values, and drop them. -/
def commitWhere (s : State) (sel : Nat → Bool) : State :=
  let now := s.pend.filter (fun p => sel p.1)
  now.foldl (fun s p => s.setReg p.1 (mergeBits (s.reg p.1) p.2.mask p.2.val))
    { s with pend := s.pend.filter (fun p => !sel p.1) }

/-- Commit one block's pending values. -/
def commitBlock (s : State) (page : Nat) : State := commitWhere s (inPages s page)

/-- Drop one block's pending values; from slot 504 on, only those whose latest write came at or after it (R236). (DEDUCED, log 9) -/
def discardBlock (s : State) (page : Nat) : State :=
  if afterSlot504 s then
    { s with pend := s.pend.filterMap (fun p =>
        if inPages s page p.1 then
          let m := p.2.mask &&& ~~~p.2.late
          if m = 0 then none else some (p.1, ⟨p.2.val &&& m, m, 0⟩)
        else some p) }
  else { s with pend := s.pend.filter (fun p => !inPages s page p.1) }

/-! ### Resets of domains (R48) -/

/-- The domain of the register word with a key: of its block, or where the chapter puts the register. -/
def keyPd (k : Nat) : Nat :=
  match regAt (keyAddr k) with
  | none => 64
  | some (b, r) => r.pd.getD b.pd

/-- The mask of the fields of a register that the chapter puts in a domain of their own, picked by `p`. -/
def fieldPdMask (k : Nat) (p : Nat → Bool) : Word :=
  match regAt (keyAddr k) with
  | none => 0
  | some (_, r) => (r.fields.filter (fun f => f.pd.any p)).foldl (fun m f => m ||| maskOf f.lo f.w) 0

/-- The mask of the fields of a register that lie in another domain than the register's own. -/
def otherPdMask (k : Nat) : Word := fieldPdMask k (fun _ => true)

/-- A pending value without the bits outside mask `m`; none when no dirty bit is left. -/
def Pend.keep (p : Pend) (m : Word) : Option Pend :=
  if p.mask &&& m = 0 then none else some ⟨p.val &&& m, p.mask &&& m, p.late &&& m⟩

/-- Every register of the keys that `sel` picks returns to its reset value, and has no pending value; a field that the chapter
puts in another domain keeps both (R44, R48). -/
def resetRegs (s : State) (sel : Nat → Bool) : State :=
  let kept := s.regs.filter (fun p => sel p.1 && otherPdMask p.1 != 0)
  let s := { s with
    regs := s.regs.filter (fun p => !sel p.1)
    pend := s.pend.filterMap (fun p => if sel p.1 then (p.2.keep (otherPdMask p.1)).map (fun q => (p.1, q)) else some p)
    held := s.held.filter (fun p => !sel (keyAddr p.1))
    snaps := s.snaps.filter (fun p => !sel (keyAddr p.1)) }
  kept.foldl (fun s p => s.setReg p.1 (mergeBits (resetOf p.1) (otherPdMask p.1) p.2)) s

/-- The fields that a chapter puts in domain `d` although their register lies elsewhere return to their reset values, and have no
pending value. -/
def resetFieldsIn (s : State) (d : Nat) : State :=
  let m := fun (k : Nat) => fieldPdMask k (· == d)
  let keys := s.regs.filter (fun p => m p.1 != 0)
  keys.foldl (fun s p => s.setReg p.1 (mergeBits (s.reg p.1) (m p.1) (resetOf p.1)))
    { s with pend := s.pend.filterMap (fun p => (p.2.keep (~~~ m p.1)).map (fun q => (p.1, q))) }

end Sys2Proof.Machine
end

