-- ==== Sys2Proof/Machine/Flags.lean ====
section
/-! DEFINITION. The flag computations: the quality word of Table 00.8 and its combination (R36–R40). -/

namespace Sys2Proof.Machine

/-- The quality word of Table 00.8: VALIDITY, PROVENANCE (0 unless VALID, R37), bits [6:4], TIMEQ. -/
def qualWord (validity prov bits timeq : Nat) : Nat :=
  validity % 4 + 4 * (if validity = 0 then prov % 4 else 0) + 16 * (bits % 8) + 128 * (timeq % 4)

/-- VALIDITY of a quality word: 0 VALID, 1 HELD, 2 INVALID. -/
def validityOf (q : Nat) : Nat := bitsAt q 0 2

/-- PROVENANCE of a quality word. -/
def provOf (q : Nat) : Nat := bitsAt q 2 2

/-- Bits [6:4] of a quality word: RANGE_SWITCHED, PARTIAL, RING_DEGRADED. -/
def flagsOf (q : Nat) : Nat := bitsAt q 4 3

/-- TIMEQ of a quality word. -/
def timeqOf (q : Nat) : Nat := bitsAt q 7 2

/-- The worst VALIDITY of several, in the order INVALID, HELD, VALID (R40). -/
def worstValidity (qs : List Nat) : Nat := qs.foldl (fun v q => max v (validityOf q)) 0

/-- Bits [6:4] set where any input has them set (R40). -/
def joinFlags (qs : List Nat) : Nat := qs.foldl (fun v q => Nat.lor v (flagsOf q)) 0

/-- The quality of a result computed from several inputs (R40), with its own PROVENANCE and the TIMEQ of R39. -/
def joinQual (qs : List Nat) (prov timeq : Nat) : Nat := qualWord (worstValidity qs) prov (joinFlags qs) timeq

/-- The time quality in force at the start of slot 496 of the processing tick (R39). -/
def State.timeq (s : State) : Nat := s.tik.qual496

end Sys2Proof.Machine
end

