-- ==== Sys2Proof/Machine/Fp.lean ====
section
/-! DEFINITION. FP32 values: exact comparison of IEEE 754 binary32 words (R6, R327) and the arithmetic that the spec names
without a rounding; and CRC-32C. -/

namespace Sys2Proof.Machine

/-- Biased exponent of an FP32 word. -/
def fpExp (w : Word) : Nat := bitsAt w.toNat 23 8

/-- Fraction of an FP32 word. -/
def fpFrac (w : Word) : Nat := bitsAt w.toNat 0 23

/-- Whether an FP32 word is negative (its sign bit). -/
def fpNeg (w : Word) : Bool := bitAt w.toNat 31

/-- Whether an FP32 word is a finite number. -/
def fpFinite (w : Word) : Bool := fpExp w != 255

/-- Whether an FP32 word is a NaN. -/
def fpNan (w : Word) : Bool := fpExp w == 255 && fpFrac w != 0

/-- The magnitude of an FP32 word in units of 2^-149; an infinity lies above every finite value. -/
def fpMag (w : Word) : Nat :=
  if fpExp w = 0 then fpFrac w else (2 ^ 23 + fpFrac w) * 2 ^ (fpExp w - 1)

/-- The value of an FP32 word in units of 2^-149. -/
def fpVal (w : Word) : Int := if fpNeg w then -(fpMag w : Int) else (fpMag w : Int)

/-- 1.0 in units of 2^-149. -/
def fpOne : Nat := 2 ^ 149

/-- Whether `a < b` as FP32 values; a NaN is less than nothing and nothing is less than it. -/
def fpLt (a b : Word) : Bool := !fpNan a && !fpNan b && decide (fpVal a < fpVal b)

/-- Whether `a ≤ b` as FP32 values. -/
def fpLe (a b : Word) : Bool := !fpNan a && !fpNan b && decide (fpVal a ≤ fpVal b)

/-- Limit an FP32 value to a range. -/
def fpClamp (lo hi w : Word) : Word := if fpLt w lo then lo else if fpLt hi w then hi else w

/-- The FP32 word of a whole number below 2^24, which it holds exactly. -/
def fpOfNat (n : Nat) : Word :=
  if n = 0 then 0 else BitVec.ofNat 32 ((127 + Nat.log2 n) * 2 ^ 23 + (n * 2 ^ (23 - Nat.log2 n) - 2 ^ 23))

/-- The FP32 word of the negated value. -/
def fpNegate (w : Word) : Word := w ^^^ 0x80000000

/-- One bit of the CRC-32C division, reflected. -/
def crcStep (c : Nat) : Nat := if c % 2 = 1 then Nat.xor (c / 2) 0x82F63B78 else c / 2

/-- `n` bits of the CRC-32C division. -/
def crcSteps : Nat → Nat → Nat
  | 0, c => c
  | n + 1, c => crcSteps n (crcStep c)

/-- The CRC-32C register after one byte. -/
def crcByte (c : Nat) (b : Byte) : Nat := crcSteps 8 (Nat.xor c b.toNat)

/-- CRC-32C of a list of bytes (the Castagnoli polynomial, reflected, initial and final value all ones). -/
def crc32c (bs : List Byte) : Nat := Nat.xor (bs.foldl crcByte 0xFFFFFFFF) 0xFFFFFFFF

end Sys2Proof.Machine
end

