-- ==== Sys2Proof/Machine/Shared.lean ====
section
/-! DEFINITION. Operations that several families share: the entry to service level L4 and the safe-state reaction (R578, R582,
R583, R904), and the refusal of an amendment (R221, R234). -/

namespace Sys2Proof.Machine

/-- Whether the MGMT pairs have this identity (Table 00.4). -/
def isMgmt (i : Ident) : Bool := i.toNat == 0x100 || i.toNat == 0x101

/-- Whether the PF or a MGMT pair has this identity. -/
def isPfOrMgmt (i : Ident) : Bool := i.toNat == 1 || isMgmt i

/-- Whether a read by this initiator clears an RC field (R14): the PF, a MGMT pair, Owl or the BMC. -/
def clearsOnRead (i : Ident) : Bool := isPfOrMgmt i || i.toNat == 0x102 || i.toNat == 0x103

/-! ### Service level L4 -/

/-- The pins at L4 (R569, R570, R572, R583). -/
def silentPins (s : State) (latched : Bool) : State :=
  { s with saf := { s.saf with alm := 0, healthy := false, faultN := s.saf.faultN || latched } }

/-- Record the cause of an entry to L4 (R578). -/
def firstCause (s : State) (id : Nat) : State :=
  (s.wr Reg.SAF_FIRST_CAUSE_TICK s.tick).wr Reg.SAF_FIRST_CAUSE_ID id

/-- Entry to L4 with a failure ID (R578, R582, R583, R904): from L0–L3, or from an L4 that is not latched to a latched one; of two
reactions in one tick the lower ID is recorded (Table 12.9). (DEDUCED, log 32) -/
def enterL4 (s : State) (id : Nat) (latched : Bool) : State :=
  let old := s.rd Reg.SAF_STATUS_LEVEL
  if old ≠ 4 then
    let s := firstCause ((s.wr Reg.SAF_STATUS_LEVEL 4).setBit Reg.SAF_STATUS_LATCHED latched) id
    let s := { s with saf := { s.saf with l4Tick := some s.tick } }
    let s := raise s Blk.saf 0x0102 (if latched then .safety else .warn) (id + 2 ^ 8 * latched.toNat)
    silentPins (raise s Blk.saf 0x0101 .warn (old + 2 ^ 8 * 4)) latched
  else if latched && !s.bit Reg.SAF_STATUS_LATCHED then
    let s := firstCause (s.wr Reg.SAF_STATUS_LATCHED 1) id
    let s := { s with saf := { s.saf with l4Tick := some s.tick } }
    silentPins (raise s Blk.saf 0x0102 .safety (id + 2 ^ 8)) true
  else if latched && id != 0 && s.saf.l4Tick == some s.tick && decide (id < s.rd Reg.SAF_FIRST_CAUSE_ID) then
    s.wr Reg.SAF_FIRST_CAUSE_ID id
  else s

/-- A safe-state reaction of Table 12.3. (DEDUCED, log 34) -/
def safeState (s : State) (id : Nat) : State := enterL4 s id true

/-- Safety operation, SAFE_OP (R556): an image is ACTIVE, no injection and no debug access is enabled, and Owl runs on a signed record. -/
def safeOp (s : State) : Bool :=
  s.rd Reg.IMG_STATUS_STATE == 6 && !s.bit Reg.SAF_CTRL_INJ_EN && !s.bit Reg.DBG_CTRL_PORT_EN && s.saf.record.isSome

/-! ### Amendments -/

/-- The amendment states of Table 04.7. -/
abbrev amdNone := 0
abbrev amdLoading := 1
abbrev amdStaged := 2
abbrev amdArmed := 3
abbrev amdApplied := 4
abbrev amdRefused := 5

/-- An amendment is refused: state, code and detail, and AMD_REFUSED (R221, R234). -/
def amdRefuse (s : State) (code detail : Nat) : State :=
  let s := ((s.wr Reg.IMG_AMD_STATUS_ASTATE amdRefused).wr Reg.IMG_AMD_STATUS_CODE code).wr Reg.IMG_AMD_DETAIL detail
  raise { s with img := { s.img with amd := none } } Blk.img 0x010C .warn (code + 2 ^ 32 * (detail % 2 ^ 32))

/-- Whether an amendment is staged or armed. -/
def amdWaiting (s : State) : Bool :=
  s.rd Reg.IMG_AMD_STATUS_ASTATE == amdStaged || s.rd Reg.IMG_AMD_STATUS_ASTATE == amdArmed

/-- A core was retired or a spare adopted: POOL_CHANGED refuses a staged or armed amendment at once, and one whose guard runs at
the seam (Table 04.2, R234). -/
def poolChanged (s : State) (core : Nat) : State :=
  if amdWaiting s then amdRefuse s 0x0409 (core * 2 ^ 8)
  else if s.rd Reg.IMG_STATUS_STATE = 3 then { s with img := { s.img with guardPool := some core } }
  else s

/-! ### The schedule in force -/

/-- The item with a number. -/
def Sched.find (d : Sched) (n : Nat) : Option ItemE := d.items.find? (fun it => it.item == n)

/-- The kernel with an ID. -/
def Sched.kern (d : Sched) (k : Nat) : Option KernE := d.kerns.find? (fun x => x.id == k)

/-- The cover mask of a spare. -/
def Sched.coverOf (d : Sched) (spare : Nat) : Nat := ((d.cover.find? (fun p => p.1 == spare)).map Prod.snd).getD 0

/-- The WCET of an item in FCLK cycles ("The thresher pool", Work items and classes). -/
def Sched.wcet (d : Sched) (it : ItemE) : Nat :=
  match d.kern it.kernel with
  | some k => k.wcetBase + k.wcetPerIn * it.nIn
  | none => 0

/-- The input channels of an item. -/
def Sched.inputs (d : Sched) (it : ItemE) : List Nat := (d.chlist.drop it.inIndex).take it.nIn

/-- One byte of an item's parameter block. -/
def Sched.param (d : Sched) (it : ItemE) (o : Nat) : Nat := ((d.params.getD (it.paramOfs + o) 0).toNat)

/-- An item of the schedule in force. -/
def itemOf (s : State) (n : Nat) : Option ItemE := s.img.sched.bind (fun d => d.find n)

/-- FCLK cycles of a slot (R59). -/
def slotCyc (rate : Nat) : Nat := 1600000000 / rate / 512

end Sys2Proof.Machine
end

