-- ==== Sys2Proof/Machine/Tim.lean ====
section
/-! DEFINITION. The timing core: sources and their selection, the servo loops, frequency and phase correction, IRIG-B and 1PPS,
PTP transmission, time quality, holdover, leap seconds and the reference oscillator (02_time_base.md). -/

namespace Sys2Proof.Machine

/-- One second in units of 2^-16 ns. -/
def secUnits : Nat := 65536000000000

/-- The tick rates of Table 01.1, by rate code (R53). -/
def rateOf (code : Nat) : Nat := [4000, 4800, 9600, 12000, 14400, 28800].getD code 4000

/-- The tick rate in force. -/
def State.rate (s : State) : Nat := rateOf (s.rd Reg.TIK_CFG_RATE)

/-- The edge of the tick with in-second number `n` in second `sec`, in 2^-16 ns (R54): the grid is 125 ps, 8192 units. -/
def edgeInstant (rate sec n : Nat) : Nat := sec * secUnits + (n * 8000000000 / rate) * 8192

/-- The first grid instant of R54 at or after `t` (2^-16 ns): its second and in-second number (R87, R98). -/
def nextGrid (rate t : Nat) : Nat × Nat :=
  let sec := t / secUnits
  let o := ceilDiv (t % secUnits) 8192
  let n := ceilDiv (o * rate) 8000000000
  if n < rate then (sec, n) else (sec + 1, 0)

/-- One nominal tick period, rounded up to the 125 ps grid, in 2^-16 ns. -/
def periodUnits (rate : Nat) : Nat := ceilDiv 8000000000 rate * 8192

/-! ### Sources (R106–R112) -/

/-- The source codes of Table 02.1. -/
def srcCode : Source → Nat
  | .ptp => 1
  | .irig => 2
  | .pps => 3

/-- A source's record. -/
def srcOf (t : Tim) : Source → Src
  | .ptp => t.ptp
  | .irig => t.irig
  | .pps => t.pps

/-- The timing core with a source's record replaced. -/
def setSrc (s : State) (x : Source) (v : Src) : State :=
  match x with
  | .ptp => { s with tim := { s.tim with ptp := v } }
  | .irig => { s with tim := { s.tim with irig := v } }
  | .pps => { s with tim := { s.tim with pps := v } }

/-- Whether the source with a code is qualified. -/
def qualifiedCode (t : Tim) : Nat → Bool
  | 1 => t.ptp.qualified
  | 2 => t.irig.qualified
  | 3 => t.pps.qualified
  | _ => false

/-- The source codes in order of priority; a code of 0 ends the list (R107). -/
def prioList (s : State) : List Nat :=
  [s.rd Reg.TIM_SRC_PRIO_PRIO0, s.rd Reg.TIM_SRC_PRIO_PRIO1, s.rd Reg.TIM_SRC_PRIO_PRIO2].takeWhile (fun c => c != 0)

/-- The first qualified source in the order of priority, 0 when none (R107); none while SERVO_EN is 0 (R142). -/
def firstQualified (s : State) : Nat :=
  if s.bit Reg.TIM_CTRL_SERVO_EN then ((prioList s).find? (qualifiedCode s.tim)).getD 0 else 0

/-! ### Time quality (R142–R144) -/

/-- The magnitude of a signed number. -/
def absNat (x : Int) : Nat := x.natAbs

/-- Raise QUALITY_CHANGE and set the time quality (R142); `est` is what TIM_HO_EST holds for the event. The runs of consecutive offsets
start again. (DEDUCED, log 14) -/
def moveQuality (s : State) (new est : Nat) : State :=
  let old := s.rd Reg.TIM_STATUS_QUALITY
  let s := (s.wr Reg.TIM_STATUS_QUALITY new).wr Reg.TIK_STATUS_TIMEQ new
  let left := if old = 0 ∧ new ≠ 0 then some s.taiNs else s.tim.leftLocked
  let s := { s with tim := { s.tim with inRun := 0, outRun := 0, leftLocked := left } }
  raise s Blk.tim 0x0101 (if new = 0 then .info else .warn)
    (old + 2 ^ 8 * new + 2 ^ 16 * s.rd Reg.TIM_STATUS_ACTIVE_SRC + 2 ^ 32 * est)

/-- The time quality leaves HOLDOVER: the estimate registers read 0 outside holdover (Table 02.12). -/
def clearHoldover (s : State) : State :=
  let s := (s.wr Reg.TIM_HO_EST 0).wr Reg.TIM_HO_TIME 0
  { s with tim := { s.tim with est := 0 } }

/-- A move to FREERUN (Table 02.4); the event carries TIM_HO_EST as it stood before the move. (DEDUCED, log 14) -/
def toFreerun (s : State) : State :=
  if s.rd Reg.TIM_STATUS_QUALITY = 2 then s
  else clearHoldover (moveQuality s 2 (s.rd Reg.TIM_HO_EST))

/-- A move to LOCKED (Table 02.4); the event carries TIM_HO_EST as it stood before the move. (DEDUCED, log 14) -/
def toLocked (s : State) : State := clearHoldover (moveQuality s 0 (s.rd Reg.TIM_HO_EST))

/-- Entry to HOLDOVER (R143): E0 is the magnitude of the last offset plus the upstream inaccuracy of source `src`; an E0 above
the limit moves on to FREERUN in the same instant. -/
def toHoldover (s : State) (src : Nat) : State :=
  let e0 := absNat s.tim.lastOfs + (if src = 1 then s.tim.inacc else 0)
  let s := ((s.wr Reg.TIM_HO_E0 (min e0 0xFFFFFFFF)).wr Reg.TIM_HO_EST (min e0 0xFFFFFFFF)).wr Reg.TIM_HO_TIME 0
  let s := moveQuality { s with tim := { s.tim with est := e0 * 2000000 } } 1 (min e0 0xFFFFFFFF)
  if s.rd Reg.TIM_HO_CFG < e0 then toFreerun s else s

/-- The active source becomes `new` (R109): SRC_SWITCH on a change to a source; LOCKED without an active source becomes
HOLDOVER (Table 02.4). The runs of consecutive offsets start again. (DEDUCED, log 14) -/
def setActive (s : State) (new : Nat) : State :=
  let old := s.rd Reg.TIM_STATUS_ACTIVE_SRC
  if new = old then s
  else
    let s := s.wr Reg.TIM_STATUS_ACTIVE_SRC new
    let s := { s with tim := { s.tim with inRun := 0, outRun := 0, revertPending := false } }
    if new = 0 then (if s.rd Reg.TIM_STATUS_QUALITY = 0 then toHoldover s old else s)
    else raise s Blk.tim 0x0103 .info (old + 2 ^ 8 * new)

/-- Selection after a source became qualified (R107, R108). -/
def selectAfterQualified (s : State) : State :=
  let act := s.rd Reg.TIM_STATUS_ACTIVE_SRC
  let best := firstQualified s
  if act ≠ 0 ∧ qualifiedCode s.tim act then
    if best ≠ act ∧ best ≠ 0 ∧ s.bit Reg.TIM_SRC_PRIO_REVERT then
      { s with tim := { s.tim with revertPending := true } }
    else s
  else if best = 0 then s
  else setActive s best

/-- The codes of the loss reasons (Table 02.14). -/
def lossCode : LossReason → Nat
  | .timeout => 1
  | .clockClass => 2
  | .servoWatchdog => 3
  | .invalidFrames => 4
  | .timeQuality => 5
  | .missingPulses => 6
  | .servoDisabled => 7

/-- A source stops being valid, and with it qualified (R106, R148); the loss of the active source raises SRC_LOST and selects
the next qualified source (R149). -/
def loseSource (s : State) (x : Source) (r : LossReason) : State :=
  if !(srcOf s.tim x).valid then s
  else
    let s := setSrc s x {}
    if s.rd Reg.TIM_STATUS_ACTIVE_SRC = srcCode x then
      setActive (raise s Blk.tim 0x0102 .warn (srcCode x + 2 ^ 8 * lossCode r)) (firstQualified s)
    else s

/-- Whether the parent clock lets PTP be valid (R110). -/
def parentOk (s : State) : Bool :=
  let role := s.rd Reg.TIM_PTP_CFG_ROLE
  decide (1 ≤ role ∧ role ≤ 3 ∧ s.tim.parentClass ≤ s.rd Reg.TIM_PTP_CFG_CLASS_MAX)

/-- Whether the conditions of a source's validity hold (R110, R111, R114, R132, R135, Table 02.5). -/
def mayBeValid (s : State) (x : Source) : Bool :=
  match x with
  | .ptp => parentOk s && s.tim.announce && !s.tim.servoLost
  | .irig => decide (2 ≤ s.tim.irigGood ∧ s.tim.irigTq ≤ s.rd Reg.TIM_IRIG_CFG_TQ_MAX)
  | .pps => s.tim.todKnown

/-- A source that delivers time and meets its conditions is valid (R106); from PTP or IRIG-B a time of day is then known (R111). (DEDUCED, log 14) -/
def becomeValid (s : State) (x : Source) : State :=
  if !mayBeValid s x || (srcOf s.tim x).valid then s
  else
    let s := setSrc s x ⟨true, false⟩
    if x = .pps then s else { s with tim := { s.tim with todKnown := true } }

/-- SOURCE_QUALIFIED: a source valid without interruption for QUAL_TIME seconds becomes qualified (R106) and may become active. (DEDUCED, log 14) -/
def execSourceQualified (src : Source) (since now : Nat) (s : State) : Out :=
  .next (if !domainUp s 2 || !(srcOf s.tim src).valid || decide (now < since + s.rd Reg.TIM_SRC_PRIO_QUAL_TIME * secUnits) then s
    else selectAfterQualified (setSrc s src ⟨true, true⟩))

/-- SOURCE_REVERT: at the next whole TAI second a higher-priority qualified source displaces the active one (R108). -/
def execSourceRevert (s : State) : Out :=
  let u := { s with tim := { s.tim with revertPending := false } }
  .next (if s.tim.revertPending && s.bit Reg.TIM_SRC_PRIO_REVERT && firstQualified s != 0 then setActive u (firstQualified s) else u)

/-- The loss of a source for a reason of Table 02.5 that holds for it: PTP to an Announce receipt timeout or to its clockClass; IRIG-B to
invalid or missing frames or to its time quality; 1PPS to missing pulses. Another reason has no effect: the servo watchdog and a cleared
SERVO_EN act where they occur. (DEDUCED, log 14) -/
def lossCondition (s : State) (src : Source) (reason : LossReason) : Bool :=
  match src, reason with
  | .ptp, .timeout => true
  | .ptp, .clockClass => !parentOk s
  | .irig, .invalidFrames => true
  | .irig, .timeQuality => decide (s.rd Reg.TIM_IRIG_CFG_TQ_MAX < s.tim.irigTq)
  | .pps, .missingPulses => true
  | _, _ => false

/-- SOURCE_LOSS: the first of a source's loss conditions (R148, R149). An Announce receipt timeout keeps PTP from becoming valid until the
parent's next Announce (R114); two frames that are invalid or missing start the count of valid frames again (R132). -/
def execSourceLoss (src : Source) (reason : LossReason) (s : State) : Out :=
  .next (if !lossCondition s src reason then s
    else
      let s := match src, reason with
        | .ptp, .timeout => { s with tim := { s.tim with announce := false } }
        | .irig, .invalidFrames => { s with tim := { s.tim with irigGood := 0, irigLast := none } }
        | _, _ => s
      loseSource s src reason)

/-- PHASE_CROSS_CHECK: two valid sources compared once per second (R112); the count of disagreements in a row stays as it is while one of
them is not valid. (DEDUCED, log 14) -/
def execPhaseCrossCheck (x y : Source) (diff : Int) (s : State) : Out :=
  let k := srcCode x * 4 + srcCode y
  if !(srcOf s.tim x).valid || !(srcOf s.tim y).valid then .next s
  else if absNat diff ≤ s.rd Reg.TIM_XCHK_THR then
    .next { s with tim := { s.tim with disagree := Tab.put 0 s.tim.disagree k 0 } }
  else
    let n := Tab.get 0 s.tim.disagree k + 1
    if n < 10 then .next { s with tim := { s.tim with disagree := Tab.put 0 s.tim.disagree k n } }
    else .next (raise { s with tim := { s.tim with disagree := Tab.put 0 s.tim.disagree k 0 } } Blk.tim 0x0108 .warn
      (srcCode x + 2 ^ 8 * srcCode y + 2 ^ 32 * unsignedOf 32 diff))

/-! ### Phase (R120–R123) and steps (R87–R95) -/

/-- TIM_UTC_OFS.OFS changes from what `old` holds; the IRIG-B decoder needs the value before for an on-time mark that lies before the
change (R134). -/
def noteOfs (old s : State) : State :=
  if old.rd Reg.TIM_UTC_OFS_OFS = s.rd Reg.TIM_UTC_OFS_OFS then s
  else { s with tim := { s.tim with ofsWas := old.rdInt Reg.TIM_UTC_OFS_OFS, ofsAt := s.tim.now } }

/-- At a leap boundary the UTC offset changes by the flag's second, the flag clears and LEAP_APPLIED is raised (R146). -/
def applyLeap (s : State) : State :=
  let ofs := s.rdInt Reg.TIM_UTC_OFS_OFS
  let f61 := s.bit Reg.TIM_UTC_OFS_LEAP61
  let f59 := s.bit Reg.TIM_UTC_OFS_LEAP59
  if !f61 && !f59 then s
  else
    let new := unsignedOf 16 (if f61 then ofs + 1 else ofs - 1)
    let at_ := s.rd64 Reg.TIM_LEAP_AT_LO Reg.TIM_LEAP_AT_HI
    let s := ((s.wr Reg.TIM_UTC_OFS_OFS new).wr Reg.TIM_UTC_OFS_LEAP61 0).wr Reg.TIM_UTC_OFS_LEAP59 0
    raise { s with tim := { s.tim with leap59 := !f61, ofsWas := ofs, ofsAt := at_ * secUnits } } Blk.tim 0x0109 .info new

/-- The place of the first edge of a tick generator that starts: the first instant of R54 at least one tick period after the start
command (R98). -/
def startPlace (s : State) : Nat × Nat := nextGrid s.rate (s.tik.startAt + periodUnits s.rate)

/-- The time scale steps by `d` (2^-16 ns; R87, R122): the rest of the adjustment is done; the second in which the step lands is new for
every limit (R903); a forward step over TIM_LEAP_AT applies the leap flag (R146); a start that waits follows on the stepped scale
(R98). -/
def stepScale (s : State) (d : Int) : State :=
  let before := s.taiSec
  let move := fun (t : Nat) => ((t : Int) + d).toNat
  let s := { s with tim := { s.tim with now := move s.tim.now, phaseRem := 0, slewing := false, stepWanted := false }, limits := [] }
  let s := if s.tik.starts then { s with tik := { s.tik with startAt := move s.tik.startAt } } else s
  let s := if s.tik.starts then { s with tik := { s.tik with next := some (startPlace s) } } else s
  let at_ := s.rd64 Reg.TIM_LEAP_AT_LO Reg.TIM_LEAP_AT_HI
  if before < at_ ∧ at_ ≤ s.taiSec then applyLeap s else s

/-- The step threshold: values below 100 act as 100 (Table 02.11). -/
def stepThr (s : State) : Nat := max 100 (s.rd Reg.TIM_STEP_THR_NS)

/-- The phase adjustment that is left, in whole ns, rounded toward zero. (DEDUCED, log 12) -/
def State.phaseNs (s : State) : Int := s.tim.phaseRem.tdiv 65536

/-- Whether the phase adjustment that is left exceeds the step threshold. -/
def overThr (s : State) : Bool := decide (stepThr s * 65536 < absNat s.tim.phaseRem)

/-- Whether a second step may be requested (R95): from the fourteenth tick after a stretch tick on. (DEDUCED, log 12) -/
def stepAllowed (s : State) : Bool :=
  match s.tik.lastStretch with
  | none => true
  | some k => decide (k + 13 < s.tick)

/-- A step that is requested or waits is made at once: the tick generator is STOPPED (R122). -/
def stepNow (s : State) : State :=
  if s.tik.stepTick.isSome ∨ s.bit Reg.TIK_STATUS_REALIGN_PEND then
    let s := stepScale (s.wr Reg.TIK_STATUS_REALIGN_PEND 0) s.tim.phaseRem
    { s with tik := { s.tik with stepTick := none } }
  else s

/-- The tick in which a step is to be carried out is a stretch tick (R87, Table 01.9). -/
def markStretch (s : State) : State :=
  let st := s.rd Reg.TIK_STATUS_STATE
  if s.tik.stepTick = some s.tick ∧ st ≠ 0 ∧ st ≠ 3 then
    { s.wr Reg.TIK_STATUS_STATE 3 with tik := { s.tik with stateBefore := st } }
  else s

/-- The timing core requests a step of the remaining adjustment (R90, R122); within the ticks of R95 it slews and requests the step
afterwards. REALIGN_PENDING reports the adjustment that is left, positive forward. (DEDUCED, log 12) -/
def requestStep (s : State) : State :=
  if s.rd Reg.TIK_STATUS_STATE = 0 then stepScale s s.tim.phaseRem
  else if s.tik.stepTick.isSome then s
  else if !stepAllowed s then { s with tim := { s.tim with slewing := true, stepWanted := true } }
  else if s.rd Reg.TIK_CTRL_REALIGN_MODE = 0 then { s with tik := { s.tik with stepTick := some (s.tick + 1) } }
  else if s.bit Reg.TIK_STATUS_REALIGN_PEND then s
  else raise ((s.wr Reg.TIK_STATUS_REALIGN_PEND 1)) Blk.tik 0x0105 .info (unsignedOf 32 s.phaseNs)

/-- A phase adjustment replaces what was not yet applied (R120): up to the threshold it is slewed, above it a step is requested;
a value within the threshold withdraws a waiting step (R121, R122, Table 02.6). -/
def adjustPhase (s : State) (ns : Int) : State :=
  let big := stepThr s < absNat ns
  let s := { s with tim := { s.tim with phaseRem := ns * 65536, slewing := !big && ns != 0, stepWanted := false } }
  if big then
    let s := requestStep s
    if s.bit Reg.TIK_STATUS_REALIGN_PEND then { s with tim := { s.tim with slewing := true } } else s
  else
    let s := if s.tik.stepTick.isSome ∧ s.rd Reg.TIK_STATUS_STATE = 3 then s.wr Reg.TIK_STATUS_STATE s.tik.stateBefore else s
    { s.wr Reg.TIK_STATUS_REALIGN_PEND 0 with tik := { s.tik with stepTick := none } }

/-- PHASE_ADJ_WRITE: a write of TIM_PHASE_ADJ (R120–R122). -/
def execPhaseAdjWrite (a : Access) (v : Word) (s : State) : Out :=
  .next (withWrite s a 0x20000 Blk.tim 2 0x20024 (fun s => adjustPhase s (signedOf 32 v.toNat)))

/-- REALIGN_GO: the waiting step is carried out in this tick, or in the next from slot 508 on (R90); ignored with no step
waiting (Table 01.4). The other fields of TIK_CTRL are written too (R22). -/
def execRealignGo (a : Access) (v : Word) (s : State) : Out :=
  .next (withWrite s a 0x10000 Blk.tik 2 0x10004 (fun s =>
    let s := s.wr Reg.TIK_CTRL_REALIGN_MODE (fieldOf v 0 2)
    if fieldOf v 8 1 = 1 ∧ s.bit Reg.TIK_STATUS_REALIGN_PEND then
      let k := if s.rd Reg.TIK_STATUS_SLOT < 508 then s.tick else s.tick + 1
      markStretch { s.wr Reg.TIK_STATUS_REALIGN_PEND 0 with tik := { s.tik with stepTick := some k } }
    else s))

/-- A waiting step is withdrawn where the phase error has fallen below the threshold (R91). -/
def withdrawStep (s : State) : State :=
  if s.bit Reg.TIK_STATUS_REALIGN_PEND && decide (absNat s.tim.phaseRem < stepThr s * 65536) then s.wr Reg.TIK_STATUS_REALIGN_PEND 0 else s

/-- REALIGN_WITHDRAWN: slewing brought the phase error below the threshold while a step waited; no step takes place (R91). -/
def execRealignWithdrawn (s : State) : Out := .next (withdrawStep s)

/-- By how much the time scale may be slewed in `1 / per` s, in 2^-16 ns: below SLEW_MAX ppb, 0 acting as 1 (R121). -/
def slewLimit (s : State) (per : Nat) : Nat := (max 1 (s.rd Reg.TIM_SLEW_MAX_PPB) * 65536 - 1) / per

/-- Slewing takes `n` off the phase adjustment, within the limit of `1 / per` s (R121); while a step waits it goes at the maximum rate
(R91). (DEDUCED, log 11) -/
def slewBy (s : State) (per n : Nat) : State :=
  if !s.tim.slewing then s
  else
    let lim := min (slewLimit s per) (absNat s.tim.phaseRem)
    let m := if s.bit Reg.TIK_STATUS_REALIGN_PEND then lim else min n lim
    let left : Int := if s.tim.phaseRem < 0 then s.tim.phaseRem + m else s.tim.phaseRem - m
    withdrawStep { s with tim := { s.tim with phaseRem := left, slewing := left != 0 } }

/-- At a tick edge: a step that R95 held back is requested where it is still needed. (DEDUCED, log 12) -/
def wantedStep (s : State) : State :=
  if s.tim.stepWanted && stepAllowed s then
    let s := { s with tim := { s.tim with stepWanted := false } }
    if overThr s then requestStep s else s
  else s

/-! ### Frequency (R115–R119) -/

/-- The quotient rounded to the nearest integer, a half away from zero (R116). -/
def roundDiv (x y : Int) : Int :=
  let q := (2 * absNat x + absNat y) / (2 * absNat y)
  if (x < 0) = (y < 0) then (q : Int) else -(q : Int)

/-- The frequency correction in force and the OCXO code, and whether a limit acts (R115–R118). With MIN above MAX the code is MIN. (DEDUCED, log 14) -/
def steering (s : State) : Int × Nat × Bool :=
  let adj := s.rdInt Reg.TIM_FREQ_ADJ
  let mid := s.rd Reg.TIM_OCXO_CFG_MID
  if s.bit Reg.TIM_CTRL_STEER then
    let lim := max (-200000000) (min 200000000 adj)
    (lim, mid, lim != adj)
  else
    let gain := s.rdInt Reg.TIM_OCXO_CFG_GAIN
    if gain = 0 then (0, mid, false)
    else
      let raw := (mid : Int) + roundDiv adj gain
      let code := max (s.rd Reg.TIM_OCXO_LIM_MIN : Int) (min (s.rd Reg.TIM_OCXO_LIM_MAX : Int) raw)
      ((code - mid) * gain, code.toNat, code != raw)

/-- Apply the steering: the code, the correction in force, and FREQ_CLAMP once for each period of the clamp (R119). (DEDUCED, log 14) -/
def steer (s : State) : State :=
  let (f, code, clamp) := steering s
  let was := s.bit Reg.TIM_STATUS_FREQ_CLAMP
  let s := (s.wr Reg.TIM_OCXO_DAC_CODE code).setBit Reg.TIM_STATUS_FREQ_CLAMP clamp
  let s := { s with tim := { s.tim with freqInForce := f } }
  if clamp && !was then
    raise s Blk.tim 0x0107 .warn (s.rd Reg.TIM_FREQ_ADJ + 2 ^ 32 * unsignedOf 32 f)
  else s

/-- FREQ_ADJ_WRITE: a write of TIM_FREQ_ADJ (R115–R119). -/
def execFreqAdjWrite (a : Access) (v : Word) (s : State) : Out :=
  .next (withWrite s a 0x20000 Blk.tim 2 0x20020 (fun s => steer (s.wr Reg.TIM_FREQ_ADJ v.toNat)))

/-! ### Offsets (R113, R114, R142) -/

/-- One measured offset of the active source: the runs inside THR and outside 4 × THR, and the moves of Table 02.4. -/
def takeOffset (s : State) (ofs : Int) : State :=
  let thr := s.rd Reg.TIM_LOCK_CFG_THR
  let n := max 1 (s.rd Reg.TIM_LOCK_CFG_N)
  let s := { s with tim := { s.tim with
    lastOfs := ofs
    inRun := if absNat ofs ≤ thr then s.tim.inRun + 1 else 0
    outRun := if 4 * thr < absNat ofs then s.tim.outRun + 1 else 0 } }
  if s.rd Reg.TIM_STATUS_QUALITY = 0 then
    if 3 ≤ s.tim.outRun then toHoldover s (s.rd Reg.TIM_STATUS_ACTIVE_SRC) else s
  else if n ≤ s.tim.inRun ∧ s.bit Reg.TIM_CTRL_SERVO_EN ∧ s.bit Reg.TIM_STATUS_REFCLK_OK ∧
      qualifiedCode s.tim (s.rd Reg.TIM_STATUS_ACTIVE_SRC) then toLocked s
  else s

/-- SERVO_UPDATE: a write of TIM_SERVO_OFS is one servo update (R113); after a loss to the servo watchdog PTP is valid again where no
other loss condition holds (R114). While PTP is not the active source the offset is the last one of R143 and enters no run. (DEDUCED, log 14) -/
def execServoUpdate (a : Access) (v : Word) (s : State) : Out :=
  .next (withWrite s a 0x20000 Blk.tim 2 0x20030 (fun s =>
    let s := s.wr Reg.TIM_SERVO_OFS v.toNat
    let s := if s.tim.servoLost then becomeValid { s with tim := { s.tim with servoLost := false } } .ptp else s
    if s.rd Reg.TIM_STATUS_ACTIVE_SRC = 1 then takeOffset s (signedOf 32 v.toNat)
    else { s with tim := { s.tim with lastOfs := signedOf 32 v.toNat } }))

/-- SERVO_TIMEOUT: no servo update within WDT while PTP is the active source (R114). -/
def execServoTimeout (ms : Nat) (s : State) : Out :=
  .next (if s.rd Reg.TIM_STATUS_ACTIVE_SRC = 1 ∧ s.rd Reg.TIM_SERVO_CFG_WDT ≠ 0 then
      let s := raise s Blk.tim 0x0106 .warn (ms % 2 ^ 32)
      loseSource { s with tim := { s.tim with servoLost := true } } .ptp .servoWatchdog
    else s)

/-- The hardware loop of IRIG-B and 1PPS takes an offset (R123): it writes its own correction to TIM_PHASE_ADJ, and with
HW_FREQ its frequency correction, whose value the spec leaves to the loop (a free value), and its frequency uncertainty to
TIM_HO_FREQ (R145, a free value). The offset is device time minus reference (R104), so that its correction is minus the offset.
(DEDUCED, log 14) -/
def hardwareLoop (s : State) (ofs : Int) : State :=
  let s := takeOffset s ofs
  let s := (s.wr Reg.TIM_HO_FREQ s.free.toNat).used
  let s := if s.bit Reg.TIM_CTRL_HW_FREQ then steer (s.wr Reg.TIM_FREQ_ADJ s.free.toNat).used else s
  adjustPhase s (-ofs)

/-- Whether the hardware loop runs on this source: it is active and SERVO_EN is 1 (Table 02.6, Table 02.10). -/
def loopOn (s : State) (x : Source) : Bool :=
  s.rd Reg.TIM_STATUS_ACTIVE_SRC == srcCode x && s.bit Reg.TIM_CTRL_SERVO_EN

/-! ### IRIG-B (R130–R136) -/

/-- A stamp of the time-to-digital converter: 125 ps steps, fractions that are multiples of 0x2000 (R105, R141). -/
def tdc (n : Nat) : Nat := n / 8192 * 8192

/-- The class of a pulse by its width in µs: binary 0 or 1, or 2 for a marker; none outside the three ranges (R130). -/
def pulseClass (us : Nat) : Option Nat :=
  if 1500 ≤ us ∧ us ≤ 3500 then some 0
  else if 4000 ≤ us ∧ us ≤ 6500 then some 1
  else if 7000 ≤ us ∧ us ≤ 9000 then some 2
  else none

/-- The class of the pulse at a position of a frame; position 0 is the reference marker Pr. -/
def irigPulse (f : IrigFrame) (n : Nat) : Option Nat := (f.widths[n]?).bind pulseClass

/-- A bit of a frame. -/
def irigBit (f : IrigFrame) (n : Nat) : Bool := irigPulse f n == some 1

/-- The `w` bits of a frame from a position on, least significant first. -/
def irigDigit (f : IrigFrame) (n : Nat) : Nat → Nat
  | 0 => 0
  | w + 1 => (irigBit f n).toNat + 2 * irigDigit f (n + 1) w

/-- A position where a frame has a marker: Pr, P1 to P9 and P0. (PRESUMED, log 60) -/
def markerAt (n : Nat) : Bool := n == 0 || n % 10 == 9

/-- Whether a frame has 100 pulses with markers at their positions and nowhere else (R130, R131). -/
def irigShaped (f : IrigFrame) : Bool :=
  f.widths.length == 100 &&
    (List.range 100).all (fun n => match irigPulse f n with | some c => (c == 2) == markerAt n | none => false)

/-- The BCD digits of a frame: seconds, minutes, hours, day of the year and year, each as its units, tens and hundreds.
(PRESUMED, log 60) -/
def irigDigits (f : IrigFrame) : List (List Nat) :=
  [[irigDigit f 1 4, irigDigit f 6 3], [irigDigit f 10 4, irigDigit f 15 3], [irigDigit f 20 4, irigDigit f 25 2],
   [irigDigit f 30 4, irigDigit f 35 4, irigDigit f 40 2], [irigDigit f 50 4, irigDigit f 55 4]]

/-- The number that BCD digits, units first, stand for. -/
def ofDigits : List Nat → Nat
  | [] => 0
  | d :: l => d + 10 * ofDigits l

/-- One of the numbers of a frame: 0 seconds, 1 minutes, 2 hours, 3 day of the year, 4 year. -/
def irigNum (f : IrigFrame) (i : Nat) : Nat := ofDigits ((irigDigits f).getD i [])

/-- Whether a frame carries the IEEE C37.118.1 extension (R133). -/
def irigExtended (f : IrigFrame) : Bool := f.expr.val == 4 || f.expr.val == 5

/-- The extension bits as TIM_IRIG_STATUS shows them: LSP, LS, DSP, DST, the offset sign, the half-hour, parity valid and CF present; 0 in a
frame without them. (PRESUMED, log 60) -/
def irigCf (f : IrigFrame) : Nat :=
  if !irigExtended f then 0
  else 128 * (irigBit f 60).toNat + 64 * (irigBit f 61).toNat + 32 * (irigBit f 62).toNat + 16 * (irigBit f 63).toNat + 8 * (irigBit f 64).toNat +
    4 * (irigBit f 70).toNat + 2 * f.parityOk.toNat + 1

/-- Days from 1970-01-01 to the first day of year `y` (2000 or later). -/
def daysBefore (y : Nat) : Nat :=
  10957 + 365 * (y - 2000) + (y - 2000 + 3) / 4 - (y - 2000 + 99) / 100 + (y - 2000 + 399) / 400

/-- The signed local offset of a frame in half-hours (R133): from its control functions with B004 and B005, from LOCAL_OFS with
B006 and B007. -/
def irigOffset (s : State) (f : IrigFrame) : Int :=
  if irigExtended f then
    let n : Int := 2 * irigDigit f 65 4 + (irigBit f 70).toNat
    if irigBit f 64 then -n else n
  else s.rdInt Reg.TIM_IRIG_CFG_LOCAL_OFS

/-- The time quality of a frame (R133). -/
def irigTq (s : State) (f : IrigFrame) : Nat := if irigExtended f then irigDigit f 71 4 else s.rd Reg.TIM_IRIG_CFG_TQ_DEFAULT

/-- UTC seconds since 1970 of a frame: IRIG time less (with OFS_SENSE, plus) the local offset (R134). -/
def irigUtc (s : State) (f : IrigFrame) : Int :=
  let local_ : Int := ((daysBefore (2000 + irigNum f 4) + irigNum f 3 - 1) * 86400 + irigNum f 2 * 3600 + irigNum f 1 * 60 + irigNum f 0 : Nat)
  let o := irigOffset s f * 1800
  if s.bit Reg.TIM_IRIG_CFG_OFS_SENSE then local_ + o else local_ - o

/-- TIM_UTC_OFS.OFS in force at a stamp (R134). -/
def ofsAtStamp (s : State) (stamp : Nat) : Int :=
  if stamp < s.tim.ofsAt then s.tim.ofsWas else s.rdInt Reg.TIM_UTC_OFS_OFS

/-- Whether a second value of 60 is acceptable: in the last minute of a UTC day, while LEAP61 is 1 (R136); the flag of a leap that was
applied after the on-time mark still held at the mark. (DEDUCED, log 14) -/
def leapSecondOk (s : State) (f : IrigFrame) : Bool :=
  (s.bit Reg.TIM_UTC_OFS_LEAP61 || (decide (f.stamp < s.tim.ofsAt) && s.rdInt Reg.TIM_UTC_OFS_OFS == s.tim.ofsWas + 1)) &&
    irigUtc s f % 86400 == 0

/-- Whether a frame is valid: its pulses, its BCD digits and numbers, the year, and with B004 and B005 the parity (R130, R131, R136). -/
def irigValid (s : State) (f : IrigFrame) : Bool :=
  irigShaped f && f.yearPresent && (!irigExtended f || f.parityOk) && decide (4 ≤ f.expr.val) &&
  (irigDigits f).all (fun l => l.all (fun d => decide (d ≤ 9))) &&
  (decide (irigNum f 0 ≤ 59) || (irigNum f 0 == 60 && leapSecondOk s f)) && decide (irigNum f 1 ≤ 59) && decide (irigNum f 2 ≤ 23) &&
  decide (1 ≤ irigNum f 3 ∧ irigNum f 3 ≤ 366)

/-- An offset of a stamp from a TAI second, in whole ns, rounded down. (DEDUCED, log 14) -/
def offsetNs (stamp sec : Nat) : Int := ((stamp : Int) - (sec * secUnits : Nat)) / 65536

/-- An IRIG-B frame that is not valid: counted; the second in a row ends the source's validity (R148). -/
def irigInvalid (s : State) : State :=
  let s := s.inc Reg.TIM_IRIG_ERR
  let s := { s with tim := { s.tim with irigGood := 0, irigBad := s.tim.irigBad + 1, irigLast := none } }
  if 2 ≤ s.tim.irigBad then loseSource s .irig .invalidFrames else s

/-- The time quality of IRIG-B against TQ_MAX: above it the source stops being valid (R135, R148). -/
def irigQuality (s : State) : State :=
  if s.rd Reg.TIM_IRIG_CFG_TQ_MAX < s.tim.irigTq then loseSource s .irig .timeQuality else s

/-- IRIG_FRAME: a frame is decoded and checked (R130, R131); after two consecutive valid frames one second apart it gives TAI at
its on-time mark (R132, R134), and the hardware loop takes the offset when IRIG-B is the active source (R123). -/
def execIrigFrame (f : IrigFrame) (s : State) : Out :=
  .next (if !domainUp s 2 then s
    else if !irigValid s f then irigInvalid s
    else
      let tai := (irigUtc s f + ofsAtStamp s f.stamp).toNat
      let s := ((s.wr Reg.TIM_IRIG_STATUS_TQ (irigTq s f)).wr Reg.TIM_IRIG_STATUS_CF (irigCf f)).wr Reg.TIM_IRIG_STATUS_EXPR f.expr.val
      let good := if s.tim.irigLast = some (tai - 1) ∧ 1 ≤ tai then s.tim.irigGood + 1 else 1
      let s := irigQuality
        { s with tim := { s.tim with irigGood := good, irigBad := 0, irigLast := some tai, irigTq := irigTq s f } }
      let s := becomeValid s .irig
      if 2 ≤ good ∧ loopOn s .irig then hardwareLoop s (offsetNs (tdc f.stamp) tai) else s)

/-! ### 1PPS (R111, R137–R140) -/

/-- The nearest second boundary of a stamp. -/
def nearestSec (stamp : Nat) : Nat := (stamp + secUnits / 2) / secUnits

/-- Whether a loaded time of day counts: neither PTP nor IRIG-B is valid (Table 02.1, Table 02.6). -/
def todCounts (s : State) : Bool := !s.tim.ptp.valid && !s.tim.irig.valid

/-- The second boundary that a PPS_IN edge is compared with: in the first second after a load the TIM_TOD second; else the nearest
boundary of the time scale (R137). -/
def ppsExpected (s : State) (stamp : Nat) : Nat :=
  match s.tim.tod with
  | some t => if todCounts s && !t.edge && decide (stamp < t.at_ + secUnits) then t.sec else nearestSec stamp
  | none => nearestSec stamp

/-- The TAI second of an accepted edge: from TIM_TOD where it counts (R138), else the nearest second of the time scale. A load that no
edge has used yet goes on from second to second. (DEDUCED, log 14) -/
def ppsSecond (s : State) (stamp : Nat) : Nat :=
  match s.tim.tod with
  | some t => if todCounts s then (if t.edge then t.sec + nearestSec (stamp - t.at_) else t.sec) else nearestSec stamp
  | none => nearestSec stamp

/-- A load after an edge that did not use it. -/
def todNext (t : Tod) (stamp : Nat) : Tod := ⟨if t.edge then t.sec + nearestSec (stamp - t.at_) else t.sec, stamp, true⟩

/-- PPS_IN_EDGE: an edge of the selected polarity is accepted within ±WIN of its boundary and counted as rejected otherwise; a
pulse shorter than 100 ns is ignored (R137). (DEDUCED, log 14) -/
def execPpsInEdge (e : PpsEdge) (widthNs : Nat) (s : State) : Out :=
  .next (if !domainUp s 2 || e.rising == s.bit Reg.TIM_PPS_CFG_IN_INV || decide (widthNs < 100) then s
    else
      let t := tdc e.stamp
      if absNat ((t : Int) - (ppsExpected s t * secUnits : Nat)) ≤ s.rd Reg.TIM_PPS_CFG_WIN * 65536 then
        let s := becomeValid s .pps
        if loopOn s .pps then
          let ofs := offsetNs t (ppsSecond s t)
          hardwareLoop (if todCounts s then { s with tim := { s.tim with tod := none } } else s) ofs
        else { s with tim := { s.tim with tod := s.tim.tod.map (fun x => todNext x t) } }
      else s.inc Reg.TIM_PPS_REJ)

/-- TOD_LOAD: the write of TIM_TOD_HI makes both words take effect and loads the second for the next accepted edge (R138). -/
def execTodLoad (a : Access) (v : Word) (s : State) : Out :=
  .next (withWrite s a 0x20000 Blk.tim 2 0x200A4 (fun s =>
    let k := initKey a.init 0x200A0
    let lo := (Tab.get none s.held k).getD (s.reg 0x200A0)
    let s := { s with held := Tab.put none s.held k none }
    let s := (s.wr Reg.TIM_TOD_LO lo.toNat).wr Reg.TIM_TOD_HI v.toNat
    { s with tim := { s.tim with tod := some ⟨lo.toNat + 2 ^ 32 * v.toNat, s.tim.now, false⟩, todKnown := true } }))

/-- Whether OUT_MODE lets a pulse start in the time quality in force (R140). -/
def ppsAllowed (s : State) : Bool :=
  let q := s.rd Reg.TIM_STATUS_QUALITY
  match s.rd Reg.TIM_PPS_CFG_OUT_MODE with
  | 0 => false
  | 1 => true
  | 2 => q != 2
  | _ => q == 0

/-- A TAI second passes while the tick generator is STOPPED: device time has reached its boundary, and the timing core slews (R121).
(DEDUCED, log 11) -/
def secondPassed (s : State) : State :=
  if s.rd Reg.TIK_STATUS_STATE ≠ 0 then s
  else
    let s := { s with tim := { s.tim with now := (s.taiSec + 1) * secUnits } }
    slewBy s 1 (slewLimit s 1)

/-- PPS_OUT_PULSE: PPS_OUT rises on the TAI second as OUT_MODE allows, and its loop-back stamp is taken; a started pulse is always
completed (R139–R141). -/
def execPpsOutPulse (rise : Option Nat) (s : State) : Out :=
  .next (match rise with
    | none => { s with tim := { s.tim with ppsOut := false } }
    | some stamp =>
      if !domainUp s 2 then { s with tim := { s.tim with ppsOut := false } }
      else
        let s := secondPassed s
        if ppsAllowed s then { s with tim := { s.tim with ppsOut := true, ppsStamp := some (tdc stamp) } }
        else { s with tim := { s.tim with ppsOut := false } })

/-! ### PTP (R125, R126, R128, R153) -/

/-- A PTP stamp at the PCS boundary corrected to the ball by the port's latency, ps signed (R126), on the 125 ps grid (R105); the
latency in units of 2^-16 ns and the sum are rounded down. (DEDUCED, log 14) -/
def correctedStamp (s : State) (port : Nat) (transmit : Bool) (stamp : Nat) : Nat :=
  let lat := (if transmit then s.rdInt (Reg.TIM_PORT_TX_LAT port) else -(s.rdInt (Reg.TIM_PORT_RX_LAT port)))
  tdc ((stamp : Int) + lat * 65536 / 1000).toNat

/-- PTP_EVENT_TIMESTAMP: a stamp is delivered to the firmware, or dropped and counted when the queue is full (R126, R153). -/
def execPtpEventTimestamp (port : Fin 8) (transmit : Bool) (stamp : Nat) (queueFull : Bool) (s : State) : Out :=
  if !domainUp s 2 then .next s
  else if queueFull then .next (overload (s.inc (Reg.TIM_PORT_TS_DROP port)) Blk.tim port)
  else .next { s with tim := { s.tim with
    stamps := s.tim.stamps ++ [(port.val, transmit, correctedStamp s port transmit stamp)] } }

/-- Whether the active source is traceable (Table 02.3). -/
def traceable (s : State) : Bool :=
  match s.rd Reg.TIM_STATUS_ACTIVE_SRC with
  | 1 => s.tim.parentClass == 6
  | 2 => s.tim.irigTq == 0
  | 3 => s.bit Reg.TIM_CTRL_PPS_TRACE
  | _ => false

/-- Whether HOLDOVER goes on with an exact estimate above the limit, as after a write of the limit: Table 02.3 has no row for it. -/
def overLimit (s : State) : Bool := s.rd Reg.TIM_STATUS_QUALITY == 1 && decide (s.rd Reg.TIM_HO_CFG * 2000000 < s.tim.est)

/-- The announced clockClass (R125, Table 02.3), with the exact estimate (R144); a free value where the table has no row.
(DEDUCED, log 14) -/
def announcedClass (s : State) : Nat :=
  if overLimit s then s.free.toNat % 256
  else match s.rd Reg.TIM_STATUS_QUALITY with
    | 0 => if traceable s then 6 else 13
    | 1 => 7
    | _ => 248

/-- Whether a port sends its event messages as two-step: TWO_STEP, or MACsec is enabled (R128). -/
def sendsTwoStep (s : State) (port : Nat) : Bool :=
  s.bit (Reg.TIM_PORT_PCFG_TWO_STEP port) || s.bit (Reg.CRY_MS_PCFG_EN port)

/-- Whether the role and the profile let hardware send a kind of message: Sync, Follow_Up and Announce on the master ports of roles 1 and 3,
Pdelay messages wherever the peer-to-peer mechanism is used (Table 02.2). -/
def ptpSends (s : State) (kind : Nat) : Bool :=
  let role := s.rd Reg.TIM_PTP_CFG_ROLE
  if kind < 3 then role == 1 || role == 3
  else decide (1 ≤ role ∧ role ≤ 4) && s.rd Reg.TIM_PTP_CFG_PROFILE != 2

/-- PTP_MASTER_TX: hardware sends a Sync, Follow_Up or Announce of a master port with the announced clockClass and the forwarded
inaccuracy, which is the last PTP parent's whatever the active source is (R125), or a Pdelay message; two-step on a port with MACsec
enabled (R128). (DEDUCED, log 14) -/
def execPtpMasterTx (port : Fin 6) (kind : Fin 5) (s : State) : Out :=
  .next (if domainUp s 2 && s.bit (Reg.TIM_PORT_PCFG_EN port) && ptpSends s kind.val then
      if kind.val < 3 then
        emit (if overLimit s then s.used else s) (.ptp port kind (announcedClass s) (s.tim.inacc + s.rd Reg.TIM_PTP_CFG_OWN_INACC)
          (sendsTwoStep s port))
      else emit s (.ptp port kind 0 0 (sendsTwoStep s port))
    else s)

/-! ### PTP messages that arrive (R110, R129, R143) -/

/-- The parent's Announce message (R110, R125, R143): its clockClass and totalTimeInaccuracy; PTP becomes valid, or is lost to the class. (DEDUCED, log 14) -/
def takeAnnounce (s : State) (m : PtpMsg) : State :=
  let s := { s with tim := { s.tim with parentClass := m.clockClass, inacc := m.inacc.getD s.tim.inacc, announce := true } }
  if parentOk s then becomeValid s .ptp else loseSource s .ptp .clockClass

/-- A PTP message of the instance's domain on a port that takes part (Table 02.2): the parent's Announce, and the peer delay of a port.
(DEDUCED, log 61) -/
def ptpReceive (s : State) (port : Nat) (m : PtpMsg) : State :=
  if !domainUp s 2 || !s.bit (Reg.TIM_PORT_PCFG_EN port) || s.rd Reg.TIM_PTP_CFG_ROLE == 0 || m.domain != s.rd Reg.TIM_PTP_CFG_DOMAIN then s
  else match m.kind with
    | .announce => if m.parent then takeAnnounce s m else s
    | .pdelayResp | .pdelayRespFollowUp =>
      match m.delay with
      | some d => { s with tim := { s.tim with peerDelay := Tab.put 0 s.tim.peerDelay port d } }
      | none => s
    | _ => s

/-- The kinds of PTP event messages. -/
def isEvent : PtpKind → Bool
  | .sync | .pdelayReq | .pdelayResp | .delayReq => true
  | _ => false

/-- A PTP message that a port sends (R128, R129): a transparent clock adds the residence time to the correctionField of each Sync, and a
P2P one also the ingress peer delay; an event message is two-step on a port with MACsec enabled. (DEDUCED, log 61) -/
def ptpTransmit (s : State) (egress arrival stamp : Nat) (m : PtpMsg) : PtpMsg :=
  let role := s.rd Reg.TIM_PTP_CFG_ROLE
  let residence : Int := (stamp : Int) - arrival
  let add : Int := if role = 4 then residence + Tab.get 0 s.tim.peerDelay m.port else if role = 5 then residence else 0
  let m := if m.kind = .sync ∧ s.bit (Reg.TIM_PORT_PCFG_EN egress) ∧ m.domain = s.rd Reg.TIM_PTP_CFG_DOMAIN then
      { m with correction := m.correction + add } else m
  if isEvent m.kind && s.bit (Reg.CRY_MS_PCFG_EN egress) then { m with twoStep := true } else m

/-! ### Holdover, leap seconds, REFCLK -/

/-- The holdover estimate after `t` whole seconds, in units of 0.5 fs (R144). -/
def holdoverUnits (e0 y d t : Nat) : Nat := e0 * 2000000 + y * t * 2000 + d * t * t

/-- HOLDOVER_ESTIMATE: at every whole second in holdover the estimate is recomputed and compared with the limit (R144). -/
def execHoldoverEstimate (s : State) : Out :=
  if s.rd Reg.TIM_STATUS_QUALITY ≠ 1 then .next s
  else
    let t := min (s.rd Reg.TIM_HO_TIME + 1) 0xFFFFFFFF
    let e := holdoverUnits (s.rd Reg.TIM_HO_E0) (s.rd Reg.TIM_HO_FREQ) (s.rd Reg.TIM_HO_DRIFT) t
    let s := (s.wr Reg.TIM_HO_TIME t).wr Reg.TIM_HO_EST (min (e / 2000000) 0xFFFFFFFF)
    let s := { s with tim := { s.tim with est := e } }
    .next (if s.rd Reg.TIM_HO_CFG * 2000000 < e then toFreerun s else s)

/-- LEAP_APPLIED: the time scale reaches TIM_LEAP_AT with a leap flag set (R146). -/
def execLeapApplied (s : State) : Out := .next (applyLeap s)

/-- REFCLK_LOST: no REFCLK_IN edge for 1 µs; the backup oscillator takes over and the time quality becomes FREERUN (R150). -/
def execRefclkLost (s : State) : Out :=
  .next (if !domainUp s 2 then s
    else
      let s := { s with tim := { s.tim with refBack := false } }
      if s.bit Reg.TIM_STATUS_BACKUP then s
      else toFreerun (raise ((s.wr Reg.TIM_STATUS_BACKUP 1).wr Reg.TIM_STATUS_REFCLK_OK 0) Blk.tim 0x0104 .fault s.taiNs))

/-- REFCLK is taken back (R152). -/
def takeRefclk (s : State) : State :=
  let s := (s.wr Reg.TIM_STATUS_BACKUP 0).wr Reg.TIM_STATUS_REFCLK_OK 1
  raise { s with tim := { s.tim with refBack := false } } Blk.tim 0x0105 .info (s.rd Reg.TIM_STATUS_REFCLK)

/-- REFCLK_RESTORED: REFCLK has been within ±50 ppm for 100 ms; it is taken back at the next start of slot 496, or at once while the
tick generator is STOPPED (R152). -/
def execRefclkRestored (mhz25 : Bool) (s : State) : Out :=
  if !domainUp s 2 || !s.bit Reg.TIM_STATUS_BACKUP then .next s
  else
    let s := s.wr Reg.TIM_STATUS_REFCLK mhz25.toNat
    .next (if s.rd Reg.TIK_STATUS_STATE = 0 then takeRefclk s
      else { s with tim := { s.tim with refBack := true } })

/-- REFCLK_DETECT: within 200 µs after the release of PD02 the timing core detects REFCLK_IN and takes it (R155). -/
def execRefclkDetect (d : RefDetect) (s : State) : Out :=
  if !domainUp s 2 || !s.bit Reg.TIM_STATUS_BACKUP then .next s
  else match d with
    | .none => .next s
    | .mhz10 => .next (((s.wr Reg.TIM_STATUS_REFCLK 0).wr Reg.TIM_STATUS_REFCLK_OK 1).wr Reg.TIM_STATUS_BACKUP 0)
    | .mhz25 => .next (((s.wr Reg.TIM_STATUS_REFCLK 1).wr Reg.TIM_STATUS_REFCLK_OK 1).wr Reg.TIM_STATUS_BACKUP 0)

/-- TIME_READ: a read of TIM_NS_LO latches TIM_NS_HI and TIM_FRAC for the reader (R104) and returns the low word. (DEDUCED, log 11) -/
def execTimeRead (i : Ident) (s : State) : Out :=
  if !domainUp s 2 then .next (isoErr { s with resp := some 0xFFFFFFFF } Blk.tim i 0x20010 2)
  else
    let ns := s.taiNs
    .next { s with
      snaps := Tab.put none (Tab.put none s.snaps (initKey i 0x20010) (some (BitVec.ofNat 32 (ns / 2 ^ 32))))
        (initKey i 0x20018) (some (BitVec.ofNat 32 (s.tim.now % 65536)))
      resp := some (BitVec.ofNat 32 ns) }

end Sys2Proof.Machine
end

