-- ==== Sys2Proof/Machine/Acq.lean ====
section
/-! DEFINITION. Acquisition: samples of modulator and stream channels, range selection, lost inputs and their twins, and
sampled-value streams (05_acquisition.md). -/

namespace Sys2Proof.Machine

/-! ### Inputs and twins (R280–R286) -/

/-- Whether an input is enabled. -/
def inputOn (s : State) (i : Nat) : Bool := decide (i < 48) && s.bit (Reg.ACQ_IN_CFG_EN i)

/-- Whether an input is lost: retired, or not yet returned to service (R280, R286). -/
def inputLost (s : State) (i : Nat) : Bool := s.bit (Reg.ACQ_IN_STATUS_RETIRED i) || s.acq.returning.contains i

/-- The twin that has adopted an input (R284). -/
def adoptedTwin (s : State) (i : Nat) : Option Nat :=
  [44, 45, 46, 47].find? (fun t => s.bit (Reg.ACQ_IN_STATUS_ADOPTED t) && s.rd (Reg.ACQ_IN_CFG_TWIN t) == i)

/-- Whether an input yields no valid sample: it is lost, and no healthy twin has adopted it (R281, R284). -/
def inputDead (s : State) (i : Nat) : Bool :=
  inputLost s i && (match adoptedTwin s i with
    | some t => inputLost s t
    | none => true)

/-- The input that a channel reads for input `i`. -/
def effInput (s : State) (i : Nat) : Nat :=
  if inputLost s i then (adoptedTwin s i).getD i else i

/-- The healthy twin of an input (R284). -/
def healthyTwin (s : State) (i : Nat) : Option Nat :=
  [44, 45, 46, 47].find? (fun t => t != i && inputOn s t && s.rd (Reg.ACQ_IN_CFG_TWIN t) == i && !inputLost s t)

/-- Whether a channel uses an input. -/
def channelUses (s : State) (i c : Nat) : Bool :=
  match s.rd (Reg.ACQ_CHAN_CFG_SRC c) with
  | 1 => s.rd (Reg.ACQ_CHAN_CFG_SEL_A c) == i
  | 2 => s.rd (Reg.ACQ_CHAN_CFG_SEL_A c) == i || s.rd (Reg.ACQ_CHAN_CFG_SEL_B c) == i
  | _ => false

/-- Whether an input feeds a channel that is an input of a class P item (R283); a twin in use feeds the channels of the input it
twins. -/
def feedsP (s : State) (i : Nat) : Bool :=
  let j := if s.bit (Reg.ACQ_IN_STATUS_ADOPTED i) then s.rd (Reg.ACQ_IN_CFG_TWIN i) else i
  match s.img.sched with
  | none => false
  | some d => d.items.any (fun it => it.cls == 0 && (d.inputs it).any (fun c => channelUses s i c || channelUses s j c))

/-- The ACQ_LINK_LOST bit of an input. -/
def linkLostBit (i : Nat) : Fld :=
  if i < 32 then ⟨Reg.ACQ_LINK_LOST_LO.key, i, 1⟩ else ⟨Reg.ACQ_LINK_LOST_HI.key, i - 32, 1⟩

/-- The reason codes of LINK_LOST (Table 05.11). -/
def linkReason : LinkFault → Nat
  | .ones => 1
  | .zeros => 2
  | .clock => 3

/-- A clock without edges sets its FAULT bit, and MCLK_FAULT is raised when it sets it (R280). -/
def clockFault (s : State) (m : Nat) : State :=
  if s.bit (Reg.ACQ_MCLK_FAULT m) then s
  else raise (s.wr (Reg.ACQ_MCLK_FAULT m) 1) Blk.acq 0x0104 .fault m

/-- An input found lost is retired (R280); a healthy twin adopts it (R284); the event is SAFETY where a class P item loses its
input (R283), with the safe-state reaction of Table 12.3, ID 14. -/
def loseInput (s : State) (i : Nat) (why : LinkFault) : State :=
  let twin := if s.bit Reg.ACQ_CTRL_AUTO_SPARE then healthyTwin s i else none
  let safety := twin.isNone && feedsP s i
  let wasTwin := s.bit (Reg.ACQ_IN_STATUS_ADOPTED i)
  let s := (s.wr (Reg.ACQ_IN_STATUS_RETIRED i) 1).wr (linkLostBit i) 1
  let s := (s.inc (Reg.ACQ_IN_STATUS_LOSS_CNT i)).inc Reg.ACQ_STATUS_LOST
  let s := if wasTwin then (s.wr (Reg.ACQ_IN_STATUS_ADOPTED i) 0).sub Reg.ACQ_STATUS_ADOPTED 1 else s
  let s := { s with acq := { s.acq with returning := s.acq.returning.filter (· != i) } }
  let s := raise s Blk.acq 0x0101 (if safety then .safety else .fault)
    (i + 2 ^ 8 * linkReason why + 2 ^ 16 * (twin.getD 0xFF))
  let s := if safety then safeState s 14 else s
  match twin with
  | none => s
  | some t =>
    if s.bit (Reg.ACQ_IN_STATUS_ADOPTED t) then s
    else raise ((s.wr (Reg.ACQ_IN_STATUS_ADOPTED t) 1).inc Reg.ACQ_STATUS_ADOPTED) Blk.acq 0x0103 .warn (t + 2 ^ 8 * i)

/-- LINK_LOST: an enabled input meets a condition of R280. -/
def execLinkLost (input : Fin 48) (why : LinkFault) (s : State) : Out :=
  if !domainUp s 3 || !inputOn s input then .next s
  else
    let s := if why = .clock then clockFault s (s.rd (Reg.ACQ_IN_CFG_CLK input)) else s
    .next (if s.bit (Reg.ACQ_IN_STATUS_RETIRED input) then s else loseInput s input why)

/-- Clearing an input's ACQ_LINK_LOST bit clears RETIRED; the input still has to pass the checks (R286). -/
def clearLink (s : State) (i : Nat) : State :=
  if s.bit (Reg.ACQ_IN_STATUS_RETIRED i) then
    let s := (s.wr (Reg.ACQ_IN_STATUS_RETIRED i) 0).sub Reg.ACQ_STATUS_LOST 1
    { s with acq := { s.acq with returning := s.acq.returning ++ [i] } }
  else s

/-- LINK_LOST_CLEAR: a write of ones to ACQ_LINK_LOST (R286). -/
def execLinkLostClear (a : Access) (high : Bool) (v : Word) (s : State) : Out :=
  .next (withWrite s a 0x80000 Blk.acq 3 (if high then 0x80018 else 0x80014) (fun s =>
    let bits := if high then (bitList 16 v.toNat).map (· + 32) else bitList 32 v.toNat
    bits.foldl (fun s i => clearLink (s.wr (linkLostBit i) 0) i) s))

/-- LINK_RESTORED: the input has passed the checks of R280 for one span and returns to service; its twin is released (R286). -/
def execLinkRestored (input : Fin 48) (s : State) : Out :=
  if !domainUp s 3 || !s.acq.returning.contains input.val then .next s
  else
    let t := adoptedTwin s input
    let s := { s with acq := { s.acq with returning := s.acq.returning.filter (· != input.val) } }
    let s := match t with
      | some t => (s.wr (Reg.ACQ_IN_STATUS_ADOPTED t) 0).sub Reg.ACQ_STATUS_ADOPTED 1
      | none => s
    .next (raise s Blk.acq 0x0102 .info input)

/-! ### Samples (R248–R263, R281, R282, R92, R293) -/

/-- Half window in half ticks, and span (Table 05.1). -/
def profileOf (s : State) (c : Nat) : Nat × Nat := if s.bit (Reg.ACQ_CHAN_CFG_PROFILE c) then (11, 11) else (3, 3)

/-- The group delay of a modulator channel (Table 05.1). -/
def groupDelay (s : State) (c : Nat) : Nat := if s.bit (Reg.ACQ_CHAN_CFG_PROFILE c) then 6 else 2

/-- The calibrated value of an input (R251). -/
def calibrated (s : State) (i : Nat) (raw : Word) : Word :=
  Config.fpAdd (Config.fpMul (BitVec.ofNat 32 (s.rd (Reg.ACQ_IN_GAIN i))) raw) (BitVec.ofNat 32 (s.rd (Reg.ACQ_IN_OFS i)))

/-- SCALE × a value (R252, R256). -/
def scaled (s : State) (c : Nat) (v : Word) : Word := Config.fpMul (BitVec.ofNat 32 (s.rd (Reg.ACQ_CHAN_SCALE c))) v

/-- The HI value on the LO scale (R256). -/
def mappedHi (s : State) (c : Nat) (v : Word) : Word :=
  Config.fpAdd (Config.fpMul (BitVec.ofNat 32 (s.rd (Reg.ACQ_CHAN_HI_GAIN c))) v)
    (BitVec.ofNat 32 (s.rd (Reg.ACQ_CHAN_HI_OFS c)))

/-- The hold count of R260. (DEDUCED, log 21) -/
def holdCount (s : State) : Nat :=
  ceilDiv (max 1 (s.rd Reg.ACQ_RNG_CFG_HOLD_CYC) * s.rate) (if s.bit Reg.ACQ_CTRL_NOMF then 60 else 50)

/-- Whether the calibrated LO value lies below the down-switch level (R260). -/
def belowDown (s : State) (v : Word) : Bool :=
  fpFinite v && decide (fpMag v * 100 < s.rd Reg.ACQ_RNG_CFG_DOWN_PCT * fpOne)

/-- The edge instant of a tick that has begun (R248, R268): as it was, for the ticks that are remembered, else by the grid. (DEDUCED, log 21) -/
def edgeAt (s : State) (tick : Nat) : Nat :=
  match s.tik.edges.find? (fun p => p.1 == tick) with
  | some p => p.2
  | none =>
    let r := s.rate
    let k := s.tik.sec * r + s.rd Reg.TIK_INSEC - (s.tick - tick)
    edgeInstant r (k / r) (k % r)

/-! ### Modulator bits and the overload detector (R246, R247, R257, R258) -/

/-- The bit period of an input's clock, in 2^-16 ns: 100, 62.5, 50 or 40 ns (R244). -/
def bitPeriod (s : State) (i : Nat) : Nat :=
  [6553600, 4096000, 3276800, 2621440].getD (s.rd (Reg.ACQ_MCLK_FREQ (s.rd (Reg.ACQ_IN_CFG_CLK i)))) 6553600

/-- An interval joins the marked ones. -/
def addMark (a b : Nat) : List (Nat × Nat) → List (Nat × Nat)
  | [] => [(a, b)]
  | (c, d) :: l => if a ≤ d then (min a c, max b d) :: l else (a, b) :: (c, d) :: l

/-- One bit of an input at `t`: the last 64 bits, and the interval that an overload marks, `g` long (R247, R257, R258). Fewer than 64 bits
flag no overload. (DEDUCED, log 21) -/
def takeBit (hi lo g : Nat) (p : ModIn × Nat) (period : Nat) (b : Bool) : ModIn × Nat :=
  let t := p.2
  let bits := (2 * p.1.bits + b.toNat) % 2 ^ 64
  let n := min 64 (p.1.n + 1)
  let d := popCount 64 bits
  let ovl := n == 64 && (decide (hi ≤ d) || decide (d ≤ lo))
  ({ bits := bits, n := n, marks := if ovl then addMark (t - g) t p.1.marks else p.1.marks }, t + period)

/-- The bits of one input: DENSITY and the marked intervals, of which those of the last 13 ticks are kept (R247, R257, R258). (DEDUCED, log 21) -/
def takeRun (s : State) (r : BitRun) : State :=
  let i := r.input.val
  if !inputOn s i then s
  else
    let period := bitPeriod s i
    let g := min 8 (s.rd Reg.ACQ_RNG_CFG_GUARD) * 16 * period
    let x := r.bits.foldl (fun p b => takeBit (s.rd Reg.ACQ_RNG_CFG_OVL_HI) (s.rd Reg.ACQ_RNG_CFG_OVL_LO) g p period b)
      (Tab.get {} s.acq.inputs i, r.start)
    let kept := { x.1 with marks := x.1.marks.filter (fun m => decide (x.2 ≤ m.2 + 13 * (secUnits / s.rate))) }
    let s := { s with acq := { s.acq with inputs := Tab.put {} s.acq.inputs i kept } }
    s.wr (Reg.ACQ_IN_STATUS_DENSITY i) (popCount 64 kept.bits)

/-- Whether the window [m − H, m + H] meets an interval that an input has marked; `h2` is H in half ticks (R259). -/
def windowMeets (s : State) (i m h2 : Nat) : Bool :=
  (Tab.get {} s.acq.inputs i).marks.any (fun p =>
    decide (((p.1 : Int) - m) * (2 * s.rate : Nat) ≤ (h2 * secUnits : Nat) ∧ ((m : Int) - p.2) * (2 * s.rate : Nat) ≤ (h2 * secUnits : Nat)))

/-! ### Channels -/

/-- Whether every sample of a measurement tick is INVALID: of a stretch tick or within 12 ticks after it (R92), before a whole window of
running time (R293), or with acquisition stopped. `h2` is the half window in half ticks. -/
def sampleVoid (s : State) (mtick : Int) (h2 : Nat) : Bool :=
  s.rd Reg.ACQ_STATUS_STATE == 0 || decide (2 * mtick < 2 * (s.acq.first : Int) + h2) ||
  (match s.tik.lastStretch with
   | some k => decide ((k : Int) ≤ mtick ∧ mtick ≤ k + 12)
   | none => false) ||
  s.tik.stepTick.any (fun k => decide ((k : Int) ≤ mtick))

/-- A sample reaches main SRAM: ACQ_LAST holds its value, range and quality (R252). -/
def putSample (s : State) (c : Nat) (v : Word) (hi : Bool) (q : Nat) : State :=
  ((s.wr (Reg.ACQ_LAST_VALUE c) v.toNat).wr (Reg.ACQ_LAST_QUAL c) 0).wr (Reg.ACQ_LAST_QUAL c) (q + 2 ^ 16 * hi.toNat)

/-- The channel state that belongs to the entry in force. -/
def chanOf (s : State) (c : Nat) : Chan :=
  let w := s.reg (Reg.ACQ_CHAN_CFG c).key
  let x := Tab.get {} s.acq.chan c
  if x.cfg = w then x else { cfg := w }

/-- The channel state written back. -/
def setChan (s : State) (c : Nat) (x : Chan) : State :=
  { s with acq := { s.acq with chan := Tab.put {} s.acq.chan c x } }

/-- The tick whose input a sample that is released now is (R248, R250). -/
def inputTick (s : State) : Nat := s.tick + 1

/-- A single-input channel's sample (R252, R281). -/
def releaseSingle (s : State) (c : Nat) (x : Sample) : State :=
  let a := s.rd (Reg.ACQ_CHAN_CFG_SEL_A c)
  let i := effInput s a
  let void := inputDead s a || sampleVoid s ((inputTick s : Int) - groupDelay s c) (profileOf s c).1
  putSample s c (scaled s c (calibrated s i x.lo)) false (qualWord (if void then 2 else 0) 0 0 s.timeq)

/-- A pair channel's sample: the range selection of R259–R262 and the losses of R282. (DEDUCED, log 21) -/
def releasePair (s : State) (c : Nat) (x : Sample) : State :=
  let a := s.rd (Reg.ACQ_CHAN_CFG_SEL_A c)
  let b := s.rd (Reg.ACQ_CHAN_CFG_SEL_B c)
  let i := effInput s a
  let j := effInput s b
  let ch := chanOf s c
  let lo := calibrated s i x.lo
  let hi := calibrated s j x.hi
  let ovl := windowMeets s i (edgeAt s (inputTick s - groupDelay s c)) (profileOf s c).1
  let ok := !ovl && belowDown s lo
  let down := ok && decide (holdCount s ≤ ch.run)
  let loDead := inputDead s a
  let hiDead := inputDead s b
  -- the range that R259–R261 select, and the range used
  let selHi := ovl || (ch.hi && !down)
  let useHi := loDead || selHi
  let void := sampleVoid s ((inputTick s : Int) - groupDelay s c) (profileOf s c).1 ||
    (loDead && hiDead) || (!loDead && hiDead && !down)
  let sw := if useHi != ch.hi then (profileOf s c).2 else ch.switched
  let s := if useHi && !ch.hi then s.inc Reg.ACQ_RNG_UP else if !useHi && ch.hi then s.inc Reg.ACQ_RNG_DOWN else s
  let s := setChan s c { ch with hi := useHi, run := (if ok then ch.run + 1 else 0), switched := sw - 1 }
  putSample s c (scaled s c (if useHi then mappedHi s c hi else lo)) useHi
    (qualWord (if void then 2 else 0) 0 (if 0 < sw then 1 else 0) s.timeq)

/-! ### Sampled-value streams (R264–R270, R287) -/

/-- Samples per second of a stream kind (Table 05.3), 0 for no kind. -/
def svRate (s : State) (kind : Nat) : Nat :=
  match kind with
  | 0 => if s.bit Reg.ACQ_CTRL_NOMF then 4800 else 4000
  | 1 => 4800
  | 2 => 14400
  | _ => 0

/-- ASDUs per frame of a stream kind (Table 05.3). -/
def svPerFrame : Nat → Nat
  | 0 => 1
  | 1 => 2
  | 2 => 6
  | _ => 0

/-- The sample indices that tick instant `t` (2^-16 ns) needs: the one at the instant when the stream rate is the tick rate,
otherwise two before the instant and two at or after it (R268). -/
def svNeeds (rate tickRate t : Nat) : List Nat :=
  let sec := t / secUnits
  let r := t % secUnits
  if rate = tickRate then [sec * rate + (r * rate + secUnits / 2) / secUnits]
  else
    let j := sec * rate + ceilDiv (r * rate) secUnits
    [j - 2, j - 1, j, j + 1]

/-- The stream's record. -/
def streamOf (s : State) (n : Nat) : Stream := Tab.get {} s.acq.stream n

/-- The stream's record written back. -/
def setStream (s : State) (n : Nat) (x : Stream) : State :=
  { s with acq := { s.acq with stream := Tab.put {} s.acq.stream n x } }

/-- Whether an element is usable (R267). -/
def usable (s : State) (n : Nat) (d : Asdu) (sim : Bool) (e : SvElem) : Bool :=
  let testOk := s.bit (Reg.ACQ_SV_CFG_TEST_OK n)
  e.good && (!e.test || testOk) && (!sim || testOk) && decide (s.rd (Reg.ACQ_SV_CFG_SYNC_MIN n) ≤ d.synch)

/-- The sample indices of stream `n` that a tick needs: those of the edge of tick − DELAY (R268). -/
def streamNeeds (s : State) (n tick : Nat) : List Nat :=
  svNeeds (svRate s (s.rd (Reg.ACQ_SV_CFG_KIND n))) s.rate (edgeAt s (tick - s.rd (Reg.ACQ_SV_CFG_DELAY n)))

/-- Whether a sample index is already too late: a tick that has begun needed it (R269). (DEDUCED, log 21) -/
def svTooLate (s : State) (n idx : Nat) : Bool :=
  s.rd Reg.TIK_STATUS_STATE != 0 && decide (idx ≤ (streamNeeds s n s.tick).foldl max 0)

/-- One ASDU of a frame of stream `n` (R266, R269). (DEDUCED, log 21) -/
def takeAsdu (s : State) (n : Nat) (f : SvFrame) (d : Asdu) : State :=
  let rate := svRate s (s.rd (Reg.ACQ_SV_CFG_KIND n))
  let s := s.inc (Reg.ACQ_SV_RX n)
  if rate ≤ d.smpCnt ∨ d.elems.length ≠ 8 then s.inc (Reg.ACQ_SV_BAD n)
  else
    -- S is the second that places S + n ÷ rate in (arrival − 0.5 s, arrival]
    let off := ceilDiv (d.smpCnt * secUnits) rate
    if f.arrival < off then s.inc (Reg.ACQ_SV_LATE n)
    else
      let sec := (f.arrival - off) / secUnits
      if secUnits / 2 ≤ f.arrival - off - sec * secUnits then s.inc (Reg.ACQ_SV_LATE n)
      else
        let idx := sec * rate + d.smpCnt
        let x := streamOf s n
        if x.asdus.any (fun p => p.1 == idx) then s.inc (Reg.ACQ_SV_DUP n)
        else if svTooLate s n idx then s.inc (Reg.ACQ_SV_LATE n)
        else setStream s n { x with asdus := (idx, d, f.sim) :: x.asdus }

/-- Whether a frame belongs to stream `n` (R265). -/
def frameOf (s : State) (f : SvFrame) (n : Nat) : Bool :=
  s.bit (Reg.ACQ_SV_CFG_EN n) &&
  f.dst.toNat == s.rd (Reg.ACQ_SV_MAC_LO n) + 2 ^ 32 * s.rd (Reg.ACQ_SV_MAC_HI_MAC n) &&
  f.appid.toNat == s.rd (Reg.ACQ_SV_APPID_APPID n) && crc32c f.svid == s.rd (Reg.ACQ_SV_SVID_CRC n)

/-- SV_FRAME_RECEIVE: a frame of a subscribed stream delivers its ASDUs (R264–R269); a frame that has not the ASDU count of its
kind counts in BAD. -/
def execSvFrameReceive (f : SvFrame) (s : State) : Out :=
  if !domainUp s 3 then .next s
  else
    .next (((List.range 64).filter (frameOf s f)).foldl (fun s n =>
      if f.asdus.length = svPerFrame (s.rd (Reg.ACQ_SV_CFG_KIND n)) then
        f.asdus.foldl (fun s d => takeAsdu s n f d) s
      else (s.add (Reg.ACQ_SV_RX n) f.asdus.length).add (Reg.ACQ_SV_BAD n) f.asdus.length) s)

/-- The elements of stream `n` that channels use. -/
def fedElems (s : State) (n : Nat) : List Nat :=
  ((List.range 256).filter (fun c => s.rd (Reg.ACQ_CHAN_CFG_SRC c) == 3 && s.rd (Reg.ACQ_CHAN_CFG_SEL_A c) == n)).map
    (fun c => s.rd (Reg.ACQ_CHAN_CFG_SEL_B c) % 8)

/-- Whether an ASDU has a usable element for some channel that the stream feeds; of a stream that feeds none, any usable element. -/
def usableAsdu (s : State) (n : Nat) (d : Asdu) (sim : Bool) : Bool :=
  let els := fedElems s n
  (if els.isEmpty then List.range 8 else els).any (fun e => match d.elems[e]? with
    | some v => usable s n d sim v
    | none => false)

/-- One instant of a stream: missing, unusable or usable (R269, R287). -/
def runInstant (n : Nat) (s : State) (idx : Nat) : State :=
  let x := streamOf s n
  match x.asdus.find? (fun p => p.1 == idx) with
  | none => setStream (s.inc (Reg.ACQ_SV_MISSING n)) n { x with done := some idx, missRun := x.missRun + 1, badRun := 0, goodRun := 0 }
  | some (_, d, sim) =>
    if usableAsdu s n d sim then setStream s n { x with done := some idx, missRun := 0, badRun := 0, goodRun := x.goodRun + 1 }
    else setStream s n { x with done := some idx, missRun := 0, badRun := x.badRun + 1, goodRun := 0 }

/-- The instants of a stream that this tick needs and none before it did: the next ones in turn, or the latest alone where there is none
before it or more than 64 lie between (a step of the time scale). (DEDUCED, log 21) -/
def newInstants (done : Option Nat) (top : Nat) : List Nat :=
  match done with
  | none => [top]
  | some d => if top ≤ d then [] else if d + 64 < top then [top] else (List.range (top - d)).map (fun k => d + 1 + k)

/-- At a tick edge: the instants that a stream's ASDUs were needed for (R269, R287); ASDUs that no later tick needs are dropped. -/
def runStream (s : State) (n : Nat) : State :=
  if !s.bit (Reg.ACQ_SV_CFG_EN n) then s
  else
    let top := (streamNeeds s n s.tick).foldl max 0
    let s := (newInstants (streamOf s n).done top).foldl (runInstant n) s
    let x := streamOf s n
    setStream s n { x with asdus := x.asdus.filter (fun p => decide (top ≤ p.1 + 3)) }

/-- At a tick edge: the samples that have been released become the input of the tick (R70, R248), and the streams' instants are counted. -/
def acqEdge (s : State) : State :=
  if !domainUp s 3 then s
  else
    let s := { s with acq := { s.acq with latched := s.regs.filter (fun p => decide (0x84000 ≤ p.1) && decide (p.1 < 0x84800)) } }
    if s.rd Reg.ACQ_STATUS_STATE = 0 then s else (List.range 64).foldl runStream s


/-- The value of one element at an instant: the ASDU's value, or the 4-point Lagrange interpolation of four (R268), as an FP32
value. `u` is the position of the instant after the second point, in units of 1 ÷ `d` of the sample distance. -/
def svValue (vs : List Int) (u d : Int) : Word :=
  match vs with
  | [v] => Config.fpOfQuot v 1
  | [a, b, c, e] =>
    Config.fpOfQuot
      (-(a * u * (u - d) * (u - 2 * d)) + 3 * b * (u + d) * (u - d) * (u - 2 * d) -
        3 * c * (u + d) * u * (u - 2 * d) + e * (u + d) * u * (u - d)) (6 * d * d * d)
  | _ => 0

/-- A stream channel's sample (R267, R268, R270, R293). -/
def releaseStream (s : State) (c : Nat) : State :=
  let n := s.rd (Reg.ACQ_CHAN_CFG_SEL_A c)
  let e := s.rd (Reg.ACQ_CHAN_CFG_SEL_B c) % 8
  let rate := svRate s (s.rd (Reg.ACQ_SV_CFG_KIND n))
  let need := streamNeeds s n (inputTick s)
  let instant := edgeAt s (inputTick s - s.rd (Reg.ACQ_SV_CFG_DELAY n))
  let found := need.filterMap (fun k => (streamOf s n).asdus.find? (fun p => p.1 == k))
  let ch := chanOf s c
  let stale := s.rd (Reg.ACQ_SV_STATUS_STATE n) != 1 ||
    sampleVoid s ((inputTick s : Int) - s.rd (Reg.ACQ_SV_CFG_DELAY n)) 0
  if found.length = need.length then
    let els := found.filterMap (fun p => p.2.1.elems[e]?)
    let good := found.all (fun p => match p.2.1.elems[e]? with
      | some v => usable s n p.2.1 p.2.2 v
      | none => false)
    let u : Int := ((instant * rate : Nat) : Int) - ((need.getD 1 0) * secUnits : Nat)
    let v := scaled s c (svValue (els.map SvElem.val) u secUnits)
    putSample (setChan s c { ch with held := 0, had := true }) c v false
      (qualWord (if good && !stale then 0 else 2) 0 0 s.timeq)
  else
    let held := ch.held + 1
    let ok := ch.had && decide (held ≤ s.rd (Reg.ACQ_SV_CFG_HOLD n)) && !stale
    putSample (setChan s c { ch with held := held }) c (s.reg (Reg.ACQ_LAST_VALUE c).key) false
      (qualWord (if ok then 1 else 2) 0 0 s.timeq)

/-- Whether a channel delivers samples: its entry names enabled inputs or an enabled stream (R253). -/
def channelOn (s : State) (c : Nat) : Bool :=
  match s.rd (Reg.ACQ_CHAN_CFG_SRC c) with
  | 1 => inputOn s (s.rd (Reg.ACQ_CHAN_CFG_SEL_A c))
  | 2 => inputOn s (s.rd (Reg.ACQ_CHAN_CFG_SEL_A c)) && inputOn s (s.rd (Reg.ACQ_CHAN_CFG_SEL_B c))
  | 3 => s.bit (Reg.ACQ_SV_CFG_EN (s.rd (Reg.ACQ_CHAN_CFG_SEL_A c)))
  | _ => false

/-- The sample of an enabled channel, one for each tick while acquisition runs (R252). -/
def releaseChannel (s : State) (c : Nat) (x : Sample) : State :=
  let ch := chanOf s c
  if !channelOn s c || (s.rd Reg.ACQ_STATUS_STATE != 0 && ch.given == some (inputTick s)) then s
  else
    let s := setChan s c { ch with given := some (inputTick s) }
    match s.rd (Reg.ACQ_CHAN_CFG_SRC c) with
    | 1 => releaseSingle s c x
    | 2 => releasePair s c x
    | _ => releaseStream s c

/-- SAMPLE_RELEASE: the inputs' bits reach their detectors, and an enabled channel's sample is written to main SRAM with its quality
(R247, R250–R263, R268–R270, R281, R282). (DEDUCED, log 21) -/
def execSampleRelease (c : Fin 256) (x : Sample) (s : State) : Out :=
  .next (if !domainUp s 3 then s else releaseChannel (x.runs.foldl takeRun s) c x)

/-- SV_LOST: HOLD + 1 consecutive missing instants, or as many unusable elements in every channel (R287). -/
def execSvLost (stream : Fin 64) (unusable : Bool) (s : State) : Out :=
  let x := streamOf s stream
  let run := if unusable then x.badRun else x.missRun
  if domainUp s 3 && s.bit (Reg.ACQ_SV_CFG_EN stream) && s.rd (Reg.ACQ_SV_STATUS_STATE stream) == 1 &&
      decide (s.rd (Reg.ACQ_SV_CFG_HOLD stream) + 1 ≤ run) then
    .next (raise (s.wr (Reg.ACQ_SV_STATUS_STATE stream) 2) Blk.acq 0x0105 .warn
      (stream.val + 2 ^ 8 * (if unusable then 2 else 1)))
  else .next s

/-- SV_RESTORED: 8 consecutive on-time usable instants make the stream OK; the event tells of a stream that was LOST (R287). -/
def execSvRestored (stream : Fin 64) (s : State) : Out :=
  let st := s.rd (Reg.ACQ_SV_STATUS_STATE stream)
  if domainUp s 3 && s.bit (Reg.ACQ_SV_CFG_EN stream) && st != 1 && decide (8 ≤ (streamOf s stream).goodRun) then
    let s := s.wr (Reg.ACQ_SV_STATUS_STATE stream) 1
    .next (if st = 2 then raise s Blk.acq 0x0106 .info stream else s)
  else .next s

end Sys2Proof.Machine
end

