-- ==== Sys2Proof/Machine/Host.lean ====
section
/-! DEFINITION. What the device does in host memory: writes and their dirty-page log, MSI-X messages, and the event ring of an
instance ("Host interface and tenants"). -/

namespace Sys2Proof.Machine

/-! ### Writes and the dirty-page log (R548–R551) -/

/-- The phase bit of a ring entry: 1 in the first pass, inverted on each wrap (R527). -/
def phaseBit (index size : Nat) : Nat := 1 - index / size % 2

/-- Log one page of a write of instance `t` (R548, R549, R551). -/
def logPage (s : State) (t page : Nat) : State :=
  if !s.bit (Reg.HIF_DLOG_DCFG_EN t) || s.bit (Reg.HIF_DLOG_DCFG_OVERFLOW t) then s
  else
    let seen := Tab.get [] s.hif.pages t
    if seen.contains page && decide (seen.length ≤ 4096) then s
    else
      let size := 2 ^ s.rd (Reg.HIF_DLOG_DCFG_SZ t)
      let ix := s.rd (Reg.HIF_DLOG_DTAIL_INDEX t)
      let nx := (ix + 1) % size
      if nx = s.rd (Reg.HIF_DLOG_DHEAD_INDEX t) then
        raise (s.wr (Reg.HIF_DLOG_DCFG_OVERFLOW t) 1) Blk.hif 0x0105 .warn t
      else
        let wraps := Tab.get 0 s.hif.logWraps t
        let base := s.rd64 (Reg.HIF_DLOG_BASE_LO t) (Reg.HIF_DLOG_BASE_HI t)
        let s := emit s (.hostWrite 0 (base + 8 * ix) (toLe 8 (page * 4096 + (1 - wraps % 2))))
        let s := s.wr (Reg.HIF_DLOG_DTAIL_INDEX t) nx
        { s with hif := { s.hif with
            pages := Tab.put [] s.hif.pages t (if seen.contains page then seen else page :: seen)
            logWraps := Tab.put 0 s.hif.logWraps t (if nx = 0 then wraps + 1 else wraps) } }

/-- A write to host memory on behalf of instance `t`, with its dirty-log entries (R548). (DEDUCED, log 30) -/
def hostWrite (s : State) (t addr : Nat) (data : List Byte) : State :=
  if data.isEmpty then s
  else
    let lo := addr / 4096
    let hi := (addr + data.length - 1) / 4096
    ((List.range (hi - lo + 1)).map (fun i => lo + i)).foldl (fun s p => logPage s t p) (emit s (.hostWrite t addr data))

/-! ### Messages (R531, R532) -/

/-- Set a bit of the MSI-X pending bit array. -/
def setPba (s : State) (t vec : Nat) : State :=
  let f := Reg.MSIX_PBA t (vec / 32)
  s.wr f (setBitAt (s.rd f) (vec % 32) true)

/-- Whether instance `t` is being quiesced or is quiesced (R541). -/
def quiesced (s : State) (t : Nat) : Bool := s.bit (Reg.HIF_TEN_CTRL_QUIESCE t)

/-- An MSI-X message of an instance: a message at or above the limit is not sent and counted (R532); a masked one, and one of a
quiesced instance (R541), sets its pending bit. (DEDUCED, log 30) -/
def msix (s : State) (t vec : Nat) : State :=
  if s.rd (Reg.HIF_TEN_VEC_LIMIT t) ≤ vec then s.inc (Reg.TW_IRQ_DROP t)
  else if quiesced s t || bitAt (s.rd (Reg.MSIX_TABLE t vec 3)) 0 then setPba s t vec
  else emit s (.msix t vec)

/-! ### The event ring (R533, R534) -/

/-- The bytes of an event ring entry (Table 11.8). -/
def eventBytes (s : State) (e : Event) (seq phase : Nat) : List Byte :=
  toLe 8 s.taiNs ++ toLe 2 e.block.toNat ++ toLe 2 e.code.toNat ++ toLe 1 (sevCode e.sev) ++ toLe 1 0 ++
    toLe 2 (seq % 65536) ++ toLe 8 e.payload.toNat ++ toLe 7 0 ++ toLe 1 phase

/-- Write an event into the ring of instance `t`, or count it (R533, R538). (DEDUCED, log 30) -/
def putEvent (s : State) (t : Nat) (e : Event) : State :=
  if !s.bit (Reg.EVQ_CFG_EN t) then s
  else if s.hif.stalled then s.inc Reg.HIF_STALL_DROP
  else
    let size := 2 ^ (s.rd (Reg.EVQ_CFG_SZ_M6 t) + 6)
    let ix := Tab.get 0 s.hif.evq t
    if size ≤ (ix + 2 ^ 32 - s.rd (Reg.EVQ_HEAD t)) % 2 ^ 32 then s.inc (Reg.EVQ_LOST t)
    else
      let base := s.rd64 (Reg.EVQ_BASE_LO t) (Reg.EVQ_BASE_HI t)
      let s := hostWrite s t (base + 32 * (ix % size)) (eventBytes s e ix (phaseBit ix size))
      msix { s with hif := { s.hif with evq := Tab.put 0 s.hif.evq t ((ix + 1) % 2 ^ 32) } } t (s.rd (Reg.EVQ_CFG_VEC t))

/-- A tenant event of instance `t` (R534); events of a quiesced instance are kept, 64 at most (R541, R542). -/
def tenantEvent (s : State) (t block code : Nat) (sev : Sev) (payload : Nat) : State :=
  let e := mkEvent block code sev payload
  if quiesced s t then
    let k := Tab.get [] s.hif.kept t
    if k.length < 64 then { s with hif := { s.hif with kept := Tab.put [] s.hif.kept t (k ++ [e]) } }
    else s.inc (Reg.EVQ_LOST t)
  else putEvent s t e

/-- A tenant event limited to one for each subject in each TAI second. -/
def tenantLimited (s : State) (t block code : Nat) (sev : Sev) (subject payload : Nat) : State :=
  if limitOpen s block code subject then
    tenantEvent { s with limits := Tab.put 0 s.limits (limitKey block code subject) (s.taiSec + 1) } t block code sev payload
  else s

/-- The identity of instance `t` (Table 00.4). -/
def identOf (t : Nat) : Ident := BitVec.ofNat 10 (t + 1)

/-- The instance of an identity: the PF is 0. -/
def instanceOf (i : Ident) : Option Nat := if 1 ≤ i.toNat ∧ i.toNat ≤ 128 then some (i.toNat - 1) else none

/-- A write of instance `t` in its window, of a register whose effect lies in domain `pd`: dropped with ISO_ERR during an FLR
(R546) and while PD13 or the domain is down, and with ACC_SIZE when a byte enable is missing. -/
def windowWrite (s : State) (t : Nat) (be : BitVec 4) (off pd : Nat) (k : State → State) : State :=
  if !domainUp s 13 || s.bit (Reg.HIF_TEN_STATUS_FLR_ACTIVE t) then isoErr s Blk.hif (identOf t) off 13
  else if !domainUp s pd then isoErr s Blk.hif (identOf t) off pd
  else if be ≠ 15 then accSize s Blk.hif (identOf t) off
  else k s

end Sys2Proof.Machine
end

