-- ==== Sys2Proof/Machine/Slo.lean ====
section
/-! DEFINITION. The Silo: cells, accounts, the protection reserve, chains and hold handles ("Packet engine, Silo and redundancy"). -/

namespace Sys2Proof.Machine

/-- Cells of the Silo (R442). -/
abbrev siloCells : Nat := 131072

/-- Cells of a frame or record fragment of `n` bytes (R442). -/
def cellsOf (n : Nat) : Nat := ceilDiv n 256

/-! ### Admission (R444–R447) -/

/-- All unused guaranteed shares (R445). -/
def unusedGuar (s : State) : Nat :=
  ((List.range 139).map (fun a => s.rd (Reg.SLO_ACCT_GUAR_CELLS a) - s.rd (Reg.SLO_ACCT_USED_CELLS a))).sum

/-- Free cells of the protection reserve (R446). -/
def reserveLeft (s : State) : Nat := s.rd Reg.SLO_PROT_RSV_CELLS - s.rd Reg.SLO_PROT_USED_CELLS

/-- Whether a request of an account for one cell succeeds (R445). -/
def cellFor (s : State) (a : Nat) : Bool :=
  let used := s.rd (Reg.SLO_ACCT_USED_CELLS a)
  let free := s.rd Reg.SLO_STATUS_FREE
  decide (0 < free) && (decide (used < s.rd (Reg.SLO_ACCT_GUAR_CELLS a)) ||
    (decide (used < s.rd (Reg.SLO_ACCT_MAX_CELLS a)) && decide (unusedGuar s + reserveLeft s < free)))

/-- Whether a cell is in use, or retired. -/
def cellBusy (s : State) (c : Nat) : Bool :=
  s.slo.retired.contains c || s.slo.chains.any (fun ch => ch.cells.contains c)

/-- The first cell from `c` on that is free and not in `taken`. -/
def firstFree (s : State) (taken : List Nat) : Nat → Nat → Nat
  | 0, c => c
  | n + 1, c => if cellBusy s c || taken.contains c then firstFree s taken n ((c + 1) % siloCells) else c

/-- The free cell that the Silo gives; the spec does not say which, so the search starts at a free value. (DEDUCED, log 27) -/
def pickCell (s : State) (taken : List Nat) : Nat :=
  firstFree s taken (s.slo.retired.length + (s.slo.chains.map (fun c => c.cells.length)).sum + taken.length + 1)
    (s.free.toNat % siloCells)

/-- Charge one cell to an account, from the protection reserve or not. -/
def chargeCell (s : State) (a : Nat) (fromReserve : Bool) : State :=
  let s := (s.wr (Reg.SLO_ACCT_USED_CELLS a) (s.rd (Reg.SLO_ACCT_USED_CELLS a) + 1)).sub Reg.SLO_STATUS_FREE 1
  if fromReserve then s.wr Reg.SLO_PROT_USED_CELLS (s.rd Reg.SLO_PROT_USED_CELLS + 1) else s

/-- Take `n` cells for an account: those of a protection class come from the reserve while it has free cells (R446). Answers the
cells, last taken first, how many came from the reserve, and whether no request was refused. -/
def takeCells (a : Nat) (prot : Bool) : Nat → State → List Nat → Nat → State × List Nat × Nat × Bool
  | 0, s, cells, p => (s, cells, p, true)
  | n + 1, s, cells, p =>
    let res := prot && decide (0 < reserveLeft s) && decide (0 < s.rd Reg.SLO_STATUS_FREE)
    if res || cellFor s a then
      takeCells a prot n (chargeCell s.used a res) (pickCell s cells :: cells) (p + res.toNat)
    else (s, cells, p, false)

/-- The generation of a cell (R448). -/
def cellGen (s : State) (c : Nat) : Nat := Tab.get 0 s.slo.gen c

/-- Free cells of an account: the generation of each advances (R448). -/
def freeCells (s : State) (a prot : Nat) (cells : List Nat) : State :=
  let s := ((s.sub (Reg.SLO_ACCT_USED_CELLS a) cells.length).sub Reg.SLO_PROT_USED_CELLS prot).add Reg.SLO_STATUS_FREE cells.length
  { s with slo := { s.slo with
      gen := cells.foldl (fun g c => Tab.put 0 g c ((Tab.get 0 g c + 1) % 256)) s.slo.gen } }

/-- Count a refused request (R447, R457). -/
def refuseCells (s : State) (a : Nat) (prot : Bool) : State :=
  overload (s.inc (Reg.SLO_ACCT_DROP a)) Blk.slo (if prot then 2 * 65536 else 65536 + a)

/-- A chain for `n` bytes, or a counted refusal (R445–R447). -/
def newChain (s : State) (a : Nat) (prot : Bool) (n : Nat) (f : Option Frame) : State × Option Nat :=
  let (s, cells, p, ok) := takeCells a prot (cellsOf n) s [] 0
  if ok then
    let ch : Chain := { id := s.slo.nextId, cells := cells, acct := a, prot := p, frame := f }
    ({ s with slo := { s.slo with chains := ch :: s.slo.chains, nextId := s.slo.nextId + 1 } }, some ch.id)
  else (refuseCells (freeCells s a p cells) a prot, none)

/-- The chain with an ID. -/
def chainOf (s : State) (id : Nat) : Option Chain := s.slo.chains.find? (fun c => c.id == id)

/-- Replace a chain. -/
def setChain (s : State) (c : Chain) : State :=
  { s with slo := { s.slo with chains := s.slo.chains.map (fun x => if x.id == c.id then c else x) } }

/-- Free a chain. -/
def freeChain (s : State) (c : Chain) : State :=
  let s := { s with slo := { s.slo with chains := s.slo.chains.filter (fun x => x.id != c.id) } }
  let s := freeCells s c.acct c.prot c.cells
  match c.holder with
  | some t => s.sub (Reg.SLO_TEN_HELD_CELLS t) c.cells.length
  | none => s

/-- One more queue holds a chain. -/
def addRef (s : State) (id : Nat) : State :=
  match chainOf s id with
  | some c => setChain s { c with refs := c.refs + 1 }
  | none => s

/-- One queue less holds a chain: the last one frees it, unless an instance holds it. -/
def dropRef (s : State) (id : Nat) : State :=
  match chainOf s id with
  | none => s
  | some c =>
    if c.refs ≤ 1 ∧ c.holder.isNone then freeChain s c else setChain s { c with refs := c.refs - 1 }

/-- A transmission that names a held chain ends: the chain is freed when a release or the transmission itself asked for it
(R450, R517). -/
def endUse (s : State) (id : Nat) : State :=
  match chainOf s id with
  | none => s
  | some c => if c.busy ≤ 1 ∧ c.dying then freeChain s c else setChain s { c with busy := c.busy - 1 }

/-! ### Hold handles (R448–R453) -/

/-- The handle of a chain for an instance (R448). -/
def handleOf (s : State) (t : Nat) (c : Chain) : Nat :=
  let head := c.cells.headD 0
  t * 2 ^ 25 + cellGen s head * 2 ^ 17 + head

/-- The checks of R450: the chain, or the reason of the failure (1 OWNER, 2 GENERATION). A chain that a release has already
let go fails at the generation (Table 11.12). -/
def checkHandle (s : State) (t : Nat) (h : Word) : Nat ⊕ Chain :=
  let owner := fieldOf h 25 7
  let gen := fieldOf h 17 8
  let head := fieldOf h 0 17
  if owner ≠ t then .inl 1
  else if cellGen s head ≠ gen then .inl 2
  else match s.slo.chains.find? (fun c => c.cells.headD siloCells == head && c.holder == some t) with
    | none => .inl 1
    | some c => if c.dying then .inl 2 else .inr c

/-- A failed release is counted and told to the writing instance only (R451). -/
def rejectRelease (s : State) (t : Nat) (h : Word) (reason : Nat) : State :=
  tenantEvent (s.inc (Reg.SLO_TEN_REL_REJ t)) t Blk.slo 0x0110 .info (h.toNat + 2 ^ 32 * reason)

/-- Free a held chain, or let a transmission that names it do so at its end (R450). -/
def letGo (s : State) (c : Chain) : State := if 0 < c.busy then setChain s { c with dying := true } else freeChain s c

/-- Move the cells of a chain to an instance's account and hold it, if the account can take them (R449). -/
def holdChain (s : State) (t : Nat) (c : Chain) : Option State :=
  let s0 := ((s.sub (Reg.SLO_ACCT_USED_CELLS c.acct) c.cells.length).sub Reg.SLO_PROT_USED_CELLS c.prot).add
    Reg.SLO_STATUS_FREE c.cells.length
  let s1 := c.cells.foldl (fun (r : Option State) _ => r.bind (fun s => if cellFor s t then some (chargeCell s t false) else none))
    (some s0)
  s1.map (fun s => (setChain s { c with acct := t, prot := 0, holder := some t, since := s.taiNs }).add
    (Reg.SLO_TEN_HELD_CELLS t) c.cells.length)

/-- Every chain that an instance holds is freed; the cells are counted and told (R453). -/
def reclaim (s : State) (t : Nat) : State :=
  let cs := s.slo.chains.filter (fun c => c.holder == some t)
  let n := (cs.map (fun c => c.cells.length)).sum
  if n = 0 then s
  else raise ((cs.foldl freeChain s).add Reg.SLO_HOLD_RECLAIMED n) Blk.slo 0x0102 .info (t + 2 ^ 32 * n)

/-! ### Commands -/

/-- HANDLE_RELEASE: a handle written to a RELEASE doorbell (R450, R451). -/
def execHandleRelease (t : Fin 128) (be : BitVec 4) (v : Word) (s : State) : Out :=
  .next (windowWrite s t be 0x10 12 (fun s =>
    match checkHandle s t v with
    | .inl r => rejectRelease s t v r
    | .inr c => letGo (s.inc (Reg.SLO_TEN_REL_OK t)) c))

/-- HOLD_AGED: a chain held for SLO_HOLD_AGE ms is freed, counted and told to its holder (R452). -/
def execHoldAged (cell : Fin 131072) (s : State) : Out :=
  let age := s.rd Reg.SLO_HOLD_AGE_MS
  .next (match s.slo.chains.find? (fun c => c.cells.headD siloCells == cell.val && c.holder.isSome && !c.dying) with
    | none => s
    | some c =>
      let t := c.holder.getD 0
      if age = 0 ∨ s.taiNs < c.since + age * 1000000 then s
      else
        let h := handleOf s t c
        tenantEvent ((letGo s c).inc (Reg.SLO_TEN_AGED t)) t Blk.slo 0x0111 .info h)


/-- A reset of PD12: every cell is free with generation 0 and nothing is held (R463, R464). -/
def siloReset (s : State) : State :=
  { s with slo := {}, pkt := { s.pkt with queue := [] }, hif := { s.hif with wait := [] },
           mpr := { s.mpr with waiting := [], record := none } }

end Sys2Proof.Machine
end

