-- ==== Sys2Proof/Machine/Cry.lean ====
section
/-! DEFINITION. The key vault, MACsec, ESP and the authentication of GOOSE and SV ("Tunnels, cryptography and record shipping"). -/

namespace Sys2Proof.Machine

/-! ### The vault (R479–R484, R507) -/

/-- The metadata of a key slot. -/
def keyLoaded (s : State) (k : Nat) : Bool := s.bit (Reg.CRY_KEY_META_LOADED (k / 8192) (k % 8192))

/-- The key type of a slot. -/
def keyType (s : State) (k : Nat) : Nat := s.rd (Reg.CRY_KEY_META_TYPE (k / 8192) (k % 8192))

/-- The identity that loaded a slot. -/
def keyLoader (s : State) (k : Nat) : Nat := s.rd (Reg.CRY_KEY_META_LOADER (k / 8192) (k % 8192))

/-- Whether a slot holds a key of one of these types (R484). -/
def keyOk (s : State) (k : Nat) (types : List Nat) : Bool := keyLoaded s k && types.contains (keyType s k)

/-- The key bytes of a slot. -/
def keyBytes (s : State) (k : Nat) : List Byte := Tab.get [] s.cry.key k

/-- Word `w` of a security association. -/
def saWord (s : State) (i w : Nat) : Word := Tab.get 0 s.cry.sa (i * 12 + w)

/-- Set word `w` of a security association. -/
def setSa (s : State) (i w : Nat) (v : Word) : State :=
  { s with cry := { s.cry with sa := Tab.put 0 s.cry.sa (i * 12 + w) v } }

/-- Whether a security association is enabled. -/
def saOn (s : State) (i : Nat) : Bool := bitAt (saWord s i 0).toNat 31

/-- The numbers of the associations that are not all zero in word 0. -/
def saList (s : State) : List Nat := ((s.cry.sa.map Prod.fst).filter (fun k => k % 12 == 0)).map (fun k => k / 12)

/-- Whether an enabled SA or entry uses a slot (R481). -/
def keyUsed (s : State) (k : Nat) : Bool :=
  ((saList s).any (fun i => saOn s i && fieldOf (saWord s i 0) 0 14 == k)) ||
  ((List.range 6).any (fun p => (List.range 4).any (fun an =>
    s.bit (Reg.CRY_MS_TX_SA_KEY_EN p an) && s.rd (Reg.CRY_MS_TX_SA_KEY_SLOT p an) == k))) ||
  ((List.range 96).any (fun c => (List.range 4).any (fun an =>
    s.bit (Reg.CRY_MS_RX_SA_KEY_EN c an) && s.rd (Reg.CRY_MS_RX_SA_KEY_SLOT c an) == k))) ||
  ((List.range 192).any (fun p => s.bit (Reg.CRY_AUTH_TX_CFG_EN p) &&
    (s.rd (Reg.CRY_AUTH_TX_KEYS_KEY0 p) == k || s.rd (Reg.CRY_AUTH_TX_KEYS_KEY1 p) == k))) ||
  ((List.range 192).any (fun p => s.bit (Reg.CRY_AUTH_RX_CFG_EN p) &&
    (s.rd (Reg.CRY_AUTH_RX_KEYS_KEY0 p) == k || s.rd (Reg.CRY_AUTH_RX_KEYS_KEY1 p) == k)))

/-- Whether a number lies in a range of a VF. -/
def inRange (base cnt n : Nat) : Bool := decide (base ≤ n) && decide (n < base + cnt)

/-- Whether an initiator may name a key slot (R481). -/
def mayName (s : State) (i : Ident) (k : Nat) : Bool :=
  i == 0x001 || i == 0x100 || i == 0x101 ||
  match instanceOf i with
  | some t => inRange (s.rd (Reg.CRY_TEN_KEY_BASE t)) (s.rd (Reg.CRY_TEN_KEY_CNT t)) k
  | none => false

/-- The register of an initiator's own copy. -/
def ownReg (i : Ident) (addr : Nat) : Fld := ⟨initKey i addr, 0, 32⟩

/-- The staging buffer of an initiator is cleared after every command and at its reset (R480). -/
def clearStaging (s : State) (i : Ident) : State := (List.range 11).foldl (fun s w => s.wr (ownReg i (0x500010 + 4 * w)) 0) s

/-- Write the result register of an initiator and clear its staging buffer (R480, R483). -/
def keyResult (s : State) (i : Ident) (code kcv : Nat) : State :=
  let s := s.wr (ownReg i 0x500044) (code + 256 * kcv)
  clearStaging s i

/-- The bytes of an initiator's staging buffer: 32 of key and 12 of salt. -/
def staged (s : State) (i : Ident) : List Byte :=
  (List.range 11).flatMap (fun w => toLe 4 (s.rd (ownReg i (0x500010 + 4 * w))))

/-- The code with which a load of a slot fails, 0 when it does not (R481, Table 10.2). -/
def loadCode (s : State) (i : Ident) (slot typ : Nat) : Nat :=
  if !mayName s i slot then 1
  else if keyLoaded s slot && keyLoader s slot != i.toNat then 2
  else if keyUsed s slot then 2
  else if typ < 1 ∨ 3 < typ then 3
  else 0

/-- The metadata word of a slot. -/
def setMeta (s : State) (k loaded typ loader : Nat) : State :=
  s.wr (Reg.CRY_KEY_META (k / 8192) (k % 8192)) (loaded * 2 ^ 31 + typ * 2 ^ 28 + loader * 2 ^ 16)

/-- KEY_LOAD: an OP 1 write of CRY_KEY_CMD (R480, R481, R483). (DEDUCED, log 28) -/
def execKeyLoad (a : Access) (v : Word) (s : State) : Out :=
  .next (withWrite s a 0x500000 Blk.cry 11 0x500040 (fun s =>
    let slot := fieldOf v 0 14
    let typ := fieldOf v 24 4
    let code := loadCode s a.init slot typ
    if code ≠ 0 then keyResult s a.init code 0
    else
      let bytes := staged s a.init
      let s := if keyLoaded s slot then s else s.inc Reg.CRY_STATUS_LOADED
      let s := setMeta s slot 1 typ a.init.toNat
      let s := { s with cry := { s.cry with key := Tab.put [] s.cry.key slot bytes } }
      keyResult s a.init 0 (Config.keyCheck typ bytes).toNat))

/-- Erase a slot. -/
def eraseKey (s : State) (k : Nat) : State :=
  if keyLoaded s k then
    let s := (setMeta s k 0 0 0).sub Reg.CRY_STATUS_LOADED 1
    { s with cry := { s.cry with key := Tab.put [] s.cry.key k [] } }
  else s

/-- KEY_ZEROISE: an OP 2 write of CRY_KEY_CMD (R482). -/
def execKeyZeroise (a : Access) (v : Word) (s : State) : Out :=
  .next (withWrite s a 0x500000 Blk.cry 11 0x500040 (fun s =>
    let slot := fieldOf v 0 14
    if !mayName s a.init slot then keyResult s a.init 1 0
    else if keyLoaded s slot && keyLoader s slot != a.init.toNat then keyResult s a.init 2 0
    else keyResult (eraseKey s slot) a.init 0 0))

/-! ### The SA window (R490) -/

/-- Whether an initiator reaches an SA. -/
def mayReach (s : State) (i : Ident) (sa : Nat) : Bool :=
  match instanceOf i with
  | some 0 => true
  | some t => inRange (s.rd (Reg.CRY_TEN_SA_BASE t)) (s.rd (Reg.CRY_TEN_SA_CNT t)) sa
  | none => true

/-- The SA that an initiator has selected. -/
def selectedSa (s : State) (i : Ident) : Nat := s.rd (ownReg i 0x500050) % 16384

/-- SA_READ: CMD 1 of CRY_SA_CMD reads the selected SA into the initiator's window. -/
def execSaRead (a : Access) (s : State) : Out :=
  .next (withWrite s a 0x500000 Blk.cry 11 0x500054 (fun s =>
    let i := selectedSa s a.init
    if mayReach s a.init i then
      (List.range 12).foldl (fun s w => s.wr (ownReg a.init (0x500080 + 4 * w)) (saWord s i w).toNat) s
    else s.wr ⟨initKey a.init 0x500044, 0, 4⟩ 1))

/-- Forget the usage of an SA: its counters, replay window and lifetime. -/
def freshSa (s : State) (i : Nat) : State :=
  let s := [6, 8, 9, 10, 11].foldl (fun s w => setSa s i w 0) s
  { s with cry := { s.cry with bytes := Tab.put 0 s.cry.bytes i 0, replay := Tab.put (0, []) s.cry.replay i (0, []),
                               soft := s.cry.soft.filter (fun x => x != i) } }

/-- SA_WRITE: CMD 2 of CRY_SA_CMD writes the window into the selected SA; the read-only words keep their values. A write that
enables an SA starts its usage anew. -/
def execSaWrite (a : Access) (s : State) : Out :=
  .next (withWrite s a 0x500000 Blk.cry 11 0x500054 (fun s =>
    let i := selectedSa s a.init
    let w0 := s.reg (initKey a.init 0x500080)
    let keyFine := match instanceOf a.init with
      | some 0 => true
      | some t => inRange (s.rd (Reg.CRY_TEN_KEY_BASE t)) (s.rd (Reg.CRY_TEN_KEY_CNT t)) (fieldOf w0 0 14)
      | none => true
    if mayReach s a.init i && keyFine then
      let s := if !saOn s i && bitAt w0.toNat 31 then freshSa s i else s
      [0, 1, 2, 3, 4, 5, 7].foldl (fun s w => setSa s i w (s.reg (initKey a.init (0x500080 + 4 * w)))) s
    else s.wr ⟨initKey a.init 0x500044, 0, 4⟩ 1))

/-! ### MACsec (R485–R488) -/

/-- The key types that a cipher suite accepts (R484). -/
def suiteTypes (suite : Nat) : List Nat := if suite % 2 = 0 then [1] else [2]

/-- Whether a suite uses extended packet numbers. -/
def isXpn (suite : Nat) : Bool := decide (2 ≤ suite)

/-- MACsec counters of a port: PROTECTED, ENCRYPTED, TX_PN_EXH, RX_OK, RX_INVALID, RX_NOTVALID, RX_LATE, RX_NOSA. -/
def msCount (s : State) (p k : Nat) : State := s.inc (Reg.CRY_MS_CNT p k)

/-- The next PN of a transmit SA; a packet number is never 0. -/
def txPn (s : State) (p an : Nat) : Nat :=
  max 1 (s.rd64 (Reg.CRY_MS_TX_SA_PN_LO p an) (Reg.CRY_MS_TX_SA_PN_HI p an))

/-- Protect a frame that starts on port `p` (R486, R487): the AN and PN of its SecTAG, or none when the frame is dropped. -/
def msProtect (s : State) (p : Nat) : State × Option (Nat × Nat) :=
  let an := s.rd (Reg.CRY_MS_TX_AN_AN p)
  let suite := s.rd (Reg.CRY_MS_PCFG_SUITE p)
  let slot := s.rd (Reg.CRY_MS_TX_SA_KEY_SLOT p an)
  let sa := p * 4 + an
  if !s.bit (Reg.CRY_MS_TX_SA_KEY_EN p an) || !keyOk s slot (suiteTypes suite) then (s.inc Reg.CRY_NOKEY, none)
  else
    let pn := txPn s p an
    let last := if isXpn suite then 2 ^ 64 - 1 else 2 ^ 32
    let thr := if isXpn suite then 0xC000000000000000 else 0xC0000000
    let payload := p + 2 ^ 8 * an
    if last ≤ pn then
      let s := msCount s p 2
      if s.cry.warned.contains (64 + sa) then (s, none)
      else (raise { s with cry := { s.cry with warned := (64 + sa) :: s.cry.warned } } Blk.cry 0x0102 .warn payload, none)
    else
      let s := s.wr64 (Reg.CRY_MS_TX_SA_PN_LO p an) (Reg.CRY_MS_TX_SA_PN_HI p an) (pn + 1)
      let s := msCount s p (if s.rd (Reg.CRY_MS_PCFG_CONF_OFS p) = 3 then 0 else 1)
      let s := if thr < pn + 1 then
          if s.cry.warned.contains sa then s
          else raise { s with cry := { s.cry with warned := sa :: s.cry.warned } } Blk.cry 0x0101 .info payload
        else { s with cry := { s.cry with warned := s.cry.warned.filter (fun x => x != sa && x != 64 + sa) } }
      (s, some (an, pn))

/-- The receive SC of a port with an SCI. -/
def rxSc (s : State) (p : Nat) (sci : Nat) : Option Nat :=
  ((List.range 16).map (fun c => p * 16 + c)).find? (fun c =>
    s.rd64 (Reg.CRY_MS_RX_SCI_LO c) (Reg.CRY_MS_RX_SCI_HI c) == sci &&
    (List.range 4).any (fun an => s.bit (Reg.CRY_MS_RX_SA_KEY_EN c an)))

/-- Check a frame received on a port with MACsec (R488): the state, and whether the frame goes on. (DEDUCED, log 28) -/
def msReceive (s : State) (p : Nat) (f : Frame) : State × Bool :=
  let val := s.rd (Reg.CRY_MS_PCFG_VALIDATE p)
  if !s.bit (Reg.CRY_MS_PCFG_EN p) then (s, true)
  else match f.sec with
  | none => if f.inner.etype = 0x888E then (s, true)
            else if val = 2 then (msCount s p 7, false)
            else if val = 1 then (msCount s p 7, true) else (s, true)
  | some tag =>
    if val = 0 then (msCount s p 3, true)
    else match rxSc s p tag.sci.toNat with
    | none => (msCount s p 7, val == 1)
    | some c =>
      let an := tag.an.val
      let slot := s.rd (Reg.CRY_MS_RX_SA_KEY_SLOT c an)
      let suite := s.rd (Reg.CRY_MS_PCFG_SUITE p)
      if !s.bit (Reg.CRY_MS_RX_SA_KEY_EN c an) then (msCount s p 7, val == 1)
      else if !keyOk s slot (suiteTypes suite) then (s.inc Reg.CRY_NOKEY, false)
      else if tag.icv ≠ Config.authTag (keyBytes s slot) (16 + suite) f.inner.data then
        if val = 2 then (msCount s p 5, false) else (msCount s p 4, true)
      else
        let next := s.rd64 (Reg.CRY_MS_RX_SA_PN_LO c an) (Reg.CRY_MS_RX_SA_PN_HI c an)
        if tag.pn + s.rd (Reg.CRY_MS_RX_WINDOW c) < next then (msCount s p 6, val == 1)
        else
          let s := if next ≤ tag.pn then
              s.wr64 (Reg.CRY_MS_RX_SA_PN_LO c an) (Reg.CRY_MS_RX_SA_PN_HI c an) (tag.pn + 1) else s
          (msCount s p 3, true)

/-! ### ESP (R489–R494) -/

/-- Packets that the ESP engine holds. -/
def espHeld (c : Cry) : Nat := (c.espQ.map (fun p => p.2.length)).sum

/-- The source that is served next: round-robin from the one whose turn it is (R494). -/
def espNext (c : Cry) : Option Nat :=
  ((List.range 8).map (fun i => (c.espTurn + i) % 8)).find? (fun n => !(Tab.get [] c.espQ n).isEmpty)

/-- Serve packets while the time since the last one suffices (R494). (DESIGN CHOICE, log 58) -/
def espServe : Nat → Cry → Cry
  | 0, c => { c with espCredit := 0 }
  | n + 1, c =>
    match espNext c with
    | none => { c with espCredit := 0 }
    | some src => match Tab.get [] c.espQ src with
      | len :: rest =>
        if c.espCredit < 32768 * len then c
        else espServe n { c with espCredit := c.espCredit - 32768 * len, espQ := Tab.put [] c.espQ src rest, espTurn := (src + 1) % 8 }
      | [] => c

/-- A packet comes to the ESP engine at an instant (R494): 80 Gb/s, which is a byte in 0.1 ns, serve the sources before; whether its queue of
64 takes it. Sources 0–5 are the ports, 6 is HOST. (DESIGN CHOICE, log 58) -/
def espAdmit (s : State) (src at_ len : Nat) : State × Bool :=
  if !domainUp s 11 then (s, false)
  else
    let c := { s.cry with espCredit := s.cry.espCredit + 5 * (at_ - s.cry.espAt), espAt := max at_ s.cry.espAt }
    let c := espServe (espHeld c + 1) c
    let q := Tab.get [] c.espQ src
    if 64 ≤ q.length then (overload (({ s with cry := c }).inc Reg.CRY_ESP_DROP) Blk.cry (65536 + src), false)
    else ({ s with cry := { c with espQ := Tab.put [] c.espQ src (q ++ [len]) } }, true)

/-- The next value of a counter of an SA, which saturates. -/
def saInc (w : Word) : Word := if w = BitVec.allOnes 32 then w else w + 1

/-- Count protected bytes of an SA: the usage in MiB, and the soft and the hard lifetime (R493). -/
def espUse (s : State) (i n : Nat) : State :=
  let b := Tab.get 0 s.cry.bytes i + n
  let s := setSa { s with cry := { s.cry with bytes := Tab.put 0 s.cry.bytes i b } } i 6 (BitVec.ofNat 32 (b / 2 ^ 20))
  let n := min ((saWord s i 8).toNat + 2 ^ 32 * (saWord s i 9).toNat + 1) (2 ^ 64 - 1)
  let s := setSa (setSa s i 8 (BitVec.ofNat 32 n)) i 9 (BitVec.ofNat 32 (n / 2 ^ 32))
  let s := if (saWord s i 4).toNat ≤ b / 2 ^ 20 ∧ ¬ s.cry.soft.contains i then
      raise { s with cry := { s.cry with soft := i :: s.cry.soft } } Blk.cry 0x0103 .info i
    else s
  if (saWord s i 5).toNat ≤ b / 2 ^ 20 then
    raise (setSa s i 0 (saWord s i 0 &&& 0x7FFFFFFF)) Blk.cry 0x0104 .warn i
  else s

/-- Apply an outbound SA to a packet (R491, R493): whether it is sent. -/
def espOut (s : State) (i n : Nat) : State × Bool :=
  let w0 := (saWord s i 0).toNat
  let seq := (saWord s i 2).toNat + 2 ^ 32 * (saWord s i 3).toNat
  if !bitAt w0 31 || bitAt w0 30 then (s, false)
  else if !keyOk s (bitsAt w0 0 14) [2] then (s.inc Reg.CRY_NOKEY, false)
  else if !bitAt w0 28 && decide (0xFFFFFFFF ≤ seq) then (s, false)
  else
    let s := setSa (setSa s i 2 (BitVec.ofNat 32 (seq + 1))) i 3 (BitVec.ofNat 32 ((seq + 1) / 2 ^ 32))
    (espUse s i n, true)

/-- An ICV or replay failure of an SA (R493): counted, and raised at most once per second for the SA. -/
def espFail (s : State) (i reason : Nat) : State :=
  let s := setSa s i (if reason = 1 then 10 else 11) (saInc (saWord s i (if reason = 1 then 10 else 11)))
  raiseLimited s Blk.cry 0x0105 .warn i (i + 2 ^ 16 * reason)

/-- The inbound SA of a packet (R491). -/
def espSa (s : State) (spi : Word) (loc : Nat) : Option Nat :=
  (saList s).find? (fun i => saOn s i && bitAt (saWord s i 0).toNat 30 && saWord s i 1 == spi &&
    fieldOf (saWord s i 7) 16 4 == loc)

/-- Check an inbound ESP packet: the SA through which it is accepted (R491–R493). (DEDUCED, log 28) -/
def espIn (s : State) (e : Esp) (loc : Nat) (data : List Byte) : State × Option Nat :=
  match espSa s e.spi loc with
  | none => (s.inc Reg.CRY_ESP_NOSA, none)
  | some i =>
    let w0 := (saWord s i 0).toNat
    let slot := bitsAt w0 0 14
    if !keyOk s slot [2] then (s.inc Reg.CRY_NOKEY, none)
    else if e.icv ≠ Config.authTag (keyBytes s slot) 32 data then (espFail s i 1, none)
    else
      let (top, seen) := Tab.get (0, []) s.cry.replay i
      let win := 64 * 2 ^ min 4 (bitsAt w0 24 3)
      if seen.contains e.seq || decide (e.seq + win ≤ top) then (espFail s i 2, none)
      else
        let top := max top e.seq
        let seen := (e.seq :: seen).filter (fun x => decide (top < x + win))
        (espUse { s with cry := { s.cry with replay := Tab.put (0, []) s.cry.replay i (top, seen) } } i data.length, some i)

/-! ### IEC 62351-6 authentication (R495–R498) -/

/-- The key types that an algorithm accepts (Table 10.4). -/
def algTypes (alg : Nat) : List Nat := if 1 ≤ alg ∧ alg ≤ 3 then [3] else if alg = 4 ∨ alg = 5 then [1, 2] else []

/-- The key identifier and algorithm with which a publication is sent; `none` when its frame is dropped (R484, R496). -/
def authTx (s : State) (p : Nat) : State × Option (Option (Nat × Nat)) :=
  let alg := s.rd (Reg.CRY_AUTH_TX_CFG_ALG p)
  if !s.bit (Reg.CRY_AUTH_TX_CFG_EN p) || alg == 0 then (s, some none)
  else
    let one := s.bit (Reg.CRY_AUTH_TX_CFG_SEL p)
    let slot := if one then s.rd (Reg.CRY_AUTH_TX_KEYS_KEY1 p) else s.rd (Reg.CRY_AUTH_TX_KEYS_KEY0 p)
    let id := if one then s.rd (Reg.CRY_AUTH_TX_KEY_ID1 p) else s.rd (Reg.CRY_AUTH_TX_KEY_ID0 p)
    if keyOk s slot (algTypes alg) then (s, some (some (id, alg))) else (s.inc Reg.CRY_NOKEY, none)

/-- A frame that fails the check of receive entry `r` (R498). -/
def authFail (s : State) (r reason : Nat) : State :=
  raiseLimited (s.inc (Reg.CRY_AUTH_RX_FAIL r)) Blk.cry 0x0106 .warn r (r + 2 ^ 8 * reason)

/-- Check a frame against receive entry `r`: whether it passes (R497, R498). (DEDUCED, log 28) -/
def authRx (s : State) (r : Nat) (ext : Option AuthExt) (data : List Byte) : State × Bool :=
  if !s.bit (Reg.CRY_AUTH_RX_CFG_EN r) then (s, true)
  else match ext with
  | none => if s.bit (Reg.CRY_AUTH_RX_CFG_REQUIRED r) then (authFail s r 3, false) else (s.inc (Reg.CRY_AUTH_RX_OK r), true)
  | some x =>
    let alg := s.rd (Reg.CRY_AUTH_RX_CFG_ALG r)
    let slot := if x.keyId.toNat = s.rd (Reg.CRY_AUTH_RX_KEY_ID0 r) then some (s.rd (Reg.CRY_AUTH_RX_KEYS_KEY0 r))
      else if x.keyId.toNat = s.rd (Reg.CRY_AUTH_RX_KEY_ID1 r) then some (s.rd (Reg.CRY_AUTH_RX_KEYS_KEY1 r)) else none
    match slot with
    | none => (authFail s r 2, false)
    | some k =>
      if !keyOk s k (algTypes alg) then (s.inc Reg.CRY_NOKEY, false)
      else if x.mac = Config.authTag (keyBytes s k) alg data then (s.inc (Reg.CRY_AUTH_RX_OK r), true)
      else (authFail s r 1, false)

/-- The receive entry of a frame: of its SV subscription, or of its destination MAC and APPID (R497). -/
def authEntry (s : State) (port : Nat) (f : Frame) : Option Nat :=
  match f.appid with
  | none => none
  | some id =>
    let d := f.inner.dst.toNat
    let sub := (List.range 64).find? (fun r => f.sv.isSome && s.bit (Reg.ACQ_SV_CFG_EN r) &&
      s.rd (Reg.ACQ_SV_APPID_APPID r) == id.toNat && s.rd (Reg.ACQ_SV_MAC_LO r) + 2 ^ 32 * s.rd (Reg.ACQ_SV_MAC_HI_MAC r) == d)
    match sub with
    | some r => some r
    | none => if 6 ≤ port then none else
      ((List.range 128).map (fun i => 64 + i)).find? (fun r => s.bit (Reg.CRY_AUTH_RX_CFG_EN r) &&
        s.rd (Reg.CRY_AUTH_RX_MAC_LO r) + 2 ^ 32 * (s.rd (Reg.CRY_AUTH_RX_APPID_MAC r) % 65536) == d &&
        s.rd (Reg.CRY_AUTH_RX_APPID_MAC r) / 65536 == id.toNat)


/-- A reset of an instance erases the slots that it loaded, and clears EN of the SAs in its range (R507). -/
def eraseInstance (s : State) (t : Nat) : State :=
  let s := (((s.cry.key.map Prod.fst).filter (fun k => keyLoader s k == t + 1))).foldl eraseKey s
  let s := ((saList s).filter (fun i => inRange (s.rd (Reg.CRY_TEN_SA_BASE t)) (s.rd (Reg.CRY_TEN_SA_CNT t)) i)).foldl
    (fun s i => setSa s i 0 (saWord s i 0 &&& 0x7FFFFFFF)) s
  clearStaging s (identOf t)

end Sys2Proof.Machine
end

