-- ==== Sys2Proof/Machine/Tun.lean ====
section
/-! DEFINITION. Host-bound queues, steering, and tunnel endpoints: encapsulation and termination ("Host interface and tenants",
"Tunnels, cryptography and record shipping"). -/

namespace Sys2Proof.Machine

/-! ### Host-bound items (R522, R538, R541) -/

/-- The items that wait on a queue. -/
def waiting (s : State) (t q : Nat) : List HostItem := Tab.get [] s.hif.wait (t * 64 + q)

/-- Put a frame on a queue of an instance: dropped and counted while the host is stalled (R538) or the instance is quiesced
(R541). The chain gains a reference when the frame waits. -/
def hostFrame (s : State) (t q chain port tc : Nat) (f : Frame) (ep : Option Nat) : State :=
  if s.hif.stalled then s.inc Reg.HIF_STALL_DROP
  else if quiesced s t then s.inc (Reg.HOST_DROP t q)
  else
    let s := addRef s chain
    { s with hif := { s.hif with
        wait := Tab.put [] s.hif.wait (t * 64 + q) (waiting s t q ++ [HostItem.frame chain f port tc ep]) } }

/-- The bytes of a frame without its FCS, as a host buffer receives them. -/
def innerBytes (x : Inner) : List Byte :=
  (toLe 6 x.dst.toNat).reverse ++ (toLe 6 x.src.toNat).reverse ++
  (match x.tag with
   | some (p, v) => [0x81, 0x00] ++ (toLe 2 (p.val * 8192 + v.val)).reverse
   | none => []) ++ (toLe 2 x.etype.toNat).reverse ++ x.data

/-- The queue that TW_RSS selects for a frame (R522). -/
def rssQueue (s : State) (t : Nat) (f : Frame) : Nat :=
  let mask := s.rd64 (Reg.TW_RSS_LO t) (Reg.TW_RSS_HI t)
  let qs := bitList 64 mask
  if qs.isEmpty then 0
  else
    let bytes := match f.ip with
      | some h =>
        let n := if h.v6 then 16 else 4
        (toLe n h.src.toNat).reverse ++ (toLe n h.dst.toNat).reverse ++
        (match h.ports with
         | some (a, b) => (toLe 2 a.toNat).reverse ++ (toLe 2 b.toNat).reverse
         | none => [])
      | none => (innerBytes f.inner).take 12
    qs.getD (crc32c bytes % qs.length) 0

/-- The MAC of an instance, as a number. -/
def tenMac (s : State) (t : Nat) : Nat := s.rd (Reg.HIF_TEN_MAC_LO t) + 2 ^ 32 * s.rd (Reg.HIF_TEN_MAC_HI_MAC t)

/-- Whether an address is a group address. -/
def isGroup (mac : BitVec 48) : Bool := bitAt mac.toNat 40

/-- The instances that a frame forwarded to HOST goes to (R522). -/
def hostTargets (s : State) (f : Frame) (vid : Nat) : List Nat :=
  (List.range 128).filter (fun t =>
    (if isGroup f.inner.dst then s.bit (Reg.HIF_TEN_CTRL_MCAST t) else tenMac s t == f.inner.dst.toNat) &&
    (s.rd (Reg.HIF_TEN_MAC_HI_VID t) == 0 || s.rd (Reg.HIF_TEN_MAC_HI_VID t) == vid))

/-- A frame that the bridge forwards to HOST (R522). -/
def toHost (s : State) (chain port tc vid : Nat) (f : Frame) : State :=
  match hostTargets s f vid with
  | [] => s.inc Reg.HIF_NO_INST
  | ts => ts.foldl (fun s t => hostFrame s t (rssQueue s t f) chain port tc f none) s

/-! ### Endpoints (R467–R478) -/

/-- Field access of endpoint `e`. -/
abbrev epFld (g : Nat → Nat → Fld) (e : Nat) : Fld := g (e / 2048) (e % 2048)

/-- Whether an entry holds the remote address of the IPv6 endpoint before it, and is no endpoint (R469). -/
def epAddress (s : State) (e : Nat) : Bool := e % 2 == 1 && s.bit (epFld Reg.TUN_EP_CFG_AF (e - 1))

/-- Whether an endpoint is enabled. -/
def epOn (s : State) (e : Nat) : Bool := s.bit (epFld Reg.TUN_EP_CFG_EN e) && !epAddress s e

/-- Whether an endpoint is an IPv6 endpoint at an odd number, which never carries traffic (R469). -/
def epBad (s : State) (e : Nat) : Bool := s.bit (epFld Reg.TUN_EP_CFG_AF e) && e % 2 == 1

/-- The owner of an endpoint: the lowest-numbered instance whose range holds it (R468). -/
def epOwner (s : State) (e : Nat) : Option Nat :=
  (List.range 128).find? (fun t => inRange (s.rd (Reg.TUN_TEN_BASE_BASE t)) (s.rd (Reg.TUN_TEN_COUNT_COUNT t)) e)

/-- The remote address of an endpoint (R469). -/
def epRemote (s : State) (e : Nat) : Nat :=
  if s.bit (epFld Reg.TUN_EP_CFG_AF e) then
    let w := fun (g : Nat → Nat → Fld) => s.rd (epFld g (e + 1))
    w Reg.TUN_EP_CFG * 2 ^ 96 + w Reg.TUN_EP_ID * 2 ^ 64 + w Reg.TUN_EP_RADDR * 2 ^ 32 + w Reg.TUN_EP_OPT
  else s.rd (epFld Reg.TUN_EP_RADDR e)

/-- The address of a TUN_LOCAL entry. -/
def localAddr (s : State) (n : Nat) : Nat :=
  let w := fun j => s.rd (Reg.TUN_LOCAL_ADDR n j)
  if s.bit (Reg.TUN_LOCAL_LCFG_AF n) then w 0 * 2 ^ 96 + w 1 * 2 ^ 64 + w 2 * 2 ^ 32 + w 3 else w 0

/-- The TUN_LOCAL entry of a destination address (R475). -/
def localOf (s : State) (h : IpHdr) : Option Nat :=
  (List.range 16).find? (fun n => s.bit (Reg.TUN_LOCAL_LCFG_VALID n) && s.bit (Reg.TUN_LOCAL_LCFG_AF n) == h.v6 &&
    localAddr s n == h.dst.toNat)

/-- The device MAC (PKT_MAC). -/
def deviceMac (s : State) : Nat := s.rd Reg.PKT_MAC_LO + 2 ^ 32 * s.rd Reg.PKT_MAC_HI_MAC

/-! ### Encapsulation (R471–R474) -/

/-- The UDP source port of R473. -/
def udpSource (x : Inner) : Nat :=
  49152 + crc32c ((toLe 6 x.dst.toNat).reverse ++ (toLe 6 x.src.toNat).reverse ++ (toLe 2 x.etype.toNat).reverse) % 16384

/-- Bytes of the IP payload, and of all headers before the inner frame, without an outer tag (Table 10.1). -/
def tunnelBytes (s : State) (e inner : Nat) : Nat × Nat :=
  let v6 := s.bit (epFld Reg.TUN_EP_CFG_AF e)
  let ip := if v6 then 40 else 20
  let cw := if s.bit (epFld Reg.TUN_EP_CFG_CW e) then 4 else 0
  match s.rd (epFld Reg.TUN_EP_CFG_TYPE e) with
  | 0 => (16 + inner, 14 + ip + 16)
  | 1 => (8 + inner, 14 + ip + 8)
  | 2 => (0, 14 + 4 + cw + (if s.bit (Reg.TUN_NH_LSP_LSP_EN (s.rd (epFld Reg.TUN_EP_CFG_NH e))) then 4 else 0))
  | _ => (12 + cw + inner, 14 + ip + 12 + cw)

/-- Bytes that ESP transport adds to an IP payload: header, IV, padding, trailer and ICV (R489). -/
def espBytes (payload : Nat) : Nat := 34 + (4 - (payload + 2) % 4) % 4

/-- The outer header layer of an endpoint (R472, R473). -/
def outerIp (s : State) (e : Nat) (x : Inner) (esp : Option Esp) : IpHdr :=
  let v6 := s.bit (epFld Reg.TUN_EP_CFG_AF e)
  let id := s.rd (epFld Reg.TUN_EP_ID e)
  let cw : Mpls := ⟨[(⟨id % 1048576, Nat.mod_lt _ (by decide)⟩, true)], 0⟩
  let kind := match s.rd (epFld Reg.TUN_EP_CFG_TYPE e) with
    | 0 => IpKind.vxlan ⟨id % 16777216, Nat.mod_lt _ (by decide)⟩ (!v6) x
    | 1 => .gre (some (BitVec.ofNat 32 id)) false true x
    | _ => .mplsUdp cw (!v6) x
  let udp := fun (dp : Nat) => some (BitVec.ofNat 16 (udpSource x), BitVec.ofNat 16 dp)
  { v6 := v6, dst := BitVec.ofNat 128 (epRemote s e)
    src := BitVec.ofNat 128 (localAddr s (s.rd (epFld Reg.TUN_EP_CFG_LOCAL e)))
    ttl := s.rd (epFld Reg.TUN_EP_OPT_TTL e), dscp := s.rd (epFld Reg.TUN_EP_OPT_DSCP e)
    ports := match s.rd (epFld Reg.TUN_EP_CFG_TYPE e) with
      | 0 => udp (s.rd Reg.TUN_CTRL_VXLAN_PORT)
      | 3 => udp 6635
      | _ => none
    esp := esp, kind := kind, df := !v6 }

/-- The outer frame of an inner frame on an endpoint (R472). -/
def outerFrame (s : State) (e tc len : Nat) (x : Inner) (esp : Option Esp) : Frame :=
  let nh := s.rd (epFld Reg.TUN_EP_CFG_NH e)
  let vid := s.rd (Reg.TUN_NH_VID_MAC_VID nh)
  let id := s.rd (epFld Reg.TUN_EP_ID e)
  let pw := s.rd (epFld Reg.TUN_EP_CFG_TYPE e) == 2
  let lsp := if s.bit (Reg.TUN_NH_LSP_LSP_EN nh) then
      [((⟨s.rd (Reg.TUN_NH_LSP_LSP_LABEL nh) % 1048576, Nat.mod_lt _ (by decide)⟩ : Fin 1048576), false)] else []
  { inner := { dst := BitVec.ofNat 48 (s.rd (Reg.TUN_NH_MAC_LO nh) + 2 ^ 32 * s.rd (Reg.TUN_NH_VID_MAC_MAC_HI nh))
               src := BitVec.ofNat 48 (deviceMac s)
               tag := if vid = 0 then none
                 else some (⟨tc % 8, Nat.mod_lt _ (by decide)⟩, ⟨vid % 4096, Nat.mod_lt _ (by decide)⟩)
               etype := if pw then 0x8847 else if s.bit (epFld Reg.TUN_EP_CFG_AF e) then 0x86DD else 0x0800
               data := innerBytes x }
    len := len, arrival := s.tim.now
    ip := if pw then none else some (outerIp s e x esp)
    mpls := if pw then some (⟨lsp ++ [(⟨id % 1048576, Nat.mod_lt _ (by decide)⟩, true)], 0⟩, x) else none }

/-- Encapsulate an inner frame of class `tc` on an endpoint: the outer frame, or none when it is dropped (R469, R474, R491). -/
def encapsulate (s : State) (e tc : Nat) (x : Inner) : State × Option Frame :=
  if epBad s e then (s.inc Reg.TUN_BAD_CFG, none)
  else
    let n := (innerBytes x).length
    let (pay, hdr) := tunnelBytes s e n
    let vid := s.rd (Reg.TUN_NH_VID_MAC_VID (s.rd (epFld Reg.TUN_EP_CFG_NH e)))
    let saEn := s.bit (epFld Reg.TUN_EP_OPT_SA_EN e) && s.rd (epFld Reg.TUN_EP_CFG_TYPE e) != 2
    let len := n + hdr + 4 + (if vid = 0 then 0 else 4) + (if saEn then espBytes pay else 0)
    if min 9216 (s.rd Reg.PKT_MAX_FRAME_BYTES) < len then
      (raiseLimited (s.inc Reg.TUN_OVERSIZE) Blk.tun 0x0101 .warn e (e + 2 ^ 16 * (len % 65536)), none)
    else if saEn then
      let i := s.rd (epFld Reg.TUN_EP_OPT_SA e)
      let (s, ok) := match espAdmit s 6 s.tim.now pay with
        | (s, true) => espOut s i pay
        | (s, false) => (s, false)
      if ok then
        let esp : Esp := { spi := saWord s i 1, seq := (saWord s i 2).toNat + 2 ^ 32 * (saWord s i 3).toNat
                           icv := Config.authTag (keyBytes s (fieldOf (saWord s i 0) 0 14)) 32 (innerBytes x) }
        (s, some (outerFrame s e tc len x (some esp)))
      else (s, none)
    else (s, some (outerFrame s e tc len x none))

/-! ### Termination (R475–R478, R492) -/

/-- Whether a frame is offered to termination (R475). -/
def offered (s : State) (f : Frame) : Bool :=
  f.inner.dst.toNat == deviceMac s &&
  (f.inner.etype == 0x8847 || match f.ip with
    | some h => (localOf s h).isSome
    | none => false)

/-- The MPLS errors of R477. -/
def mplsBad (m : Mpls) : Bool :=
  decide (2 < m.labels.length) || !((m.labels.getLast?.map Prod.snd).getD false)

/-- Whether an endpoint matches a type, version, local address and ID (R476). -/
def epMatches (s : State) (typ : Nat) (v6 : Bool) (loc id e : Nat) : Bool :=
  epOn s e && !epBad s e && s.rd (epFld Reg.TUN_EP_CFG_TYPE e) == typ &&
    (typ == 2 || (s.bit (epFld Reg.TUN_EP_CFG_AF e) == v6 && s.rd (epFld Reg.TUN_EP_CFG_LOCAL e) == loc)) &&
    (if typ = 1 then s.rd (epFld Reg.TUN_EP_ID e) == id
     else s.rd (epFld Reg.TUN_EP_ID e) % (if typ = 0 then 16777216 else 1048576) == id)

/-- Whether the outer source address fits an endpoint (R476). -/
def epSource (s : State) (typ : Nat) (h : Option IpHdr) (e : Nat) : Bool :=
  typ == 2 || s.bit (epFld Reg.TUN_EP_CFG_ANY_SRC e) || epRemote s e == (h.map (fun i => i.src.toNat)).getD 0

/-- The endpoint of a frame (R476): the lowest-numbered that matches with its source, or else that matches. (DEDUCED, log 28) -/
def epLookup (s : State) (typ : Nat) (h : Option IpHdr) (loc id : Nat) : Option Nat :=
  let l := (List.range 8192).filter (epMatches s typ ((h.map IpHdr.v6).getD false) loc id)
  (l.find? (epSource s typ h)).or l.head?

/-- Deliver the inner frame of a matched endpoint to its owner (R478, R522). -/
def deliverInner (s : State) (port e tc arrival : Nat) (x : Inner) : State :=
  match epOwner s e with
  | none => s.inc Reg.HIF_NO_INST
  | some t =>
    let f : Frame := { inner := x, len := (innerBytes x).length + 4, arrival := arrival }
    let prot := bitAt (s.rd Reg.PKT_TC_PROT_MASK) tc
    let (s, ch) := newChain s (128 + tc) prot f.len (some f)
    match ch with
    | none => s.inc (Reg.PKT_CNT_DROP_TAIL 6 tc)
    | some c => dropRef (hostFrame (addRef s c) t (s.rd (Reg.TW_CTRL_TUNQ t)) c port tc f (some e)) c

/-- A tunnel frame of a type and ID, received through SA `sa` or in clear (R476, R477, R492). -/
def tunnelIn (s : State) (port tc arrival typ : Nat) (h : Option IpHdr) (loc id : Nat) (sa : Option Nat) (nibble : Option Nat)
    (x : Inner) : State :=
  match epLookup s typ h loc id with
  | none => s.inc Reg.TUN_NO_EP
  | some e =>
    if s.bit (epFld Reg.TUN_EP_CFG_CW e) && nibble.isSome && nibble != some 0 then s.inc Reg.TUN_BAD_HDR
    else
      if !epSource s typ h e then s.inc Reg.TUN_WRONG_SRC
      else
        let fine := match sa with
          | some i => !bitAt (saWord s i 7).toNat 31 && fieldOf (saWord s i 7) 0 13 == e
          | none => !s.bit (epFld Reg.TUN_EP_OPT_SA_EN e)
        if fine then deliverInner s port e tc arrival x else s.inc Reg.TUN_WRONG_SRC

/-- An IP packet to local address `loc`, in clear or through SA `sa` (R475). -/
def terminateIp (s : State) (port tc : Nat) (f : Frame) (h : IpHdr) (loc : Nat) (sa : Option Nat) : State :=
  let csumBad := fun (zero : Bool) => h.v6 && zero && !s.bit Reg.TUN_CTRL_V6_ZCSUM_OK
  match h.kind with
  | .vxlan vni zero x =>
    if csumBad zero then s.inc Reg.TUN_BAD_HDR else tunnelIn s port tc f.arrival 0 (some h) loc vni.val sa none x
  | .gre key sq ok x =>
    if sq || !ok || key.isNone then s.inc Reg.TUN_BAD_HDR
    else tunnelIn s port tc f.arrival 1 (some h) loc (key.getD 0).toNat sa none x
  | .mplsUdp m zero x =>
    if csumBad zero || mplsBad m then s.inc Reg.TUN_BAD_HDR
    else tunnelIn s port tc f.arrival 3 (some h) loc ((m.labels.getLast?.map (fun l => l.1.val)).getD 0) sa (some m.nibble.val) x
  | .shipping n =>
    if !s.bit (Reg.REC_NS_NCFG_EN n) then (if sa.isSome then s else emit s (.toMgmt port f))
    else
    let need := bitAt (s.rd (Reg.REC_NS_SA n)) 14
    let fine := match sa with
      | some i => bitAt (saWord s i 7).toNat 31 && fieldOf (saWord s i 7) 0 13 == n.val
      | none => !need
    if fine then s else s.inc (Reg.REC_NS_UNPROT n)
  | .other => if sa.isSome then s else emit s (.toMgmt port f)

/-- Terminate a frame that was offered (R475). -/
def terminate (s : State) (port tc : Nat) (f : Frame) : State :=
  match f.mpls, f.ip with
  | some (m, x), _ =>
    if mplsBad m then s.inc Reg.TUN_BAD_HDR
    else tunnelIn s port tc f.arrival 2 none 0 ((m.labels.getLast?.map (fun l => l.1.val)).getD 0) none (some m.nibble.val) x
  | none, some h =>
    match localOf s h with
    | none => s
    | some loc =>
      match h.esp with
      | none => terminateIp s port tc f h loc none
      | some e =>
        match espAdmit s port f.arrival f.len with
        | (s, false) => s
        | (s, true) =>
          match espIn s e loc f.inner.data with
          | (s, some i) => terminateIp s port tc f h loc (some i)
          | (s, none) => s
  | none, none => s

/-- A reset of an instance clears EN of every endpoint in its range, and erases its keys and SAs (R507). -/
def wipeInstance (s : State) (t : Nat) : State :=
  let base := s.rd (Reg.TUN_TEN_BASE_BASE t)
  let es := ((List.range (s.rd (Reg.TUN_TEN_COUNT_COUNT t))).map (fun i => base + i)).filter (fun e => epOn s e)
  es.foldl (fun s e => s.wr (epFld Reg.TUN_EP_CFG_EN e) 0) (eraseInstance s t)

end Sys2Proof.Machine
end

