-- ==== Sys2Proof/Machine/Pkt.lean ====
section
/-! DEFINITION. The bridge: admission, filtering, redundancy, learning, forwarding, gated transmission, links ("Packet engine, Silo
and redundancy"). -/

namespace Sys2Proof.Machine

/-! ### Counters and meters (R435, R436, R457) -/

/-- Counters of a port: 0 RX_OK, 1 TX_OK, 2 RX_ERR, 3 DROP_VLAN, 4 DROP_FILTER, 5 GATE_OVERSIZE, 6 PAUSE_EXP. -/
def portCount (s : State) (p k : Nat) : State := s.inc (Reg.PKT_CNT p k)

/-- A token bucket takes `len` bytes, or has too few tokens (R435): rate in units of 64 kb/s, depth in bytes; the level is kept in
bytes × 65,536 × 10^9. (DEDUCED, log 27) -/
def takeTokens (s : State) (key rate depth len : Nat) : State × Bool :=
  if rate = 0 then (s, true)
  else
    let (level, at_) := Tab.get (0, 0) s.pkt.bucket key
    let level := min (depth * secUnits) (level + rate * 8000 * (s.tim.now - at_))
    let ok := decide (len * secUnits ≤ level)
    let b := Tab.put (0, 0) s.pkt.bucket key (if ok then level - len * secUnits else level, s.tim.now)
    ({ s with pkt := { s.pkt with bucket := b } }, ok)

/-- Rate and depth of the meter of a token bucket: port meters p × 8 + tc, stream filters from 1,000, tenant-path meters from 5,000. -/
def meterOf (s : State) (key : Nat) : Nat × Nat :=
  if key < 48 then (s.rd (Reg.PKT_POL_RATE (key / 8) (key % 8)), s.rd (Reg.PKT_POL_BURST_BYTES (key / 8) (key % 8)))
  else if key < 5000 then (s.rd (Reg.PKT_SF_CIR (key - 1000)), s.rd (Reg.PKT_SF_CBS (key - 1000)))
  else (s.rd (Reg.PKT_TEN_POL_RATE (key - 5000)), s.rd (Reg.PKT_TEN_POL_BURST_BYTES (key - 5000)))

/-- A commit that changes a meter: its bucket keeps its level, limited to the new depth (Table 09.7). -/
def settleMeters (old s : State) : State :=
  let b := s.pkt.bucket.map (fun (k, level, at_) =>
    let (rate, depth) := meterOf old k
    if meterOf s k = (rate, depth) then (k, level, at_)
    else (k, min ((meterOf s k).2 * secUnits) (min (depth * secUnits) (level + rate * 8000 * (s.tim.now - at_))), s.tim.now))
  { s with pkt := { s.pkt with bucket := b } }

/-! ### VLAN, class and stream filter (R424, R426, R433, R434) -/

/-- The VID of a frame from a port (R424); an internal port has no PVID, and VID 1 stands in. -/
def frameVid (s : State) (port : Nat) (x : Inner) : Nat :=
  match x.tag with
  | some (_, v) => if v.val ≠ 0 then v.val else if port < 6 then s.rd (Reg.PKT_PORT_PCFG_PVID port) else 1
  | none => if port < 6 then s.rd (Reg.PKT_PORT_PCFG_PVID port) else 1

/-- The priority of a frame from a port. -/
def framePcp (s : State) (port : Nat) (x : Inner) : Nat :=
  match x.tag with
  | some (p, _) => p.val
  | none => if port < 6 then s.rd (Reg.PKT_PORT_PCFG_DEF_PCP port) else 0

/-- The class of a priority on a port (R426); an internal port maps each priority to its own number. -/
def pcpClass (s : State) (port pcp : Nat) : Nat :=
  if port < 6 then bitsAt (s.rd (Reg.PKT_PORT_PCP_TC_MAP port)) (3 * pcp) 3 else pcp % 8

/-- Whether stream filter `n` matches (R433). -/
def filterMatches (s : State) (port vid : Nat) (x : Inner) (n : Nat) : Bool :=
  s.bit (Reg.PKT_SF_MATCH_EN n) && bitAt (s.rd (Reg.PKT_SF_PORTS_PORTS n)) port &&
  s.rd (Reg.PKT_SF_MATCH_VID n) == vid && bitAt (s.rd (Reg.PKT_SF_PORTS_PCP_MASK n)) (framePcp s port x) &&
  s.rd (Reg.PKT_SF_MAC_LO n) + 2 ^ 32 * s.rd (Reg.PKT_SF_MATCH_MAC_HI n) ==
    (if s.bit (Reg.PKT_SF_MATCH_SRC n) then x.src.toNat else x.dst.toNat)

/-- The filter that governs a frame: the lowest-numbered that matches. -/
def governs (s : State) (port vid : Nat) (x : Inner) : Option Nat := (List.range 1024).find? (filterMatches s port vid x)

/-- Drop a frame of filter `n`. -/
def filterDrop (s : State) (port n : Nat) : State := portCount (s.inc (Reg.PKT_SF_DROPPED n)) port 4

/-- The checks of the governing filter: whether the frame goes on (R434, R435). -/
def runFilter (s : State) (port n len : Nat) : State × Bool :=
  if s.bit (Reg.PKT_SF_CTL_BLOCKED n) then (filterDrop s port n, false)
  else if s.rd (Reg.PKT_SF_CTL_MAX_SDU n) < len then
    let s := filterDrop s port n
    if s.bit (Reg.PKT_SF_CTL_BLOCK_EN n) then
      (raiseLimited (s.wr (Reg.PKT_SF_CTL_BLOCKED n) 1) Blk.pkt 0x0104 .warn n (n + 2 ^ 16 * (len % 65536)), false)
    else (s, false)
  else
    let (s, ok) := takeTokens s (1000 + n) (s.rd (Reg.PKT_SF_CIR n)) (s.rd (Reg.PKT_SF_CBS n)) len
    if ok then (s, true) else (overload (filterDrop s port n) Blk.pkt (2 * 65536 + n), false)

/-! ### FRER (R437, R438) -/

/-- The state of a recovery function. -/
def frerOf (s : State) (r : Nat) : FrerRec := Tab.get {} s.pkt.frer r

/-- Replace the state of a recovery function. -/
def setFrer (s : State) (r : Nat) (x : FrerRec) : State := { s with pkt := { s.pkt with frer := Tab.put {} s.pkt.frer r x } }

/-- A frame of a recovery function with sequence number `seq`: whether it passes (R437, IEEE 802.1CB). (DEDUCED, log 27) -/
def recoverFrame (s : State) (r seq : Nat) : State × Bool :=
  if !s.bit (Reg.PKT_FRER_REC_CFG_EN r) then (s, true)
  else
    let x := frerOf s r
    let h := s.rd (Reg.PKT_FRER_REC_CFG_HISTORY r)
    let pass := fun (s : State) (x : FrerRec) => (setFrer (s.inc (Reg.PKT_FRER_REC_PASSED r)) r { x with at_ := s.taiNs }, true)
    let drop := fun (s : State) => (s.inc (Reg.PKT_FRER_REC_DISCARDED r), false)
    let ooo := fun (s : State) (b : Bool) => if b then s.inc (Reg.PKT_FRER_REC_OOO r) else s
    if x.takeAny then pass s { takeAny := false, last := seq, hist := true :: List.replicate (h - 1) false }
    else
      let d := signedOf 16 ((seq + 65536 - x.last) % 65536)
      if s.rd (Reg.PKT_FRER_REC_CFG_ALG r) = 1 then
        if d = 0 then drop s else pass (ooo s (d != 1)) { x with last := seq }
      else if (h : Int) ≤ d ∨ d ≤ -(h : Int) then drop s
      else if d ≤ 0 then
        let i := d.natAbs
        if x.hist.getD i false then drop s
        else pass (ooo s true) { x with hist := x.hist.set i true }
      else
        let n := d.natAbs
        pass (ooo s (d != 1)) { x with last := seq, hist := (true :: List.replicate (n - 1) false ++ x.hist).take h }

/-- The R-TAG that a generation function inserts (R438). -/
def generateTag (s : State) (g : Nat) : State × Option (BitVec 16) :=
  if g = 0x3FF ∨ 512 ≤ g then (s, none)
  else if !s.bit (Reg.PKT_FRER_GEN_CFG_EN g) then (s, none)
  else
    let n := s.rd (Reg.PKT_FRER_GEN_SEQ_NEXT g)
    (s.wr (Reg.PKT_FRER_GEN_SEQ_NEXT g) ((n + 1) % 65536), some (BitVec.ofNat 16 n))

/-! ### PRP and HSR (R439–R441, R460) -/

/-- The LRE of an external port, when its mode is not off. -/
def lreOf (s : State) (port : Nat) : Option Nat :=
  if port < 4 ∧ s.rd (Reg.PKT_RED_RCFG_MODE (port / 2)) ≠ 0 then some (port / 2) else none

/-- The other port of a pair. -/
def pairPort (port : Nat) : Nat := if port % 2 = 0 then port + 1 else port - 1

/-- The first copy of a frame in a duplicate table (R440): within ENTRY_FORGET ms later copies are not the first. -/
def firstCopy (s : State) (r key seq : Nat) : State × Bool :=
  let forget := s.rd (Reg.PKT_RED_RCFG_ENTRY_FORGET r) * 1000000
  let live := (Tab.get [] s.pkt.dup r).filter (fun e => decide (s.taiNs < e.2.2 + forget))
  if live.any (fun e => e.1 == key && e.2.1 == seq) then (s, false)
  else ({ s with pkt := { s.pkt with dup := Tab.put [] s.pkt.dup r ((key, seq, s.taiNs) :: live.take 4095) } }, true)

/-! ### Learning and lookup (R425, R462) -/

/-- The number of valid static entries. -/
def staticCount (s : State) : Nat := ((List.range 2048).filter (fun n => s.bit (Reg.PKT_FDB_ST_W1_VALID n))).length

/-- The static entry for a MAC and VID. -/
def staticEntry (s : State) (mac vid : Nat) : Option Nat :=
  (List.range 2048).find? (fun n => s.bit (Reg.PKT_FDB_ST_W1_VALID n) && s.rd (Reg.PKT_FDB_ST_W1_VID n) == vid &&
    s.rd (Reg.PKT_FDB_ST_W0 n) + 2 ^ 32 * s.rd (Reg.PKT_FDB_ST_W1_MAC_HI n) == mac)

/-- Set the learned entries and their count. -/
def setFdb (s : State) (l : List FdbE) : State := { s with pkt := { s.pkt with fdb := l } }.wr Reg.PKT_FDB_COUNT l.length

/-- Whether a static entry stands for a MAC and FID. -/
def staticFor (s : State) (mac fid : Nat) : Bool :=
  (List.range 2048).any (fun n => s.bit (Reg.PKT_FDB_ST_W1_VALID n) &&
    s.rd (Reg.PKT_FDB_ST_W0 n) + 2 ^ 32 * s.rd (Reg.PKT_FDB_ST_W1_MAC_HI n) == mac &&
    s.rd (Reg.PKT_VLAN_W1_FID (s.rd (Reg.PKT_FDB_ST_W1_VID n))) == fid)

/-- A static entry removes the learned entry for the same MAC and FID (R425). -/
def pruneStatic (s : State) : State :=
  let l := s.pkt.fdb.filter (fun e => !staticFor s e.mac e.fid)
  if l.length = s.pkt.fdb.length then s else setFdb s l

/-- Learn a source address (R425, R462). -/
def learn (s : State) (mac fid port : Nat) : State :=
  let others := s.pkt.fdb.filter (fun e => !(e.mac == mac && e.fid == fid))
  let known := others.length != s.pkt.fdb.length
  if staticFor s mac fid then setFdb s others
  else if known then setFdb s (⟨mac, fid, port, s.taiSec⟩ :: others)
  else
    let b := Config.fdbHash fid mac
    let full := decide (65536 ≤ s.pkt.fdb.length + staticCount s) ||
      decide (8 ≤ (s.pkt.fdb.filter (fun e => Config.fdbHash e.fid e.mac == b)).length)
    if full then overload (s.inc Reg.PKT_FDB_LEARN_FAIL) Blk.pkt (5 * 65536)
    else setFdb s (⟨mac, fid, port, s.taiSec⟩ :: s.pkt.fdb)

/-- The members of a VLAN. -/
def members (s : State) (vid : Nat) : Nat := s.rd (Reg.PKT_VLAN_W0_MEMBER vid)

/-- The egress mask of a frame before the ingress port and non-members are removed, and the class of a static entry (R424, R426). -/
def lookup (s : State) (mac vid : Nat) : Nat × Option Nat :=
  match staticEntry s mac vid with
  | some n => (s.rd (Reg.PKT_FDB_ST_W2_PORTS n),
      if s.bit (Reg.PKT_FDB_ST_W2_TC_EN n) then some (s.rd (Reg.PKT_FDB_ST_W2_TC n)) else none)
  | none =>
    match s.pkt.fdb.find? (fun e => e.mac == mac && e.fid == s.rd (Reg.PKT_VLAN_W1_FID vid)) with
    | some e => (2 ^ e.port, none)
    | none => (members s vid, none)

/-! ### Egress -/

/-- The frames that wait for a port and class. -/
def queueOf (s : State) (p tc : Nat) : List QFrame := Tab.get [] s.pkt.queue (p * 8 + tc)

/-- Set the frames that wait for a port and class. -/
def setQueue (s : State) (p tc : Nat) (l : List QFrame) : State :=
  { s with pkt := { s.pkt with queue := Tab.put [] s.pkt.queue (p * 8 + tc) l } }

/-- Whether an external port can take frames (R459, R463). -/
def portUp (s : State) (p : Nat) : Bool := s.bit (Reg.PKT_PORT_PCFG_EN p) && s.bit (Reg.PKT_PORT_PSTATUS_LINK p)

/-- Whether the packet engine runs. -/
def pktRuns (s : State) : Bool := domainUp s 10 && s.rd Reg.PKT_STATUS_STATE == 1

/-- Bytes that MACsec adds on a port: SecTAG with or without SCI, and ICV (R430). -/
def msBytes (s : State) (p : Nat) (eapol : Bool) : Nat :=
  if s.bit (Reg.CRY_MS_PCFG_EN p) && !eapol then 16 + (if s.rd (Reg.CRY_MS_PCFG_SCI_MODE p) = 0 then 16 else 8) else 0

/-- A port that had MACsec when PD11 was reset sends nothing until PD11 has its registers again (Table 10.8). (DEDUCED, log 28) -/
def macsecHeld (s : State) (p : Nat) : Bool :=
  s.pkt.msHold.contains p && (!domainUp s 11 || s.rst.restoring.contains 11 || s.rst.resume.contains 11)

/-- The ports of an egress mask after the LREs' rules: each port of a pair in PRP or HSR mode brings its partner (R440), and only
internal ports, or with REDBOX every port, reach a pair (R441). -/
def lreMask (s : State) (ingress mask : Nat) : Nat :=
  [0, 1].foldl (fun m r =>
    if s.rd (Reg.PKT_RED_RCFG_MODE r) = 0 then m
    else
      let pair := [2 * r, 2 * r + 1]
      let want := pair.any (fun p => bitAt m p)
      let may := decide (6 ≤ ingress) || s.bit (Reg.PKT_RED_RCFG_REDBOX r)
      let fromPair := decide (ingress / 2 = r)
      let m := pair.foldl (fun m p => setBitAt m p (want && may && !fromPair)) m
      if fromPair && !s.bit (Reg.PKT_RED_RCFG_REDBOX r) then m / 64 * 64 else m) mask

/-- Put a frame on the queue of an external port, with the VID of its egress tag (R426, R459). -/
def enqueue (s : State) (p tc vid chain : Nat) (f : Frame) (ts : Option TsWait) : State :=
  if !portUp s p then s.inc (Reg.PKT_CNT_DROP_TAIL p tc)
  else
    let tagged := !bitAt (s.rd (Reg.PKT_VLAN_W0_UNTAG vid)) p
    let eapol := f.inner.etype == 0x888E
    let had := f.inner.tag.isSome
    let len := f.len + (if tagged && !had then 4 else 0) - (if !tagged && had then 4 else 0) + msBytes s p eapol
    let q : QFrame := { body := .bridged f (if tagged then some vid else none), len := len, chain := chain, eapol := eapol, ts := ts }
    addRef (setQueue s p tc (queueOf s p tc ++ [q])) chain

/-- Bytes of a PRP trailer or an HSR tag. -/
abbrev redBytes : Nat := 6

/-- The tag of the frame that an LRE sends next on a port of its pair (R440, IEC 62439-3). (DEDUCED, log 27) -/
def lreTag (s : State) (p : Nat) : Option RedTag :=
  (lreOf s p).map (fun r => { lanB := p % 2 == 1, seq := BitVec.ofNat 16 (Tab.get 0 s.pkt.lreSeq r) })

/-- After a frame for a mask the LREs in it go on to their next sequence number. -/
def lreNext (s : State) (mask : Nat) : State :=
  [0, 1].foldl (fun s r =>
    if s.rd (Reg.PKT_RED_RCFG_MODE r) ≠ 0 ∧ (bitAt mask (2 * r) ∨ bitAt mask (2 * r + 1)) then
      { s with pkt := { s.pkt with lreSeq := Tab.put 0 s.pkt.lreSeq r ((Tab.get 0 s.pkt.lreSeq r + 1) % 65536) } }
    else s) s

/-- Put a frame that a chain holds on the queues of a mask; a frame that an LRE forwards on its ring keeps its tag (R440). -/
def fanOut (s : State) (ingress mask tc vid chain : Nat) (f : Frame) (ts : Option TsWait) : State :=
  let tagged := fun (s : State) (p : Nat) => match f.red, lreTag s p with
    | none, some t => { f with red := some t, len := f.len + redBytes }
    | _, _ => f
  let s0 := s
  let s := (bitList 6 mask).foldl (fun s p =>
    enqueue s p tc vid chain (tagged s0 p) (if p = (bitList 6 mask).headD 0 then ts else none)) s
  let s := if f.red.isNone then lreNext s mask else s
  let s := if bitAt mask 6 then toHost s chain ingress tc vid f else s
  if bitAt mask 8 then emit s (.toMgmt ingress f) else s

/-- Send a frame of class `tc` to every port of a mask: one chain, charged to `acct`, holds it (R444–R447); `held` is a chain that
already holds it (R517). Answers whether the Silo took it. -/
def spread (s : State) (ingress mask tc vid acct : Nat) (f : Frame) (ts : Option TsWait) (held : Option Nat) :
    State × Bool :=
  let prot := bitAt (s.rd Reg.PKT_TC_PROT_MASK) tc
  if mask = 0 then (s, true)
  else match held with
  | some c => (fanOut s ingress mask tc vid c f ts, true)
  | none =>
    let (s, ch) := newChain s acct prot f.len (some f)
    match ch with
    | none => ((bitList 10 mask).foldl (fun s p => s.inc (Reg.PKT_CNT_DROP_TAIL p tc)) s, false)
    | some c =>
      let s := addRef s c
      (dropRef (fanOut s ingress mask tc vid c f ts) c, true)

/-- Whether an address is reserved for MGMT (Table 09.2). -/
def reservedMac (mac : Nat) : Bool := mac / 16 == 0x0180C200000 || mac == 0x011B19000000

/-- Whether the transparent clock forwards a PTP message of the PTP group address, which the bridge alone would give to MGMT only
(R110, Table 09.2). (DEDUCED, log 61) -/
def tcForwards (s : State) (f : Frame) : Bool :=
  f.ptp.isSome && f.inner.dst.toNat == 0x011B19000000 && domainUp s 2 && decide (4 ≤ s.rd Reg.TIM_PTP_CFG_ROLE ∧ s.rd Reg.TIM_PTP_CFG_ROLE ≤ 5)

/-- The class, filter and forwarding steps of R424 for a frame of the bridge. `given` is the class that a descriptor or a tunnel
gives, `acct` the account of an instance, `held` a held chain. Answers whether the frame was admitted. (DEDUCED, log 27) -/
def bridge (s : State) (port : Nat) (f : Frame) (given acct : Option Nat) (ts : Option TsWait)
    (held : Option Nat) : State × Bool :=
  let x := f.inner
  if reservedMac x.dst.toNat && !tcForwards s f then (emit s (.toMgmt port f), true)
  else
    let vid := frameVid s port x
    if vid = 4095 || !bitAt (members s vid) port then (portCount s port 3, false)
    else
      let flt := governs s port vid x
      let (s, ok) := match flt with
        | some n => runFilter s port n f.len
        | none => (s, true)
      if !ok then (s, false)
      else
        let base := given.getD (pcpClass s port (framePcp s port x))
        let (mask, stc) := lookup s x.dst.toNat vid
        let ftc := flt.bind (fun n => if s.bit (Reg.PKT_SF_CTL_TC_EN n) then some (s.rd (Reg.PKT_SF_CTL_TC n)) else none)
        let tc := given.getD (stc.getD (ftc.getD base))
        let (s, ok) := if port < 6 then
            takeTokens s (port * 8 + tc) (s.rd (Reg.PKT_POL_RATE port tc)) (s.rd (Reg.PKT_POL_BURST_BYTES port tc)) f.len
          else (s, true)
        if !ok then (overload (s.inc (Reg.PKT_CNT_DROP_POL port tc)) Blk.pkt (65536 + port * 8 + tc), false)
        else
          let (s, tag) := match flt with
            | some n => generateTag s (s.rd (Reg.PKT_SF_FRER_GEN n))
            | none => (s, none)
          let (s, pass) := match flt, f.rtag with
            | some n, some q => if s.rd (Reg.PKT_SF_FRER_REC n) < 512 then recoverFrame s (s.rd (Reg.PKT_SF_FRER_REC n)) q.toNat
                                else (s, true)
            | _, _ => (s, true)
          if !pass then (s, false)
          else
            let removed := match flt with
              | some n => decide (s.rd (Reg.PKT_SF_FRER_REC n) < 512) && s.bit (Reg.PKT_FRER_REC_CFG_EN (s.rd (Reg.PKT_SF_FRER_REC n)))
              | none => false
            let rtag := tag.or (if removed then none else f.rtag)
            let f := { f with rtag := rtag, len := f.len - 6 * f.rtag.isSome.toNat + 6 * rtag.isSome.toNat }
            let s := if port < 6 && s.bit Reg.PKT_CTRL_LEARN_EN && !s.bit (Reg.PKT_VLAN_W1_NO_LEARN vid) then
                learn s x.src.toNat (s.rd (Reg.PKT_VLAN_W1_FID vid)) port else s
            let mask := Nat.land mask (members s vid)
            let mask := lreMask s port (setBitAt mask port false)
            spread s port mask tc vid (acct.getD (128 + tc)) f ts held

/-! ### FRAME_RECEIVE -/

/-- Whether a port is paused. -/
def pausedPort (s : State) (p : Nat) : Option (Nat × Nat) := Tab.get none s.pkt.paused p

/-- Start, extend or end the pause of a port. -/
def setPaused (s : State) (p : Nat) (x : Option (Nat × Nat)) : State :=
  { s with pkt := { s.pkt with paused := Tab.put none s.pkt.paused p x } }

/-- A pause quantum on a port, 512 bit times, in 2^-16 ns. -/
def quantumOf (s : State) (p : Nat) : Nat :=
  512 * 65536 / (match s.rd (Reg.PKT_PORT_PCFG_SPEED p) with
    | 0 => 25
    | 1 => 10
    | _ => 1)

/-- A PAUSE or PFC frame (R458): the port pauses for the quanta requested, unless it owes frames first. (DEDUCED, log 27) -/
def takePause (s : State) (port quanta at_ : Nat) : State :=
  if !s.bit (Reg.PKT_PORT_PCFG_PAUSE_RX port) ∨ Tab.get 0 s.pkt.owes port ≠ 0 then s
  else if quanta = 0 then setPaused s port none
  else setPaused s port (some (((pausedPort s port).map Prod.fst).getD at_, at_ + quanta * quantumOf s port))

/-- Whether a pause lasts longer than the maximum hold, of which 0 acts as 1 (R458, Table 09.10). -/
def tooLong (s : State) (x : Nat × Nat) : Bool := decide (x.1 + max 1 (s.rd Reg.PKT_PAUSE_MAX_HOLD_US) * 65536000 < x.2)

/-- An HSR ring frame goes on out of the other port once, unless it is the device's own or for the device alone (R440). -/
def hsrForward (s : State) (port r : Nat) (f : Frame) : State :=
  match f.red with
  | none => s
  | some tag =>
    if s.rd (Reg.PKT_RED_RCFG_MODE r) ≠ 2 ∨ f.inner.src.toNat = deviceMac s ∨ f.inner.dst.toNat = deviceMac s then s
    else
      let out := pairPort port
      let (s, first) := firstCopy s r (f.inner.src.toNat + 2 ^ 48 * (out + 1)) tag.seq.toNat
      if !first then s
      else
        let tc := pcpClass s port (framePcp s port f.inner)
        (spread s port (2 ^ out) tc (frameVid s port f.inner) (128 + tc) f none none).1

/-- A frame that passed the port's checks: authentication, subscription, termination, bridge (R424, R475, R497). (DEDUCED, log 27) -/
def takeFrame (s : State) (port : Nat) (f : Frame) : State :=
  let (s, ok) := match authEntry s port f with
    | some r => authRx s r f.ext f.inner.data
    | none => (s, true)
  if !ok then s
  else
    let s := match f.sv with
      | some v => match Sys2Proof.Machine.execSvFrameReceive v s with
        | .next s => s
        | _ => s
      | none => s
    if port < 6 && offered s f then terminate s port (pcpClass s port (framePcp s port f.inner)) f
    else (bridge s port f none none none none).1

/-- FRAME_RECEIVE: a frame at a bridge port (R421, R424, R433–R440, R445–R447, R458, R475, R488, R497). (DEDUCED, log 27) -/
def execFrameReceive (port : Fin 10) (f : Frame) (fcsOk : Bool) (s : State) : Out :=
  let p := port.val
  let f := { f with ptp := f.ptp.map (fun m => { m with port := p }) }
  let s := match f.ptp with
    | some m => if p < 6 && portUp s p && fcsOk then ptpReceive s p m else s
    | none => s
  .next (if !pktRuns s then s
    else if 6 ≤ p then takeFrame (portCount s p 0) p f
    else if !portUp s p then s
    else if !fcsOk || decide (f.len < 64) || decide (min 9216 (s.rd Reg.PKT_MAX_FRAME_BYTES) < f.len) then
      let s := portCount s p 2
      match lreOf s p with
      | some r => if p % 2 = 0 then s.inc (Reg.PKT_RED_ERR_A r) else s.inc (Reg.PKT_RED_ERR_B r)
      | none => s
    else
      let s := portCount s p 0
      match f.pause with
      | some q => takePause s p q f.arrival
      | none =>
        let (s, ok) := msReceive s p f
        let f := { f with sec := none, len := if f.sec.isSome then f.len - msBytes s p false else f.len }
        if !ok then s
        else match lreOf s p, f.red with
        | some r, some tag =>
          let s := if s.rd (Reg.PKT_RED_RCFG_MODE r) = 1 && tag.lanB != (p % 2 == 1) then s.inc (Reg.PKT_RED_WRONG_LAN r) else s
          if s.rd (Reg.PKT_RED_RCFG_MODE r) = 2 ∧ f.inner.src.toNat = deviceMac s then s
          else
            let s := hsrForward s p r f
            let (s, first) := firstCopy s r f.inner.src.toNat tag.seq.toNat
            if first then takeFrame s p { f with red := none, len := f.len - redBytes } else s.inc (Reg.PKT_RED_DUP_DISC r)
        | _, _ => takeFrame s p f)

/-! ### FRAME_TRANSMIT (R427–R431) -/

/-- The entries of a port's gate control list: gates and slots. -/
def gateList (s : State) (p : Nat) : List (Nat × Nat) :=
  (List.range (s.rd (Reg.PKT_GCFG_LEN_LEN p))).map (fun e => (s.rd (Reg.PKT_GCL_GATES p e), s.rd (Reg.PKT_GCL_DUR_M1 p e) + 1))

/-- Ticks of a gate cycle. -/
def gateMult (s : State) (p : Nat) : Nat := max 1 (s.rd (Reg.PKT_GCFG_LEN_MULT p))

/-- The entry that holds position `pos` (slots from the start of the list), and the slots left in it. -/
def gateAt : List (Nat × Nat) → Nat → Nat → Option (Nat × Nat × Nat)
  | [], _, _ => none
  | (g, d) :: l, i, pos => if pos < d then some (i, g, d - pos) else gateAt l (i + 1) (pos - d)

/-- Slots for which a class stays open over the entries of a list. -/
def openRun (tc : Nat) : List (Nat × Nat) → Nat
  | [] => 0
  | (g, d) :: l => if bitAt g tc then d + openRun tc l else 0

/-- The position of a slot of the current tick in the port's gate cycle. -/
def gatePos (s : State) (p slot : Nat) : Nat := (s.tick - s.pkt.gate0) % gateMult s p * 512 + slot

/-- Slots from position `pos` until the gate of a class closes: 0 when it is closed; the cycle repeats. -/
def openSlots (s : State) (p tc pos : Nat) : Nat :=
  let l := gateList s p
  match gateAt l 0 pos with
  | none => 0
  | some (i, g, left) => if bitAt g tc then left + openRun tc (l.drop (i + 1) ++ l ++ l) else 0

/-- Show the entries in force in a slot of the tick (R428, Table 09.10). -/
def showGates (s : State) (slot : Nat) : State :=
  if !pktRuns s then s
  else (List.range 6).foldl (fun s p => match gateAt (gateList s p) 0 (gatePos s p slot) with
    | some (i, _, _) => s.wr (Reg.PKT_GCFG_CUR_CUR p) i
    | none => s) s

/-- FCLK cycles from the start of a gate cycle to a position, in ticks of the nominal period (R59, R60). -/
def nominalCyc (s : State) (slots : Nat) : Nat := slots / 512 * (1600000000 / s.rate) + slots % 512 * slotCyc s.rate

/-- The longest open interval of a class, in FCLK cycles. -/
def longestOpen (s : State) (p tc : Nat) : Nat :=
  let l := gateList s p
  ((List.range l.length).map (fun i =>
    let o := ((l.take i).map Prod.snd).sum
    nominalCyc s (o + openRun tc (l.drop i ++ l)) - nominalCyc s o)).foldl max 0

/-- FCLK cycles of the current tick: of a stretch tick those up to its next edge, whose extension belongs to slot 511 (R87–R89). -/
def tickCyc (s : State) : Nat :=
  match s.tik.next with
  | some p => if s.tik.stretched then (edgeInstant s.rate p.1 p.2 - s.tim.now) / 40960 else 1600000000 / s.rate
  | none => 1600000000 / s.rate

/-- FCLK cycles of a position: this tick, further ticks of the nominal period, and slots within the last one (R59, R60). -/
def slotsToCyc (s : State) (slots : Nat) : Nat :=
  if slots < 512 then slots * slotCyc s.rate
  else tickCyc s + (slots / 512 - 1) * (1600000000 / s.rate) + slots % 512 * slotCyc s.rate

/-- Bits per 1,000 FCLK cycles of a port's speed. -/
def portSpeed (s : State) (p : Nat) : Nat :=
  match s.rd (Reg.PKT_PORT_PCFG_SPEED p) with
  | 0 => 15625
  | 1 => 6250
  | _ => 625

/-- FCLK cycles that a frame occupies the wire, with its preamble (R430). -/
def wireCyc (s : State) (p len : Nat) : Nat := ceilDiv ((len + 8) * 8 * 1000) (portSpeed s p)

/-- The slot of an FCLK cycle of the tick. -/
def slotAt (s : State) (cyc : Nat) : Nat := min 511 (cyc / slotCyc s.rate)

/-- Whether the head of a class may start at FCLK cycle `cyc` (R430). -/
def mayStart (s : State) (p tc cyc len : Nat) : Bool :=
  let slot := slotAt s cyc
  let n := openSlots s p tc (gatePos s p slot)
  decide (0 < n) && decide (cyc + wireCyc s p len ≤ slotsToCyc s (slot + n))

/-- The TX write-back of Table 11.4. -/
def txWriteback (s : State) (w : TsWait) (stamp : Option Nat) (status : Nat) : State :=
  let base := s.rd64 (Reg.TX_BASE_LO w.t w.q) (Reg.TX_BASE_HI w.t w.q)
  let size := 2 ^ s.rd (Reg.QCFG_SZ w.t w.q)
  let t := stamp.getD 0
  hostWrite s w.t (base + 32 * (w.ix % size))
    (toLe 8 (t / 65536) ++ toLe 2 (t % 65536) ++ toLe 2 w.len ++
      toLe 2 (if stamp.isSome then 128 * s.rd Reg.TIM_STATUS_QUALITY else 0) ++ toLe 16 0 ++ toLe 1 status ++ toLe 1 0x80)

/-- A queue pair's message, moderated by ITR (R531). -/
def queueIrq (s : State) (t q : Nat) : State :=
  let k := t * 64 + q
  let itr := s.rd (Reg.QCFG_ITR t q) * 1000
  if s.hif.itrDue.contains k then s
  else if s.taiNs < Tab.get 0 s.hif.itrAt k + itr then { s with hif := { s.hif with itrDue := k :: s.hif.itrDue } }
  else msix { s with hif := { s.hif with itrAt := Tab.put 0 s.hif.itrAt k s.taiNs } } t (s.rd (Reg.QCFG_VEC t q))

/-- Drop a queued frame: a TX descriptor that waits for its stamp reports DROPPED (R519). -/
def dropQueued (s : State) (q : QFrame) : State :=
  let s := match q.ts with
    | some w => if w.irq then queueIrq (txWriteback s w none 3) w.t w.q else txWriteback s w none 3
    | none => s
  endUse (dropRef s q.chain) q.chain

/-- Drop every head that fits no open interval of its class on the port (R431). -/
def dropOversize (s : State) (p tc : Nat) : Nat → State
  | 0 => s
  | n + 1 =>
    match queueOf s p tc with
    | q :: rest =>
      if longestOpen s p tc < wireCyc s p q.len then
        let s := dropQueued (setQueue s p tc rest) q
        dropOversize (overload (portCount s p 5) Blk.pkt (4 * 65536 + p)) p tc n
      else s
    | [] => s

/-- The class that starts: the highest whose gate is open long enough for its head (R427). -/
def pickClass (s : State) (p cyc : Nat) : Option Nat :=
  [7, 6, 5, 4, 3, 2, 1, 0].find? (fun tc => match queueOf s p tc with
    | q :: _ => mayStart s p tc cyc q.len
    | [] => false)

/-- FRAME_TRANSMIT: an idle port starts the frame that the gates and the priorities choose (R427–R431, R486, R487, R519). (DEDUCED, log 27) -/
def execFrameTransmit (port : Fin 6) (cyc : Nat) (stamp : Nat) (s : State) : Out :=
  let p := port.val
  .next (if !pktRuns s || !portUp s p || (pausedPort s p).isSome || macsecHeld s p then s
    else
      let s := showGates s (slotAt s cyc)
      let s := (List.range 8).foldl (fun s tc => dropOversize s p tc (queueOf s p tc).length) s
      match pickClass s p cyc with
      | none => s
      | some tc =>
        match queueOf s p tc with
        | [] => s
        | q :: rest =>
          let s := setQueue s p tc rest
          let (s, sec) := if s.bit (Reg.CRY_MS_PCFG_EN p) && !q.eapol then
              match msProtect s p with
              | (s, some x) => (s, some (some x))
              | (s, none) => (s, none)
            else (s, some none)
          let s := { s with pkt := { s.pkt with owes := Tab.put 0 s.pkt.owes p (Tab.get 0 s.pkt.owes p - q.len) } }
          let sent := sec.isSome
          let s := match sec with
            | none => s
            | some tag =>
              let s := portCount s p 1
              match q.body with
              | .bridged f vid => emit s (.frame p { f with ptp := f.ptp.map (ptpTransmit s p f.arrival stamp) } vid tag)
              | .pub f => emit s (.pubFrame p f q.red tag)
          let s := match q.ts with
            | some w =>
              let s := txWriteback s w (if sent then some stamp else none) (if sent then 0 else 3)
              if w.irq then queueIrq s w.t w.q else s
            | none => s
          endUse (dropRef s q.chain) q.chain)

/-! ### The filtering database, links, pauses -/

/-- FDB_AGE_OUT: a learned entry without a frame for PKT_FDB_AGE seconds goes (R425). -/
def execFdbAgeOut (mac : BitVec 48) (fid : Fin 4096) (s : State) : Out :=
  let old := fun (e : FdbE) => e.mac == mac.toNat && e.fid == fid.val && decide (e.seen + s.rd Reg.PKT_FDB_AGE_SEC ≤ s.taiSec)
  .next (if s.pkt.fdb.any old then setFdb s (s.pkt.fdb.filter (fun e => !old e)) else s)

/-- FDB_FLUSH_PORT: CMD 1 of PKT_FDB_CMD removes the learned entries of a port. -/
def execFdbFlushPort (a : Access) (v : Word) (s : State) : Out :=
  .next (withWrite s a 0x300000 Blk.pkt 10 0x300010 (fun s =>
    setFdb s (s.pkt.fdb.filter (fun e => e.port != fieldOf v 8 4))))

/-- FDB_FLUSH_VLAN: CMD 2 of PKT_FDB_CMD removes the learned entries of a VLAN, those of its FID. -/
def execFdbFlushVlan (a : Access) (v : Word) (s : State) : Out :=
  .next (withWrite s a 0x300000 Blk.pkt 10 0x300010 (fun s =>
    setFdb s (s.pkt.fdb.filter (fun e => e.fid != s.rd (Reg.PKT_VLAN_W1_FID (fieldOf v 16 12))))))

/-- FDB_FLUSH_ALL: CMD 3 of PKT_FDB_CMD removes every learned entry. -/
def execFdbFlushAll (a : Access) (_v : Word) (s : State) : Out :=
  .next (withWrite s a 0x300000 Blk.pkt 10 0x300010 (fun s => setFdb s []))

/-- PAUSE_HOLD_EXPIRED: a port was paused for the maximum hold; it sends at least one maximum frame before it obeys another pause (R458). -/
def execPauseHoldExpired (port : Fin 6) (s : State) : Out :=
  let p := port.val
  .next (if !(pausedPort s p).any (tooLong s) then s
    else
      let s := setPaused s p none
      let s := { s with pkt := { s.pkt with owes := Tab.put 0 s.pkt.owes p (min 9216 (s.rd Reg.PKT_MAX_FRAME_BYTES)) } }
      raiseLimited (portCount s p 6) Blk.pkt 0x0105 .warn p p)

/-- PAUSE_QUANTA_EXPIRED: the requested pause is over (R458), where it ends within the maximum hold. -/
def execPauseQuantaExpired (port : Fin 6) (s : State) : Out :=
  .next (if (pausedPort s port.val).any (tooLong s) then s else setPaused s port.val none)

/-- Free every frame that is queued for a port and count it (R459). -/
def flushPort (s : State) (p : Nat) : State :=
  (List.range 8).foldl (fun s tc =>
    let l := queueOf s p tc
    let s := l.foldl dropQueued (setQueue s p tc [])
    s.add (Reg.PKT_CNT_DROP_TAIL p tc) l.length) s

/-- Show the link of a port in PSTATUS, PKT_STATUS and RSTATUS. -/
def showLink (s : State) (p : Nat) (up : Bool) : State :=
  let s := s.setBit (Reg.PKT_PORT_PSTATUS_LINK p) up
  let s := s.wr Reg.PKT_STATUS_LINK (setBitAt (s.rd Reg.PKT_STATUS_LINK) p up)
  if p < 4 then s.setBit (if p % 2 = 0 then Reg.PKT_RED_RSTATUS_A_UP (p / 2) else Reg.PKT_RED_RSTATUS_B_UP (p / 2)) up else s

/-- The SerDes domain of a port (Table 20.2). -/
def serdesOf (p : Nat) : Nat := 14 + p / 2

/-- A port loses its link (R459, R460). -/
def loseLink (s : State) (p : Nat) : State :=
  if !domainUp s 10 || !s.bit (Reg.PKT_PORT_PSTATUS_LINK p) then s
  else
    let s := flushPort (showLink s p false) p
    let s := setFdb s (s.pkt.fdb.filter (fun e => e.port != p))
    let s := raise s Blk.pkt 0x0102 .warn p
    match lreOf s p with
    | some r => raise s Blk.pkt 0x0103 .warn (r + 2 ^ 8 * p)
    | none => s

/-- PORT_LINK_DOWN: a port loses its link (R459, R460). -/
def execPortLinkDown (port : Fin 6) (s : State) : Out := .next (loseLink s port.val)

/-- PORT_LINK_UP: the link of an enabled port whose SerDes domain runs comes up (R463, R466). -/
def execPortLinkUp (port : Fin 6) (s : State) : Out :=
  let p := port.val
  .next (if !domainUp s 10 || !domainUp s (serdesOf p) || !s.bit (Reg.PKT_PORT_PCFG_EN p) || s.bit (Reg.PKT_PORT_PSTATUS_LINK p) then s
    else raise (showLink s p true) Blk.pkt 0x0101 .info (p + 2 ^ 8 * s.rd (Reg.PKT_PORT_PCFG_SPEED p)))

/-- FRER_RESET_TIMEOUT: a recovery function has passed no frame for its reset timeout (R437, R438). (DEDUCED, log 27) -/
def execFrerResetTimeout (r : Fin 512) (s : State) : Out :=
  .next (if !s.bit (Reg.PKT_FRER_REC_CFG_EN r) || (frerOf s r).takeAny ||
      decide (s.taiNs < (frerOf s r).at_ + s.rd (Reg.PKT_FRER_REC_CFG_RESET_MS r) * 1000000) then s
    else (setFrer s r {}).inc (Reg.PKT_FRER_REC_RESETS r))

/-! ### Memory errors (R461) -/

/-- Every queued frame of a chain is dropped; one that waits for its stamp is reported (R519). -/
def forgetChain (s : State) (id : Nat) : State :=
  let lost := s.pkt.queue.flatMap (fun p => p.2.filter (fun f => f.chain == id))
  let q := (s.pkt.queue.map (fun p => (p.1, p.2.filter (fun f => f.chain != id)))).filter (fun p => !p.2.isEmpty)
  let keep := fun (i : HostItem) => match i with
    | .frame ch _ _ _ _ => ch != id
    | .record _ => true
  let w := (s.hif.wait.map (fun p => (p.1, p.2.filter keep))).filter (fun p => !p.2.isEmpty)
  lost.foldl dropQueued { s with pkt := { s.pkt with queue := q }, hif := { s.hif with wait := w } }

/-- CELL_UNCORR: an uncorrectable cell error drops the frame or fragment, retires the cell for good and is raised (R461). -/
def execCellUncorr (cell : Fin 131072) (client : Fin 16) (s : State) : Out :=
  .next (if !domainUp s 12 || s.slo.retired.contains cell.val then s
    else
      let s := match s.slo.chains.find? (fun c => c.cells.contains cell.val) with
        | none => s
        | some c => forgetChain (freeChain s c) c.id
      let s := (s.inc Reg.SLO_RETIRED_CELLS).sub Reg.SLO_STATUS_FREE 1
      raise { s with slo := { s.slo with retired := cell.val :: s.slo.retired } } Blk.slo 0x0101 .fault
        (cell.val + 2 ^ 32 * client.val))

end Sys2Proof.Machine
end

