-- ==== Sys2Proof/Machine/Hif.lean ====
section
/-! DEFINITION. Queue pairs, descriptors, record rings, quiesce and reset of instances ("Host interface and tenants"). -/

namespace Sys2Proof.Machine

/-! ### Small operations -/

/-- A write of a register word under the classes of its fields. -/
def plainWrite (s : State) (i : Ident) (addr : Nat) (v : Word) : State :=
  match regAt addr with
  | some (b, r) => writeReg s b r i addr v
  | none => s

/-- The address of a window register. -/
def winAddr (t off : Nat) : Nat := 0x4000000 + t * 0x40000 + off

/-- An event of an instance, limited to one per second for its subject, whose payload counts the drops since the last one. -/
def tenantCounted (s : State) (t block code : Nat) (sev : Sev) (subject base : Nat) : State :=
  let k := limitKey block code subject + 2 ^ 80
  let n := Tab.get 0 s.drops k + 1
  if limitOpen s block code subject then
    tenantLimited { s with drops := Tab.put 0 s.drops k 0 } t block code sev subject (base + 2 ^ 32 * (n % 2 ^ 32))
  else { s with drops := Tab.put 0 s.drops k n }

/-- The size of a queue's rings. -/
def ringSize (s : State) (t q : Nat) : Nat := 2 ^ s.rd (Reg.QCFG_SZ t q)

/-- Whether a queue works: ENABLED, and its instance neither quiesced nor cut off. -/
def queueRuns (s : State) (t q : Nat) : Bool :=
  domainUp s 13 && s.rd (Reg.QSTATUS_STATE t q) == 1 && !quiesced s t && s.bit Reg.HIF_STATUS_LINK_UP

/-- A queue meets an error (R539). -/
def queueError (s : State) (t q code ix : Nat) : State :=
  let s := ((s.wr (Reg.QSTATUS_STATE t q) 2).wr (Reg.QSTATUS_CODE t q) code).wr (Reg.QSTATUS_INDEX t q) ix
  tenantEvent { s with hif := { s.hif with part := Tab.put [] s.hif.part (t * 64 + q) [] } } t Blk.hif 0x0110 .warn
    (q + 2 ^ 8 * code + 2 ^ 16 * ix)

/-- A DMA read failed twice (R539, R540): error 0 UR, 1 CA, 2 poisoned, 3 timeout. -/
def dmaError (s : State) (t q ix err : Nat) : State :=
  let s := raiseLimited (s.inc Reg.HIF_DMA_ERR) Blk.hif 0x0106 .warn t (t + 2 ^ 8 * q + 2 ^ 16 * (err + 1))
  queueError s t q 4 ix

/-! ### Enable and disable (R513–R515) -/

/-- The lowest-numbered free physical pair. -/
def freePair (s : State) : Option Nat := (List.range 1024).find? (fun g => !s.bit (Reg.HIF_QP_MAP_BOUND g))

/-- Enable a DISABLED queue (R513, Table 11.10). -/
def enableQueue (s : State) (t q : Nat) : State :=
  let sz := s.rd (Reg.QCFG_SZ t q)
  if s.rd (Reg.QSTATUS_STATE t q) ≠ 0 then s
  else if sz < 6 ∨ 12 < sz ∨ s.rd (Reg.TX_BASE_LO t q) % 4096 ≠ 0 ∨ s.rd (Reg.RX_BASE_LO t q) % 4096 ≠ 0 then queueError s t q 9 0
  else if s.rd (Reg.HIF_TEN_QP_LIMIT t) ≤ s.rd (Reg.HIF_TEN_QP_IN_USE t) then s.wr (Reg.QSTATUS_CODE t q) 7
  else match freePair s with
    | none => s.wr (Reg.QSTATUS_CODE t q) 7
    | some g =>
      let s := ((s.wr (Reg.HIF_QP_MAP_BOUND g) 1).wr (Reg.HIF_QP_MAP_INSTANCE g) t).wr (Reg.HIF_QP_MAP_LOCAL g) q
      let s := (s.sub Reg.HIF_QP_FREE 1).wr (Reg.HIF_TEN_QP_IN_USE t) (s.rd (Reg.HIF_TEN_QP_IN_USE t) + 1)
      (s.wr (Reg.QSTATUS_STATE t q) 1).wr (Reg.QSTATUS_CODE t q) 0

/-- Free the physical pair of a queue. -/
def freeBinding (s : State) (t q : Nat) : State :=
  match (List.range 1024).find? (fun g => s.bit (Reg.HIF_QP_MAP_BOUND g) && s.rd (Reg.HIF_QP_MAP_INSTANCE g) == t &&
      s.rd (Reg.HIF_QP_MAP_LOCAL g) == q) with
  | none => s
  | some g => ((s.wr (Reg.HIF_QP_MAP g) 0).add Reg.HIF_QP_FREE 1).sub (Reg.HIF_TEN_QP_IN_USE t) 1

/-- Disable a queue (R514): it leaves ERROR too (R539). -/
def disableQueue (s : State) (t q : Nat) : State :=
  let s := freeBinding s t q
  let s := (s.wr (Reg.QSTATUS_STATE t q) 0).wr (Reg.QSTATUS_CODE t q) 0
  { s with hif := { s.hif with part := Tab.put [] s.hif.part (t * 64 + q) [] } }

/-- What a write of QCFG does beside its fields. -/
def queueConfigured (s : State) (t q : Nat) (on : Bool) : State :=
  if on then enableQueue s t q else if s.rd (Reg.QSTATUS_STATE t q) ≠ 0 then disableQueue s t q else s

/-- A write of QCFG. -/
def writeQcfg (s : State) (t q : Nat) (v : Word) : State :=
  queueConfigured (plainWrite s (identOf t) (winAddr t (0x1000 + q * 0x40)) v) t q (bitAt v.toNat 31)

/-- QUEUE_ENABLE: a write of QCFG with EN set (R513). -/
def execQueueEnable (t : Fin 128) (q : Fin 64) (be : BitVec 4) (v : Word) (s : State) : Out :=
  .next (windowWrite s t be (0x1000 + q.val * 0x40) 13 (fun s => writeQcfg s t q v))

/-- QUEUE_DISABLE: a write of QCFG that clears EN (R514). -/
def execQueueDisable (t : Fin 128) (q : Fin 64) (be : BitVec 4) (v : Word) (s : State) : Out :=
  .next (windowWrite s t be (0x1000 + q.val * 0x40) 13 (fun s => writeQcfg s t q v))

/-! ### Transmit descriptors (R515–R519) -/

/-- The frame that bytes of a host buffer spell. -/
def parseInner (bs : List Byte) : Inner :=
  let dst := BitVec.ofNat 48 (beNat (bs.take 6))
  let src := BitVec.ofNat 48 (beNat ((bs.drop 6).take 6))
  let ety := beNat ((bs.drop 12).take 2)
  if ety = 0x8100 then
    let tci := beNat ((bs.drop 14).take 2)
    { dst := dst, src := src
      tag := some (⟨tci / 8192 % 8, Nat.mod_lt _ (by decide)⟩, ⟨tci % 4096, Nat.mod_lt _ (by decide)⟩)
      etype := BitVec.ofNat 16 (beNat ((bs.drop 16).take 2)), data := bs.drop 18 }
  else { dst := dst, src := src, tag := none, etype := BitVec.ofNat 16 ety, data := bs.drop 14 }

/-- Whether a frame of instance `t` breaks a rule of R518. -/
def spoofed (s : State) (t : Nat) (x : Inner) : Bool :=
  (!s.bit (Reg.HIF_TEN_CTRL_ANY_SRC t) && x.src.toNat != tenMac s t) ||
  (s.rd (Reg.HIF_TEN_MAC_HI_VID t) != 0 && x.tag.isSome)

/-- The frame with the VID of the instance inserted (R518). -/
def withTenVid (s : State) (t : Nat) (x : Inner) : Inner :=
  let v := s.rd (Reg.HIF_TEN_MAC_HI_VID t)
  if v = 0 then x else { x with tag := some (0, ⟨v % 4096, Nat.mod_lt _ (by decide)⟩) }

/-- Send a frame of instance `t` into the bridge at HOST (R436, R471, R518): the status of Table 11.4. -/
def sendFrame (s : State) (t : Nat) (x : Inner) (ep : Nat) (tc : Option (Fin 8)) (ts : Option TsWait) (held : Option Nat) :
    State × Nat :=
  if spoofed s t x then (s, 4)
  else
    let x := withTenVid s t x
    let cls := (tc.map Fin.val).getD (pcpClass s 6 (framePcp s 6 x))
    let (s, ok) := takeTokens s (5000 + t) (s.rd (Reg.PKT_TEN_POL_RATE t)) (s.rd (Reg.PKT_TEN_POL_BURST_BYTES t))
      ((innerBytes x).length + 4)
    if !ok then (overload (s.inc (Reg.PKT_CNT_DROP_POL 6 cls)) Blk.pkt (3 * 65536 + t), 3)
    else if ep = 0xFFFF then
      let f : Frame := { inner := x, len := (innerBytes x).length + 4, arrival := s.tim.now }
      let (s, ok) := bridge s 6 f (tc.map Fin.val) (some t) ts held
      (s, if ok then 0 else 3)
    else if 8192 ≤ ep ∨ ¬ epOn s ep then
      (tenantEvent (s.inc (Reg.TUN_TEN_REFUSED t)) t Blk.tun 0x0110 .info (ep + 2 ^ 16 * 1), 2)
    else if epOwner s ep ≠ some t then
      (tenantEvent (s.inc (Reg.TUN_TEN_REFUSED t)) t Blk.tun 0x0110 .info (ep + 2 ^ 16 * 2), 2)
    else
      match encapsulate s ep cls x with
      | (s, none) => (s, 3)
      | (s, some f) =>
        let (s, ok) := bridge s 6 f (some cls) (some t) ts none
        (s, if ok then 0 else 3)

/-- Whether a frame with this TX stamp waits in an egress queue. -/
def tsQueued (s : State) (w : TsWait) : Bool := s.pkt.queue.any (fun p => p.2.any (fun q => q.ts == some w))

/-- Advance TX_HEAD by `n`. -/
def txAdvance (s : State) (t q n : Nat) : State := s.wr (Reg.TX_HEAD t q) ((s.rd (Reg.TX_HEAD t q) + n) % ringSize s t q)

/-- Write back the last descriptor of a frame, unless it waits for its stamp (R519), with its message (R531). -/
def txDone (s : State) (w : TsWait) (ts : Bool) (status : Nat) : State :=
  if ts && status == 0 && tsQueued s w then s
  else
    let s := txWriteback s w none status
    if w.irq then queueIrq s w.t w.q else s

/-- A SEND descriptor (R516, R517): collected until EOP, then one frame. -/
def txSend (s : State) (t q ix : Nat) (d : TxDesc) : State :=
  let k := t * 64 + q
  let parts := Tab.get [] s.hif.part k ++ [d]
  let bytes := parts.flatMap (fun p => p.data.take p.len)
  if 16 < parts.length ∨ min 9216 (s.rd Reg.PKT_MAX_FRAME_BYTES) < bytes.length + 4 then queueError s t q 1 ix
  else if !d.eop then { s with hif := { s.hif with part := Tab.put [] s.hif.part k parts } }
  else
    let s := { s with hif := { s.hif with part := Tab.put [] s.hif.part k [] } }
    let head := s.rd (Reg.TX_HEAD t q)
    let w : TsWait := ⟨t, q, ix, d.len, d.irq⟩
    let (s, st) := sendFrame s t (parseInner bytes) d.ep d.tc (if d.ts then some w else none) none
    let s := (parts.dropLast.zipIdx).foldl (fun s p =>
      let w : TsWait := ⟨t, q, (head + p.2) % ringSize s t q, p.1.len, p.1.irq⟩
      txDone s w false st) s
    txAdvance (txDone s w d.ts st) t q parts.length

/-- A SEND_HELD or FETCH descriptor (R517). (DEDUCED, log 30) -/
def txHeld (s : State) (t q ix : Nat) (d : TxDesc) : State :=
  let w : TsWait := ⟨t, q, ix, d.len, d.irq⟩
  match checkHandle s t d.handle with
  | .inl r => txAdvance (txDone (rejectRelease s t d.handle r) w false 1) t q 1
  | .inr c =>
    let x := (c.frame.map Frame.inner).getD (parseInner [])
    if d.op = 1 then
      let before := c.refs
      let (s, st) := sendFrame s t x d.ep d.tc (if d.ts then some w else none) (some c.id)
      let s := match chainOf s c.id with
        | none => s
        | some c =>
          let c := { c with busy := c.busy + (c.refs - before), dying := c.dying || !d.keep }
          if c.busy = 0 ∧ c.dying then freeChain s c else setChain s c
      txAdvance (txDone s w d.ts st) t q 1
    else
      let bytes := ((innerBytes x).drop d.ofs).take d.len
      let s := hostWrite s t d.addr bytes
      let s := if d.keep then s else letGo s c
      txAdvance (txDone s { w with len := bytes.length } false 0) t q 1

/-- The index of the next descriptor of a queue that is fetched. -/
def txIndex (s : State) (t q : Nat) : Nat :=
  (s.rd (Reg.TX_HEAD t q) + (Tab.get [] s.hif.part (t * 64 + q)).length) % ringSize s t q

/-- The queues with pending TX descriptors, instance × 64 + queue, ascending. -/
def txPending (s : State) : List Nat :=
  s.regs.filterMap (fun p =>
    let o := p.1 - 0x4000000
    let t := o / 0x40000
    let q := (o % 0x40000 - 0x1000) / 0x40
    if t < 128 ∧ q < 64 ∧ p.1 = (Reg.QSTATUS_STATE t q).key ∧ queueRuns s t q ∧ txIndex s t q ≠ s.rd (Reg.TX_TAIL t q) then some (t * 64 + q)
    else none)

/-- The queue that is served next: instances in weighted round-robin, the queues of an instance in round-robin (R520). The weight counts
descriptors. (DEDUCED, log 30) -/
def txTurn (s : State) : Option (Nat × Nat) :=
  let ks := txPending s
  let stays := decide (0 < s.hif.rrLeft) && ks.any (fun k => k / 64 == s.hif.rrInst)
  let t := if stays then some s.hif.rrInst
    else ((ks.find? (fun k => decide (s.hif.rrInst < k / 64))).or ks.head?).map (fun k => k / 64)
  t.bind (fun t =>
    let qs := (ks.filter (fun k => k / 64 == t)).map (fun k => k % 64)
    ((qs.find? (fun q => decide (Tab.get 0 s.hif.rrQueue t ≤ q))).or qs.head?).map (fun q => (t, q)))

/-- A descriptor of a queue is fetched: what is left of the weight of its instance, and the queue that follows (R520). (DEDUCED, log 30) -/
def txServed (s : State) (t q : Nat) : State :=
  let stays := t == s.hif.rrInst && decide (0 < s.hif.rrLeft)
  let left := if stays then s.hif.rrLeft else max 1 (s.rd (Reg.HIF_TEN_EGR_WEIGHT t))
  { s with hif := { s.hif with rrInst := t, rrLeft := left - 1, rrQueue := Tab.put 0 s.hif.rrQueue t ((q + 1) % 64) } }

/-- TX_DESCRIPTOR: a fetched descriptor of the queue whose turn it is (R516–R520, R539). (DEDUCED, log 30) -/
def execTxDescriptor (t : Fin 128) (q : Fin 64) (d : TxDesc) (s : State) : Out :=
  let ix := txIndex s t q
  .next (if txTurn s ≠ some (t.val, q.val) || s.hif.stalled || !pktRuns s then s
    else
      let s := txServed s t q
      let s := if d.retried && d.dmaErr.isNone then transient s Blk.hif 1 t else s
      match d.dmaErr with
      | some e => dmaError s t q ix e
      | none =>
        if d.len = 0 ∨ 16384 < d.len then queueError s t q 1 ix
        else if 2 < d.op ∨ (d.op ≠ 0 ∧ ¬ d.eop) then queueError s t q 2 ix
        else if !d.clean then queueError s t q 3 ix
        else if d.op = 0 then txSend s t q ix d
        else txHeld s t q ix d)

/-! ### Receive descriptors (R521–R523) -/

/-- The bytes of HDR_LEN. -/
def hdrLen (code : Nat) : Nat := [0, 64, 128, 256].getD code 0

/-- The bytes of an RX write-back (Table 11.5): stamp, bytes in the buffer, time quality, endpoint, handle, VID, port and class,
flags, total. -/
def rxBytes (stamp n timeq ep handle vid pc flags total : Nat) : List Byte :=
  toLe 8 (stamp / 65536) ++ toLe 2 (stamp % 65536) ++ toLe 2 n ++ toLe 2 (128 * timeq) ++ toLe 2 ep ++ toLe 4 handle ++
    toLe 2 vid ++ toLe 1 pc ++ toLe 1 flags ++ toLe 4 total ++ toLe 2 0 ++ toLe 1 0 ++ toLe 1 0x80

/-- A write to host memory of part of the .CFF file of a record, with its dirty-log entries. -/
def hostFile (s : State) (t addr ofs len seq : Nat) : State :=
  if len = 0 then s
  else
    let lo := addr / 4096
    let hi := (addr + len - 1) / 4096
    ((List.range (hi - lo + 1)).map (fun i => lo + i)).foldl (fun s p => logPage s t p) (emit s (.hostFile t addr ofs len seq))

/-- What goes into the buffers: bytes, then `file` bytes of a record's file. -/
structure RxLoad where
  bytes : List Byte
  file : Nat
  seq : Nat
  stamp : Nat
  ep : Nat
  handle : Nat
  vid : Nat
  pc : Nat
  flags : Nat
  total : Nat
  deriving DecidableEq, Repr

/-- Fill descriptors in ring order (R523): `ofs` bytes have been placed. The last write-back has EOP. -/
def fillRx (t q : Nat) (x : RxLoad) : List RxDesc → Nat → Nat → State → State
  | [], _, _, s => s
  | d :: ds, ofs, first, s =>
    let all := x.bytes.length + x.file
    let n := min d.len (all - ofs)
    let here := (x.bytes.drop ofs).take n
    let s := hostWrite s t d.addr here
    let s := hostFile s t (d.addr + here.length) (ofs + here.length - x.bytes.length) (n - here.length) x.seq
    let last := decide (all ≤ ofs + n)
    let base := s.rd64 (Reg.RX_BASE_LO t q) (Reg.RX_BASE_HI t q)
    let ix := s.rd (Reg.RX_HEAD t q)
    let gap := first = 1 && s.hif.gap.contains (t * 64 + q)
    let s := if gap then { s with hif := { s.hif with gap := s.hif.gap.filter (fun k => k != t * 64 + q) } } else s
    let s := hostWrite s t (base + 32 * ix)
      (rxBytes x.stamp n (s.rd Reg.TIM_STATUS_QUALITY) x.ep (if first = 1 then x.handle else 0) x.vid x.pc
        (x.flags + last.toNat + 8 * gap.toNat) x.total)
    let s := s.wr (Reg.RX_HEAD t q) ((ix + 1) % ringSize s t q)
    if last then queueIrq s t q else fillRx t q x ds (ofs + n) 0 s

/-- The first descriptor that cannot be used, and its error code. -/
def badRx : List RxDesc → Nat → Option (Nat × RxDesc)
  | [], _ => none
  | d :: ds, i =>
    if d.dmaErr.isSome || !d.clean || d.len % 256 != 0 || d.len == 0 || decide (16384 < d.len) then some (i, d) else badRx ds (i + 1)

/-- The descriptors that a load of `n` bytes needs; none when there are too few. -/
def needed (n : Nat) : List RxDesc → Option (List RxDesc)
  | [] => none
  | d :: ds => if n ≤ d.len then some [d] else (needed (n - d.len) ds).map (fun l => d :: l)

/-- Deliver a load into the descriptors that are ready, or meet a queue error, or wait (none). -/
def loadRx (s : State) (t q : Nat) (ds : List RxDesc) (x : RxLoad) : State × Bool :=
  let size := ringSize s t q
  let ready := (s.rd (Reg.RX_TAIL t q) + size - s.rd (Reg.RX_HEAD t q)) % size
  match needed (x.bytes.length + x.file) (ds.take ready) with
  | none =>
    match badRx (ds.take ready) 0 with
    | some (i, d) => (rxError s t q ((s.rd (Reg.RX_HEAD t q) + i) % size) d, false)
    | none => (s, false)
  | some use =>
    match badRx use 0 with
    | some (i, d) => (rxError s t q ((s.rd (Reg.RX_HEAD t q) + i) % size) d, false)
    | none => (fillRx t q x use 0 1 s, true)
where
  /-- The error of an unusable RX descriptor (Table 11.10). -/
  rxError (s : State) (t q ix : Nat) (d : RxDesc) : State :=
    match d.dmaErr with
    | some e => dmaError s t q ix e
    | none => queueError s t q (if d.clean then 6 else 3) ix

/-- Bytes 0–63 of the record header of Table 10.7. -/
def recordHeader (s : State) (r : DrRec) : List Byte :=
  let mac := (toLe 6 (deviceMac s)).reverse
  let b := [0x46, 0x56, 0x52, 0x43] ++ toLe 1 r.kind ++ toLe 1 r.trunc.toNat ++ toLe 2 0 ++ toLe 8 r.seq ++ toLe 8 r.first ++
    toLe 4 r.fileLen ++ toLe 4 r.fileCrc ++ toLe 4 (s.rd Reg.IMG_ACTIVE_ID) ++ toLe 4 (s.rd Reg.IMG_ACTIVE_VER) ++ mac ++
    toLe 2 r.names ++ toLe 12 0
  b ++ toLe 4 (crc32c b)

/-- Show the closed records that wait. -/
def showWaiting (s : State) : State :=
  let n := (s.mpr.waiting.filter (fun r => r.kind == 1)).length
  (s.wr Reg.MPR_STATUS_WAITING n).wr Reg.REC_STATUS_WAITING n

/-- A record leaves the Silo: its cells are freed. -/
def forgetRecord (s : State) (r : DrRec) : State :=
  let s := r.chains.foldl dropRef s
  showWaiting { s with mpr := { s.mpr with waiting := s.mpr.waiting.filter (fun x => !(x.kind == r.kind && x.seq == r.seq)) } }

/-- Remove the first waiting item of a queue. -/
def popWait (s : State) (t q : Nat) : State :=
  { s with hif := { s.hif with wait := Tab.put [] s.hif.wait (t * 64 + q) (waiting s t q).tail } }

/-- A frame of a queue, held when QCFG.HOLD is set and the account takes its cells (R449, R523), else copied. -/
def deliverFrame (s : State) (t q : Nat) (ds : List RxDesc) (ch : Nat) (f : Frame) (port tc : Nat) (ep : Option Nat) : State :=
  let all := innerBytes f.inner
  let vid := match f.inner.tag with
    | some (_, v) => v.val
    | none => 0
  let x : RxLoad := { bytes := all, file := 0, seq := 0, stamp := f.arrival, ep := ep.getD 0xFFFF, handle := 0, vid := vid
                      pc := port + 16 * tc, flags := 0, total := all.length }
  let held := if s.bit (Reg.QCFG_HOLD t q) then
      (chainOf s ch).bind (fun c => if c.refs = 1 ∧ c.holder.isNone then
        (holdChain s t c).map (fun s => (s, handleOf s t c)) else none)
    else none
  match held with
  | some (s1, h) =>
    let x := { x with bytes := all.take (hdrLen (s.rd (Reg.QCFG_HDR_LEN t q))), handle := h, flags := 2 }
    match loadRx s1 t q ds x with
    | (s1, true) => dropRef (popWait s1 t q) ch
    | (s1, false) => if s1.rd (Reg.QSTATUS_STATE t q) = 2 then (loadRx s t q ds x).1 else s
  | none =>
    match loadRx s t q ds x with
    | (s, true) => dropRef (popWait s t q) ch
    | (s, false) => s

/-- RX_DELIVER: the first item that waits on a queue goes into its RX descriptors (R521–R523). (DEDUCED, log 30) -/
def execRxDeliver (t : Fin 128) (q : Fin 64) (ds : List RxDesc) (s : State) : Out :=
  .next (if !queueRuns s t q || s.hif.stalled then s
    else match waiting s t q with
    | .frame ch f port tc ep :: _ => deliverFrame s t q ds ch f port tc ep
    | .record _ :: _ => popWait s t q
    | [] =>
      if s.rd (Reg.TW_CTRL_DRQ t) = q.val ∧ s.rd Reg.MPR_DR_CHAN_DEST = t.val ∧ 1 ≤ t.val then
        match s.mpr.waiting with
        | [] => s
        | r :: _ =>
          let x : RxLoad := { bytes := recordHeader s r, file := r.fileLen, seq := r.seq, stamp := r.first * 65536, ep := 0xFFFF
                              handle := 0, vid := 0, pc := 0, flags := 4, total := 64 + r.fileLen }
          match loadRx s t q ds x with
          | (s, true) => forgetRecord s r
          | (s, false) => s
      else s)

/-- RX_WAIT_EXPIRED: a frame waited RX_WAIT µs for a descriptor (R537); records are exempt. -/
def execRxWaitExpired (t : Fin 128) (q : Fin 64) (s : State) : Out :=
  .next (match waiting s t q with
    | .frame ch _ _ _ _ :: _ =>
      let s := dropRef (popWait s t q) ch
      let k := t.val * 64 + q.val
      let gap := if s.hif.gap.contains k then s.hif.gap else k :: s.hif.gap
      let s := { s.inc (Reg.HOST_DROP t q) with hif := { s.hif with gap := gap } }
      tenantCounted s t Blk.hif 0x0111 .warn k q
    | _ => s)

/-! ### Record rings (R524–R530) -/

/-- The slot size of a record of `n` entries (R525). -/
def slotSize (n : Nat) : Nat := ceilDiv (64 + 8 * n) 64 * 64

/-- Whether an instance holds the right to a host publication. -/
def hasRight (s : State) (t pub : Nat) : Bool := bitAt (s.rd (Reg.HIF_TEN_RIGHTS t (pub / 32))) (pub % 32)

/-- Set the state and code of a record ring; a ring that does not run is forgotten. -/
def ringState (s : State) (t r st code : Nat) (x : Option Ring) : State :=
  let s := (s.wr (Reg.RSTATUS_STATE t r) st).wr (Reg.RSTATUS_CODE t r) code
  { s with hif := { s.hif with ring := Tab.put none s.hif.ring (t * 16 + r) x } }

/-- Enable a disabled record ring (R524–R526). -/
def enableRing (s : State) (t r : Nat) : State :=
  let sz := s.rd (Reg.RCFG_SZ t r)
  let pub := s.rd (Reg.RCFG_PUB t r)
  if s.rd (Reg.RSTATUS_STATE t r) ≠ 0 then s
  else if sz < 4 ∨ 12 < sz ∨ s.rd (Reg.RBASE_LO t r) % 4096 ≠ 0 then s.wr (Reg.RSTATUS_CODE t r) 9
  else if !hasRight s t pub then s.wr (Reg.RSTATUS_CODE t r) 8
  else ringState s t r 1 0 (some { slot := slotSize (s.rd (Reg.MPR_HPUB_CFG_N pub)) })

/-- A write of RCFG: enable, or disable, which ends ERROR too (R526). -/
def writeRcfg (s : State) (t r : Nat) (v : Word) : State :=
  let s := plainWrite s (identOf t) (winAddr t (0x2000 + r * 0x20)) v
  if bitAt v.toNat 31 then enableRing s t r
  else if s.rd (Reg.RSTATUS_STATE t r) ≠ 0 then ringState s t r 0 0 none else s

/-- RECORD_RING_ENABLE: a write of RCFG with EN set (R524). -/
def execRecordRingEnable (t : Fin 128) (r : Fin 16) (be : BitVec 4) (v : Word) (s : State) : Out :=
  .next (windowWrite s t be (0x2000 + r.val * 0x20) 13 (fun s => writeRcfg s t r v))

/-- The bytes of a record header (Table 11.6). -/
def recHeader (s : State) (pub n seq lost phase : Nat) (floc : Bool) : List Byte :=
  toLe 2 pub ++ toLe 2 n ++ toLe 4 seq ++ toLe 8 s.tick ++
    toLe 8 (edgeInstant s.rate s.tik.sec (s.rd Reg.TIK_INSEC) / 65536) ++ toLe 4 (s.rd Reg.IMG_ACTIVE_VER) ++
    toLe 2 (128 * s.timeq) ++ toLe 1 ((decide (0 < lost)).toNat + 2 * floc.toNat) ++ toLe 1 0 ++ toLe 4 lost ++ toLe 27 0 ++ toLe 1 phase

/-- A record that is not written (R528, R538, R541). -/
def loseRecord (s : State) (t r : Nat) (x : Ring) : State :=
  let s := s.inc (Reg.RLOST t r)
  let s := { s with hif := { s.hif with ring := Tab.put none s.hif.ring (t * 16 + r) (some { x with lost := x.lost + 1 }) } }
  tenantLimited s t Blk.hif 0x0112 .warn (t * 16 + r) (r + 2 ^ 32 * s.rd (Reg.RLOST t r))

/-- Write a record into one ring (R526–R528). -/
def writeRecord (s : State) (t r : Nat) (x : Ring) (pub n : Nat) (payload : List Byte) (floc : Bool) : State :=
  let size := 2 ^ s.rd (Reg.RCFG_SZ t r)
  if s.hif.stalled then s.inc Reg.HIF_STALL_DROP
  else if x.slot < 64 + 8 * n then
    tenantEvent (ringState s t r 2 9 none) t Blk.hif 0x0110 .warn (0x40 + r + 2 ^ 8 * 9)
  else if quiesced s t || decide (size ≤ (x.index + 2 ^ 32 - s.rd (Reg.RHEAD t r)) % 2 ^ 32) then loseRecord s t r x
  else
    let at_ := s.rd64 (Reg.RBASE_LO t r) (Reg.RBASE_HI t r) + x.slot * (x.index % size)
    let s := hostWrite s t (at_ + 64) payload
    let s := hostWrite s t at_ (recHeader s pub n x.seq x.lost (phaseBit x.index size) floc)
    let y : Ring := { slot := x.slot, index := (x.index + 1) % 2 ^ 32, seq := (x.seq + 1) % 2 ^ 32, lost := 0 }
    let s := { s with hif := { s.hif with ring := Tab.put none s.hif.ring (t * 16 + r) (some y) } }
    if s.bit (Reg.RCFG_IRQ t r) then msix s t (s.rd (Reg.RCFG_VEC t r)) else s

/-- Write a record of host publication `h` into every ring bound to it, instances ascending (R527, R530). -/
def writeRecords (s : State) (h pub n : Nat) (payload : List Byte) (floc : Bool) : State :=
  (s.hif.ring.map Prod.fst).foldl (fun s k =>
    match Tab.get none s.hif.ring k with
    | some x => if s.rd (Reg.RCFG_PUB (k / 16) (k % 16)) = h then writeRecord s (k / 16) (k % 16) x pub n payload floc else s
    | none => s) s

/-- At a tick edge a ring whose right was withdrawn stops (R535), and the logged pages are forgotten (R549). -/
def hifEdge (s : State) : State :=
  let s := { s with hif := { s.hif with pages := [] } }
  (s.hif.ring.map Prod.fst).foldl (fun s k =>
    if hasRight s (k / 16) (s.rd (Reg.RCFG_PUB (k / 16) (k % 16))) then s else ringState s (k / 16) (k % 16) 2 8 none) s

/-! ### Stall, link, quiesce (R538, R541, R542) -/

/-- Every host-bound frame that waits is dropped and counted in HIF_STALL_DROP (R538). (DEDUCED, log 30) -/
def dropStalled (s : State) : State :=
  let l := s.hif.wait.flatMap (fun p => p.2.map (fun i => match i with
    | .frame ch _ _ _ _ => some ch
    | .record _ => none))
  (l.filterMap id).foldl (fun s ch => (dropRef s ch).inc Reg.HIF_STALL_DROP) { s with hif := { s.hif with wait := [] } }

/-- HOST_STALL: no posted credit for 1 ms (R538). -/
def execHostStall (ms : Nat) (s : State) : Out :=
  .next (if s.hif.stalled || !domainUp s 13 then s
    else raise (dropStalled { s with hif := { s.hif with stalled := true } }) Blk.hif 0x0103 .fault (ms % 2 ^ 32))

/-- HOST_CREDIT_RETURN: credits return (R538). -/
def execHostCreditReturn (s : State) : Out := .next { s with hif := { s.hif with stalled := false } }

/-- Everything that waits for an instance is dropped and counted (R541). -/
def dropWaiting (s : State) (t : Nat) : State :=
  (List.range 64).foldl (fun s q =>
    let l := waiting s t q
    let s := l.foldl (fun s i => match i with
      | .frame ch _ _ _ _ => (dropRef s ch).inc (Reg.HOST_DROP t q)
      | .record _ => s) s
    { s with hif := { s.hif with wait := Tab.put [] s.hif.wait (t * 64 + q) [] } }) s

/-- The address of HIF_TEN_CTRL of an instance. -/
def tenCtrl (t : Nat) : Nat := 0x610000 + t * 0x40

/-- What a write of HIF_TEN_CTRL does beside its fields, from the QUIESCE bit before and after. -/
def quiesceChanged (s : State) (t : Nat) (was now : Bool) : State :=
  if was == now then s
  else if now then dropWaiting s t
  else
    let kept := Tab.get [] s.hif.kept t
    let s := (s.wr (Reg.HIF_TEN_STATUS_QUIESCED t) 0)
    let s := { s with hif := { s.hif with kept := Tab.put [] s.hif.kept t [] } }
    kept.foldl (fun s e => putEvent s t e) s

/-- A write of HIF_TEN_CTRL: QUIESCE is ignored during an FLR (Table 11.12). -/
def writeTenCtrl (s : State) (i : Ident) (t : Nat) (v : Word) : State :=
  let was := quiesced s t
  let s := plainWrite s i (tenCtrl t) v
  quiesceChanged s t was (quiesced s t)

/-- A write access to HIF_TEN_CTRL: MCAST and ANY_SRC lie in PD18 and QUIESCE in PD13, so that it is isolated as a whole only where both
are down (R44). -/
def tenCtrlAccess (s : State) (a : Access) (t : Nat) (v : Word) : State :=
  if debugShut s a.init then cfgViol s Blk.hif a.init (tenCtrl t)
  else if !domainUp s 13 && !domainUp s 18 then isoErr s Blk.hif a.init (tenCtrl t) 13
  else if a.be ≠ 15 then accSize s Blk.hif a.init (tenCtrl t)
  else writeTenCtrl s a.init t v

/-- QUIESCE: a write of 1 to HIF_TEN_CTRL.QUIESCE (R541). -/
def execQuiesce (a : Access) (t : Fin 128) (v : Word) (s : State) : Out := .next (tenCtrlAccess s a t v)

/-- QUIESCE_RESUME: a write of 0 to HIF_TEN_CTRL.QUIESCE (R542). -/
def execQuiesceResume (a : Access) (t : Fin 128) (v : Word) (s : State) : Out := .next (tenCtrlAccess s a t v)

/-- QUIESCE_COMPLETE: every step of Table 11.11a is done; messages due are set in the PBA. -/
def execQuiesceComplete (t : Fin 128) (s : State) : Out :=
  .next (if !quiesced s t then s
    else
      let due := s.hif.itrDue.filter (fun k => k / 64 == t.val)
      let s := due.foldl (fun s k => setPba s t (s.rd (Reg.QCFG_VEC t (k % 64)))) s
      let part := s.hif.part.filter (fun p => p.1 / 64 != t.val)
      let s := { s with hif := { s.hif with itrDue := s.hif.itrDue.filter (fun k => k / 64 != t.val), part := part } }
      s.wr (Reg.HIF_TEN_STATUS_QUIESCED t) 1)

/-- ITR_EXPIRED: a moderated message is sent (R531). -/
def execItrExpired (t : Fin 128) (q : Fin 64) (s : State) : Out :=
  let k := t.val * 64 + q.val
  .next (if s.hif.itrDue.contains k then
      msix { s with hif := { s.hif with itrDue := s.hif.itrDue.filter (fun x => x != k), itrAt := Tab.put 0 s.hif.itrAt k s.taiNs } }
        t (s.rd (Reg.QCFG_VEC t q))
    else s)

/-- PCIE_LINK_UP: the link has trained (R552, R554). -/
def execPcieLinkUp (speed : Fin 3) (width : Fin 4) (s : State) : Out :=
  .next (if !domainUp s 13 then s
    else
      let s := ((s.wr Reg.HIF_STATUS_LINK_UP 1).wr Reg.HIF_STATUS_SPEED speed).wr Reg.HIF_STATUS_WIDTH width
      raise s Blk.hif 0x0101 .info (speed.val + 2 ^ 8 * width.val))

/-- PCIE_LINK_DOWN: the link is lost; host-bound work waits under R537 and R538. -/
def execPcieLinkDown (s : State) : Out :=
  .next (if s.bit Reg.HIF_STATUS_LINK_UP then raise (s.wr Reg.HIF_STATUS_LINK_UP 0) Blk.hif 0x0102 .warn 0 else s)

/-! ### Reset of an instance (R544–R547) -/

/-- An instance is reset: its queues, rings, event ring and MSI-X table return to reset, its holds and keys go; an instance that
was not QUIESCED is reported (R544, R545). -/
def resetInstance (s : State) (t : Nat) : State :=
  let calm := s.bit (Reg.HIF_TEN_STATUS_QUIESCED t)
  let s := if calm then s else raise s Blk.hif 0x0104 .warn t
  let s := dropWaiting (dropHeld s (fun i => i == t + 1)) t
  let s := (List.range 64).foldl (fun s q => freeBinding s t q) s
  let lo := winAddr t 0
  let s := resetRegs s (fun k => (decide (lo ≤ keyAddr k) && decide (keyAddr k < lo + 0x8000)) ||
    (decide (lo + 0x36000 ≤ keyAddr k) && decide (keyAddr k < lo + 0x38000)))
  let drop := fun (k : Nat) => k / 64 != t
  let s := { s with hif := { s.hif with
    gap := s.hif.gap.filter drop, part := s.hif.part.filter (fun p => drop p.1), ring := s.hif.ring.filter (fun p => p.1 / 16 != t)
    evq := Tab.put 0 s.hif.evq t 0, kept := Tab.put [] s.hif.kept t [], itrAt := s.hif.itrAt.filter (fun p => drop p.1)
    itrDue := s.hif.itrDue.filter drop } }
  let s := ((s.wr (Reg.HIF_TEN_CTRL_QUIESCE t) 0).wr (Reg.HIF_TEN_STATUS_QUIESCED t) 0).setBit (Reg.HIF_TEN_STATUS_OVR_RESET t) (!calm)
  wipeInstance (reclaim s t) t

/-! ### Divided resources (R535) -/

/-- The bits of Table 11.9's rows whose active values of an instance differ. -/
def resDiff (a b : State) (t : Nat) : Nat :=
  let f := fun (n : Nat) (regs : List Fld) => if regs.any (fun g => a.rd g != b.rd g) then 2 ^ n else 0
  f 0 [Reg.HIF_TEN_QP_LIMIT t] + f 1 [Reg.HIF_TEN_VEC_LIMIT t] + f 2 [Reg.SLO_ACCT_GUAR t, Reg.SLO_ACCT_MAX t] +
  f 3 [Reg.HIF_TEN_EGR_WEIGHT t] + f 4 [Reg.TUN_TEN_BASE t, Reg.TUN_TEN_COUNT t] +
  f 5 [Reg.CRY_TEN_KEY_BASE t, Reg.CRY_TEN_KEY_CNT t, Reg.CRY_TEN_SA_BASE t, Reg.CRY_TEN_SA_CNT t] +
  f 6 ((List.range 8).map (Reg.HIF_TEN_RIGHTS t)) + f 7 [Reg.HIF_TEN_MBX_COUNT t]

/-- Remember which resources a commit changed, per instance. -/
def noteResources (old s : State) : State :=
  let m := (List.range 128).foldl (fun m t => Tab.put 0 m t (Nat.lor (Tab.get 0 m t) (resDiff old s t))) s.hif.resChanged
  { s with hif := { s.hif with resChanged := m } }

/-- Phase 4: RES_CHANGED to every instance whose fields changed (R535). -/
def tellResources (s : State) : State :=
  let l := s.hif.resChanged
  l.foldl (fun s p => tenantEvent s p.1 Blk.hif 0x0113 .info p.2) { s with hif := { s.hif with resChanged := [] } }

end Sys2Proof.Machine
end

