-- ==== Sys2Proof/Machine/Panel.lean ====
section
/-! DEFINITION. The panel's event FIFO, its key lock and its control register ("Panel and serial ports"). -/

namespace Sys2Proof.Machine

/-- Time passes before a panel command: the millisecond counter of R817. -/
def panelAt (s : State) (ms : Nat) : State := { s with pnl := { s.pnl with ms := s.pnl.ms + ms } }

/-! ### Event FIFO (R817–R819) -/

/-- The TYPE codes of R817. -/
abbrev pnlPress := 1
abbrev pnlRelease := 2
abbrev pnlLong := 3
abbrev pnlCombo := 4
abbrev pnlStuck := 5
abbrev pnlUnstuck := 6
abbrev pnlLocked := 7
abbrev pnlUnlocked := 8
abbrev pnlLost := 9

/-- Set the FIFO with its count; OVF ends when the FIFO is empty. (DEDUCED, log 47) -/
def setFifo (s : State) (q : List Word) : State :=
  let s := { s with pnl := { s.pnl with fifo := q } }
  let s := s.wr Reg.PNL_STATUS_FIFO_CNT q.length
  if q.isEmpty then s.wr Reg.PNL_STATUS_OVF 0 else s

/-- Append an entry to a FIFO with room; its change from empty raises the interrupts (R819). -/
def pushEntry (s : State) (typ code : Nat) : State :=
  let empty := s.pnl.fifo.isEmpty
  let w := BitVec.ofNat 32 (s.pnl.ms % 65536 * 65536 + typ * 256 + code % 256)
  let s := setFifo s (s.pnl.fifo ++ [w])
  if !empty then s
  else
    let s := emit s (.mgmtIrq Blk.pnl)
    if s.bit Reg.PNL_IRQ_EN then msix s 0 (s.rd Reg.PNL_IRQ_VEC) else s

/-- Write an entry, or count it when the FIFO is full (R818). -/
def pnlEntry (s : State) (typ code : Nat) : State :=
  if 64 ≤ s.pnl.fifo.length then
    let s := { s with pnl := { s.pnl with lost := s.pnl.lost + 1 } }
    s.wr Reg.PNL_STATUS_OVF 1
  else pushEntry s typ code

/-- An entry that is not written while LOCKED is 1 (R823). -/
def keyEntry (s : State) (typ code : Nat) : State :=
  if s.bit Reg.PNL_STATUS_LOCKED then s else pnlEntry s typ code

/-! ### The key lock (R823, R824) -/

/-- The panel is locked. (DEDUCED, log 47) -/
def panelLock (s : State) : State :=
  let s := if s.bit Reg.PNL_STATUS_LOCKED then s else s.wr Reg.PNL_STATUS_UNLOCK_POS 0
  pnlEntry (s.wr Reg.PNL_STATUS_LOCKED 1) pnlLocked 0

/-- The lock ends. -/
def panelUnlock (s : State) : State :=
  if s.bit Reg.PNL_STATUS_LOCKED then
    pnlEntry ((s.wr Reg.PNL_STATUS_LOCKED 0).wr Reg.PNL_STATUS_UNLOCK_POS 0) pnlUnlocked 0
  else s

/-- The key codes of the unlock sequence. -/
def unlockCodes (s : State) : List Nat := (List.range 8).map (fun n => fieldOf (s.reg (Reg.PNL_UNLOCK_CODES (n / 4)).key) (8 * (n % 4)) 8)

/-- A key press against the unlock sequence. -/
def unlockPress (s : State) (code : Nat) : State :=
  let len := s.rd Reg.PNL_UNLOCK_LEN_LEN
  if !s.bit Reg.PNL_STATUS_LOCKED || len == 0 then s
  else
    let cs := unlockCodes s
    let pos := s.rd Reg.PNL_STATUS_UNLOCK_POS
    let late := decide (s.rd Reg.PNL_CFG_UNLOCK_GAP * 100 < s.pnl.ms - s.pnl.stepAt)
    let at_ := if late then 0 else pos
    let n := if cs[at_]? = some code then at_ + 1 else if cs.head? = some code then 1 else 0
    if n = 0 then s.wr Reg.PNL_STATUS_UNLOCK_POS 0
    else if len ≤ n then panelUnlock s
    else { s.wr Reg.PNL_STATUS_UNLOCK_POS n with pnl := { s.pnl with stepAt := s.pnl.ms } }

/-! ### LEDs (R829) -/

/-- The period of an LED's settings in units of 2^-16 ns: of a blink 2 s ÷ 2^RATE, of the PWM 1 ms, else none. -/
def ledPeriod (w : Word) : Nat :=
  match fieldOf w 0 2 with
  | 2 => 2000000000 * 65536 / 2 ^ fieldOf w 2 2
  | 3 => 1000000 * 65536
  | _ => 0

/-- The settings that an LED shows at a TAI instant: those of its register, and before the end of the period in which the register was
written those that it showed then (Table 18.6). (DEDUCED, log 47) -/
def ledShown (s : State) (n t : Nat) : Word :=
  let now := s.reg (Reg.PNL_LED n).key
  let x := Tab.get (now, 0) s.pnl.led n
  let p := ledPeriod x.1
  if p ≠ 0 ∧ t < (x.2 / p + 1) * p then x.1 else now

/-- Whether an LED is lit at a TAI instant (R829): periods start at multiples of their length, so that every one is on from a second's
boundary; at 0.5 Hz, of an even second. (DEDUCED, log 47) -/
def ledLit (s : State) (n t : Nat) : Bool :=
  let w := ledShown s n t
  let p := ledPeriod w
  match fieldOf w 0 2 with
  | 0 => false
  | 1 => true
  | 2 => decide (t % p < p / 2)
  | _ => decide (t % p * 255 < p * fieldOf w 8 8)

/-- The level of LED[n] at a TAI instant: POL is the active level; none, high impedance, while PD22 is down. (DEDUCED, log 47) -/
def ledLevel (s : State) (n t : Nat) : Option Bool :=
  if domainUp s 22 then some (ledLit s n t == bitAt (ledShown s n t).toNat 31) else none

/-- A write of an LED's register: what the LED showed holds to the end of its period. -/
def ledWritten (old s : State) (n : Nat) : State :=
  { s with pnl := { s.pnl with led := Tab.put (0, 0) s.pnl.led n (ledShown old n old.tim.now, old.tim.now) } }

/-! ### PNL_CTRL -/

/-- The key with a code. -/
def keyAt (s : State) (k : Nat) : Key := Tab.get {} s.pnl.keys k

/-- Whether a key is pressed and unmasked. -/
def keyDown (s : State) (k : Nat) : Bool := (keyAt s k).down && !(keyAt s k).masked

/-- A write to PNL_CTRL: LOCK, UNLOCK by the PF or a MGMT pair, and the fields (R809, R823, R824). A panel that comes on scans while a
key is pressed. -/
def writePnlCtrl (s : State) (i : Ident) (v : Word) : State :=
  let was := s.bit Reg.PNL_CTRL_EN
  let s := plainWrite s i 0xA00000 v
  let now := s.bit Reg.PNL_CTRL_EN
  let s := if was == now then s else s.setBit Reg.PNL_STATUS_SCANNING (now && (List.range 64).any (keyDown s))
  let s := if bitAt v.toNat 2 then panelLock s else s
  if bitAt v.toNat 1 && isPfOrMgmt i then panelUnlock s else s

/-- PNL_LOCK: a write of 1 to LOCK. -/
def execPnlLock (a : Access) (v : Word) (ms : Nat) (s : State) : Out :=
  .next (withWrite (panelAt s ms) a 0xA00000 Blk.pnl 22 0xA00000 fun s => writePnlCtrl s a.init v)

end Sys2Proof.Machine
end

