-- ==== Sys2Proof/Machine/Image.lean ====
section
/-! DEFINITION. The structure image as it lies in structure memory: the header, the section table, the sections and the signatures
("The structure image"). -/

namespace Sys2Proof.Machine

/-! ### Bytes of the copy (R158) -/

/-- Bytes of structure memory; an unlisted byte reads 0 (R198). (DESIGN CHOICE, log 5) -/
def memBytes (s : State) (a n : Nat) : List Byte := (List.range n).map (fun i => Tab.get 0 s.img.mem (a + i))

/-- A little-endian field of structure memory. -/
def memLe (s : State) (a n : Nat) : Nat := leNat (memBytes s a n)

/-- The offset in a list of bytes of the first byte that is not 0. -/
def firstNonZero : List Byte → Option Nat
  | [] => none
  | b :: bs => if b ≠ 0 then some 0 else (firstNonZero bs).map (· + 1)

/-- The entries of a table for bytes written from address `a` on; bytes of 0 are not listed. -/
def listedFrom : Nat → List Byte → Tab Byte
  | _, [] => []
  | a, b :: bs => if b = 0 then listedFrom (a + 1) bs else (a, b) :: listedFrom (a + 1) bs

/-- Structure memory below `a`, and then the bytes given: what the engine writes there replaces everything from `a` on. -/
def writeCopy (s : State) (a : Nat) (bs : List Byte) : State :=
  { s with img := { s.img with mem := s.img.mem.filter (fun p => decide (p.1 < a)) ++ listedFrom a bs } }

/-- Round up to a multiple. -/
def upTo (a n : Nat) : Nat := ceilDiv n a * a

/-! ### The header (R159, Table 03.1) -/

/-- The header's fields. -/
structure ImgHdr where
  magic : List Byte
  minor : Nat
  major : Nat
  device : Nat
  minRev : Nat
  flags : Nat
  id : Nat
  ver : Nat
  baseId : Nat
  baseVer : Nat
  sects : Nat
  tableOfs : Nat
  total : Nat
  sigOfs : Nat
  deriving DecidableEq, Repr

/-- The fields of a header. -/
def hdrOf (h : List Byte) : ImgHdr :=
  let u := fun o n => leNat ((h.drop o).take n)
  { magic := h.take 4, minor := u 4 2, major := u 6 2, device := u 8 4, minRev := u 0xC 2, flags := u 0xE 2, id := u 0x10 4
    ver := u 0x14 4, baseId := u 0x18 4, baseVer := u 0x1C 4, sects := u 0x20 2, tableOfs := u 0x24 4, total := u 0x28 4
    sigOfs := u 0x2C 4 }

/-- FLAGS bit 0 AMENDMENT. -/
def isAmend (h : ImgHdr) : Bool := bitAt h.flags 0

/-- RESERVED_NONZERO for a reserved field: the offset of its first byte that is not 0. -/
def reservedAt (ofs : Nat) (bs : List Byte) : List (Nat × Nat) :=
  match firstNonZero bs with
  | some k => [(0x010C, ofs + k)]
  | none => []

/-- One failure where a condition is broken. -/
def failIf (b : Bool) (code detail : Nat) : List (Nat × Nat) := if b then [(code, detail % 2 ^ 32)] else []

/-- The first header field that breaks the rule of FORMAT. (DEDUCED, log 15) -/
def formatBreach (h : ImgHdr) : Option Nat :=
  if h.minor ≠ 0 then some 0x04 else if h.major ≠ 1 then some 0x06 else if h.id = 0 then some 0x10
  else if !isAmend h ∧ h.baseId ≠ 0 then some 0x18 else if !isAmend h ∧ h.baseVer ≠ 0 then some 0x1C else none

/-- The failures of a header, in code order (Table 03.12); `host` is IMG_HOST_LEN for a host load. -/
def hdrFailures (bs : List Byte) (rev : Nat) (host : Option Nat) : List (Nat × Nat) :=
  let h := hdrOf bs
  let flags := h.flags - h.flags % 2
  failIf (h.magic != [0x46, 0x56, 0x53, 0x31]) 0x0101 0 ++
  (match formatBreach h with | some o => [(0x0102, o)] | none => []) ++
  failIf (h.device != 0x00F77720) 0x0103 h.device ++
  failIf (decide (rev < h.minRev)) 0x0104 h.minRev ++
  failIf (h.total % 256 != 0 || decide (h.total < 0x400) || decide (0x800000 < h.total) || h.tableOfs != 0x100 ||
    h.sigOfs + 0x100 != h.total || host.any (fun n => decide (n < h.total))) 0x0105 h.total ++
  failIf (h.sects == 0 || decide (64 < h.sects)) 0x0106 h.sects ++
  failIf (flags != 0) 0x010C (if flags % 256 = 0 then 0x0F else 0x0E) ++
  reservedAt 0x22 ((bs.drop 0x22).take 2) ++ reservedAt 0x38 ((bs.drop 0x38).take 200)

/-! ### The section table (R160–R162) -/

/-- A section table entry: its index, type, flags, offset and length. -/
structure SectE where
  ix : Nat
  typ : Nat
  flags : Nat
  ofs : Nat
  len : Nat
  deriving DecidableEq, Repr

/-- An image in structure memory: where its copy begins, its header and its section table. -/
structure Copy where
  base : Nat
  hdr : ImgHdr
  sects : List SectE
  deriving DecidableEq, Repr

/-- The image whose copy begins at `base`. -/
def copyAt (s : State) (base : Nat) : Copy :=
  let h := hdrOf (memBytes s base 256)
  { base := base, hdr := h
    sects := (List.range h.sects).map (fun i =>
      let a := base + 0x100 + 64 * i
      ⟨i, memLe s a 2, memLe s (a + 2) 2, memLe s (a + 4) 4, memLe s (a + 8) 4⟩) }

/-- The section of a type. -/
def Copy.find (c : Copy) (typ : Nat) : Option SectE := c.sects.find? (fun e => e.typ == typ)

/-- The bytes of a section. -/
def sectBytes (s : State) (c : Copy) (e : SectE) : List Byte := memBytes s (c.base + e.ofs) e.len

/-- A little-endian field of a section. -/
def sectLe (s : State) (c : Copy) (e : SectE) (o n : Nat) : Nat := memLe s (c.base + e.ofs + o) n

/-- Whether a section lies where R161 permits, given the sections before it. -/
def boundsOk (h : ImgHdr) (e : SectE) (before : List SectE) : Bool :=
  e.ofs % 256 == 0 && e.len != 0 && decide (0x100 + 64 * h.sects ≤ e.ofs) && decide (e.ofs + e.len ≤ h.sigOfs) &&
    before.all (fun b => decide (b.ofs + b.len ≤ e.ofs) || decide (e.ofs + e.len ≤ b.ofs))

/-- The types that a full image contains (R162). -/
def requiredTypes : List Nat := [1, 2, 3, 4, 5, 6, 8]

/-- The failures of the section table, the digests and the reserved bytes of the table and the signature block, in code order. -/
def tableFailures (s : State) (c : Copy) : List (Nat × Nat) :=
  let h := c.hdr
  let before := fun (e : SectE) => c.sects.take e.ix
  let inside := c.sects.filter (fun e => boundsOk h e (before e))
  let typeBad := fun (e : SectE) => e.typ == 0 || decide (11 < e.typ) || (before e).any (fun b => b.typ == e.typ) ||
    (bitAt e.flags 0 && !isAmend h)
  let a := fun (e : SectE) => 0x100 + 64 * e.ix
  let sig := h.sigOfs
  c.sects.flatMap (fun e => failIf (!boundsOk h e (before e)) 0x0107 e.ix) ++
  c.sects.flatMap (fun e => failIf (typeBad e) 0x0108 e.ix) ++
  (if isAmend h then [] else requiredTypes.flatMap (fun t => failIf (c.find t).isNone 0x0109 t)) ++
  inside.flatMap (fun e => failIf (Config.sha384 (sectBytes s c e) != memBytes s (c.base + a e + 0x10) 48) 0x010A e.ix) ++
  c.sects.flatMap (fun e =>
    let f := e.flags - e.flags % 2
    failIf (f != 0) 0x010C (a e + if f % 256 = 0 then 3 else 2) ++ reservedAt (a e + 0xC) (memBytes s (c.base + a e + 0xC) 4)) ++
  reservedAt (sig + 5) (memBytes s (c.base + sig + 5) 3) ++ reservedAt (sig + 0x69) (memBytes s (c.base + sig + 0x69) 7) ++
  reservedAt (sig + 0xD0) (memBytes s (c.base + sig + 0xD0) 48)

/-! ### Signatures (R163, R164, R168) -/

/-- The failures of the image signature, in code order. -/
def sigFailures (s : State) (c : Copy) : List (Nat × Nat) :=
  let a := c.base + c.hdr.sigOfs
  let slot := memLe s (a + 4) 1
  let pub := memBytes s (a + 8) 97
  let f := s.img.fuses
  let known := decide (slot ≤ 3) && bitAt f.programmed slot
  let keyOk := Config.sha384 pub == Tab.get [] f.hash slot && Config.p384OnCurve pub
  let magic := memBytes s a 4 == [0x46, 0x56, 0x53, 0x47]
  let verifies := Config.p384Verify pub (memBytes s c.base (0x100 + 64 * c.hdr.sects)) (memBytes s (a + 0x70) 96)
  failIf (!known) 0x0201 slot ++ failIf (known && bitAt f.revoked slot) 0x0202 slot ++ failIf (known && !keyOk) 0x0203 slot ++
  failIf (!magic) 0x0204 1 ++ failIf (magic && known && keyOk && !verifies) 0x0204 0

/-- A kernel blob: its place in the section, whether it is well formed, and where its signature ends. -/
structure Blob where
  ofs : Nat
  kern : KernE
  good : Bool
  last : Nat
  deriving DecidableEq, Repr

/-- The blobs of the KERN section: at most `n`, the next one at `ofs`, with the IDs of those before (R168). The list ends with a blob
whose extent is not known. -/
def blobsFrom (s : State) (c : Copy) (e : SectE) : Nat → Nat → List Nat → List Blob
  | 0, _, _ => []
  | n + 1, ofs, ids =>
    let u := fun o k => sectLe s c e (ofs + o) k
    let code := u 8 4
    let last := ofs + 64 + code + 96
    let fits := decide (1 ≤ code) && decide (code ≤ 65536) && decide (last ≤ e.len)
    let kf := u 0x18 2
    let k : KernE := ⟨u 4 2, u 6 2, code, u 0xC 4, u 0x10 4, u 0x14 4, bitAt kf 0,
      if code ≤ 65536 then memBytes s (c.base + e.ofs + ofs + 64) code else []⟩
    let clean := u 0 4 == 0x314B5646 && !ids.contains k.id && (firstNonZero (memBytes s (c.base + e.ofs + ofs + 0x1A) 38)).isNone &&
      kf / 2 == 0
    let b : Blob := ⟨ofs, k, fits && clean, last⟩
    if fits then b :: blobsFrom s c e n (upTo 256 last) (k.id :: ids) else [b]

/-- The blobs of an image. -/
def blobsOf (s : State) (c : Copy) : List Blob :=
  match c.find 3 with
  | none => []
  | some e => blobsFrom s c e (min (sectLe s c e 0 4) 64) 256 []

/-- The blobs that are malformed or whose signature does not verify (R168). -/
def kernFailures (s : State) (c : Copy) : List (Nat × Nat) :=
  match c.find 3 with
  | none => []
  | some e =>
    let a := c.base + e.ofs
    (blobsOf s c).flatMap (fun b =>
      let n := 64 + b.kern.codeLen
      failIf (!b.good || !Config.p384Verify Config.kernelKey (memBytes s (a + b.ofs) n) (memBytes s (a + b.ofs + n) 96)) 0x0205
        b.kern.id)

/-! ### TICK and POOL (R165, R167) -/

/-- The slot map entries. -/
def slotEntries (s : State) (c : Copy) : List SlotE :=
  match c.find 1 with
  | none => []
  | some e =>
    (List.range (min (sectLe s c e 2 2) ((e.len - 16) / 12))).map (fun k =>
      let u := fun o n => sectLe s c e (16 + 12 * k + o) n
      ⟨u 0 1, bitAt (u 1 1) 0, u 2 2, u 4 2, u 6 2, u 8 2⟩)

/-- RATE of the TICK section. -/
def imgRate (s : State) (c : Copy) : Nat :=
  match c.find 1 with
  | none => 0
  | some e => sectLe s c e 0 1

/-- The low 80 bits of a core mask. -/
def mask80 (v : Nat) : Nat := v % 2 ^ 80

/-- Where the parts of the POOL section begin: cover masks, channel list, parameter area (R167). -/
def poolParts (s : State) (c : Copy) (e : SectE) : Nat × Nat × Nat :=
  let cover := 64 + 32 * sectLe s c e 0 2
  let list := cover + 16 * popCount 80 (mask80 (sectLe s c e 0x18 16))
  (cover, list, list + upTo 4 (2 * sectLe s c e 2 2))

/-- The work items. -/
def poolItems (s : State) (c : Copy) (e : SectE) : List ItemE :=
  (List.range (min (sectLe s c e 0 2) ((e.len - 64) / 32))).map (fun k =>
    let u := fun o n => sectLe s c e (64 + 32 * k + o) n
    { item := u 0 2, kernel := u 2 2, cls := u 4 1, onFail := u 5 1, coreA := u 6 1, coreB := u 7 1, compare := u 8 2
      nIn := u 0xA 1, nOut := u 0xB 1, inIndex := u 0xC 2, outBase := u 0xE 2, paramOfs := u 0x10 4, paramLen := u 0x14 2
      stateLen := u 0x16 2 })

/-- The schedule of an image. -/
def schedOf (s : State) (c : Copy) : Sched :=
  let kerns := ((blobsOf s c).filter (fun b => b.good)).map (fun b => b.kern)
  match c.find 2 with
  | none => { rate := imgRate s c, slots := slotEntries s c, kerns := kerns }
  | some e =>
    let p := poolParts s c e
    let spare := mask80 (sectLe s c e 0x18 16)
    let spares := bitList 80 spare
    { rate := imgRate s c, slots := slotEntries s c, items := poolItems s c e, work := mask80 (sectLe s c e 8 16), spare := spare
      cover := (List.range spares.length).map (fun j => (spares.getD j 0, mask80 (sectLe s c e (p.1 + 16 * j) 16)))
      chlist := (List.range (sectLe s c e 2 2)).map (fun j => sectLe s c e (p.2.1 + 2 * j) 2)
      params := memBytes s (c.base + e.ofs + p.2.2) (min (sectLe s c e 4 4) (e.len - p.2.2))
      kerns := kerns }

/-! ### Table-load sections and REGS (R169–R172) -/

/-- A table-load record: its index, target and words. -/
structure RecE where
  ix : Nat
  target : Nat
  words : List Word
  res : Nat
  count : Nat
  deriving DecidableEq, Repr

/-- The records of a section from offset `ofs` on: at most `n`. -/
def recordsFrom (s : State) (c : Copy) (e : SectE) : Nat → Nat → Nat → List RecE
  | 0, _, _ => []
  | n + 1, ix, ofs =>
    if e.len < ofs + 8 then []
    else
      let w := sectLe s c e (ofs + 4) 2
      let k := min w ((e.len - ofs - 8) / 4)
      ⟨ix, sectLe s c e ofs 4, (List.range k).map (fun j => BitVec.ofNat 32 (sectLe s c e (ofs + 8 + 4 * j) 4)),
        sectLe s c e (ofs + 6) 2, w⟩ :: recordsFrom s c e n (ix + 1) (ofs + 8 + 4 * w)

/-- The records of the section of a type. -/
def records (s : State) (c : Copy) (typ : Nat) : List RecE :=
  match c.find typ with
  | none => []
  | some e => recordsFrom s c e (min (sectLe s c e 0 4) (e.len / 8)) 0 16

/-- The order in which the table-load sections are loaded (R185). -/
def loadOrder : List Nat := [8, 4, 5, 6, 7, 9]

/-- The triples of REGS. -/
def triples (s : State) (c : Copy) : List PatchW :=
  match c.find 10 with
  | none => []
  | some e => (List.range (min (sectLe s c e 0 4) ((e.len - 16) / 12))).map (fun k =>
      let u := fun o => sectLe s c e (16 + 12 * k + o) 4
      { target := u 0, value := BitVec.ofNat 32 (u 4), mask := BitVec.ofNat 32 (u 8), triple := true })

/-- The words of a record, one after the other. -/
def recWords (r : RecE) : List PatchW :=
  (List.range r.words.length).map (fun j => { target := r.target + 4 * j, value := r.words.getD j 0, mask := 0xFFFFFFFF })

/-- Every word and triple of an image, in the order of R185 steps 2 and 3. -/
def imgWords (s : State) (c : Copy) : List PatchW :=
  loadOrder.flatMap (fun t => (records s c t).flatMap recWords) ++ triples s c

/-- The bits of a register that a write of the image engine sets (R186): class S, T, T* and Q fields, and read-write Live fields;
`q`: class Q fields too (R233). -/
def engineMask (r : RegD) (q : Bool) : Word :=
  (r.fields.filter (fun f => match f.cls with
    | .struc | .tick | .tickSafe => true
    | .quiet => q
    | .live => f.acc == .rw)).foldl (fun m f => m ||| maskOf f.lo f.w) 0

/-- A word written with identity 0x105 into the active value (R186, R217); `q` as in `engineMask`. -/
def engineBits (s : State) (w : PatchW) (q : Bool) : State :=
  match regAt w.target with
  | none => s
  | some (_, r) =>
    let k := regKey r 0x105 w.target
    s.setReg k (mergeBits (s.reg k) (w.mask &&& engineMask r q) w.value)

end Sys2Proof.Machine
end

