-- ==== Sys2Proof/Machine/Twc.lean ====
section
/-! DEFINITION. Travelling-wave capture: the JESD204C link, SYSREF, and wavefronts (05_acquisition.md). -/

namespace Sys2Proof.Machine

/-- CAPTURE_VALID shows DATA and SYSREF_OK (Table 05.10). -/
def showCapture (s : State) : State :=
  s.setBit Reg.TWC_STATUS_CAPTURE_VALID (s.rd Reg.TWC_STATUS_LINK == 4 && s.bit Reg.TWC_STATUS_SYSREF_OK)

/-- Lanes of the link (R271). -/
def jesdLanes (s : State) : Nat := if s.bit Reg.TWC_JESD_CFG_L2 then 2 else 1

/-- JESD_DOWN: a lane with 16 invalid sync headers within 64 returns the link to DOWN (R288); triggers that wait for their
samples are forgotten (Table 05.5). A lane that the link does not have says nothing. (DEDUCED, log 22) -/
def execJesdDown (lanes : Fin 4) (s : State) : Out :=
  let old := s.rd Reg.TWC_STATUS_LINK
  let mask := lanes.val % 2 ^ jesdLanes s
  if !domainUp s 4 || old == 0 || mask == 0 then .next s
  else
    let s := (s.wr Reg.TWC_STATUS_LINK 0).inc Reg.TWC_RESYNC
    let s := { s with twc := { s.twc with trigger := [] } }
    .next (raise (showCapture s) Blk.twc 0x0101 .fault (mask + 2 ^ 8 * old))

/-- The state that a step of the link leads to, where its conditions hold (R272). -/
def linkNext (s : State) (x : LinkStep) : Option Nat :=
  match s.rd Reg.TWC_STATUS_LINK, x with
  | 0, .blockLock hs => if hs.length == jesdLanes s && hs.all (fun n => decide (64 ≤ n)) then some 1 else none
  | 1, .embLock ls => if ls.length == jesdLanes s && ls.all id then some 2 else none
  | 2, .aligned d l => if d && l then some 3 else none
  | 3, .data clean => if clean then some 4 else none
  | _, _ => none

/-- JESD_UP: the link goes on from DOWN to BLOCK_LOCK, EMB_LOCK, ALIGNED and DATA, and is up in DATA (R272). (DEDUCED, log 22) -/
def execJesdUp (x : LinkStep) (s : State) : Out :=
  if !domainUp s 4 then .next s
  else
    .next (match linkNext s x with
      | none => s
      | some n =>
        let s := showCapture (s.wr Reg.TWC_STATUS_LINK n)
        if n = 4 then raise s Blk.twc 0x0102 .info (2 ^ jesdLanes s - 1) else s)

/-! ### The capture ring (R268a, R275, R288) -/

/-- Whether a TW channel is enabled and has a converter, and the link delivers samples (R268a, R271). -/
def captured (s : State) (ch : Nat) : Bool :=
  domainUp s 4 && s.bit Reg.TWC_CTRL_EN && s.bit (Reg.TWC_CH_CFG_EN ch) && s.rd Reg.TWC_STATUS_LINK == 4 &&
    decide (ch < s.rd Reg.TWC_JESD_CFG_M)

/-- Whether it is searched for wavefronts as well (R268a). -/
def searched (s : State) (ch : Nat) : Bool := captured s ch && s.rd (Reg.TWC_CH_CFG_THR ch) != 0

/-- The captured samples of a channel, the latest first. -/
def ringOf (s : State) (ch : Nat) : List (Nat × Int) := Tab.get [] s.twc.ring ch

/-- Samples in 4 ms at 20 MS/s (R275). -/
def ringLen : Nat := 80000

/-- A sample of a channel joins its ring, which holds the last 4 ms; one that is not later than the ring's latest is there already. -/
def ringPut (r : List (Nat × Int)) (i : Nat) (v : BitVec 14) : List (Nat × Int) :=
  match r with
  | [] => [(i, v.toInt)]
  | (j, w) :: l => if i ≤ j then (j, w) :: l else ((i, v.toInt) :: (j, w) :: l).take ringLen

/-- The samples of a converter from index `first` on are written into the ring of its channel (R268a, R275). -/
def capture (s : State) (ch first : Nat) (xs : List (BitVec 14)) : State :=
  if !captured s ch then s
  else
    let r := (xs.foldl (fun (p : Nat × List (Nat × Int)) v => (p.1 + 1, ringPut p.2 p.1 v)) (first, ringOf s ch)).2
    { s with twc := { s.twc with ring := Tab.put [] s.twc.ring ch r } }

/-- The sample of a channel at an index, while the ring holds it. -/
def sampleAt (s : State) (ch i : Nat) : Option Int := ((ringOf s ch).find? (fun p => p.1 == i)).map Prod.snd

/-- Whether a sample lies in a multiblock with a CRC-12 error (R288). -/
def sampleBad (s : State) (i : Nat) : Bool := s.twc.invalid.any (fun p => decide (p.1 ≤ i ∧ i < p.1 + p.2))

/-- JESD_CRC_ERROR: the multiblock's samples are invalid; the link stays in DATA (R288). Marks of samples that have left every ring
go with them. -/
def execJesdCrcError (first count : Nat) (s : State) : Out :=
  if !domainUp s 4 || s.rd Reg.TWC_STATUS_LINK != 4 then .next s
  else .next { s.inc Reg.TWC_CRC_ERR with
    twc := { s.twc with invalid := (first, count) :: s.twc.invalid.filter (fun p => decide (first ≤ p.1 + p.2 + ringLen)) } }

/-! ### SYSREF (R273, R274, R289) -/

/-- SYSREF_OK is cleared and SYSREF_FAULT raised (R289). -/
def sysrefFault (s : State) (dev reason : Nat) : State :=
  let s := showCapture (s.wr Reg.TWC_STATUS_SYSREF_OK 0)
  raise { s with twc := { s.twc with good := 0 } } Blk.twc 0x0103 .warn (dev + 2 ^ 32 * reason)

/-- SYSREF periods between the stored edge and one at sample `index`. -/
def sysrefPeriods (s : State) (index : Nat) : Nat := max 1 ((index - s.twc.index) / s.rd Reg.TWC_SYSREF_CFG_PER_SMP)

/-- The deviation, in ps, of a stamp from its predicted time, one period of the last two stamps for each that has passed (R289).
(DEDUCED, log 21) -/
def sysrefDev (s : State) (l p stamp index : Nat) : Int :=
  let pred : Int := l + (sysrefPeriods s index : Int) * ((l : Int) - p) / (s.twc.gap : Int)
  ((stamp : Int) - pred) * 1000 / 65536

/-- The stamp of an edge is compared with its predicted time; two consecutive stamps within tolerance set SYSREF_OK (R289). -/
def judgeSysref (s : State) (dev : Int) : State :=
  let s := s.wrInt Reg.TWC_SYSREF_DEV dev
  if s.rd Reg.TWC_SYSREF_TOL_PS < absNat dev then sysrefFault s (unsignedOf 32 dev) 2
  else
    let good := s.twc.good + 1
    let s := { s with twc := { s.twc with good := good } }
    if 2 ≤ good ∧ !s.bit Reg.TWC_STATUS_SYSREF_OK then
      raise (showCapture (s.wr Reg.TWC_STATUS_SYSREF_OK 1)) Blk.twc 0x0104 .info 0
    else s

/-- The stamp of a SYSREF edge is kept with the index of its multiblock's first sample (R273, R274). -/
def keepSysref (s : State) (stamp index : Nat) : State :=
  { s with twc := { s.twc with prev := s.twc.last, last := some stamp, gap := sysrefPeriods s index, index := index } }

/-- SYSREF_EDGE: the time-to-digital converter stamps the edge (R141, R273), the stamp is compared with its predicted time (R289), and
the converters' samples up to the edge's are captured (R275). (DEDUCED, log 21) -/
def execSysrefEdge (stamp : Nat) (x : Aligned) (s : State) : Out :=
  if !domainUp s 4 then .next s
  else
    let t := tdc stamp
    let c := x.xs.foldl (fun s y => capture s y.1 (x.index + 1 - y.2.length) y.2) s
    let u := keepSysref c t x.index
    .next (match s.twc.last, s.twc.prev with
      | some l, some p => judgeSysref u (sysrefDev s l p t x.index)
      | _, _ => u)

/-- SYSREF_MISSING: no edge for two periods (R289); the spec gives the event no deviation, so it is a free value. (DEDUCED, log 22) -/
def execSysrefMissing (s : State) : Out :=
  if !domainUp s 4 then .next s else .next (sysrefFault s.used s.free.toNat 1)

/-! ### Wavefronts (R276–R279) -/

/-- WAVEFRONT_TRIGGER: the samples up to x[i] are captured; two consecutive ones that differ by at least THR outside the dead time are a
trigger (R275, R276 step 1, R277). -/
def execWavefrontTrigger (ch : Fin 12) (i : Nat) (xs : List (BitVec 14)) (x : BitVec 14) (s : State) : Out :=
  let s := capture s ch (i - xs.length) (xs ++ [x])
  .next (match sampleAt s ch (i - 1), sampleAt s ch i with
    | some a, some b =>
      if searched s ch && decide (1 ≤ i) && decide (s.rd (Reg.TWC_CH_CFG_THR ch) ≤ absNat (b - a)) &&
          decide (Tab.get 0 s.twc.dead ch ≤ i) then
        { s with twc := { s.twc with
          dead := Tab.put 0 s.twc.dead ch (i + max 8 (s.rd (Reg.TWC_CH_CFG_DEAD ch)))
          trigger := Tab.put none s.twc.trigger ch (some i) } }
      else s
    | _, _ => s)

/-- The index, in the list, of the first element of the largest value. -/
def argMax : List Nat → Nat → Nat → Nat → Nat
  | [], _, best, _ => best
  | v :: vs, i, best, top => if top < v then argMax vs (i + 1) i v else argMax vs (i + 1) best top

/-- What R276 computes from x[i−9] … x[i+7]: eight times the baseline, the peak's place in the list and its value, whether
negative, and the place of j. (DEDUCED, log 22) -/
def frontShape (xs : List Int) : Int × Nat × Int × Bool × Nat :=
  let x := fun (k : Nat) => xs.getD k 0
  let b8 : Int := (xs.take 8).sum
  -- x[i−1] to x[i+7] are the places 8 to 16
  let mags := ((xs.drop 8).take 9).map (fun v => absNat (8 * v - b8))
  let pk := 8 + argMax mags 0 0 0
  let p := x pk
  let neg := decide (8 * p < b8)
  -- h = (b + p) ÷ 2, in sixteenths b8 + 8p
  let h16 := b8 + 8 * p
  let reached := fun (k : Nat) => if neg then decide (16 * x k ≤ h16) else decide (h16 ≤ 16 * x k)
  let j := ((List.range 9).map (· + 8)).find? reached
  (b8, pk, p, neg, j.getD 8)

/-- The time of sample `n`, whole or between two samples, in 2^-16 ns (R274); none before two SYSREF edges. -/
def sampleTime (s : State) (n : Rat) : Option Rat :=
  match s.twc.last, s.twc.prev with
  | some l, some p0 =>
    let ts : Rat := (((l : Int) - (p0 : Int) : Int) : Rat) / ((s.rd Reg.TWC_SYSREF_CFG_PER_SMP : Int) : Rat)
    some (((l : Int) : Rat) + (((s.rdInt Reg.TWC_LAT * 65536 : Int) : Rat)) / 1000 + (n - ((s.twc.index : Int) : Rat)) * ts)
  | _, _ => none

/-- The front time in 125 ps steps (R274, R276 step 6); none where the two samples around the level are equal. (DEDUCED, log 22) -/
def frontTime (s : State) (i : Nat) (xs : List Int) : Option Int :=
  let (b8, _, p, _, j) := frontShape xs
  let x := fun (k : Nat) => xs.getD k 0
  let den : Int := 16 * (x j - x (j - 1))
  if den = 0 then none
  else
    let frac : Rat := (((b8 + 8 * p - 16 * x (j - 1) : Int) : Rat)) / ((den : Int) : Rat)
    -- the sample j − 1 has index i − 9 + (j − 1)
    (sampleTime s ((((i : Int) - 9 + (j : Int) - 1 : Int) : Rat) + frac)).map (fun t => Rat.floor (t / 8192 + 1 / 2))

/-- Whether a sample of the record lies in an invalid multiblock (R290). -/
def frontInvalid (s : State) (i : Nat) : Bool := (List.range 17).any (fun k => sampleBad s (i + k - 9))

/-- The words of TWC_LAST_EVT (Table 05.4). -/
def frontWords (f : Front) : List Word :=
  let ns := (f.time / 8).toNat
  let fr := (f.time % 8).toNat * 0x2000
  [BitVec.ofNat 32 ns, BitVec.ofNat 32 (ns / 2 ^ 32),
   BitVec.ofNat 32 (fr + 2 ^ 16 * f.ch + 2 ^ 24 * f.negative.toNat),
   BitVec.ofNat 32 (f.amplitude % 65536 + 2 ^ 16 * unsignedOf 16 f.toPeak),
   BitVec.ofNat 32 (f.qual + 2 ^ 16 * (f.seq % 65536)), BitVec.ofNat 32 f.index, 0, 0]

/-- The samples x[i−9] … x[i+7] of a trigger, once the ring holds them all (R276). -/
def frontSamples (s : State) (ch i : Nat) : Option (List Int) :=
  if i < 9 then none else (List.range 17).mapM (fun k => sampleAt s ch (i + k - 9))

/-- The amplitude |p − b| in LSB; where it lies between two integers the spec does not say which, so `up` does. (DEDUCED, log 22) -/
def frontAmplitude (amp8 : Nat) (up : Bool) : Nat := amp8 / 8 + (amp8 % 8 != 0 && up).toNat

/-- The record of a trigger (R276, R278, R290). Where the spec states no value (an amplitude between two integers, two equal samples around
the level, no two stamps yet) it is a free value. (DEDUCED, log 22) -/
def frontOf (s : State) (ch i : Nat) (xs : List Int) : Front :=
  let (b8, pk, p, neg, _) := frontShape xs
  let free := s.free
  { time := (frontTime s i xs).getD (free.toNat : Int)
    ch := ch, negative := neg
    amplitude := frontAmplitude (absNat (8 * p - b8)) (bitAt free.toNat 0)
    toPeak := (pk : Int) - 9
    qual := qualWord (if s.bit Reg.TWC_STATUS_SYSREF_OK && !frontInvalid s i then 0 else 2) 0 0 s.timeq
    seq := s.twc.seq, index := i % 2 ^ 32 }

/-- TWC_LAST_EVT holds a record (R278). -/
def showFront (s : State) (f : Front) : State :=
  (frontWords f).zipIdx.foldl (fun s p => s.wr (Reg.TWC_LAST_EVT p.2) p.1.toNat) s

/-- A record joins the wavefront queue (R278); a full queue drops it (R291). -/
def queueFront (s : State) (f : Front) : State :=
  if 1024 ≤ s.twc.queue.length then overload (s.inc Reg.TWC_EVT_DROP) Blk.twc 0
  else
    let s := { s with twc := { s.twc with queue := s.twc.queue ++ [f], seq := (s.twc.seq + 1) % 65536 } }
    showFront (s.inc (Reg.TWC_CH_EVENTS f.ch)) f

/-- WAVEFRONT_RECORD: the samples after a trigger are captured, and once x[i+7] is there the record is written (R276, R278, R290, R291);
no record is formed where the ring has not held x[i−9] … x[i+7]. (DEDUCED, log 22) -/
def execWavefrontRecord (ch : Fin 12) (xs : List (BitVec 14)) (s : State) : Out :=
  .next (match Tab.get none s.twc.trigger ch with
    | none => s
    | some i =>
      let s := capture s ch (i + 1) xs
      if !domainUp s 4 || s.rd Reg.TWC_STATUS_LINK != 4 || (sampleAt s ch (i + 7)).isNone then s
      else
        let s := { s with twc := { s.twc with trigger := Tab.put none s.twc.trigger ch none } }
        match frontSamples s ch i with
        | none => s
        | some x => queueFront s.used (frontOf s ch i x))

/-- Slot 496 sets the time quality of the records that are the tick's input (R39, R290); TWC_LAST_EVT shows it while it shows the latest of
them. -/
def frontQuality (s : State) : State :=
  let input := s.twc.input.map (fun f => { f with qual := qualWord (validityOf f.qual) (provOf f.qual) (flagsOf f.qual) s.timeq })
  let s := { s with twc := { s.twc with input := input } }
  match s.twc.queue, input.getLast? with
  | [], some f => if domainUp s 4 then showFront s f else s
  | _, _ => s

end Sys2Proof.Machine
end

