-- ==== Sys2Proof/Machine/Cores.lean ====
section
/-! DEFINITION. The thresher cores: roles and members, kernel stores, the staged inputs and state regions in their data SRAMs, and what a
run of a kernel yields (R295–R301, R344, R346; 06_thresher_pool.md and 07_measurement_products.md). -/

namespace Sys2Proof.Machine

/-! ### Roles and members -/

/-- ROLE of a core (Table 06.11): 0 OFF, 1 WORKING, 2 SPARE, 3 ADOPTED, 4 RETIRED, 5 WITHDRAWN. -/
def role (s : State) (c : Nat) : Nat := s.rd (Reg.THR_CORE_CSTATE_ROLE c)

/-- Whether a core is in service. -/
def inService (s : State) (c : Nat) : Bool := role s c == 1 || role s c == 2 || role s c == 3

/-- Whether a core runs items. -/
def working (s : State) (c : Nat) : Bool := role s c == 1 || role s c == 3

/-- The members of an item, as ISTATUS shows them. -/
def memA (s : State) (n : Nat) : Nat := s.rd (Reg.THR_ITEM_ISTATUS_CORE_A n)

/-- The second member of an item. -/
def memB (s : State) (n : Nat) : Nat := s.rd (Reg.THR_ITEM_ISTATUS_CORE_B n)

/-- The items of the schedule in force. -/
def itemsOf (s : State) : List ItemE := (s.img.sched.map Sched.items).getD []

/-- The items that a core carries. -/
def coreItems (s : State) (c : Nat) : List ItemE := (itemsOf s).filter (fun it => memA s it.item == c || memB s it.item == c)

/-- The class of a core: the highest among its items; 3 when it carries none. -/
def coreClass (s : State) (c : Nat) : Nat := (coreItems s c).foldl (fun k it => min k it.cls) 3

/-- The core whose slot map entries a core runs: its own, or those of the core it adopted (R319). -/
def slotCore (s : State) : Nat → Nat → Nat
  | 0, c => c
  | n + 1, c =>
    let o := s.rd (Reg.THR_CORE_CSTATE_ADOPTED_OF c)
    if o = 0x7F then c else slotCore s n o

/-- Whether the pool sheds a class at its effective level (R331). -/
def shedClass (level cls : Nat) : Bool := (cls == 2 && decide (1 ≤ level)) || (cls == 1 && decide (2 ≤ level))

/-- Whether an item is shed. -/
def itemShed (s : State) (it : ItemE) : Bool := shedClass (s.rd Reg.THR_STATUS_SHED) it.cls

/-- Whether an item runs in this tick. -/
def itemRuns (s : State) (it : ItemE) : Bool :=
  !s.thr.idle && !itemShed s it && !s.saf.quarantine.contains it.item

/-! ### What a core holds -/

/-- The memories of a core. -/
def coreOf (s : State) (c : Nat) : CoreMem := Tab.get {} s.thr.core c

/-- The memories of a core written back. -/
def setCore (s : State) (c : Nat) (x : CoreMem) : State := { s with thr := { s.thr with core := Tab.put {} s.thr.core c x } }

/-- The kernels that a core's store holds under a schedule: those of its items, and for a spare those of the items it covers (R185
step 4). -/
def storeOf (d : Sched) (core : Nat) : List KernE :=
  let cover := if bitAt d.spare core then d.coverOf core else 0
  ((d.items.filter (fun it => it.coreA == core || it.coreB == core || bitAt cover it.coreA || bitAt cover it.coreB)).filterMap
    (fun it => d.kern it.kernel)).eraseDups

/-- The image engine loads the kernel stores: each working core's and each spare's with the kernels that `f` names (R185 step 4, R210,
R220). -/
def loadStores (s : State) (d : Sched) (f : Nat → List KernE) : State :=
  (bitList 80 (Nat.lor d.work d.spare)).foldl (fun s c => setCore s c { coreOf s c with store := f c }) s

/-- At the reset of a quadrant its cores halt and their memories are empty (R335). -/
def clearQuadrant (s : State) (q : Nat) : State := (List.range 20).foldl (fun s k => setCore s (20 * q + k) {}) s

/-- Bytes of an item's state region (R300). -/
def stateBytes (it : ItemE) : Nat := 64 * it.stateLen

/-- An item's committed state in a core's data SRAM (R300): where nothing is listed, the zeroed region. -/
def committed (s : State) (c : Nat) (it : ItemE) : List Byte :=
  match Tab.get [] (coreOf s c).states it.item with
  | [] => List.replicate (stateBytes it) 0
  | bs => bs

/-- An item's committed state is replaced; an empty list is the zeroed region (R301, R314). -/
def setCommitted (s : State) (c : Nat) (it : ItemE) (bs : List Byte) : State :=
  setCore s c { coreOf s c with states := Tab.put [] (coreOf s c).states it.item bs }

/-- A core's copy of an item's committed state goes to another core over its adoption lane or the pool crossbar (R225, R298, R319). -/
def copyState (s : State) (src dst : Nat) (it : ItemE) : State :=
  setCommitted s dst it (Tab.get [] (coreOf s src).states it.item)

/-- An item starts from a zeroed state region in both members (R314, R326). -/
def zeroState (s : State) (it : ItemE) : State :=
  let s := setCommitted (setCommitted s (memA s it.item) it []) (memB s it.item) it []
  { s with thr := { s.thr with kept := Tab.put none s.thr.kept it.item none } }

/-! ### Inputs (R70, R297) -/

/-- The value of a channel that is input of the current tick (R248). -/
def inputValue (s : State) (c : Nat) : Word := Tab.get 0 s.acq.latched (Reg.ACQ_LAST_VALUE c).key

/-- Its quality word, with the time quality of the tick (R39). -/
def inputQual (s : State) (c : Nat) : Nat :=
  let q := (Tab.get 0 s.acq.latched (Reg.ACQ_LAST_QUAL c).key).toNat % 65536
  qualWord (validityOf q) (provOf q) (flagsOf q) s.timeq

/-- Product slot registers: the value and the quality word with the tick (R340). (DESIGN CHOICE, log 5) -/
def prodValue (p : Nat) : Fld := Reg.MPR_PROD_VALUE (p / 4096) (p % 4096)

/-- The second word of a product slot. -/
def prodQual (p : Nat) : Fld := Reg.MPR_PROD_QUAL (p / 4096) (p % 4096)

/-- The bytes of an item's parameter block. -/
def itemParams (d : Sched) (it : ItemE) : List Byte := (d.params.drop it.paramOfs).take it.paramLen

/-- A field of a parameter block. -/
def paramLe (d : Sched) (it : ItemE) (o n : Nat) : Nat := leNat (((itemParams d it).drop o).take n)

/-- The TWDET item that a FLOC_A or FLOC_D item names (Table 06.6). -/
def twdetOf (d : Sched) (it : ItemE) : Option ItemE :=
  if it.kernel = 0x18 ∨ it.kernel = 0x19 then d.find (paramLe d it 0x18 2) else none

/-- The ring nodes whose contributions a kernel reads (Table 06.6). -/
def ringNodesOf (d : Sched) (it : ItemE) : List Nat :=
  if it.kernel = 0x1B then bitList 16 (paramLe d it 0x10 2)
  else if it.kernel = 0x19 then [paramLe d it 0x1A 1 % 16] else []

/-- Whether the last closed result holds a node's contribution: before the first close it holds none (R391, R416). -/
def ringHolds (s : State) (n : Nat) : Bool := s.mrg.fresh && bitAt (s.rd Reg.MRG_STATUS_REACH) n

/-- What turns a remote timestamp of a node into local time (R399), in 2^-8 ns: − RING_OFS(r) + RING_OFS(local). -/
def ringShift (s : State) (n : Nat) : Int :=
  let w := s.reg (Reg.MRG_RESULT n 1).key
  let r := (BitVec.ofNat 32 (leNat (toLe 4 w.toNat).reverse)).toInt
  s.rdInt Reg.MRG_RING_OFS - r

/-- A node's contribution as a kernel receives it (R391, R399): of a missing member every entry is INVALID with PROVENANCE 0b00. (DEDUCED, log 23) -/
def ringInput (s : State) (n : Nat) : List Word :=
  if ringHolds s n then
    BitVec.ofInt 32 (ringShift s n) :: (List.range 256).map (fun j => s.reg (Reg.MRG_RESULT n j).key)
  else
    let bad := BitVec.ofNat 32 (leNat (toLe 2 (qualWord 2 0 0 0)).reverse)
    0 :: (List.range 256).map (fun j => if 4 ≤ j ∧ j % 2 = 1 then bad else 0)

/-- The quality words of the ring entries that a kernel reads (R40, R391). -/
def ringQuals (s : State) (d : Sched) (it : ItemE) : List Nat :=
  (ringNodesOf d it).flatMap (fun n =>
    if ringHolds s n then
      let count := leNat (toLe 4 (s.reg (Reg.MRG_RESULT n 0).key).toNat).reverse % 65536
      (List.range (min 126 count)).map (fun e => leNat ((toLe 4 (s.reg (Reg.MRG_RESULT n (5 + 2 * e)).key).toNat).take 2).reverse)
    else [qualWord 2 0 0 0])

/-- What the crossbar stages for an item in a tick (R297, Table 06.5): the tick's place in its second, the input samples, and what the
kernel reads beside its channels: the wavefront records, the products of its TWDET item, ring contributions. (DEDUCED, log 23) -/
def stagedWords (s : State) (d : Sched) (it : ItemE) : List Word :=
  [BitVec.ofNat 32 s.tik.sec, s.reg Reg.TIK_INSEC.key] ++
  (d.inputs it).flatMap (fun c => [inputValue s c, BitVec.ofNat 32 (inputQual s c)]) ++
  (if it.kernel = 0x17 then s.twc.input.flatMap frontWords else []) ++
  ((twdetOf d it).map (fun t => (List.range t.nOut).flatMap (fun j =>
    [s.reg (prodValue (t.outBase + j)).key, s.reg (prodQual (t.outBase + j)).key]))).getD [] ++
  (ringNodesOf d it).flatMap (ringInput s)

/-- The item's RTYPE 2 slots: in them the crossbar copies its inputs into the data SRAM of both members, an adopting spare's over its
adoption lane (R297, R298). -/
def staging (d : Sched) (it : ItemE) : Bool := d.slots.any (fun e => e.rtype == 2 && e.owner == it.item)

/-- The staging of a tick (R297): no input changes in the tick (R70), so all of it stands from the edge on. (DEDUCED, log 23) -/
def stageEdge (s : State) : State :=
  match s.img.sched with
  | none => s
  | some d => d.items.foldl (fun s it =>
      if !itemRuns s it || !staging d it then s
      else
        let ws := stagedWords s d it
        [memA s it.item, memB s it.item].foldl (fun s c =>
          if working s c then setCore s c { coreOf s c with staged := Tab.put [] (coreOf s c).staged it.item ws } else s) s) s

/-! ### A run of a kernel (R299, R300, R344, R346) -/

/-- The input channels that an output of an item is computed from, as places in its channel list (Table 07.1); none for the event kernels,
whose outputs stay between events (R346). (DEDUCED, log 23) -/
def outInputs (d : Sched) (it : ItemE) (j : Nat) : List Nat :=
  let all := List.range it.nIn
  match it.kernel with
  | 0x11 | 0x12 =>
    if j < 2 * it.nIn then [j / 2]
    else if j < 2 * it.nIn + 2 * (paramLe d it 0x12 1 % 2) then [0, 1, 2] else all
  | 0x14 => let per := it.nOut / max 1 it.nIn; [j / max 1 per]
  | 0x15 => if j < 7 then [j] else all
  | 0x16 => [0, 1, 2].map (· + 3 * (j / 6))
  | 0x17 | 0x18 | 0x19 => []
  | _ => all

/-- An output's VALIDITY and bits [6:4], joined with those of its inputs (R40). -/
def joinOut (qs : List Nat) (q : Nat) : Nat :=
  qualWord (min 2 (max (validityOf q) (worstValidity qs))) 0 (Nat.lor (flagsOf q) (joinFlags qs)) 0

/-- 1.0 as an FP32 word. -/
abbrev fp1 : Word := 0x3F800000

/-- What Table 07.1 says of the range of a kernel's output (R344). A ROCOF_CLAMP limits by its magnitude; a flag is 1.0 where the value is at
least 0.5. (DEDUCED, log 23) -/
def shapeOut (d : Sched) (it : ItemE) (j : Nat) (v : Word) : Word :=
  let clamp := BitVec.ofNat 32 (paramLe d it 0x14 4) &&& 0x7FFFFFFF
  match it.kernel, j with
  | 0x13, 1 => fpClamp (fpNegate clamp) clamp v
  | 0x17, 2 => if fpNeg v then fpNegate fp1 else fp1
  | 0x18, 1 | 0x19, 1 | 0x1A, 1 => fpClamp 0 fp1 v
  | 0x1A, 2 => 0
  | 0x1B, 6 | 0x1B, 7 | 0x1B, 8 => if fpLe 0x3F000000 v then fp1 else 0
  | _, _ => v

/-- The line of a FLOC_Z item, and the TWDET item of a line: the one that its FLOC_D or FLOC_A item names. -/
def lineTwdet (s : State) (l : Nat) : Option Nat :=
  match s.img.sched with
  | none => none
  | some d =>
    let ids := [s.rd (Reg.MPR_FLOC_ITEMS_DA_D_ITEM l), s.rd (Reg.MPR_FLOC_ITEMS_DA_A_ITEM l)]
    (ids.filterMap d.find).head?.map (fun it => paramLe d it 0x18 2)

/-- The TWDET item whose events renew a FLOC item's outputs (R346). -/
def eventItem (s : State) (d : Sched) (it : ItemE) : Option ItemE :=
  if it.kernel = 0x1A then
    ((List.range 4).find? (fun l => s.rd (Reg.MPR_FLOC_ITEM_Z_Z_ITEM l) == it.item)).bind (fun l => (lineTwdet s l).bind d.find)
  else twdetOf d it

/-- The sequence number of the event that an item's outputs belong to (R346). -/
def eventSeq (s : State) (d : Sched) (it : ItemE) (outs : List (Word × BitVec 16)) : Option Word :=
  if it.kernel = 0x17 then (outs[4]?).map Prod.fst
  else (eventItem s d it).map (fun t => s.reg (prodValue (t.outBase + 4)).key)

/-- Between two events the outputs of a TWDET or FLOC item keep the values of the latest event (R346). (DEDUCED, log 23) -/
def keepEvent (s : State) (d : Sched) (it : ItemE) (outs : List (Word × BitVec 16)) : List (Word × BitVec 16) :=
  match Tab.get none s.thr.kept it.item, eventSeq s d it outs with
  | some (k, old), some q => if k = q then old else outs
  | _, _ => outs

/-- The outputs of a healthy run, in the order and the ranges of Table 07.1 (R40, R344, R346): the numbers come from the signed
kernel (log 8). (DEDUCED, log 23) -/
def kernelOuts (s : State) (d : Sched) (it : ItemE) (k : KernE) (bs : List Byte) (ws : List Word) : List (Word × BitVec 16) :=
  let quals := (d.inputs it).map (inputQual s)
  let ring := ringQuals s d it
  keepEvent s d it ((List.range it.nOut).map (fun j =>
    if it.kernel = 0x15 ∧ it.nIn = 6 ∧ j = 6 then (0, BitVec.ofNat 16 (qualWord 2 0 0 0))
    else
      let o := Config.kernelOut k.code (itemParams d it) bs ws j
      (shapeOut d it j o.1, BitVec.ofNat 16 (joinOut ((outInputs d it j).filterMap (fun n => quals[n]?) ++ ring) o.2.toNat))))

/-- A healthy run of an item on core `c`, from the committed state and the staged inputs of core `src`, which is another core's for an
arbiter (R299, R300, R307): a core runs only a kernel that its store holds (R295). (DEDUCED, log 23) -/
def healthyRun (s : State) (it : ItemE) (c src : Nat) : Option Res :=
  match s.img.sched with
  | none => none
  | some d => match d.kern it.kernel with
    | none => none
    | some k =>
      if !(coreOf s c).store.contains k then none
      else
        let bs := committed s src it
        let ws := Tab.get [] (coreOf s src).staged it.item
        let out := Config.kernelState k.code (itemParams d it) bs ws
        some { outs := kernelOuts s d it k bs ws
               state := (out ++ List.replicate (stateBytes it) 0).take (stateBytes it) }

/-- What a run has yielded: nothing, the result of a healthy core, or another one. (DEDUCED, log 23) -/
def runResult (s : State) (it : ItemE) (c src : Nat) : Option RunOut → Option Res
  | none => none
  | some .healthy => healthyRun s it c src
  | some (.wrong r) => some r

/-- Whether two results agree: values, quality words and the CRC-32C of the state regions (R302). -/
def agrees (a b : Res) : Bool := a.outs == b.outs && crc32c a.state == crc32c b.state

end Sys2Proof.Machine
end

