-- ==== Sys2Proof/Machine/Thr.lean ====
section
/-! DEFINITION. The thresher pool: compare, retry, arbitration and outcome of every item, slot deadlines, retirement, adoption,
quadrant loss and shedding (06_thresher_pool.md, and R72–R78 of 01_the_tick.md). -/

namespace Sys2Proof.Machine

/-! ### Items in a tick -/

/-- An item's record of this tick. -/
def runOf (s : State) (n : Nat) : Run := Tab.get {} s.thr.runs n

/-- An item's record written back. -/
def setRun (s : State) (n : Nat) (r : Run) : State := { s with thr := { s.thr with runs := Tab.put {} s.thr.runs n r } }

/-- A list sorted by a key, smallest first; equal keys keep their order. -/
def insertBy (key : Nat → Nat) (x : Nat) : List Nat → List Nat
  | [] => [x]
  | y :: ys => if key x < key y then x :: y :: ys else y :: insertBy key x ys

/-- Insertion sort by a key. -/
def sortBy (key : Nat → Nat) (xs : List Nat) : List Nat := xs.foldl (fun l x => insertBy key x l) []

/-- A mask word of the cores that a test picks. -/
def coreMask (p : Nat → Bool) (w : Nat) : Nat :=
  ((List.range 32).filter (fun b => decide (32 * w + b < 80) && p (32 * w + b))).foldl (fun m b => m + 2 ^ b) 0

/-- The registers that summarise the roles (Table 06.10, Table 06.11). -/
def refreshPool (s : State) : State :=
  let n := fun (p : Nat → Bool) => ((List.range 80).filter p).length
  let s := s.wr Reg.THR_STATUS_SPARES_FREE (n (fun c => role s c == 2))
  let s := s.wr Reg.THR_STATUS_WORKING (n (working s))
  let s := s.wr Reg.THR_STATUS_RETIRED (n (fun c => role s c == 4))
  let s := s.wr Reg.THR_STATUS_QUAD_LOST (s.thr.lost.foldl (fun m q => Nat.lor m (2 ^ q)) 0)
  let s := (List.range 3).foldl (fun s w =>
    (s.wr (Reg.THR_RETIRED w) (coreMask (fun c => role s c == 4) w)).wr (Reg.THR_SPARE w)
      (coreMask (fun c => role s c == 2) w)) s
  s.wr Reg.THR_INCOMPLETE
    ((itemsOf s).filter (fun it => working s (memA s it.item) != working s (memB s it.item))).length

/-! ### Outcomes (R303, R309, R313, R314) -/

/-- ISTATUS.LAST of an outcome. -/
def lastCode : Outcome → Nat
  | .paired => 0
  | .retried => 1
  | .voted => 2
  | .unpaired => 3
  | .held => 4
  | .invalid => 5
  | .shed => 6
  | .warmup => 7

/-- The final outcome of an item in this tick. -/
def decide_ (s : State) (it : ItemE) (oc : Outcome) (outs : List (Word × Nat)) : State :=
  let s := setRun s it.item { runOf s it.item with phase := .decided, outcome := oc, out := outs }
  s.wr (Reg.THR_ITEM_ISTATUS_LAST it.item) (lastCode oc)

/-- PROVENANCE of an outcome. -/
def provOfOutcome : Outcome → Nat
  | .retried => 1
  | .voted => 2
  | .unpaired => 3
  | _ => 0

/-- A member's latest result (R309). -/
def latest (retry first : Option Res) : Option Res := retry.or first

/-- The working copy of each member whose latest result is the delivered one becomes its committed state (R301). -/
def commitState (s : State) (it : ItemE) (x : Res) : State :=
  let r := runOf s it.item
  let own := fun (s : State) (c : Nat) (y : Option Res) => match y with
    | some y => if working s c && agrees y x then setCommitted s c it y.state else s
    | none => s
  own (own s (memA s it.item) (latest r.retryA r.firstA)) (memB s it.item) (latest r.retryB r.firstB)

/-- The latest event's outputs are kept for the ticks until the next event (R346). -/
def keepOuts (s : State) (it : ItemE) (outs : List (Word × BitVec 16)) : State :=
  match s.img.sched.bind (fun d => eventSeq s d it outs) with
  | some q => { s with thr := { s.thr with kept := Tab.put none s.thr.kept it.item (some (q, outs)) } }
  | none => s

/-- Deliver a member's result (Table 06.2); in the warm-up every output is INVALID (R326). -/
def deliver (s : State) (it : ItemE) (oc : Outcome) (r : Res) : State :=
  let warm := s.rd (Reg.THR_ITEM_IWARM_WARM_LEFT it.item)
  let outs := (List.range it.nOut).map (fun j =>
    match r.outs[j]? with
    | some (v, q) => (v, qualWord (if 0 < warm then 2 else validityOf q.toNat) (provOfOutcome oc) (flagsOf q.toNat) 0)
    | none => (0, 2))
  let s := match oc with
    | .retried => (s.inc Reg.THR_RETRIED_TOTAL).inc (Reg.THR_ITEM_ICNT1_RETRIED it.item)
    | .voted => (s.inc Reg.THR_VOTED_TOTAL).inc (Reg.THR_ITEM_ICNT1_VOTED it.item)
    | _ => s
  let s := keepOuts (commitState s it r) it r.outs
  let s := s.wr (Reg.THR_ITEM_IWARM_WARM_LEFT it.item) (warm - 1)
  decide_ s it (if 0 < warm then .warmup else oc) outs

/-- The place of an output among the last VALID values. -/
def outKey (n j : Nat) : Nat := 64 * n + j

/-- An outcome that delivers no result: HELD or INVALID as ON_FAIL selects (R75, R313), and a start from a zeroed state in the
next tick (R314). -/
def failItem (s : State) (it : ItemE) : State :=
  let outs := (List.range it.nOut).map (fun j =>
    match it.onFail, Tab.get none s.thr.lastValid (outKey it.item j) with
    | 0, some v => (v, 1)
    | _, _ => ((s.reg (prodValue (it.outBase + j)).key), 2))
  let s := s.inc (Reg.THR_ITEM_ICNT2_HELD_INVALID it.item)
  let s := { s with thr := { s.thr with restart := it.item :: s.thr.restart.filter (· != it.item) } }
  decide_ s it (if outs.any (fun o => o.2 == 1) then .held else .invalid) outs

/-- ARB_FAIL: the outcome without an arbitration result (R309, R339). -/
def arbFail (s : State) (it : ItemE) (reason : Nat) : State :=
  failItem (raiseLimited (s.inc Reg.THR_ARB_FAIL) Blk.thr 0x0104 .warn it.item (it.item + 2 ^ 16 * reason)) it

/-! ### Adoption by a spare (R318–R325) -/

/-- Whether a spare has been chosen for an adoption. -/
def chosen (s : State) (sp : Nat) : Bool := s.thr.adoptions.any (fun a => a.spare == sp)

/-! ### Arbitration (R306–R308) -/

/-- Whether a spare's kernel store holds an item's kernel (R306). -/
def holdsKernel (s : State) (sp : Nat) (it : ItemE) : Bool :=
  (s.img.sched.bind (fun d => d.kern it.kernel)).any (fun k => (coreOf s sp).store.contains k)

/-- The item that a spare arbitrates. -/
def arbitratedBy (s : State) (sp : Nat) : Option ItemE :=
  (itemsOf s).find? (fun it => (runOf s it.item).phase == .arbitrating sp)

/-- The spares that may arbitrate an item, idle or arbitrating. -/
def arbiters (s : State) (it : ItemE) : List Nat :=
  (List.range 80).filter (fun sp => role s sp == 2 && !chosen s sp && holdsKernel s sp it)

/-- The arbiter that R306 takes among idle candidates. (DEDUCED, log 23) -/
def bestArbiter (s : State) (it : ItemE) (cands : List Nat) : Option Nat :=
  let qa := memA s it.item / 20
  let qb := memB s it.item / 20
  (cands.find? (fun sp => sp / 20 != qa && sp / 20 != qb)).or cands.head?

/-- Whether an arbitration that starts at a cycle of the tick ends before slot 496: the staging at 64 bytes per FCLK cycle, the 64 cycles in
which a BIST is abandoned, and the WCET (R298, R307, R308). -/
def arbFits (s : State) (it : ItemE) (sp cyc : Nat) : Bool :=
  let stage := ceilDiv (stateBytes it + it.nIn * 8) 64 + (if s.thr.bist.contains sp then 64 else 0)
  let w := (s.img.sched.map (fun d => d.wcet it)).getD 0
  decide (cyc + stage + w ≤ 496 * slotCyc s.rate)

/-- Start an arbitration at a cycle of the tick, where it fits (R307, R308). -/
def startArb (s : State) (it : ItemE) (sp cyc : Nat) : State :=
  if !arbFits s it sp cyc then arbFail s it 2
  else
    let s := { s with thr := { s.thr with bist := s.thr.bist.filter (· != sp) } }
    let s := (s.wr (Reg.THR_CORE_CSTATE_BUSY sp) 1).inc (Reg.THR_CORE_CARB sp)
    setRun s it.item { runOf s it.item with phase := .arbitrating sp }

/-- The class M or A arbitration that a class P request preempts: of the lowest class (R308). (DEDUCED, log 23) -/
def preemptable (s : State) (cands : List Nat) : Option (Nat × ItemE) :=
  let xs := cands.filterMap (fun sp => (arbitratedBy s sp).map (fun it => (sp, it)))
  if xs.length = cands.length ∧ xs.all (fun p => decide (0 < p.2.cls)) then
    (xs.find? (fun p => p.2.cls == 2)).or xs.head?
  else none

/-- An arbitration request (R306, R308): an idle spare, else a preempted one for class P, else it waits. (DEDUCED, log 23) -/
def requestArb (s : State) (it : ItemE) (cyc : Nat) : State :=
  let cands := arbiters s it
  if cands.isEmpty then arbFail s it 1
  else match bestArbiter s it (cands.filter (fun sp => (arbitratedBy s sp).isNone)) with
    | some sp => startArb s it sp cyc
    | none =>
      match (if it.cls = 0 then preemptable s cands else none) with
      | some (sp, other) => if arbFits s it sp cyc then startArb (arbFail s other 3) it sp cyc else arbFail s it 2
      | none =>
        let n := s.thr.requests
        setRun { s with thr := { s.thr with requests := n + 1 } } it.item
          { runOf s it.item with phase := .queued, order := n }

/-- Serve the waiting requests in class order and then in order of request (R308); one that no spare is left for fails (R309). -/
def serveQueue (s : State) (cyc : Nat) : State :=
  let waiting := (itemsOf s).filter (fun it => (runOf s it.item).phase == .queued)
  let order := sortBy (fun n => match itemOf s n with
    | some it => it.cls * 65536 + (runOf s n).order
    | none => 0) (waiting.map ItemE.item)
  order.foldl (fun s n => match itemOf s n with
    | none => s
    | some it =>
      let cands := arbiters s it
      if cands.isEmpty then arbFail s it 1
      else match bestArbiter s it (cands.filter (fun sp => (arbitratedBy s sp).isNone)) with
      | some sp => startArb s it sp cyc
      | none => s) s

/-! ### Adopters -/

/-- An undecided item of a retired core, past its compare, is delivered from its partner's run alone (R316). -/
def deliverAlone (s : State) (it : ItemE) (gone : Nat) : State :=
  let r := runOf s it.item
  match r.phase with
  | .open => s
  | .decided => s
  | _ =>
    let s := match r.phase with
      | .arbitrating sp => s.wr (Reg.THR_CORE_CSTATE_BUSY sp) 0
      | _ => s
    let onA := memA s it.item == gone
    let partner := if onA then memB s it.item else memA s it.item
    match (if onA then latest r.retryB r.firstB else latest r.retryA r.firstA) with
    | some x => if working s partner then deliver s it .unpaired x else failItem s it
    | none => failItem s it

/-- The partner quadrants of a core's items. -/
def partnerQuads (s : State) (c : Nat) : List Nat :=
  (coreItems s c).map (fun it => (if memA s it.item = c then memB s it.item else memA s it.item) / 20)

/-- Whether a spare may adopt a core, its role apart (R318). (DEDUCED, log 24) -/
def fits (s : State) (sp c : Nat) : Bool :=
  match s.img.sched with
  | none => false
  | some d => role s sp != 4 && bitAt (d.coverOf sp) (slotCore s 80 c) && !(partnerQuads s c).contains (sp / 20)

/-- The lowest-numbered eligible spare for a core (R318). -/
def pickSpare (s : State) (c : Nat) : Option Nat :=
  (List.range 80).find? (fun sp => role s sp == 2 && !chosen s sp && fits s sp c)

/-- A spare with class M or A work that a class P core may take (R323), and the core whose work it leaves. -/
def reclaimable (s : State) (c : Nat) : Option (Nat × Nat) :=
  (List.range 80).findSome? (fun sp =>
    if !fits s sp c then none
    else if role s sp = 3 ∧ 0 < coreClass s sp ∧ coreClass s sp < 3 then
      some (sp, s.rd (Reg.THR_CORE_CSTATE_ADOPTED_OF sp))
    else match s.thr.adoptions.find? (fun a => a.spare == sp) with
      | some a => if 0 < coreClass s a.core then some (sp, a.core) else none
      | none => none)

/-- An item's member `a` becomes `b`. -/
def replaceMember (s : State) (n a b : Nat) : State :=
  if memA s n = a then s.wr (Reg.THR_ITEM_ISTATUS_CORE_A n) b
  else if memB s n = a then s.wr (Reg.THR_ITEM_ISTATUS_CORE_B n) b
  else s

/-- The spare gives up the work of the core it adopted, or was chosen for: its items run UNPAIRED on their partners (R323). -/
def leaveWork (s : State) (sp left : Nat) : State :=
  let s := if role s sp = 3 then
      let s := (coreItems s sp).foldl (fun s it => replaceMember s it.item sp left) s
      (s.wr (Reg.THR_CORE_CSTATE_ROLE sp) 2).wr (Reg.THR_CORE_CSTATE_ADOPTED_OF sp) 0x7F
    else s
  let s := { s with thr := { s.thr with adoptions := s.thr.adoptions.filter (fun a => a.spare != sp)
                                        orphans := left :: s.thr.orphans.filter (· != left) } }
  (coreItems s left).foldl (fun s it => deliverAlone s it left) s

/-- An adoption is planned. -/
def plan (s : State) (c sp due : Nat) : State :=
  let s := { s with thr := { s.thr with
    adoptions := s.thr.adoptions ++ [({ core := c, spare := sp, due := due } : Adopt)]
    bist := s.thr.bist.filter (· != sp)
    orphans := s.thr.orphans.filter (· != c), reported := s.thr.reported.filter (· != c) } }
  s.wr (Reg.THR_CORE_CSTATE_BUSY sp) 1

/-- A core finds no adopter (R324): PAIR_INCOMPLETE, once. -/
def orphan (s : State) (c : Nat) : State :=
  let s := { s with thr := { s.thr with orphans := c :: s.thr.orphans.filter (· != c) } }
  if s.thr.reported.contains c then s
  else raise { s with thr := { s.thr with reported := c :: s.thr.reported } } Blk.thr 0x0105 .fault
    (c + 2 ^ 8 * ((coreItems s c).length % 65536))

/-- Look for an adopter without reclaiming one (R318, R324). (DEDUCED, log 24) -/
def placePlain (s : State) (c due : Nat) : State :=
  match pickSpare s c with
  | some sp => plan s c sp due
  | none => orphan s c

/-- Look for an adopter of a retired core (R318, R323, R324, R332). -/
def place (s : State) (c due : Nat) : State :=
  if (coreItems s c).isEmpty then s
  else if (coreItems s c).all (itemShed s) then
    { s with thr := { s.thr with orphans := c :: s.thr.orphans.filter (· != c) } }
  else match pickSpare s c with
    | some sp => plan s c sp due
    | none =>
      if coreClass s c = 0 then
        match reclaimable s c with
        | some (sp, left) =>
          let s := leaveWork s sp left
          let s := raise s Blk.thr 0x0107 .warn (sp + 2 ^ 8 * left + 2 ^ 16 * c)
          placePlain (plan s c sp due) left due
        | none => orphan s c
      else orphan s c

/-! ### Retirement (R315, R316) -/

/-- The adopter planned for a core, 0xFF for none. -/
def adopterOf (s : State) (c : Nat) : Nat := ((s.thr.adoptions.find? (fun a => a.core == c)).map Adopt.spare).getD 0xFF

/-- The bookkeeping of one retirement (R315): role, reason, and arbitrations that the core carried (Table 06.7). -/
def markRetired (s : State) (c reason : Nat) : State :=
  let s := ((s.wr (Reg.THR_CORE_CSTATE_ROLE c) 4).wr (Reg.THR_CORE_CSTATE_REASON c) reason).wr
    (Reg.THR_CORE_CSTATE_BUSY c) 0
  let s := { s with thr := { s.thr with retiredNow := c :: s.thr.retiredNow, bist := s.thr.bist.filter (· != c) } }
  (itemsOf s).foldl (fun s it => if (runOf s it.item).phase = .arbitrating c then arbFail s it 4 else s) s

/-- What CORE_RETIRED and THR_LAST_RETIRE say of one retired core (Table 06.12). -/
def tellRetired (s : State) (c reason item : Nat) : State :=
  let a := adopterOf s c
  let s := s.wr Reg.THR_LAST_RETIRE (c + 2 ^ 8 * reason + 2 ^ 16 * a + 2 ^ 24 * (s.tick % 256))
  raise s Blk.thr 0x0101 .fault (c + 2 ^ 8 * reason + 2 ^ 16 * a + 2 ^ 32 * item)

/-- The adoptions that `p` picks are taken back; their spares are free again. -/
def unplan (s : State) (p : Adopt → Bool) : State :=
  let s := (s.thr.adoptions.filter p).foldl (fun s a =>
    if role s a.spare = 2 then s.setBit (Reg.THR_CORE_CSTATE_BUSY a.spare) (arbitratedBy s a.spare).isSome else s) s
  { s with thr := { s.thr with adoptions := s.thr.adoptions.filter (fun a => !p a) } }

/-- Adopters for the cores retired in this tick, in class order and then in ascending number, and for those whose adopter is gone (R318,
R322). (DEDUCED, log 24) -/
def placeAll (s : State) (redo : List Nat) : State :=
  let now := s.thr.retiredNow
  let s := unplan s (fun a => now.contains a.core)
  (sortBy (fun c => coreClass s c * 128 + c) (now ++ redo).eraseDups).foldl (fun s c => place s c (s.tick + 1)) s

/-- The items whose members are both retired wait for two adopters (R325). -/
def noteBroken (s : State) : State :=
  let gone := (itemsOf s).filter (fun it => !working s (memA s it.item) && !working s (memB s it.item))
  { s with thr := { s.thr with broken := (s.thr.broken ++ gone.map ItemE.item).eraseDups } }

/-- Retire cores in one instant: their items, the adopters they get or were to be, and the events (R315–R319, R322, R325); a spare that
becomes free serves the next request (R308). -/
def retireMany (s : State) (cores : List Nat) (reason item : Nat) : State :=
  let cores := cores.filter (fun c => decide (c < 80) && role s c != 4)
  let s := cores.foldl (fun s c => markRetired s c reason) s
  let redo := (s.thr.adoptions.filter (fun a => cores.contains a.spare)).map Adopt.core
  let s := { s with thr := { s.thr with adoptions := s.thr.adoptions.filter (fun a => !cores.contains a.spare) } }
  let s := placeAll (noteBroken s) redo
  let s := cores.foldl (fun s c => tellRetired s c reason item) s
  let s := cores.foldl (fun s c => (coreItems s c).foldl (fun s it => deliverAlone s it c) s) s
  serveQueue (refreshPool (cores.foldl poolChanged s)) s.thr.clock

/-- A quadrant is lost: all its cores are retired with reason QUADRANT (R329); causes 1 domain, 2 supply, 3 retirements. -/
def loseQuadrant (s : State) (q cause : Nat) : State :=
  if s.thr.lost.contains q then s
  else
    let cores := (List.range 20).map (· + 20 * q)
    let n := fun (p : Nat → Bool) => (cores.filter p).length
    let s := { s with thr := { s.thr with lost := q :: s.thr.lost } }
    let s := raise s Blk.thr 0x0106 .safety (q + 2 ^ 8 * cause + 2 ^ 16 * n (working s) + 2 ^ 24 * n (fun c => role s c == 2))
    retireMany s cores 6 0xFFFF

/-- Retire one core for a reason of Table 06.3; a third core of its quadrant within one tick loses the quadrant (R329). -/
def retireCore (s : State) (c reason item : Nat) : State :=
  if role s c = 4 ∨ 80 ≤ c then s
  else
    let s := retireMany s [c] reason item
    if 3 ≤ (s.thr.retiredNow.filter (fun x => x / 20 == c / 20)).length then loseQuadrant s (c / 20) 3 else s

/-! ### Transients (R310, R311) -/

/-- Charge a transient to a core; the third within 10,000 ticks retires it (R311). (DEDUCED, log 23) -/
def charge (s : State) (c item : Nat) : State :=
  let t := s.tick
  let old := (Tab.get [] s.thr.charges c).filter (fun x => decide (t ≤ x + 9999))
  let earlier := (old.filter (fun x => decide (x < t))).length
  let s := (s.inc (Reg.THR_CORE_CTRANS_TOTAL c)).wr (Reg.THR_CORE_CTRANS_WINDOW c) (min 2 (old.length + 1))
  let s := { s with thr := { s.thr with charges := Tab.put [] s.thr.charges c (t :: old) } }
  if 2 ≤ earlier then retireCore s c 2 item else s

/-- TRANSIENT of an outcome that charges one or two cores (R310, Table 06.12). -/
def chargeAll (s : State) (cs : List Nat) (item : Nat) : State :=
  if cs.isEmpty then s else
  let s := raise s Blk.thr 5 .info
    (1 + 2 ^ 16 * item + 2 ^ 32 * cs.headD 0xFF + 2 ^ 40 * (cs.drop 1).headD 0xFF)
  cs.foldl (fun s c => charge s c item) s

/-! ### Retry (R304, R305) -/

/-- The RETRY slots of a core in ascending order. -/
def retrySlots (s : State) (c : Nat) : List Nat :=
  match s.img.sched with
  | none => []
  | some d =>
    let r := d.slots.filter (fun e => e.rtype == 1 && e.retry && e.res == slotCore s 80 c)
    (List.range 496).filter (fun j => r.any (fun e => decide (e.first ≤ j ∧ j ≤ e.last)))

/-- The cycle at which `w` cycles of work that start at cycle `t` end within the given slots; none when they do not fit. -/
def runsTo (cyc : Nat) : List Nat → Nat → Nat → Option Nat
  | [], _, _ => none
  | j :: js, w, t =>
    let a := max t (j * cyc)
    let b := (j + 1) * cyc
    if b ≤ a then runsTo cyc js w t
    else if w ≤ b - a then some (a + w)
    else runsTo cyc js (w - (b - a)) t

/-- The cycles that the given slots hold from cycle `t` on. -/
def cyclesFrom (cyc : Nat) (slots : List Nat) (t : Nat) : Nat :=
  (slots.map (fun j => (j + 1) * cyc - max t (j * cyc))).sum

/-- The first cycle of the given slots from cycle `t` on; `t` itself where none is left. -/
def firstCycle (cyc : Nat) (slots : List Nat) (t : Nat) : Nat :=
  ((slots.find? (fun j => decide (t < (j + 1) * cyc))).map (fun j => max t (j * cyc))).getD t

/-- The largest WCET among a member's items of higher class whose compare slot is still to come at cycle `t` (R305). -/
def laterWcet (s : State) (d : Sched) (c : Nat) (it : ItemE) (t : Nat) : Nat :=
  ((coreItems s c).filter (fun x => decide (x.cls < it.cls ∧ t < x.compare * slotCyc s.rate))).foldl
    (fun m x => max m (d.wcet x)) 0

/-- The cycle at which a member's retry that starts at cycle `t` ends; none when R305 prevents it. -/
def retryEnd (s : State) (d : Sched) (c : Nat) (it : ItemE) (t : Nat) : Option Nat :=
  let cyc := slotCyc s.rate
  let slots := retrySlots s c
  match runsTo cyc slots (d.wcet it) t with
  | none => none
  | some e => if it.cls = 0 ∨ laterWcet s d c it t ≤ cyclesFrom cyc slots e then some e else none

/-- The cycle at which a member is ready for an item's retry: after its compare slot and the retries it has started (R304). -/
def retryReady (s : State) (c : Nat) (it : ItemE) : Nat :=
  let cyc := slotCyc s.rate
  firstCycle cyc (retrySlots s c) (max (Tab.get 0 s.thr.cursor c) ((it.compare + 1) * cyc))

/-- Whether a member has a retry of an item still to start. -/
def retryOpen (s : State) (c : Nat) (it : ItemE) : Bool :=
  let r := runOf s it.item
  r.phase == .retrying && ((memA s it.item == c && r.startA.isNone) || (memB s it.item == c && r.startB.isNone))

/-- The retry that a core starts next, with its cycle: at the first cycle at which one is ready, in class order and then in compare slot
order (R304). (DEDUCED, log 23) -/
def nextRetry (s : State) (c : Nat) : Option (Nat × ItemE) :=
  let open_ := (itemsOf s).filter (retryOpen s c)
  match open_.map (retryReady s c) with
  | [] => none
  | t :: ts =>
    let first := ts.foldl min t
    let order := sortBy (fun n => match itemOf s n with
      | some it => it.cls * 512 + it.compare
      | none => 0) ((open_.filter (fun it => decide (retryReady s c it ≤ first))).map ItemE.item)
    (order.head?.bind (itemOf s)).map (fun it => (first, it))

/-- The retry that starts next in the pool: cycle, core, item. -/
def soonestRetry (s : State) : Option (Nat × Nat × ItemE) :=
  let cores := ((itemsOf s).filter (fun it => (runOf s it.item).phase == .retrying)).flatMap
    (fun it => [memA s it.item, memB s it.item])
  (cores.eraseDups.filterMap (fun c => (nextRetry s c).map (fun p => (p.1, c, p.2)))).foldl
    (fun o p => match o with
      | none => some p
      | some q => if p.1 < q.1 ∨ (p.1 = q.1 ∧ p.2.1 < q.2.1) then some p else some q) none

/-- A core starts its retry of an item at cycle `t`, unless R305 prevents it on one of the two members: then neither runs it, and the item
goes to arbitration with its first-run results. (DEDUCED, log 23) -/
def startRetry (s : State) (d : Sched) (t c : Nat) (it : ItemE) : State :=
  let r := runOf s it.item
  let onA := memA s it.item == c
  let o := if onA then memB s it.item else memA s it.item
  let other := match (if onA then r.startB else r.startA) with
    | some _ => true
    | none => (retryEnd s d o it (retryReady s o it)).isSome
  match retryEnd s d c it t, other with
  | some e, true =>
    let r := if onA then { r with startA := some t } else { r with startB := some t }
    setRun { s with thr := { s.thr with cursor := Tab.put 0 s.thr.cursor c e } } it.item r
  | _, _ =>
    let s := setRun (s.inc Reg.THR_RETRY_SKIP) it.item { r with skipped := true }
    requestArb s it t

/-- The retries that start up to cycle `t`, one after the other. -/
def startRetries (d : Sched) (t : Nat) : Nat → State → State
  | 0, s => s
  | n + 1, s => match soonestRetry s with
    | none => s
    | some (x, c, it) => if x ≤ t then startRetries d t n (startRetry s d x c it) else s

/-- The pool reaches cycle `t` of the tick: the retries due by then have started (R304, R305). -/
def reachCyc (s : State) (t : Nat) : State :=
  let s := { s with thr := { s.thr with clock := max s.thr.clock t } }
  match s.img.sched with
  | none => s
  | some d => startRetries d t (2 * d.items.length) s

/-! ### The commands of the vote -/

/-- A result with the corruption that an injection causes (R591, kinds 1 and 2): another state region. -/
def injected (s : State) (item core mark : Nat) (first : Bool) (r : Option Res) : Option Res :=
  if (first && s.saf.inject.contains (1, core)) || s.saf.inject.contains (2, item) then
    r.map (fun x => { x with state := x.state ++ [BitVec.ofNat 8 (if s.saf.inject.contains (2, item) then mark else 1)] })
  else r

/-- A first-run mismatch (R304, R74): both members retry. -/
def mismatch (s : State) (n : Nat) : State := setRun s n { runOf s n with phase := .retrying }

/-- The compare of two first-run results (R302, R74, R75). -/
def compareFirst (s : State) (it : ItemE) : State :=
  let r := runOf s it.item
  match r.firstA, r.firstB with
  | none, none => failItem s it
  | some x, some y => if agrees x y then deliver s it .paired x else mismatch s it.item
  | _, _ => mismatch s it.item

/-- COMPARE_POINT: the first-run results are compared (R302, R316, R325); a mismatch starts a retry or an arbitration (R304–R306). (DEDUCED, log 23) -/
def execComparePoint (item : Fin 1024) (ra rb : Option RunOut) (s : State) : Out :=
  .next (match itemOf s item with
    | none => s
    | some it =>
      let s := reachCyc s (it.compare * slotCyc s.rate)
      let r := runOf s item
      if !itemRuns s it || r.phase != .open then s
      else
        let a := memA s item
        let b := memB s item
        let ra := if working s a && !r.missA then injected s item a 1 true (runResult s it a a ra) else none
        let rb := if working s b && !r.missB then injected s item b 2 true (runResult s it b b rb) else none
        let s := setRun s item { r with firstA := ra, firstB := rb }
        if s.thr.broken.contains it.item then failItem s it
        else if working s a && working s b then compareFirst s it
        else match (if working s a then ra else rb) with
          | some x => deliver s it .unpaired x
          | none => failItem s it)

/-- The retries of two members have ended by a cycle: what they start next follows at once (R304). -/
def retriesEnd (s : State) (cores : List Nat) (cyc : Nat) : State :=
  { s with thr := { s.thr with cursor := cores.foldl (fun l c => Tab.put 0 l c (min cyc (Tab.get 0 l c))) s.thr.cursor } }

/-- The compare of two retry results (R304, R306, Table 06.2). -/
def compareRetry (s : State) (it : ItemE) (cyc : Nat) : State :=
  let r := runOf s it.item
  match r.retryA, r.retryB with
  | some x, some y =>
    if agrees x y then
      let differs := fun (c : Nat) (f : Option Res) => if f.any (fun z => agrees z x) then [] else [c]
      let bad := differs (memA s it.item) r.firstA ++ differs (memB s it.item) r.firstB
      chargeAll (deliver s it .retried x) bad it.item
    else requestArb s it cyc
  | _, _ => requestArb s it cyc

/-- RETRY_COMPARE: the retry results are compared (R304) once both members have started their retry; agreement delivers RETRIED and charges
the members whose first run differed, a mismatch goes to arbitration (R306, Table 06.2). (DEDUCED, log 23) -/
def execRetryCompare (item : Fin 1024) (ra rb : Option RunOut) (cyc : Nat) (s : State) : Out :=
  .next (match itemOf s item with
    | none => s
    | some it =>
      let s := reachCyc s cyc
      let r := runOf s item
      if r.phase != .retrying || r.startA.isNone || r.startB.isNone then s
      else
        let a := memA s item
        let b := memB s item
        let ra := if r.retryMissA then none else injected s item a 1 false (runResult s it a a ra)
        let rb := if r.retryMissB then none else injected s item b 2 false (runResult s it b b rb)
        compareRetry (setRun (retriesEnd s [a, b] cyc) item { r with retryA := ra, retryB := rb }) it cyc)

/-- The outcome of an arbitration with a result (R309, Table 06.2, R312). -/
def voteOutcome (s : State) (it : ItemE) (sp : Nat) (x : Res) : State :=
  let n := it.item
  let r := runOf s n
  let a := memA s n
  let b := memB s n
  let okA := (latest r.retryA r.firstA).any (fun y => agrees y x)
  let okB := (latest r.retryB r.firstB).any (fun y => agrees y x)
  if okA && okB then deliver s it .voted x
  else if okA || okB then
    let other := if okA then b else a
    let s := deliver s it .voted x
    if r.skipped then chargeAll s [other] n else retireCore s other 1 n
  else
    let s := (s.inc Reg.THR_SPLIT_TOTAL).inc (Reg.THR_ITEM_ICNT2_SPLIT n)
    let s := raise s Blk.thr 0x0103 .fault (n + 2 ^ 16 * a + 2 ^ 24 * b + 2 ^ 32 * sp)
    failItem { s with thr := { s.thr with glean := s.thr.glean ++ [(n, a, b)] } } it

/-- ARBITRATION_VOTE: the arbiter has run the item from CORE_A's committed state and staged inputs, or from CORE_B's where that state failed
its check (R307); its result decides the item, and the spare then serves the next request (R308, R309). -/
def execArbitrationVote (item : Fin 1024) (r : ArbOut) (cyc : Nat) (s : State) : Out :=
  .next (match itemOf s item with
    | none => s
    | some it =>
      let s := reachCyc s cyc
      match (runOf s item).phase with
      | .arbitrating sp =>
        let src := if r.badA then memB s item else memA s item
        let s := s.wr (Reg.THR_CORE_CSTATE_BUSY sp) (chosen s sp).toNat
        let s := match injected s item sp 4 false (runResult s it sp src r.run) with
          | some x => voteOutcome s it sp x
          | none => arbFail s it 2
        serveQueue s cyc
      | _ => s)

/-! ### Slot deadlines (R72–R78) -/

/-- The overrun of an item, counted once per tick (R73, R77, R78). (DEDUCED, log 12) -/
def overrun (s : State) (item core slot : Nat) (second : Option Nat) : State :=
  if s.tik.overran.contains item then s
  else
    let t := s.tick
    let h := t :: ((Tab.get [] s.tik.hist item).filter (fun x => decide (t ≤ x + 63)))
    let s := (s.inc Reg.TIK_OVR_TOTAL).inc (Reg.TIK_ITEM_OVR_TOTAL item)
    let s := s.wr (Reg.TIK_ITEM_OVR_WINDOW item) (min 7 h.length)
    let s := ((s.wr Reg.TIK_OVR_LAST_ITEM item).wr Reg.TIK_OVR_LAST_CORE core).wr Reg.TIK_OVR_LAST_SLOT slot
    let s := { s with tik := { s.tik with
      overran := item :: s.tik.overran
      hist := Tab.put [] s.tik.hist item h
      repeats := if 8 ≤ h.length then s.tik.repeats ++ [item] else s.tik.repeats } }
    raiseLimited s Blk.tik 0x0101 .warn item (item + 2 ^ 16 * core + 2 ^ 24 * (second.getD 0xFF) + 2 ^ 32 * slot)

/-- A member's run is marked as having no result. -/
def markMiss (s : State) (item core : Nat) (retry : Bool) : State :=
  let r := runOf s item
  let r := if memA s item = core then (if retry then { r with retryMissA := true } else { r with missA := true }) else r
  let r := if memB s item = core then (if retry then { r with retryMissB := true } else { r with missB := true }) else r
  setRun s item r

/-- The members of an item among two cores. -/
def missedOf (s : State) (n core : Nat) (second : Option Nat) : List Nat :=
  ([core] ++ second.toList).eraseDups.filter (fun c => working s c && (memA s n == c || memB s n == c))

/-- SLOT_DEADLINE: a core that has not finished is stopped and its result discarded (R72); a first run counts as an overrun
(R73, R78), a retry or arbitration as a miss of R76. (DEDUCED, log 23) -/
def execSlotDeadline (run : RunKind) (item : Fin 1024) (core : Fin 80) (slot : Fin 512) (second : Option (Fin 80))
    (s : State) : Out :=
  .next (match itemOf s item with
    | none => s
    | some it =>
      let s := reachCyc s (slot * slotCyc s.rate)
      let r := runOf s item
      let cs := missedOf s item core (second.map Fin.val)
      if !itemRuns s it then s
      else match run with
        | .first =>
          if r.phase != .open || cs.isEmpty then s
          else overrun (cs.foldl (fun s c => markMiss s item c false) s) item (cs.headD 0) slot (cs[1]?)
        | .retry =>
          if r.phase != .retrying then s
          else cs.foldl (fun s c =>
            let started := if memA s item = c then r.startA.isSome && !r.retryMissA else r.startB.isSome && !r.retryMissB
            if started then markMiss (s.inc Reg.TIK_RETRY_OVR) item c true else s) s
        | .arbitration =>
          if r.phase = .arbitrating core then
            serveQueue (arbFail ((s.inc Reg.TIK_RETRY_OVR).wr (Reg.THR_CORE_CSTATE_BUSY core) (chosen s core).toNat) it 2) s.thr.clock
          else s)

/-! ### Commands and memory errors (R334, R338) -/

/-- THR_RETIRE_CMD: a keyed RETIRE retires the core at the start of slot 496 (R338, Table 06.3). (DEDUCED, log 24) -/
def execThrRetireCmd (a : Access) (v : Word) (s : State) : Out :=
  .next (withWrite s a 0x100000 Blk.thr 18 0x100008 (fun s =>
    let core := fieldOf v 8 7
    if fieldOf v 16 16 ≠ 0xC0DE then cfgViol s Blk.thr a.init 0x100008
    else if fieldOf v 0 4 ≠ 1 then s
    else if s.rd Reg.TIK_STATUS_STATE ≠ 0 ∧ s.rd Reg.TIK_STATUS_SLOT < 496 then
      { s with thr := { s.thr with commands := s.thr.commands ++ [core] } }
    else retireCore s core 8 0xFFFF))

/-- CORE_MEMORY_ERROR: a corrected error is counted, an uncorrectable one retires the core (R334). -/
def execCoreMemoryError (core : Fin 80) (kstore uncorrectable : Bool) (s : State) : Out :=
  if !domainUp s 18 || !inService s core then .next s
  else if uncorrectable then .next (retireCore s core (if kstore then 4 else 3) 0xFFFF)
  else .next (s.inc (if kstore then Reg.THR_CORE_CECC_KSTORE core else Reg.THR_CORE_CECC_DATA core))

/-! ### Warm-up (R326, Table 06.5) -/

/-- Ticks of `c` nominal cycles. -/
def cyclesToTicks (s : State) (c : Nat) : Nat := ceilDiv (c * s.rate) (if s.bit Reg.ACQ_CTRL_NOMF then 60 else 50)

/-- The warm-up W of an item, in ticks. -/
def warmUp (s : State) (d : Sched) (it : ItemE) : Nat :=
  match it.kernel with
  | 0x11 => cyclesToTicks s 2
  | 0x12 => cyclesToTicks s 7
  | 0x13 => cyclesToTicks s (3 + d.param it 0x10)
  | 0x14 => cyclesToTicks s (if s.bit Reg.ACQ_CTRL_NOMF then 12 else 10)
  | 0x15 => cyclesToTicks s (d.param it 0x10)
  | 0x16 => cyclesToTicks s 1
  | 0x1A => cyclesToTicks s 2
  | 0x1B => s.rd Reg.MRG_CFG_D + cyclesToTicks s 1
  | _ => 0

/-- An item starts from a zeroed state region (R314, R326). -/
def startItem (s : State) (d : Sched) (it : ItemE) : State :=
  (zeroState s it).wr (Reg.THR_ITEM_IWARM_WARM_LEFT it.item) (min 65535 (warmUp s d it))

/-! ### What the tick does to the pool -/

/-- The effective shed level of the three requests (R331). -/
def shedLevel (s : State) : Nat := max (min 2 (s.rd Reg.THR_CTRL_SHED_REQ)) (max s.thr.shedSaf s.thr.shedThm)

/-- An adoption of a core whose items are all shed is cancelled (R332). -/
def cancelShedAdoptions (s : State) : State :=
  let gone := s.thr.adoptions.filter (fun a => (coreItems s a.core).all (itemShed s))
  let s := gone.foldl (fun s a => s.wr (Reg.THR_CORE_CSTATE_BUSY a.spare) 0) s
  { s with thr := { s.thr with
      adoptions := s.thr.adoptions.filter (fun a => !(coreItems s a.core).all (itemShed s))
      orphans := (gone.map Adopt.core) ++ s.thr.orphans } }

/-- A change of the effective shed level at the tick edge (R332, R333). -/
def shedEdge (s : State) : State :=
  let old := s.rd Reg.THR_STATUS_SHED
  let new := shedLevel s
  if new = old then s
  else
    let who := (if s.rd Reg.THR_CTRL_SHED_REQ = 0 then 0 else 1) + (if s.thr.shedSaf = 0 then 0 else 2) +
      (if s.thr.shedThm = 0 then 0 else 4)
    let s := s.wr Reg.THR_STATUS_SHED new
    let back := (itemsOf s).filter (fun it => shedClass old it.cls && !shedClass new it.cls)
    let s := { s with thr := { s.thr with restart := back.map ItemE.item ++ s.thr.restart } }
    cancelShedAdoptions (raise s Blk.thr 0x0108 .warn (old + 2 ^ 8 * new + 2 ^ 16 * who))

/-- The items that start anew in a tick that runs the pool (R314, R326, R333, R336). -/
def restartEdge (s : State) : State :=
  match (if s.thr.idle then none else s.img.sched) with
  | none => s
  | some d =>
    let s := s.thr.restart.eraseDups.foldl (fun s n => match d.find n with
      | some it => startItem s d it
      | none => s) s
    { s with thr := { s.thr with restart := [] } }

/-- The retired cores that wait look for an adopter again (R318, R324, R332). (DEDUCED, log 24) -/
def orphanEdge (s : State) : State :=
  if s.thr.orphans.isEmpty then s
  else refreshPool ((sortBy (fun c => coreClass s c * 128 + c) s.thr.orphans).foldl (fun s c =>
    if (coreItems s c).all (itemShed s) then s else place s c s.tick) s)

/-- The pool at a tick edge: the shed level, items that restart, records of the new tick, waiting cores. `runs` says whether
the tick has work window assignments. (DEDUCED, log 24) -/
def poolEdge (s : State) (runs : Bool) : State :=
  let s := shedEdge s
  let s := { s with thr := { s.thr with
    idle := !runs || s.bit Reg.SAF_STATUS_LATCHED
    runs := [], cursor := [], clock := 0, requests := 0, retiredNow := [] } }
  let s := restartEdge s
  let s := s.thr.charges.foldl (fun s p =>
    s.wr (Reg.THR_CORE_CTRANS_WINDOW p.1) (min 2 (p.2.filter (fun x => decide (s.tick ≤ x + 9999))).length)) s
  orphanEdge s

/-- The retries of an item that still run: one miss of R76 for each member. -/
def runningRetries (s : State) (n : Nat) : Nat :=
  let r := runOf s n
  (r.startA.isSome && !r.retryMissA && working s (memA s n)).toNat + (r.startB.isSome && !r.retryMissB && working s (memB s n)).toNat

/-- Whatever still runs at slot 496 is stopped (R94): an open item of which one member has missed its deadline is a mismatch that finds no
time (R74), any other open item has no result (R75), retries and arbitrations have failed (R76). (DEDUCED, log 23) -/
def stopItem (s : State) (it : ItemE) : State :=
  let r := runOf s it.item
  if !itemRuns s it then
    if s.thr.idle then s
    else decide_ s it (if itemShed s it then .shed else .invalid)
      ((List.range it.nOut).map (fun j => (s.reg (prodValue (it.outBase + j)).key, 2)))
  else match r.phase with
    | .open =>
      if working s (memA s it.item) && working s (memB s it.item) && r.missA != r.missB then
        arbFail (s.inc Reg.THR_RETRY_SKIP) it 2
      else failItem s it
    | .retrying => arbFail (s.add Reg.TIK_RETRY_OVR (runningRetries s it.item)) it 2
    | .queued => arbFail s it 2
    | .arbitrating sp => arbFail ((s.inc Reg.TIK_RETRY_OVR).wr (Reg.THR_CORE_CSTATE_BUSY sp) (chosen s sp).toNat) it 2
    | .decided => s

/-- Product slot `p` takes a value and a quality word in the current tick (R340). -/
def putProduct (s : State) (p : Nat) (v : Word) (q : Nat) : State :=
  let q := qualWord (validityOf q) (provOf q) (flagsOf q) s.timeq
  (s.wr (prodValue p) v.toNat).wr (prodQual p) (q + 2 ^ 16 * (s.tick % 65536))

/-- Output `j` of an item is written; a VALID one is the value that HELD repeats (R313). -/
def putOutput (s : State) (it : ItemE) (j : Nat) (v : Word) (q : Nat) : State :=
  let s := putProduct s (it.outBase + j) v q
  if validityOf q = 0 then { s with thr := { s.thr with lastValid := Tab.put none s.thr.lastValid (outKey it.item j) (some v) } } else s

/-- The vote logic writes an item's outputs to its product slots (R303). -/
def writeItem (s : State) (it : ItemE) : State :=
  ((runOf s it.item).out.zipIdx).foldl (fun s p => putOutput s it p.2 p.1.1 p.1.2) s

/-- The vote summary of a tick (R566). -/
def voteSummary (s : State) : Summary :=
  let ps := sortBy id (((itemsOf s).filter (fun it => it.cls == 0 && (runOf s it.item).phase == .decided)).map ItemE.item)
  let kind := fun n =>
    let r := runOf s n
    if r.out.all (fun o => validityOf o.2 != 0) then Outcome.invalid else r.outcome
  let n := fun (k : Outcome) => (ps.filter (fun i => kind i == k)).length
  { count := ps.length, idCrc := crc32c (ps.flatMap (fun i => toLe 2 i))
    paired := n .paired, retried := n .retried, voted := n .voted, unpaired := n .unpaired
    other := ps.length - (n .paired + n .retried + n .voted + n .unpaired) }

/-- Outputs that an uncorrectable main SRAM error of this tick affects are INVALID (Table 12.3, ID 15). -/
def spoilItem (s : State) (it : ItemE) : State :=
  if s.saf.sramBad.isEmpty then s
  else
    let r := runOf s it.item
    let outs := r.out.zipIdx.map (fun p => if s.saf.sramBad.contains (it.outBase + p.2) then (p.1.1, 2) else p.1)
    setRun s it.item { r with out := outs }

/-- Seam phase 1 (R94, R303): queued retirements, final outcomes, products, and the vote summary. -/
def finalVotes (s : State) : State :=
  let s := reachCyc s (496 * slotCyc s.rate)
  let cmds := s.thr.commands
  let s := cmds.foldl (fun s c => retireCore s c 8 0xFFFF) { s with thr := { s.thr with commands := [] } }
  let s := (itemsOf s).foldl stopItem s
  let s := (itemsOf s).foldl spoilItem s
  let s := if s.thr.idle then s else (itemsOf s).foldl writeItem s
  { s with saf := { s.saf with summary := voteSummary s } }

/-! ### Copies of the seam (R319–R322) -/

/-- Bytes of an adoption's copies: into the spare's sheaf port, and out of each partner's sheaf port (R320). -/
def copyBytes (s : State) (c : Nat) : Nat × List (Nat × Nat) :=
  let xs := (coreItems s c).filterMap (fun it =>
    let p := if memA s it.item = c then memB s it.item else memA s it.item
    if working s p then some (p / 4, it.stateLen * 64) else none)
  ((xs.map Prod.snd).sum, xs)

/-- The sum of the bytes of one sheaf. -/
def sheafSum (xs : List (Nat × Nat)) (sheaf : Nat) : Nat := ((xs.filter (fun p => p.1 == sheaf)).map Prod.snd).sum

/-- Choose the adoptions whose copies run in this seam, in the order of R318, within the limits of R320: `inn` and `out` hold the
bytes already planned per sheaf. (DEDUCED, log 23) -/
def chooseCopies (s : State) (lim : Nat) : List Adopt → List (Nat × Nat) → List (Nat × Nat) → List Adopt
  | [], _, _ => []
  | a :: as, inn, out =>
    let (n, srcs) := copyBytes s a.core
    let okIn := decide (sheafSum inn (a.spare / 4) + n ≤ lim)
    let okOut := srcs.all (fun p => decide (sheafSum out p.1 + sheafSum srcs p.1 ≤ lim))
    if okIn && okOut then a :: chooseCopies s lim as ((a.spare / 4, n) :: inn) (srcs ++ out)
    else chooseCopies s lim as inn out

/-- The adoptions of this tick's seam, sorted by class and core. -/
def dueAdoptions (s : State) : List Adopt :=
  let cs := sortBy (fun c => coreClass s c * 128 + c)
    ((s.thr.adoptions.filter (fun a => decide (a.due ≤ s.tick) && !a.copied)).map Adopt.core)
  cs.filterMap (fun c => s.thr.adoptions.find? (fun a => a.core == c))

/-- The copies of an adoption: each partner's committed state of each item goes to the spare; an item that waits for two adopters starts
from a zeroed state (R319, R325). -/
def copyStates (s : State) (a : Adopt) : State :=
  (coreItems s a.core).foldl (fun s it =>
    let p := if memA s it.item = a.core then memB s it.item else memA s it.item
    if working s p && !s.thr.broken.contains it.item then copyState s p a.spare it else setCommitted s a.spare it []) s

/-- Slots 500–511: the copies of the due adoptions (Table 06.4 step 3). `fails` names spares whose copy failed once (false) or
twice (true, R322); Table 06.12 gives the TRANSIENT of a copy no item and no core, so its bytes 2 to 5 are free. (DEDUCED, log 55) -/
def adoptCopy (s : State) (fails : List (Fin 80 × Bool)) : State :=
  let lim := 12 * slotCyc s.rate * 64
  (chooseCopies s lim (dueAdoptions s) [] []).foldl (fun s a =>
    if fails.any (fun f => f.1.val == a.spare && f.2) then
      let s := raise s Blk.thr 0x0109 .fault (a.spare + 2 ^ 8 * a.core)
      retireCore s a.spare 7 0xFFFF
    else
      let s := if fails.any (fun f => f.1.val == a.spare) then transient s.used Blk.thr 1 (s.free.toNat % 2 ^ 32) else s
      let s := copyStates s a
      { s with thr := { s.thr with adoptions := s.thr.adoptions.map (fun x =>
          if x.core = a.core then { x with copied := true } else x) } }) s

/-- An adoption completes at slot 508 (Table 06.4 step 4): roles, members, event; an item whose second adopter this is starts from
zero (R325). -/
def adoptFinish (s : State) (a : Adopt) : State :=
  let its := coreItems s a.core
  let s := (s.wr (Reg.THR_CORE_CSTATE_ROLE a.spare) 3).wr (Reg.THR_CORE_CSTATE_ADOPTED_OF a.spare) a.core
  let s := (s.wr (Reg.THR_CORE_CSTATE_BUSY a.spare) 0).inc Reg.THR_ADOPT_TOTAL
  let s := its.foldl (fun s it => replaceMember s it.item a.core a.spare) s
  let fresh := ((its.map ItemE.item).filter (fun n => s.thr.broken.contains n)).filter
    (fun n => working s (memA s n) && working s (memB s n))
  let s := { s with thr := { s.thr with
    adoptions := s.thr.adoptions.filter (fun x => x.core != a.core)
    broken := s.thr.broken.filter (fun n => !fresh.contains n)
    restart := fresh ++ s.thr.restart } }
  let s := raise s Blk.thr 0x0102 .info (a.spare + 2 ^ 8 * a.core + 2 ^ 16 * its.length)
  poolChanged s a.spare

/-- Slot 508: the adoptions whose copies ran in this seam complete. -/
def adoptAll (s : State) : State :=
  let done := s.thr.adoptions.filter Adopt.copied
  if done.isEmpty then s else refreshPool (done.foldl adoptFinish s)

/-! ### Activation and amendments (R187, R336, R225–R228) -/

/-- The roles, members and counters that a full activation sets (R336); `withdrawn` lists the cores that failed their self-test,
with the spare that takes each one's items, if any (R187). -/
def poolActivate (s : State) (d : Sched) (withdrawn : List (Nat × Option Nat)) : State :=
  let s := { s with thr := { s.thr with
    core := [], runs := [], cursor := [], clock := 0, charges := [], commands := [], adoptions := [], orphans := [], reported := []
    retiredNow := [], lost := [], kept := [], broken := [], lastValid := [], restart := [], glean := [], bist := [] } }
  let s := loadStores s d (storeOf d)
  let s := (List.range 80).foldl (fun s c =>
    let r := if withdrawn.any (fun p => p.1 == c) then 5
      else if bitAt d.work c then 1 else if bitAt d.spare c then 2 else 0
    (((s.wr (Reg.THR_CORE_CSTATE c) 0).wr (Reg.THR_CORE_CSTATE_ADOPTED_OF c) 0x7F).wr (Reg.THR_CORE_CSTATE_ROLE c) r).wr
      (Reg.THR_CORE_CTRANS_WINDOW c) 0) s
  let s := d.items.foldl (fun s it =>
    let s := (s.wr (Reg.THR_ITEM_ISTATUS it.item) 0).wr (Reg.THR_ITEM_ISTATUS_CLASS it.item) it.cls
    (s.wr (Reg.THR_ITEM_ISTATUS_CORE_A it.item) it.coreA).wr (Reg.THR_ITEM_ISTATUS_CORE_B it.item) it.coreB) s
  let s := withdrawn.foldl (fun s p => match p.2 with
    | some sp =>
      let s := (s.wr (Reg.THR_CORE_CSTATE_ROLE sp) 1).wr (Reg.THR_CORE_CSTATE_ADOPTED_OF sp) p.1
      d.items.foldl (fun s it => replaceMember s it.item p.1 sp) s
    | none => s) s
  let s := { s with thr := { s.thr with restart := d.items.map ItemE.item } }
  refreshPool s

/-- Whether an item is carried from one schedule to another (R225): kernel, kernel version and state length unchanged. -/
def carried (old new : Sched) (it : ItemE) : Bool :=
  match old.find it.item with
  | none => false
  | some o => o.kernel == it.kernel && o.stateLen == it.stateLen &&
      (old.kern o.kernel).map KernE.kver == (new.kern it.kernel).map KernE.kver

/-- The committed states move with their items at the edge of tick AT+1: the old CORE_A's to the new CORE_A, the old CORE_B's to the new
CORE_B, and every other region is zeroed; `lost` lists the members whose copy failed twice (R225, R228, R229). -/
def moveStates (s : State) (old new : Sched) (lost : List (Nat × Nat)) : State :=
  let from_ := fun (c : Nat) (it : ItemE) => Tab.get [] (coreOf s c).states it.item
  let blank := { s with thr := { s.thr with core := (s.thr.core.map (fun p => (p.1, { p.2 with states := [] }))).filter (fun p => p.2 != {}) } }
  new.items.foldl (fun t it =>
    if !carried old new it then t
    else
      let put := fun (t : State) (src dst : Nat) => setCommitted t dst it (if lost.contains (it.item, dst) then [] else from_ src it)
      put (put t (memA s it.item) it.coreA) (memB s it.item) it.coreB) blank

/-- The members move to those of the new schedule at the edge of tick AT+1, and the kernels that it does not name leave the stores (R219,
R220, R225–R229). -/
def poolSwitch (s : State) (old new : Sched) (lost : List (Nat × Nat)) : State :=
  let s := loadStores (moveStates s old new lost) new (storeOf new)
  let s := new.items.foldl (fun s it =>
    let s := s.wr (Reg.THR_ITEM_ISTATUS_CLASS it.item) it.cls
    let s := (s.wr (Reg.THR_ITEM_ISTATUS_CORE_A it.item) it.coreA).wr (Reg.THR_ITEM_ISTATUS_CORE_B it.item) it.coreB
    if carried old new it then
      lost.foldl (fun s p => if p.1 = it.item then markMiss s it.item p.2 false else s) s
    else startItem s new it) s
  let s := (List.range 80).foldl (fun s c =>
    if role s c = 4 ∨ role s c = 5 then s
    else
      let r := if bitAt new.work c then 1 else if bitAt new.spare c then 2 else 0
      (s.wr (Reg.THR_CORE_CSTATE_ROLE c) r).wr (Reg.THR_CORE_CSTATE_ADOPTED_OF c) 0x7F) s
  let same := fun (n : Nat) => decide (old.find n = new.find n)
  let stays := fun (n : Nat) => (new.find n).any (carried old new)
  refreshPool { s with
    thr := { s.thr with adoptions := [], orphans := [], reported := [], broken := []
                        kept := s.thr.kept.filter (fun p => stays p.1), lastValid := s.thr.lastValid.filter (fun p => stays (p.1 / 64)) }
    saf := { s.saf with quarantine := s.saf.quarantine.filter same } }

end Sys2Proof.Machine
end

