-- ==== Sys2Proof/Machine/Mpr.lean ====
section
/-! DEFINITION. The publisher: sampled values, GOOSE, synchrophasor frames, host records, disturbance records, travelling-wave
windows and fault location results ("Measurement products and publication"). -/

namespace Sys2Proof.Machine

/-! ### Products and list entries (R340, R342, R367) -/

/-- A publication list entry's value and its word of quality and tick (R340, R366). -/
def entryWords (s : State) (e : Nat) : Word × Word :=
  if bitAt e 15 then
    let c := e % 256
    (inputValue s c, BitVec.ofNat 32 (inputQual s c + 2 ^ 16 * (s.tick % 65536)))
  else (s.reg (prodValue (e % 16384)).key, s.reg (prodQual (e % 16384)).key)

/-- The value and quality word of an entry. -/
def entryVal (s : State) (e : Nat) : Word × Nat := ((entryWords s e).1, fieldOf (entryWords s e).2 0 16)

/-- Entry `i` of MPR_LIST. -/
def listEntry (s : State) (i : Nat) : Nat :=
  let w := s.rd (Reg.MPR_LIST (i / 2 % 4096))
  if i % 2 = 0 then w % 65536 else w / 65536

/-- `n` entries of MPR_LIST from `i` on. -/
def listEntries (s : State) (i n : Nat) : List Nat := (List.range n).map (fun k => listEntry s (i + k))

/-- The item that writes a product slot. -/
def slotItem (s : State) (p : Nat) : Option ItemE :=
  (itemsOf s).find? (fun it => decide (it.outBase ≤ p) && decide (p < it.outBase + it.nOut))

/-- The group delay of an item, that of its input channels (R342). -/
def itemDelay (s : State) (it : ItemE) : Nat :=
  match s.img.sched with
  | none => 0
  | some d => match d.inputs it with
    | c :: _ => s.rd (Reg.ACQ_CHAN_CFG_D c)
    | [] => 0

/-- The group delay of the source of an entry. -/
def entryDelay (s : State) (e : Nat) : Nat :=
  if bitAt e 15 then s.rd (Reg.ACQ_CHAN_CFG_D (e % 256))
  else ((slotItem s (e % 16384)).map (itemDelay s)).getD 0

/-- The measurement instant of the current tick's inputs with group delay `d`: the edge of tick k − d as it was (R342). -/
def measuredAt (s : State) (d : Nat) : Nat := edgeAt s (s.tick - d)

/-- Its second and in-second number. -/
def measured (s : State) (d : Nat) : Nat × Nat :=
  let t := measuredAt s d
  let n := (t % secUnits * s.rate + secUnits / 2) / secUnits
  if n < s.rate then (t / secUnits, n) else (t / secUnits + 1, 0)

/-! ### Quality mapping (R363, R365) -/

/-- The IEC 61850 quality of a quality word (Table 07.4). -/
def iecOf (q : Nat) (test : Bool) : IecQ :=
  let partial_ := bitAt q 5
  match validityOf q with
  | 0 => if partial_ then { validity := .questionable, inconsistent := true, test := test } else { test := test }
  | 1 => { validity := .questionable, oldData := true, inconsistent := partial_, test := test }
  | _ => { validity := .invalid, failure := true, test := test }

/-- Whether the exact holdover estimate is at most `ns` (R144). -/
def estWithin (s : State) (ns : Nat) : Bool := decide (s.tim.est ≤ ns * 2000000)

/-- The FRACSEC and STAT codes of the time quality (Table 07.5). -/
def timeCodes (s : State) : Nat × Nat :=
  match s.timeq with
  | 0 => (0, 1)
  | 1 =>
    if estWithin s 100 then (3, 1) else if estWithin s 1000 then (4, 2) else if estWithin s 10000 then (5, 3)
    else if estWithin s 100000 then (6, 4) else if estWithin s 1000000 then (7, 5)
    else if estWithin s 10000000 then (8, 6) else (0xB, 7)
  | _ => (0xF, 7)

/-- TimeAccuracy of an IEC 61850 timestamp (Table 07.5): in holdover the largest n ≤ 23 with 2^-n s at least the estimate (R144). -/
def timeAccuracy (s : State) : Nat :=
  match s.timeq with
  | 0 => 23
  | 1 => (((List.range 24).filter (fun n => decide (s.tim.est * 2 ^ n ≤ 1000000000 * 2000000))).getLast?).getD 0
  | _ => 31

/-- STAT bits 5–4 (R365); never locked: a free value. (DESIGN CHOICE, log 25) -/
def unlockedCode (s : State) : Nat :=
  if s.timeq = 0 then 0
  else match s.tim.leftLocked with
    | none => s.free.toNat % 4
    | some t =>
      let sec := (s.taiNs - t) / 1000000000
      if sec < 10 then 0 else if sec < 100 then 1 else if sec < 1000 then 2 else 3

/-! ### Frames to the ports (R348–R350, R358) -/

/-- Byte `k` of the template of a publication. -/
def templateByte (s : State) (p k : Nat) : Nat := bitsAt (s.rd (Reg.MPR_TMPL p (k / 4))) (8 * (k % 4)) 8

/-- The traffic class of a publication on a port: the PCP of its template's tag through the port's map (R426). (DESIGN CHOICE, log 25) -/
def pubClass (s : State) (p port : Nat) : Nat :=
  let tagged := templateByte s p 12 == 0x81 && templateByte s p 13 == 0
  pcpClass s port (if tagged then templateByte s p 14 / 32 else s.rd (Reg.PKT_PORT_PCFG_DEF_PCP port))

/-- Whether a queued frame is the not yet started frame of the same publication. -/
def samePub (f : PubFrame) (q : QFrame) : Bool :=
  match q.body with
  | .pub g => g.pub == f.pub && g.spdu.isSome == f.spdu.isSome
  | .bridged _ _ => false

/-- Drop a frame of the publication that has not started on the port (R350). -/
def dropLate (s : State) (port : Nat) (f : PubFrame) : State :=
  (List.range 8).foldl (fun s tc =>
    let l := queueOf s port tc
    (l.filter (samePub f)).foldl (fun s q =>
      let s := dropQueued (s.inc Reg.MPR_PUB_LATE) q
      let k := limitKey Blk.mpr 0x0101 f.pub + 2 ^ 80
      let n := Tab.get 0 s.drops k + 1
      if limitOpen s Blk.mpr 0x0101 f.pub then
        raiseLimited { s with drops := Tab.put 0 s.drops k 0 } Blk.mpr 0x0101 .warn f.pub (f.pub + 2 ^ 16 * port + 2 ^ 32 * (n % 2 ^ 32))
      else { s with drops := Tab.put 0 s.drops k n }) (setQueue s port tc (l.filter (fun q => !samePub f q)))) s

/-- Hand a frame off to one port (R348, R350; Table 07.7). -/
def toPort (s : State) (port n : Nat) (f : PubFrame) : State :=
  if !portUp s port then s.inc Reg.MPR_PORT_DROP
  else
    let s := dropLate s port f
    let tc := pubClass s f.pub port
    let len := Config.pubLen f.pub n f.spdu.isSome
    let (s, ch) := newChain s 137 (bitAt (s.rd Reg.PKT_TC_PROT_MASK) tc) len none
    match ch with
    | none => s.inc (Reg.PKT_CNT_DROP_TAIL port tc)
    | some c =>
      let red := lreTag s port
      let q : QFrame := { body := .pub f, len := len + msBytes s port false + (if red.isSome then redBytes else 0), chain := c, red := red }
      addRef (setQueue s port tc (queueOf s port tc ++ [q])) c

/-- Hand a publication off to the ports of a mask, with its routable copy (R358) and its authentication (R495, R496). -/
def publish (s : State) (p mask n : Nat) (routable : Bool) (body : PubBody) : State :=
  match authTx s p with
  | (s, none) => s
  | (s, some auth) =>
    let f : PubFrame := { pub := p, tmpl := (List.range 32).map (fun k => s.reg (Reg.MPR_TMPL p k).key), spdu := none, auth := auth, body := body }
    let mask := lreMask s 7 mask
    let send := fun (s : State) (f : PubFrame) => lreNext ((bitList 6 mask).foldl (fun s port => toPort s port n f) s) mask
    let s := send s f
    if routable then
      let k := Tab.get 0 s.mpr.spdu p + 1
      send { s with mpr := { s.mpr with spdu := Tab.put 0 s.mpr.spdu p k } } { f with spdu := some k }
    else s

/-! ### Sampled values (R351–R353) -/

/-- The channel of element `i` of an SV stream, 0xFF none. -/
def svChan (s : State) (n i : Nat) : Nat :=
  if i < 4 then bitsAt (s.rd (Reg.MPR_SV_CH_LO n)) (8 * i) 8 else bitsAt (s.rd (Reg.MPR_SV_CH_HI n)) (8 * (i - 4)) 8

/-- An element's value, rounded and clamped, and its quality (R352). -/
def svElement (s : State) (n i : Nat) : Int × IecQ :=
  let c := svChan s n i
  let test := s.bit (Reg.MPR_SV_CFG_TEST n)
  if c = 0xFF then (0, { validity := .invalid, test := test })
  else
    let v := inputValue s c
    let x := roundDiv (fpVal v * (if i < 4 then 1000 else 100)) (fpOne : Int)
    let q := iecOf (inputQual s c) test
    let q' := { q with validity := if q.validity = .invalid then .invalid else .questionable, overflow := true }
    if x < -2147483648 then (-2147483648, q') else if 2147483647 < x then (2147483647, q') else (x, q)

/-- smpSynch (R353). -/
def smpSynch (s : State) : Nat :=
  match s.timeq with
  | 0 => if traceable s then 2 else 1
  | 1 => 2
  | _ => 0

/-- The group delay of element `i` of an SV stream, 0 where it names no channel. -/
def svDelay (s : State) (n i : Nat) : Nat :=
  let c := svChan s n i
  if c = 0xFF then 0 else s.rd (Reg.ACQ_CHAN_CFG_D c)

/-- The elements of an SV stream for the instant of the edge of tick k − `d`, the largest group delay among its channels: those of a channel
with a smaller one were inputs of an earlier tick (R351). (DESIGN CHOICE, log 25) -/
def svAsdu (s : State) (n d : Nat) : List (Int × IecQ) :=
  (List.range 8).map (fun i =>
    let t := s.tick - (d - (if svChan s n i = 0xFF then d else svDelay s n i))
    match (Tab.get [] s.mpr.svPast n).find? (fun p => p.1 == t) with
    | some p => p.2.getD i (svElement s n i)
    | none => ((svElement s n i).1, { validity := .invalid, failure := true, test := s.bit (Reg.MPR_SV_CFG_TEST n) }))

/-- The ASDUs of a frame that has room for `per`: the next one joins those before it, or begins a frame; a frame of which an instant was
skipped is not sent (R351, R377). (DESIGN CHOICE, log 25) -/
def joinAsdu (held : List (Nat × List (Int × IecQ))) (per cnt : Nat) (els : List (Int × IecQ)) : List (Nat × List (Int × IecQ)) :=
  if cnt % per = 0 then [(cnt, els)]
  else if held.length = cnt % per ∧ (held.getLast?).any (fun p => p.1 + 1 == cnt) then held ++ [(cnt, els)]
  else []

/-- The SV stream `n` in the hand-off of a tick (R351): an ASDU when the tick's input holds its instant, a frame with its last ASDU. -/
def svHandOff (s : State) (n : Nat) : State :=
  let kind := s.rd (Reg.MPR_SV_CFG_KIND n)
  let rate := svRate s kind
  if !s.bit (Reg.MPR_SV_CFG_EN n) || rate == 0 then s
  else
    let past := ((s.tick, (List.range 8).map (svElement s n)) :: Tab.get [] s.mpr.svPast n).take 17
    let s := { s with mpr := { s.mpr with svPast := Tab.put [] s.mpr.svPast n past } }
    let d := ((List.range 8).map (svDelay s n)).foldl max 0
    let m := (measured s d).2
    if m * rate % s.rate ≠ 0 then s
    else
      let cnt := m * rate / s.rate
      let asdus := joinAsdu (Tab.get [] s.mpr.svHold n) (svPerFrame kind) cnt (svAsdu s n d)
      let s := s.wr (Reg.MPR_SV_SMPCNT n) cnt
      if asdus.length < svPerFrame kind then
        { s with mpr := { s.mpr with svHold := Tab.put [] s.mpr.svHold n asdus } }
      else
        let s := { s.inc (Reg.MPR_SV_TX n) with mpr := { s.mpr with svHold := Tab.put [] s.mpr.svHold n [] } }
        publish s n (s.rd (Reg.MPR_SV_CFG_PORTS n)) asdus.length (s.bit (Reg.MPR_SV_CFG_ROUTABLE n))
          (.sv asdus (smpSynch s) (s.bit (Reg.MPR_SV_CFG_TEST n)))

/-! ### GOOSE (R354–R357) -/

/-- The state of a dataset. -/
def gdsOf (s : State) (g : Nat) : Gds := Tab.get {} s.mpr.goose g

/-- Set the state of a dataset. -/
def setGds (s : State) (g : Nat) (x : Gds) : State := { s with mpr := { s.mpr with goose := Tab.put {} s.mpr.goose g x } }

/-- The entries of a dataset, as list entries. -/
def gooseList (s : State) (g : Nat) : List Nat := listEntries s (s.rd (Reg.MPR_GOOSE_CFG_LIST_IDX g)) (s.rd (Reg.MPR_GOOSE_CFG_N_ENT g) + 1)

/-- Whether a BOOLEAN entry is true (R354). -/
def isTrue (v : Word) : Bool := fpLe 0x3F000000 v

/-- Whether an entry has changed from what was last sent (R355). -/
def entryChanged (s : State) (g e : Nat) (now old : Word × Nat) : Bool :=
  validityOf now.2 != validityOf old.2 ||
  (if bitAt e 14 then isTrue now.1 != isTrue old.1
   else decide (fpVal (s.reg (Reg.MPR_GOOSE_DEADBAND g).key) < ((fpVal now.1 - fpVal old.1).natAbs : Int)))

/-- A number of ms in ticks, rounded up. -/
def msTicks (s : State) (ms : Nat) : Nat := ceilDiv (ms * s.rate) 1000

/-- stNum and sqNum wrap from 0xFFFFFFFF to 1 (R356). -/
def nextNum (n : Nat) : Nat := if n = 0xFFFFFFFF then 1 else n + 1

/-- Send a frame of a dataset to the ports of a mask with the interval `ival` to the next one (R354, R356). -/
def sendGoose (s : State) (g mask ival : Nat) (vals : List (Word × Nat)) : State :=
  let es := gooseList s g
  let entries := (es.zip vals).map (fun p => (if bitAt p.1 14 then GooseVal.bool (isTrue p.2.1) else .float p.2.1, iecOf p.2.2 false))
  publish s (64 + g) mask vals.length (s.bit (Reg.MPR_GOOSE_CFG_ROUTABLE g))
    (.goose (s.rd (Reg.MPR_GOOSE_STNUM g)) (s.rd (Reg.MPR_GOOSE_SQNUM g)) (2 * ival) (s.rd (Reg.MPR_GOOSE_CONFREV g))
      (timeAccuracy s) (s.timeq == 2) entries)

/-- Dataset `g` in the hand-off of a tick: a change, or a forced frame, is sent at once (R355, R357). -/
def gooseHandOff (s : State) (g : Nat) : State :=
  if !s.bit (Reg.MPR_GOOSE_CFG_EN g) then s
  else
    let x := gdsOf s g
    let vals := (gooseList s g).map (entryVal s)
    let changed := match x.last with
      | none => true
      | some old => ((gooseList s g).zip (vals.zip old)).any (fun p => entryChanged s g p.1 p.2.1 p.2.2)
    if !changed && !x.force then s
    else
      let st := if x.force then 1 else nextNum (s.rd (Reg.MPR_GOOSE_STNUM g))
      let s := (s.wr (Reg.MPR_GOOSE_STNUM g) st).wr (Reg.MPR_GOOSE_SQNUM g) 0
      let t := s.rd (Reg.MPR_GOOSE_TIMING_T_MIN g)
      let s := setGds s g { last := some vals, ival := t, due := s.tick + msTicks s t, sent := some s.tick, rtx := none, force := false }
      sendGoose (s.inc (Reg.MPR_GOOSE_TX g)) g (s.rd (Reg.MPR_GOOSE_CFG_PORTS g)) t vals

/-- The ports of a dataset on which a publication window holds a slot (R348). -/
def windowPorts (s : State) (g slot : Nat) : Nat :=
  match s.img.sched with
  | none => 0
  | some d => (bitList 6 (s.rd (Reg.MPR_GOOSE_CFG_PORTS g))).foldl (fun m p =>
      if d.slots.any (fun e => e.rtype == 4 && e.owner == 64 + g && e.res == p && decide (e.first ≤ slot) && decide (slot ≤ e.last))
      then m + 2 ^ p else m) 0

/-- GOOSE_RETRANSMIT: a retransmission that is due starts in a window of its publication (R348, R356): it repeats the values that were sent
last. (DESIGN CHOICE, log 25) -/
def execGooseRetransmit (g : Fin 128) (slot : Fin 512) (s : State) : Out :=
  let x := gdsOf s g
  let m := windowPorts s g slot
  .next (if !pktRuns s || s.thr.idle || !s.bit (Reg.MPR_GOOSE_CFG_EN g) then s
    else match x.last with
    | none => s
    | some vals =>
      match x.rtx with
      | some (t, ports) =>
        let left := bitList 6 m |>.foldl (fun k p => if bitAt ports p then k else k + 2 ^ p) 0
        if t = s.tick then
          if left = 0 then s
          else sendGoose (setGds s g { x with rtx := some (t, ports + left) }) g left x.ival vals
        else begin_ x m vals
      | none => begin_ x m vals)
where
  /-- Start the retransmission of a tick. -/
  begin_ (x : Gds) (m : Nat) (vals : List (Word × Nat)) : State :=
    if m = 0 ∨ s.tick < x.due ∨ x.sent = some s.tick then s
    else
      let ival := min (2 * x.ival) (s.rd (Reg.MPR_GOOSE_TIMING_T_MAX g))
      let s := s.wr (Reg.MPR_GOOSE_SQNUM g) (nextNum (s.rd (Reg.MPR_GOOSE_SQNUM g)))
      let s := setGds s g { x with ival := ival, due := s.tick + msTicks s ival, sent := some s.tick, rtx := some (s.tick, m) }
      sendGoose (s.inc (Reg.MPR_GOOSE_TX g)) g m ival vals

/-! ### C37.118.2 (R359–R365) -/

/-- The reporting rate of a stream: FPS of the SPX item that its first phasor slot belongs to (Table 07.10). -/
def streamFps (s : State) (n : Nat) : Nat :=
  match s.img.sched, slotItem s (listEntry s (s.rd (Reg.MPR_C37_CFG_LIST_IDX n)) % 16384) with
  | some d, some it => d.param it 0x10 + 256 * d.param it 0x11
  | _, _ => 0

/-- A NaN, as an INVALID value is sent (R361). -/
abbrev nanWord : Word := 0x7FC00000

/-- A value of a data frame. -/
def c37Value (v : Word × Nat) : Word := if validityOf v.2 = 2 then nanWord else v.1

/-- A phasor, polar or rectangular (Table 07.3). -/
def c37Phasor (polar : Bool) (mag ang : Word × Nat) : List Word :=
  if polar then [c37Value mag, c37Value ang]
  else if validityOf mag.2 = 2 ∨ validityOf ang.2 = 2 then [nanWord, nanWord]
  else [Config.fpMul mag.1 (Config.fpCos ang.1), Config.fpMul mag.1 (Config.fpSin ang.1)]

/-- The phasors of a list of magnitudes and angles. -/
def c37Phasors (polar : Bool) : List (Word × Nat) → List Word
  | m :: a :: l => c37Phasor polar m a ++ c37Phasors polar l
  | _ => []

/-- STAT of a data frame (R363, R364). (DESIGN CHOICE, log 25) -/
def c37Stat (s : State) (n : Nat) (vals : List (Word × Nat)) : Nat :=
  let allBad := vals.all (fun v => validityOf v.2 == 2)
  let top := if allBad then 3 else if s.bit (Reg.MPR_C37_CFG_TEST n) then 2 else 0
  let active := (List.range 16).find? (fun t => bitAt s.mpr.trigOn t)
  let reason := (active.map (fun t => s.rd (Reg.MPR_TRIG_CFG_TRIG_REASON t))).getD 0
  let mod_ := vals.any (fun v => validityOf v.2 == 1 || bitAt v.2 5)
  top * 2 ^ 14 + (s.timeq == 2).toNat * 2 ^ 13 + active.isSome.toNat * 2 ^ 11 + (Tab.get 0 s.mpr.c37Change n != 0).toNat * 2 ^ 10 +
    mod_.toNat * 2 ^ 9 + (timeCodes s).2 * 2 ^ 6 + unlockedCode s * 2 ^ 4 + reason

/-- The leap second bits of FRACSEC (R360). -/
def leapBits (s : State) (sec : Nat) : Nat :=
  let f61 := s.bit Reg.TIM_UTC_OFS_LEAP61
  let f59 := s.bit Reg.TIM_UTC_OFS_LEAP59
  let at_ := s.rd64 Reg.TIM_LEAP_AT_LO Reg.TIM_LEAP_AT_HI
  let pend := f61 || f59
  let done := !pend && decide (0 < at_) && decide (at_ ≤ sec)
  pend.toNat + 2 * done.toNat + 4 * ((pend && f59) || (done && s.tim.leap59)).toNat

/-- The external ports of a publication without a port mask: the bridge's lookup of its template's destination and VID (R424). -/
def templateMask (s : State) (p : Nat) : Nat :=
  let b := templateByte s p
  let dst := beNat ((List.range 6).map (fun k => BitVec.ofNat 8 (b k)))
  let vid := if b 12 = 0x81 ∧ b 13 = 0 then b 14 % 16 * 256 + b 15 else 1
  Nat.land (Nat.land (lookup s dst vid).1 (members s vid)) 0x3F

/-- Stream `n` in the hand-off of a tick (R360, R361, R364). -/
def c37HandOff (s : State) (n : Nat) : State :=
  let fps := streamFps s n
  if !s.bit (Reg.MPR_C37_CFG_EN n) || fps == 0 || s.rate % fps != 0 then s
  else
    let ix := s.rd (Reg.MPR_C37_CFG_LIST_IDX n)
    let np := s.rd (Reg.MPR_C37_CFG_N_PHASOR_M1 n) + 1
    let (sec, m) := measured s (entryDelay s (listEntry s ix))
    if m % (s.rate / fps) ≠ 0 then s
    else
      let ph := (listEntries s ix (2 * np)).map (entryVal s)
      let rest := (listEntries s (ix + 2 * np) (2 + s.rd (Reg.MPR_C37_CFG_N_ANALOG n))).map (entryVal s)
      let stat := c37Stat s n (ph ++ rest)
      let s := if s.timeq ≠ 0 ∧ s.tim.leftLocked = none then s.used else s
      let soc := ((sec : Int) - s.rdInt Reg.TIM_UTC_OFS_OFS).toNat
      let frac := m + 2 ^ 24 * (timeCodes s).1 + 2 ^ 28 * leapBits s sec
      let dig := if s.bit (Reg.MPR_C37_CFG_DIGITAL n) then some (s.mpr.trigOn % 65536) else none
      let s := (s.wr (Reg.MPR_C37_STAT_VALUE n) stat).inc (Reg.MPR_C37_TX n)
      let s := if Tab.get 0 s.mpr.c37Change n = 2 then
          { s with mpr := { s.mpr with c37Change := Tab.put 0 s.mpr.c37Change n 0 } } else s
      publish s (192 + n) (templateMask s (192 + n)) (ph.length + rest.length) false
        (.c37 (s.rd (Reg.MPR_C37_IDCODE_IDCODE n)) soc frac stat
          (c37Phasors (s.bit (Reg.MPR_C37_CFG_POLAR n)) ph ++ rest.map c37Value) dig)

/-! ### Host records (R366, R376, R529) -/

/-- The payload bytes of a list of entries (R366). -/
def recordPayload (s : State) (es : List Nat) : List Byte :=
  es.flatMap (fun e => toLe 4 (entryWords s e).1.toNat ++ toLe 4 (entryWords s e).2.toNat)

/-- Host publication `h` in the hand-off of a tick (R366, R527). -/
def hostHandOff (s : State) (h : Nat) : State :=
  let div := s.rd (Reg.MPR_HPUB_CFG_DIV h)
  if !s.bit (Reg.MPR_HPUB_CFG_EN h) || div == 0 || s.tick % div != 0 then s
  else
    let n := s.rd (Reg.MPR_HPUB_CFG_N h)
    writeRecords (s.inc (Reg.MPR_HPUB_TX h)) h h n (recordPayload s (listEntries s (s.rd (Reg.MPR_HPUB_LIST_LIST_IDX h)) n)) false

/-! ### Fault location (R375, R376) -/

/-- Start a result of a line, with a TWDET event or a trigger instant; while one is open it joins that (R375, Table 07.7). (DESIGN CHOICE, log 25) -/
def startFloc (s : State) (l : Nat) (front : Option (Nat × Word)) (trig : Option Nat) : State :=
  let x : FlocOpen := (Tab.get none s.mpr.floc l).getD { start := s.tick }
  { s with mpr := { s.mpr with floc := Tab.put none s.mpr.floc l (some { x with front := x.front.or front, trig := x.trig.or trig }) } }

/-- The VALID distance of a FLOC item: distance, confidence, quality; of an event's result only that of the event. -/
def flocValue (s : State) (item : Nat) (seq : Option Word) (bySeq : Bool) : Option (Word × Word × Nat) :=
  match itemOf s item with
  | none => none
  | some it =>
    let v := entryVal s it.outBase
    let own := match seq with
      | some q => !bySeq || (entryVal s (it.outBase + 2)).1 == q
      | none => true
    if validityOf v.2 == 0 && own then some (v.1, (entryVal s (it.outBase + 1)).1, v.2) else none

/-- An FP32 whole number as a number. -/
def fpNat (w : Word) : Nat := fpMag w / fpOne

/-- The fault time of a result: the front time, or the trigger instant for method 3 (Table 07.6). -/
def flocTime (x : FlocOpen) (method : Nat) : Nat :=
  let front := x.front.map Prod.fst
  (if method = 3 then x.trig.or front else front.or x.trig).getD 0

/-- Write and send the result of a line (R376, Table 07.6). (DESIGN CHOICE, log 25) -/
def giveFloc (s : State) (l : Nat) (x : FlocOpen) (method : Nat) (v : Word × Word × Nat) : State :=
  let s := { s with mpr := { s.mpr with floc := Tab.put none s.mpr.floc l none } }
  let t := flocTime x method
  let bytes := toLe 8 (t / 65536) ++ toLe 2 (t % 65536) ++ toLe 1 method ++ toLe 1 l ++ toLe 4 v.1.toNat ++
    toLe 4 v.2.1.toNat ++ toLe 2 ((x.front.map (fun p => fpNat p.2)).getD 0) ++ toLe 2 v.2.2 ++ toLe 8 0
  let s := (List.range 8).foldl (fun s j => s.wr (Reg.MPR_FLOC_RESULT l j) (leNat ((bytes.drop (4 * j)).take 4))) s
  let s := raise s Blk.mpr 0x0107 .info (l + 2 ^ 8 * method + 2 ^ 32 * v.1.toNat)
  (List.range 256).foldl (fun s h =>
    if s.bit (Reg.MPR_HPUB_CFG_EN h) && s.bit (Reg.MPR_HPUB_CFG_RESULT_EN h) then writeRecords s h (0x8000 + l) 4 bytes true else s) s

/-- FLOC_RESULT: the first VALID distance in the order D, A, Z, or none when the window has passed (R375, R376). -/
def execFlocResult (line : Fin 4) (s : State) : Out :=
  let l := line.val
  .next (match Tab.get none s.mpr.floc l with
    | none => s
    | some x =>
      let seq := x.front.map Prod.snd
      match flocValue s (s.rd (Reg.MPR_FLOC_ITEMS_DA_D_ITEM l)) seq true with
      | some v => giveFloc s l x 2 v
      | none => match flocValue s (s.rd (Reg.MPR_FLOC_ITEMS_DA_A_ITEM l)) seq true with
        | some v => giveFloc s l x 1 v
        | none => match flocValue s (s.rd (Reg.MPR_FLOC_ITEM_Z_Z_ITEM l)) seq false with
          | some v => giveFloc s l x 3 v
          | none =>
            if x.start + msTicks s (s.rd (Reg.MPR_FLOC_ITEM_Z_WINDOW_MS l)) ≤ s.tick then giveFloc s l x 0 (nanWord, 0, 0) else s)

/-! ### Disturbance records (R368–R373) -/

/-- Bytes of one sample of the DAT section (R370). -/
def drSampleBytes (s : State) : Nat := 8 + 4 * s.rd Reg.MPR_DR_CHAN_NA + 2 * ceilDiv (s.rd Reg.MPR_DR_CHAN_ND) 16

/-- Entry `i` of MPR_DR_LIST. -/
def drEntry (s : State) (i : Nat) : Nat :=
  if i % 2 = 0 then s.rd (Reg.MPR_DR_LIST_ENTRY0 (i / 2)) else s.rd (Reg.MPR_DR_LIST_ENTRY1 (i / 2))

/-- Take Silo cells for the samples of the open record (R373): none when the quota refuses them. -/
def growRecord (s : State) (r : DrRec) : State × Option DrRec :=
  let need := cellsOf (r.samples.length * drSampleBytes s)
  if need ≤ r.chains.length then (s, some r)
  else
    match newChain s 136 false (256 * (need - r.chains.length)) none with
    | (s, none) => (s, none)
    | (s, some c) => (addRef s c, some { r with chains := r.chains ++ List.replicate (need - r.chains.length) c })

/-- Close a record (R370, R371, R373): it waits in the Silo. The length and check of its file, and its size in cells, follow from the
text that IEEE C37.111 gives; they are free values. -/
def closeRecord (s : State) (r : DrRec) (trunc : Bool) : State :=
  let len := s.free.toNat
  let crc := s.used.free.toNat
  let cells := s.used.used.free.toNat
  let s := s.used.used.used
  let r := { r with trunc := trunc, fileLen := len, fileCrc := crc }
  let s := { s with mpr := { s.mpr with record := none, waiting := s.mpr.waiting ++ [r] } }
  let s := showWaiting ((s.wr Reg.MPR_STATUS_OPEN 0).inc Reg.MPR_DR_COUNT)
  let s := if trunc then raise s Blk.mpr 0x0105 .warn (r.seq % 65536 + 2 ^ 16 * (r.samples.length % 2 ^ 32)) else s
  raise s Blk.mpr 0x0103 .info (r.seq % 65536 + 2 ^ 16 * (cells % 2 ^ 32))

/-- The last tick of a record (R370). -/
def recordEnd (s : State) (r : DrRec) : Nat := min (r.last + msTicks s (s.rd Reg.MPR_DR_CFG_POST_MS)) (r.start + 10 * s.rate)

/-- The group delay of the recorder's samples, that of its first analog channel (R342, R369). (DESIGN CHOICE, log 25) -/
def recordDelay (s : State) : Nat := if s.rd Reg.MPR_DR_CHAN_NA = 0 then 0 else entryDelay s (drEntry s 0)

/-- The tick at whose edge the recorder's latest samples were taken. -/
def recordTick (s : State) : Nat := s.tick - recordDelay s

/-- DR_CLOSE: POST_MS after its last trigger the open record closes (R370, R371). -/
def execDrClose (s : State) : Out :=
  .next (match s.mpr.record with
    | some r => if recordEnd s r ≤ recordTick s then closeRecord s r false else s
    | none => s)

/-- Ticks of the history (R370). -/
def preTicks (s : State) : Nat := msTicks s (min 2000 (s.rd Reg.MPR_DR_CFG_PRE_MS))

/-- The samples of this tick go into the history and, up to its end, into the open record (R368, R370). -/
def recordSample (s : State) : State :=
  let x : DrSample := ⟨recordTick s, (List.range (s.rd Reg.MPR_DR_CHAN_NA)).map (fun i => (entryVal s (drEntry s i)).1),
    s.mpr.trigOn % 2 ^ s.rd Reg.MPR_DR_CHAN_ND⟩
  let s := { s with mpr := { s.mpr with hist := (x :: s.mpr.hist).take (preTicks s + 1) } }
  match s.mpr.record with
  | none => s
  | some r =>
    if recordEnd s r < x.tick then s
    else match growRecord s { r with samples := r.samples ++ [x] } with
      | (s, some r) => { s with mpr := { s.mpr with record := some r } }
      | (s, none) => closeRecord s r true

/-- A record that ends in this tick closes before a trigger of the tick is taken (Table 07.7). -/
def closeEnded (s : State) (at_ : Nat) : State :=
  match s.mpr.record with
  | some r => if recordEnd s r ≤ at_ ∧ r.last + msTicks s (s.rd Reg.MPR_DR_CFG_POST_MS) ≤ r.start + 10 * s.rate then closeRecord s r false else s
  | none => s

/-- A trigger that has fired opens or extends a record (R370–R372); `at_` is the tick of the trigger instant. -/
def triggerRecord (s : State) (t at_ : Nat) : State :=
  let s := closeEnded s at_
  let told := fun (s : State) (seq : Nat) => raise s Blk.mpr 0x0102 .info (t + 2 ^ 16 * (seq % 65536) + 2 ^ 32 * (at_ % 2 ^ 32))
  match s.mpr.record with
  | some r =>
    if r.start + 10 * s.rate < at_ then s
    else told { s with mpr := { s.mpr with record := some { r with last := at_ } } } r.seq
  | none =>
    if !s.mpr.armed then s
    else if 4 ≤ (s.mpr.waiting.filter (fun r => r.kind == 1)).length then
      raise (s.inc Reg.MPR_DR_DROP) Blk.mpr 0x0104 .warn (t + 2 ^ 8)
    else
      let pre := (s.mpr.hist.filter (fun x => decide (at_ ≤ x.tick + preTicks s))).reverse
      let first := edgeAt s ((pre.head?.map DrSample.tick).getD at_) / 65536
      let r : DrRec := { kind := 1, seq := s.mpr.seq, first := first, start := at_, last := at_, samples := pre, chains := []
                         trunc := false, names := 0, fileLen := 0, fileCrc := 0 }
      told { s.wr Reg.MPR_STATUS_OPEN 1 with mpr := { s.mpr with record := some r, seq := s.mpr.seq + 1 } } r.seq

/-! ### Triggers and travelling-wave events (R369, R374, R375) -/

/-- The new TWDET events of a tick: item, event sequence number, front time (2^-16 ns). -/
def newFronts (s : State) : List (Nat × Word × Nat) :=
  (itemsOf s).filterMap (fun it =>
    if it.kernel ≠ 0x17 then none
    else
      let q := entryVal s (it.outBase + 4)
      if validityOf q.2 = 2 ∨ Tab.get none s.mpr.twSeen it.item = some q.1 then none
      else
        let edge := edgeInstant s.rate s.tik.sec (s.rd Reg.TIK_INSEC)
        let ofs := fpVal (entryVal s it.outBase).1 * 65536 / (fpOne : Int)
        some (it.item, q.1, ((edge : Int) + ofs).toNat))

/-- Whether a trigger's condition is true in this tick (R369). -/
def triggerTrue (s : State) (fronts : List (Nat × Word × Nat)) (t : Nat) : Bool :=
  let was := bitAt s.mpr.trigOn t
  let v := entryVal s (s.rd (Reg.MPR_TRIG_CFG_SRC t))
  let x := fpVal v.1
  let level := fpVal (s.reg (Reg.MPR_TRIG_LEVEL t).key)
  let hyst := fpVal (s.reg (Reg.MPR_TRIG_HYST t).key)
  match s.rd (Reg.MPR_TRIG_CFG_TYPE t) with
  | 1 => !fpNan v.1 && (if was then decide (level - hyst < x) else decide (level < x))
  | 2 => !fpNan v.1 && (if was then decide (x < level + hyst) else decide (x < level))
  | 3 => validityOf v.2 == 2
  | 4 => fronts.any (fun f => lineTwdet s (s.rd (Reg.MPR_TRIG_CFG_LINE t)) == some f.1)
  | 5 => s.mpr.man
  | _ => false

/-- One trigger in a tick: it fires when its condition becomes true (R369). -/
def runTrigger (fronts : List (Nat × Word × Nat)) (s : State) (t : Nat) : State :=
  let now := triggerTrue s fronts t
  let fires := now && (!bitAt s.mpr.trigOn t || decide (4 ≤ s.rd (Reg.MPR_TRIG_CFG_TYPE t)))
  let s := { s with mpr := { s.mpr with trigOn := setBitAt s.mpr.trigOn t now } }
  if !fires then s
  else
    let typ := s.rd (Reg.MPR_TRIG_CFG_TYPE t)
    let d := if typ ≤ 3 then entryDelay s (s.rd (Reg.MPR_TRIG_CFG_SRC t)) else 0
    let s := triggerRecord (s.inc (Reg.MPR_TRIG_COUNT t)) t (s.tick - d)
    if s.bit (Reg.MPR_TRIG_CFG_LINE_EN t) then startFloc s (s.rd (Reg.MPR_TRIG_CFG_LINE t)) none (some (measuredAt s d)) else s

/-- The length of a travelling-wave window: 2 ms in 2^-16 ns (R374). -/
def windowLen : Nat := 2000 * 65536000

/-- The enabled TW channels. -/
def twChannels (s : State) : List Nat := (List.range 12).filter (fun c => s.bit (Reg.TWC_CH_CFG_EN c))

/-- The samples of the window that starts at `t`, from the capture ring (R275, R374); none where no sample has a time (R274). -/
def windowSamples (s : State) (t : Nat) : List TwChan :=
  (twChannels s).map (fun c =>
    let inside := fun (n : Nat) => match sampleTime s ((n : Int) : Rat) with
      | some x => decide ((((t : Int) : Rat)) ≤ x ∧ x < (((t + windowLen : Nat) : Int) : Rat))
      | none => false
    { ch := c, samples := ((ringOf s c).filter (fun p => inside p.1)).reverse.map (fun p => (p.2, sampleBad s p.1)) })

/-- A window whose last sample is there is written and waits as a closed record (R374); the window of a ring that is not in DATA is marked
(Table 07.7). Without cells for it nothing is written. (DESIGN CHOICE, log 25) -/
def writeWindow (s : State) (w : Nat × DrRec) : State :=
  let chans := windowSamples s w.1
  let bytes := 40000 * (8 + 2 * chans.length)
  match newChain s 136 false bytes none with
  | (s, none) => s
  | (s, some c) =>
    let r := { w.2 with tw := chans, marked := s.rd Reg.TWC_STATUS_LINK != 4, chains := [c], last := s.tick }
    addRef { s.inc Reg.MPR_TW_COUNT with mpr := { s.mpr with waiting := s.mpr.waiting ++ [r] } } c

/-- The windows that are complete at this tick's edge. -/
def writeWindows (s : State) : State :=
  let due := fun (w : Nat × DrRec) => decide (w.1 + windowLen ≤ s.tim.now)
  (s.mpr.twOpen.filter due).foldl writeWindow { s with mpr := { s.mpr with twOpen := s.mpr.twOpen.filter (fun w => !due w) } }

/-- A TWDET event takes a window, unless an existing one covers it (R374), and starts the results of its lines (R375). -/
def takeFront (s : State) (f : Nat × Word × Nat) : State :=
  let s := { s with mpr := { s.mpr with twSeen := Tab.put none s.mpr.twSeen f.1 (some f.2.1) } }
  let s := (List.range 4).foldl (fun s l => if lineTwdet s l = some f.1 then startFloc s l (some (f.2.2, f.2.1)) none else s) s
  let lead := min 1000 (s.rd Reg.MPR_TW_CFG_PRE_US) * 65536000
  let len := windowLen
  if s.mpr.twFronts.any (fun w => decide (w ≤ f.2.2 + lead) && decide (f.2.2 + lead < w + len)) then s
  else
    let n := if s.mpr.twSec.1 = s.taiSec then s.mpr.twSec.2 else 0
    if 8 ≤ n then raise (s.inc Reg.MPR_TW_DROP) Blk.mpr 0x0106 .warn (fpNat f.2.1 % 65536)
    else
      let s := { s with mpr := { s.mpr with twSec := (s.taiSec, n + 1), twFronts := (f.2.2 :: s.mpr.twFronts).take 16 } }
      let r : DrRec := { kind := 2, seq := s.mpr.twSeq, first := (f.2.2 - lead) / 65536, start := s.tick, last := s.tick
                         samples := [], chains := [], trunc := false
                         names := ((s.mpr.record.map DrRec.seq).getD 0) % 65536
                         fileLen := s.free.toNat, fileCrc := s.used.free.toNat }
      let s := s.used.used
      { s with mpr := { s.mpr with twOpen := s.mpr.twOpen ++ [(f.2.2 - lead, r)], twSeq := s.mpr.twSeq + 1 } }

/-! ### The hand-off (R348) -/

/-- Whether the publisher sends: PD10 is up and the tick runs the pool (R378, R583). -/
def publishing (s : State) : Bool := pktRuns s && !s.thr.idle

/-- The publisher in phase 2: travelling-wave events and triggers, then the publications in ascending number, first to the ports, then
to the host path (R348). -/
def publisherHandOff (s : State) : State :=
  if !publishing s then { s with mpr := { s.mpr with man := false } }
  else
    let fronts := newFronts s
    let s := (List.range 32).foldl (runTrigger fronts) s
    let s := fronts.foldl takeFront { s with mpr := { s.mpr with man := false } }
    let s := writeWindows (recordSample s)
    let s := (List.range 64).foldl svHandOff s
    let s := (List.range 128).foldl gooseHandOff s
    let s := (List.range 32).foldl c37HandOff s
    (List.range 256).foldl hostHandOff s

/-- At a tick edge the recorder's enable is taken (Table 07.10). -/
def recorderEdge (s : State) : State := { s with mpr := { s.mpr with armed := s.bit Reg.MPR_CTRL_REC_EN } }

/-- MAN_TRIG: a write of MPR_CTRL with MAN_TRIG set (R369); ignored while the recorder is disabled (Table 07.7). -/
def execManTrig (a : Access) (v : Word) (s : State) : Out :=
  .next (withWrite s a 0x200000 Blk.mpr 10 0x200000 (fun s =>
    let on := s.mpr.armed
    let s := plainWrite s a.init 0x200000 v
    if on then { s with mpr := { s.mpr with man := true } } else s))

/-- The publisher starts with the first RUNNING tick of an activation (R378). -/
def publisherStart (s : State) : State :=
  let s := (List.range 128).foldl (fun s g => (s.wr (Reg.MPR_GOOSE_STNUM g) 0).wr (Reg.MPR_GOOSE_SQNUM g) 0) s
  { s with mpr := { s.mpr with goose := [], svHold := [], svPast := [], twOpen := [], spdu := [], trigOn := 0, twSeen := [], twFronts := [], floc := []
                               c37Change := [] } }

/-- What defines a GOOSE dataset: its entries and CONFREV. -/
def gooseDef (s : State) (g : Nat) : Nat × Nat × List Nat :=
  (s.rd (Reg.MPR_GOOSE_CFG g), s.rd (Reg.MPR_GOOSE_CONFREV g), gooseList s g)

/-- What defines a synchrophasor stream. -/
def streamDef (s : State) (n : Nat) : Nat × Nat × List Nat :=
  (s.rd (Reg.MPR_C37_CFG n) / 8 * 8 + s.rd (Reg.MPR_C37_CFG n) % 4, s.rd (Reg.MPR_C37_IDCODE n),
   listEntries s (s.rd (Reg.MPR_C37_CFG_LIST_IDX n))
     (2 * (s.rd (Reg.MPR_C37_CFG_N_PHASOR_M1 n) + 1) + 2 + s.rd (Reg.MPR_C37_CFG_N_ANALOG n)))

/-- The streams whose definitions differ between two states. -/
def streamsChanged (a b : State) : List Nat := (List.range 32).filter (fun n => streamDef a n != streamDef b n)

/-- After a seam that changed publications: datasets restart (R357), and CFG_CNT of the changed streams increases (R364). -/
def publicationsChanged (old s : State) : State :=
  let s := (List.range 128).foldl (fun s g =>
    if s.bit (Reg.MPR_GOOSE_CFG_EN g) && gooseDef old g != gooseDef s g then
      setGds s g { gdsOf s g with force := true }
    else s) s
  (streamsChanged old s).foldl (fun s n =>
    let s := s.inc (Reg.MPR_C37_CFG_CNT_VALUE n)
    { s with mpr := { s.mpr with c37Change := Tab.put 0 s.mpr.c37Change n 2 } }) s

end Sys2Proof.Machine
end

