-- ==== Sys2Proof/Machine/Mrg.lean ====
section
/-! DEFINITION. The measurement ring: sweeps, results, master election, hop timing, breaks, wraps and healing ("The measurement
ring"). -/

namespace Sys2Proof.Machine

/-! ### Links and identities -/

/-- A ring link's state. -/
def linkOf (s : State) (l : Nat) : RLink := Tab.get {} s.mrg.link l

/-- Set a ring link's state. -/
def setLink (s : State) (l : Nat) (x : RLink) : State := { s with mrg := { s.mrg with link := Tab.put {} s.mrg.link l x } }

/-- The states of MRG_STATUS. -/
abbrev mrgStopped := 0
abbrev mrgJoining := 1
abbrev mrgRunning := 2
abbrev mrgForwarding := 3

/-- MRG_STATUS.STATE, 0 while PD09 is down. -/
def mrgState (s : State) : Nat := if domainUp s 9 then s.rd Reg.MRG_STATUS_STATE else 0

/-- Whether a node is a member. -/
def isMember (s : State) (n : Nat) : Bool := decide (n < 16) && bitAt (s.rd Reg.MRG_MEMBER_MASK) n

/-- This node's ID. -/
def ownId (s : State) : Nat := s.rd Reg.MRG_CFG_NODE_ID

/-- Whether a link is wrapped. -/
def isWrapped (s : State) (l : Nat) : Bool := bitAt (s.rd Reg.MRG_STATUS_WRAP) l

/-- Whether a link carries frames: it is UP. -/
def linkUp (s : State) (l : Nat) : Bool := s.rd (Reg.MRG_LINK_LSTATUS_STATE l) == 2

/-- The other link. -/
def otherLink (l : Nat) : Nat := if l = 0 then 1 else 0

/-! ### Breaks and segments (R403, R404, R407, R412) -/

/-- Show whether the node's segment lacks a member; raised once on entry (R407). -/
def showSegment (s : State) (lacks : Bool) (reached : Nat) : State :=
  if lacks then
    if s.bit Reg.MRG_STATUS_SEGMENTED then s
    else raise (s.wr Reg.MRG_STATUS_SEGMENTED 1) Blk.mrg 0x0105 .warn reached
  else s.wr Reg.MRG_STATUS_SEGMENTED 0

/-- Whether both links are broken: a segment of one. -/
def cutOff (s : State) : Bool := s.rd (Reg.MRG_LINK_LSTATUS_STATE 0) == 3 && s.rd (Reg.MRG_LINK_LSTATUS_STATE 1) == 3

/-- A link is broken (R403, R404): reason 1 lock, 2 frame failures, 3 miswired. -/
def breakLink (s : State) (l reason : Nat) (nbr : Option Nat) : State :=
  if s.rd (Reg.MRG_LINK_LSTATUS_STATE l) = 3 ∨ mrgState s = mrgStopped then s
  else
    let s := (s.wr (Reg.MRG_LINK_LSTATUS_STATE l) 3).wr (Reg.MRG_LINK_LSTATUS_CLEAN l) 0
    let s := setLink s l { linkOf s l with wrapNext := true, unwrapAt := none, run := 0, fails := [] }
    let s := raise s Blk.mrg 0x0101 .fault (l + 2 ^ 8 * reason + 2 ^ 16 * (nbr.getD 0xFF))
    if cutOff s && s.rd Reg.MRG_MEMBER_MASK != 2 ^ ownId s then showSegment s true (2 ^ ownId s) else s

/-- A frame fails on a link (R412): 8 failures within 64 ticks break it (R403). -/
def frameFails (s : State) (l : Nat) : State :=
  let s := s.inc (Reg.MRG_LINK_CRC_ERR l)
  let x := linkOf s l
  let fs := s.tick :: x.fails.filter (fun t => decide (s.tick < t + 64))
  let s := setLink s l { x with failed := true, fails := fs }
  if 8 ≤ fs.length then breakLink s l 2 (some (s.rd (Reg.MRG_LINK_LSTATUS_NBR_ID l))) else s

/-! ### Sending sweeps (R385, R386, R404) -/

/-- A sweep frame leaves on a link, and is kept for a resend (R411). -/
def sendSweep (s : State) (l : Nat) (f : SweepFrame) : State :=
  emit (setLink s l { linkOf s l with last := some f }) (.sweep l f)

/-- A sweep frame that would leave on link `l` (R404): on a wrapped link it goes out of the other with WRAPPED and RETURN set, once. -/
def routeSweep (s : State) (l : Nat) (f : SweepFrame) : State :=
  if !isWrapped s l then (if linkUp s l then sendSweep s l f else s)
  else if f.ret || isWrapped s (otherLink l) then s
  else if linkUp s (otherLink l) then sendSweep s (otherLink l) { f with wrapped := true, ret := true } else s

/-- SEC and INSEC of the current tick, as sweep headers carry them. -/
def sweepTick (s : State) : Nat × Nat := (s.tik.sec % 2 ^ 32, s.rd Reg.TIK_INSEC)

/-- The bytes over which CCRC is computed (Table 08.3), in network order. -/
def contribBytes (c : Contrib) : List Byte :=
  let be := fun (n v : Nat) => (toLe n v).reverse
  be 1 c.node.val ++ be 1 c.suspect.toNat ++ be 2 c.entries.length ++ be 4 (unsignedOf 32 c.ofs) ++ be 4 c.sec

/-- The entries' bytes. -/
def ringEntryBytes (c : Contrib) : List Byte :=
  c.entries.flatMap (fun e => (toLe 4 e.1.toNat).reverse ++ (toLe 2 (fieldOf e.2 0 16)).reverse ++ (toLe 2 (fieldOf e.2 16 16)).reverse)

/-- The words of MRG_RESULT[n] for a contribution (Table 08.10). -/
def contribWords (c : Contrib) : List Word :=
  let b := contribBytes c ++ (toLe 4 (crc32c (contribBytes c ++ ringEntryBytes c))).reverse ++ ringEntryBytes c
  (List.range (4 + 2 * c.entries.length)).map (fun j => BitVec.ofNat 32 (leNat ((b.drop (4 * j)).take 4)))

/-- An entry of MRG_LIST. -/
def ringEntry (s : State) (i : Nat) : Nat :=
  if i % 2 = 0 then s.rd (Reg.MRG_LIST_ENTRY0 (i / 2)) else s.rd (Reg.MRG_LIST_ENTRY1 (i / 2))

/-- The node's own contribution for the current tick (R384, R401). -/
def ownContrib (s : State) : Contrib :=
  { node := ⟨ownId s % 16, Nat.mod_lt _ (by decide)⟩, suspect := s.bit Reg.MRG_STATUS_TIME_SUSPECT
    ofs := s.rdInt Reg.MRG_RING_OFS, sec := (sweepTick s).1
    entries := (List.range (min 126 (s.rd Reg.MRG_CONTRIB_N))).map (fun i => entryWords s (ringEntry s i)), crcOk := true }

/-- Judge the ring offset (R401): the flag, and PHASE_DISAGREE at most once per second. (DEDUCED, log 26) -/
def judgePhase (s : State) : State :=
  let mag := (s.rdInt Reg.MRG_RING_OFS).natAbs
  let thr := s.rd Reg.MRG_PHASE_THR_NS * 256
  if thr < mag then
    raiseLimited (s.wr Reg.MRG_STATUS_TIME_SUSPECT 1) Blk.mrg 0x0106 .warn 0 (s.rd Reg.MRG_RING_OFS)
  else if mag < thr then s.wr Reg.MRG_STATUS_TIME_SUSPECT 0 else s

/-- A sweep's collection is replaced by another state of it. -/
def setColl (s : State) (y : Coll) : State :=
  { s with mrg := { s.mrg with colls := s.mrg.colls.map (fun z => if z.tick == y.tick then y else z) } }

/-- Hand the products off to the ring (R348, R385, R416): the contribution is held until the edge of tick k + D + 1. -/
def ringHandOff (s : State) : State :=
  if mrgState s ≠ mrgRunning then s
  else
    let (sec, insec) := sweepTick s
    let x : Coll := { tick := s.tick, sec := sec, insec := insec, own := ownContrib s }
    { s with mrg := { s.mrg with colls := s.mrg.colls ++ [x] } }

/-- The edge of tick k: contributions of ticks up to k − D − 1 are dropped (R385); the clean ticks of broken links are counted
(R408), the unwrap is announced (R409), and JOINING ends (R415). -/
def ringEdge (s : State) : State :=
  let d := s.rd Reg.MRG_CFG_D
  let s := { s with mrg := { s.mrg with colls := s.mrg.colls.filter (fun c => decide (s.tick ≤ c.tick + d)), ofsEast := none } }
  let edgeLink := fun (s : State) (l : Nat) =>
    let x := linkOf s l
    let clean := x.locked && x.held && x.exch && !x.failed
    let s := if s.rd (Reg.MRG_LINK_LSTATUS_STATE l) = 3 then
        if clean then s.inc (Reg.MRG_LINK_LSTATUS_CLEAN l)
        else setLink (s.wr (Reg.MRG_LINK_LSTATUS_CLEAN l) 0) l { x with unwrapAt := none, cancelled := x.unwrapAt.or x.cancelled }
      else s
    let x := linkOf s l
    let low := decide (ownId s < s.rd (Reg.MRG_LINK_LSTATUS_NBR_ID l))
    let x := if s.rd (Reg.MRG_LINK_LSTATUS_STATE l) = 3 ∧ low ∧ 1000 ≤ s.rd (Reg.MRG_LINK_LSTATUS_CLEAN l) ∧ x.unwrapAt = none then
        { x with unwrapAt := some ((s.rd Reg.TIK_INSEC + 4) % s.rate) } else x
    setLink s l { x with held := x.locked, exch := false, failed := false }
  let s := if mrgState s = mrgStopped then s else judgePhase (edgeLink (edgeLink s 0) 1)
  let s := s.setBit Reg.MRG_STATUS_UNWRAP_PEND ((linkOf s 0).unwrapAt.isSome || (linkOf s 1).unwrapAt.isSome)
  if mrgState s = mrgJoining ∧ (linkUp s 0 ∨ linkUp s 1) then
    let s := s.wr Reg.MRG_STATUS_STATE mrgRunning
    [0, 1].foldl (fun s l => if linkUp s l then s
      else setLink ((s.wr (Reg.MRG_LINK_LSTATUS_STATE l) 3).wr (Reg.MRG_LINK_LSTATUS_CLEAN l) 0) l { linkOf s l with wrapNext := true }) s
  else s

/-- Links whose break was detected are wrapped from this slot 501 on (R404). -/
def startWraps (s : State) : State :=
  [0, 1].foldl (fun s l =>
    let x := linkOf s l
    if !x.wrapNext then s
    else
      let s := setLink s l { x with wrapNext := false }
      if isWrapped s l then s
      else raise (s.wr Reg.MRG_STATUS_WRAP (setBitAt (s.rd Reg.MRG_STATUS_WRAP) l true)) Blk.mrg 0x0102 .warn l) s

/-- A link leaves its wrap in the announced tick (R409). -/
def endWraps (s : State) : State :=
  [0, 1].foldl (fun s l =>
    let x := linkOf s l
    if x.unwrapAt = some (s.rd Reg.TIK_INSEC) ∧ s.rd (Reg.MRG_LINK_LSTATUS_STATE l) = 3 then
      let s := setLink s l { x with unwrapAt := none }
      let s := (s.wr Reg.MRG_STATUS_WRAP (setBitAt (s.rd Reg.MRG_STATUS_WRAP) l false)).wr (Reg.MRG_LINK_LSTATUS_STATE l) 2
      let s := s.setBit Reg.MRG_STATUS_UNWRAP_PEND ((linkOf s 0).unwrapAt.isSome || (linkOf s 1).unwrapAt.isSome)
      raise s Blk.mrg 0x0103 .info l
    else s) s

/-- Whether the node is master-capable (R393). -/
def masterCapable (s : State) : Bool := mrgState s == mrgRunning && s.bit Reg.MRG_CTRL_MASTER_OK

/-- Set the master view (R394): a frame counts at the three starts of slot 501 after it was received. (DEDUCED, log 26) -/
def elect (s : State) : State :=
  let seen := (s.mrg.masters.map (fun p => (p.1 + 1, p.2))).filter (fun p => decide (p.1 ≤ 3))
  let cands := seen.map Prod.snd ++ (if masterCapable s then [ownId s] else [])
  let s := { s with mrg := { s.mrg with masters := seen } }
  match cands with
  | [] => s.wr Reg.MRG_STATUS_MASTER 0
  | c :: cs =>
    let m := cs.foldl min c
    let old := s.rd Reg.MRG_STATUS_MASTER_ID
    let s := s.setBit Reg.MRG_STATUS_MASTER (m == ownId s && masterCapable s)
    if m = old then s
    else raise ((s.wr Reg.MRG_STATUS_MASTER_ID m).inc Reg.MRG_ELECT_CNT) Blk.mrg 0x0104 .info (old + 2 ^ 8 * m)

/-- SWEEP_LAUNCH: the start of slot 501, which follows the hand-off in a tick (R385, R394, R404, R409). (DEDUCED, log 10) -/
def execSweepLaunch (s : State) : Out :=
  .next (if (mrgState s ≠ mrgRunning ∧ mrgState s ≠ mrgForwarding) ∨ s.rd Reg.TIK_STATUS_SLOT ≠ 500 ∨ s.mrg.slot501 = some s.tick then s
    else
      let s := { s with mrg := { s.mrg with slot501 := some s.tick } }
      let s := elect (endWraps (startWraps s))
      if mrgState s ≠ mrgRunning ∨ ¬ s.bit Reg.MRG_STATUS_MASTER then s
      else
        match s.mrg.colls.find? (fun c => c.tick == s.tick) with
        | none => s
        | some c =>
          let s := judgePhase (s.wr Reg.MRG_RING_OFS 0)
          let own := { c.own with ofs := 0, suspect := s.bit Reg.MRG_STATUS_TIME_SUSPECT }
          let s := setColl s { c with own := own }
          let f : SweepFrame := { west := false, wrapped := false, ret := false, master := own.node, hops := 0
                                  ringId := s.rd Reg.MRG_CFG_RING_ID, present := 2 ^ ownId s, sec := c.sec, insec := c.insec
                                  accOfs := 0, hcrcOk := true, resent := false, contribs := [own] }
          routeSweep (routeSweep s 0 f) 1 { f with west := true })

/-! ### Receiving sweeps (R386–R391, R395, R398, R401, R411–R413) -/

/-- Whether the sweep of a frame was closed: it is not after the last closed result (R390). (DEDUCED, log 26) -/
def sweepClosed (s : State) (f : SweepFrame) : Bool :=
  s.mrg.fresh && (decide (f.sec < s.rd Reg.MRG_RES_SEC) ||
    f.sec == s.rd Reg.MRG_RES_SEC && decide (f.insec ≤ s.rd Reg.MRG_RES_INSEC_VALUE))

/-- Deliver a contribution of a sweep to the node's result, or count it as late (R389, R390). (DEDUCED, log 26) -/
def takeContrib (s : State) (f : SweepFrame) (c : Contrib) : State :=
  if !c.crcOk || c.node.val == ownId s || mrgState s ≠ mrgRunning then s
  else
    match s.mrg.colls.find? (fun x => x.sec == f.sec && x.insec == f.insec && !x.closed) with
    | some x =>
      setColl s (if f.west then { x with west := x.west ++ [(c, f.wrapped)] } else { x with east := x.east ++ [(c, f.wrapped)] })
    | none =>
      if !sweepClosed s f then s
      else
        let n := s.mrg.late + 1
        let s := s.inc Reg.MRG_LATE_CNT
        if limitOpen s Blk.mrg 0x0108 0 then
          raiseLimited { s with mrg := { s.mrg with late := 0 } } Blk.mrg 0x0108 .warn 0 (c.node.val + 2 ^ 32 * (n % 2 ^ 32))
        else { s with mrg := { s.mrg with late := n } }

/-- The node appends its contribution to a frame that arrived on `link` and sets its ring offset (R386, R387, R398). -/
def appendOwn (s : State) (link : Nat) (f : SweepFrame) : State × SweepFrame :=
  if mrgState s ≠ mrgRunning ∨ bitAt f.present (ownId s) then (s, f)
  else
    match s.mrg.colls.find? (fun x => x.sec == f.sec && x.insec == f.insec) with
    | none => (s.inc Reg.MRG_MISMATCH_CNT, f)
    | some x =>
      let ofs := f.accOfs + s.rdInt (Reg.MRG_LINK_OFFSET link)
      let keep := f.west && s.mrg.ofsEast == some x.tick
      let s := if keep then s else
        judgePhase { s.wrInt Reg.MRG_RING_OFS ofs with mrg := { s.mrg with
          ofsEast := if f.west then s.mrg.ofsEast else some x.tick } }
      let c := { x.own with ofs := ofs, suspect := s.bit Reg.MRG_STATUS_TIME_SUSPECT }
      (if keep then s else setColl s { x with own := c }, { f with accOfs := ofs, present := setBitAt f.present (ownId s) true, contribs := f.contribs ++ [c] })

/-- SWEEP_FRAME_RECEIVE: a sweep frame arrives on a link. (DEDUCED, log 26) -/
def execSweepFrameReceive (link : Fin 2) (f : SweepFrame) (inTime : Bool) (s : State) : Out :=
  let l := link.val
  .next (if mrgState s ≠ mrgRunning ∧ mrgState s ≠ mrgForwarding then s
    else if !linkUp s l then s
    else if !f.hcrcOk then
      let x := linkOf s l
      let key := (f.west, f.sec, f.insec)
      if f.resent || !inTime || x.nak.contains key then frameFails s l
      else emit (setLink s l { x with nak := (key :: x.nak).take 8 }) (.nak l f.west f.sec f.insec)
    else if f.ringId ≠ s.rd Reg.MRG_CFG_RING_ID ∨ ¬ isMember s f.master then s.inc Reg.MRG_FOREIGN_CNT
    else
      let s := { s with mrg := { s.mrg with masters := (s.tick, f.master.val) :: s.mrg.masters } }
      let s := if f.resent then transient (s.inc (Reg.MRG_LINK_RESEND l)) Blk.mrg 1 l else s
      let s := if f.contribs.all Contrib.crcOk then s else frameFails s l
      if s.rd Reg.MRG_STATUS_MASTER_ID < f.master.val then s
      else
        let s := f.contribs.foldl (fun s c => takeContrib s f c) s
        if f.master.val = ownId s ∧ ¬ f.ret then s
        else
          let (s, g) := appendOwn s l f
          routeSweep s (otherLink l) { g with hops := (f.hops + 1) % 256, resent := false })

/-- NAK_RECEIVE: the last sweep frame sent on the link is sent again, once, when it is the one named and can still arrive in time
(R411). (DEDUCED, log 26) -/
def execNakReceive (link : Fin 2) (west : Bool) (sec insec : Nat) (inTime : Bool) (s : State) : Out :=
  let l := link.val
  .next (match (if mrgState s = mrgStopped then none else (linkOf s l).last) with
    | some f =>
      if linkUp s l && inTime && f.west == west && f.sec == sec && f.insec == insec && !f.resent then
        sendSweep s l { f with resent := true }
      else s
    | none => s)

/-! ### Closing a result (R389–R391) -/

/-- The contribution of a node in a closed result, and WRAPPED of the frame that delivered it: the copy of the EAST-launched frame where
both delivered one (R389, R391). -/
def contribOf (s : State) (x : Coll) (n : Nat) : Option (Contrib × Bool) :=
  if n = ownId s then some (x.own, false)
  else (x.east.find? (fun c => c.1.node.val == n)).or (x.west.find? (fun c => c.1.node.val == n))

/-- A contribution with the flags of the result in every entry's quality word (R391). -/
def flagContrib (part deg : Bool) (c : Contrib) : Contrib :=
  let m : Word := (if part then 32 else 0) ||| (if deg then 64 else 0)
  { c with entries := c.entries.map (fun e => (e.1, e.2 ||| m)) }

/-- Seam phase 1 of tick k: the result of tick k − D is closed and written (R390, R391, R407, R418). A segment lacks a member where the
result does and a wrapped frame or no frame at all came. (DEDUCED, log 26) -/
def closeResult (s : State) : State :=
  let d := s.rd Reg.MRG_CFG_D
  if mrgState s ≠ mrgRunning then s
  else match s.mrg.colls.find? (fun c => c.tick + d == s.tick) with
  | none => s
  | some x =>
    let got := (List.range 16).filter (fun n => (contribOf s x n).isSome)
    let reach := (got.map (fun n => 2 ^ n)).sum
    let miss := ((List.range 16).filter (fun n => isMember s n && !got.contains n)).map (fun n => 2 ^ n) |>.sum
    let part := decide (miss ≠ 0)
    let wrapped := got.any (fun n => (contribOf s x n).any Prod.snd)
    let seg := part && (wrapped || cutOff s || s.bit Reg.MRG_STATUS_SEGMENTED)
    let deg := wrapped || seg
    let s := (List.range 16).foldl (fun s n =>
      let ws := match contribOf s x n with
        | some c => contribWords (flagContrib part deg c.1)
        | none => []
      (List.range 256).foldl (fun s j => s.setReg (Reg.MRG_RESULT n j).key (ws.getD j 0)) s) s
    let s := (s.wr Reg.MRG_RES_SEC x.sec).wr Reg.MRG_RES_INSEC_VALUE x.insec
    let s := ((s.wr Reg.MRG_MISSING_MISSING miss).setBit Reg.MRG_MISSING_PARTIAL part).setBit Reg.MRG_MISSING_DEGRADED deg
    let s := s.wr Reg.MRG_STATUS_REACH reach
    let s := if part then s.inc Reg.MRG_PARTIAL_CNT else s
    let s := if deg then s.inc Reg.MRG_DEGRADED_CNT else s
    let s := setColl (showSegment s seg reach) { x with closed := true }
    { s with mrg := { s.mrg with fresh := true } }

/-! ### Hop timing (R396, R397, R402, R413) -/

/-- TIMING_FRAME_SEND: the TIMING frame of a tick leaves on a link, with the stamps of R396. -/
def execTimingFrameSend (link : Fin 2) (stamp : Nat) (s : State) : Out :=
  let l := link.val
  let x := linkOf s l
  .next (if mrgState s = mrgStopped ∨ ¬ x.locked then s
    else
      let announce := match x.unwrapAt with
        | some n => if ownId s < s.rd (Reg.MRG_LINK_LSTATUS_NBR_ID l) then some n else none
        | none => none
      let f : TimingFrame := { node := ownId s, unwrap := announce.isSome, seq := x.seq, ringId := s.rd Reg.MRG_CFG_RING_ID
                               unwrapInsec := announce.getD 0, txPrev := (x.sent.head?.map Prod.snd).getD 0
                               rxStamp := (x.got.map Prod.snd).getD 0, rxSeq := (x.got.map Prod.fst).getD 0, link := l, crcOk := true }
      emit (setLink s l { x with seq := (x.seq + 1) % 256, sent := ((x.seq, tdc stamp) :: x.sent).take 16 }) (.timing l f))

/-- Whether a TIMING frame shows a miswiring (R413). -/
def miswired (s : State) (l : Nat) (f : TimingFrame) : Bool :=
  f.ringId != s.rd Reg.MRG_CFG_RING_ID || !isMember s f.node || f.node == ownId s || f.link == l

/-- Units of 2^-16 ns in units of 2^-8 ns. -/
def toRing (x : Int) : Int := x / 256

/-- A complete exchange sets DELAY and OFFSET of the link (R397, R402), each term rounded down to 2^-8 ns. (DEDUCED, log 26) -/
def setHop (s : State) (l : Nat) (t1 t2 t3 t4 : Int) : State :=
  let delay := toRing (((t4 - t1) - (t3 - t2)) / 2)
  let asym := s.rdInt (Reg.MRG_LINK_ASYM l) * 256 / 1000
  let ofs := toRing (((t2 - t1) - (t4 - t3)) / 2) - asym
  let had := 0 < (linkOf s l).run
  let jump := delay - (s.rd (Reg.MRG_LINK_DELAY l) : Int)
  let s := (s.wrInt (Reg.MRG_LINK_DELAY l) delay).wrInt (Reg.MRG_LINK_OFFSET l) ofs
  if had ∧ s.rd Reg.MRG_DLY_JUMP_NS * 256 < jump.natAbs then
    raise s Blk.mrg 0x0107 .warn (l + 2 ^ 32 * unsignedOf 32 jump)
  else s

/-- A link that is not broken becomes UP after 8 consecutive exchanges (R415). -/
def linkExchanged (s : State) (l : Nat) : State :=
  let x := linkOf s l
  let s := setLink s l { x with exch := true, run := x.run + 1 }
  if s.rd (Reg.MRG_LINK_LSTATUS_STATE l) = 1 ∧ 8 ≤ x.run + 1 then s.wr (Reg.MRG_LINK_LSTATUS_STATE l) 2 else s

/-- TIMING_FRAME_RECEIVE: a TIMING frame arrives on a link (R397, R402, R409, R413). -/
def execTimingFrameReceive (link : Fin 2) (f : TimingFrame) (stamp : Nat) (s : State) : Out :=
  let l := link.val
  let x := linkOf s l
  .next (if mrgState s = mrgStopped ∨ ¬ x.locked then s
    else if !f.crcOk then setLink (frameFails s l) l { linkOf (frameFails s l) l with run := 0, got := none }
    else if miswired s l f then breakLink s l 3 (some (f.node % 256))
    else
      let s := s.wr (Reg.MRG_LINK_LSTATUS_NBR_ID l) f.node
      let prev := x.got
      let s := setLink s l { x with got := some (f.seq, tdc stamp), cancelled := if f.unwrap then x.cancelled else none }
      let t3 := (x.sent.find? (fun p => p.1 == f.rxSeq)).map Prod.snd
      let s := match prev, t3 with
        | some (q, t2), some t3 =>
          if f.seq = (q + 1) % 256 then
            linkExchanged (setHop s l f.txPrev t2 t3 f.rxStamp) l
          else setLink s l { linkOf s l with run := 0 }
        | _, _ => s
      if f.unwrap && decide (f.node < ownId s) && s.rd (Reg.MRG_LINK_LSTATUS_STATE l) == 3 &&
          (linkOf s l).cancelled != some f.unwrapInsec then
        (setLink s l { linkOf s l with unwrapAt := some f.unwrapInsec }).wr Reg.MRG_STATUS_UNWRAP_PEND 1
      else s)

/-! ### Lock (R403, R408, R415) -/

/-- RING_LINK_LOST: a link loses lock (R403). -/
def execRingLinkLost (link : Fin 2) (s : State) : Out :=
  let l := link.val
  let x := linkOf s l
  .next (if !domainUp s 9 || !x.locked then s
    else
      let s := s.inc (Reg.MRG_LINK_LOSS_CNT l)
      let nbr := if x.got.isSome then some (s.rd (Reg.MRG_LINK_LSTATUS_NBR_ID l)) else none
      let s := setLink s l { x with locked := false, held := false, run := 0, got := none }
      if s.rd (Reg.MRG_LINK_LSTATUS_STATE l) = 1 then s.wr (Reg.MRG_LINK_LSTATUS_STATE l) 0
      else if s.rd (Reg.MRG_LINK_LSTATUS_STATE l) = 0 then s
      else breakLink s l 1 nbr)

/-- RING_LINK_LOCK: a link holds lock (R408, R415). -/
def execRingLinkLock (link : Fin 2) (s : State) : Out :=
  let l := link.val
  let s1 := setLink s l { linkOf s l with locked := true }
  .next (if s.rd (Reg.MRG_LINK_LSTATUS_STATE l) = 0 ∧ mrgState s ≠ mrgStopped then s1.wr (Reg.MRG_LINK_LSTATUS_STATE l) 1 else s1)

/-! ### Activation and deactivation (R414–R417, R583) -/

/-- An activation: with an MRNG section the ring joins, without one it stops (R415). -/
def ringActivate (s : State) (section_ : Bool) : State :=
  if section_ then
    let s := s.wr Reg.MRG_STATUS_STATE mrgJoining
    let s := { s with mrg := { s.mrg with colls := [], masters := [], ofsEast := none, fresh := false } }
    [0, 1].foldl (fun s l => if (linkOf s l).locked ∧ s.rd (Reg.MRG_LINK_LSTATUS_STATE l) = 0 then
      s.wr (Reg.MRG_LINK_LSTATUS_STATE l) 1 else s) s
  else s.wr Reg.MRG_STATUS_STATE mrgStopped

/-- After DEACTIVATE, and from the tick edge after an entry to L4, the ring only forwards (R417, R583). -/
def ringForward (s : State) : State :=
  if mrgState s = mrgRunning ∨ (mrgState s = mrgJoining ∧ (s.tik.activate = 0 ∨ s.bit Reg.SAF_STATUS_LATCHED)) then
    (s.wr Reg.MRG_STATUS_STATE mrgForwarding).wr Reg.MRG_STATUS_MASTER 0
  else s

end Sys2Proof.Machine
end

