-- ==== Sys2Proof/Machine/Guard.lean ====
section
/-! DEFINITION. The schedule guard: the checks of Table 03.12 with codes 0x010C and up, and the amendment conditions of Table 04.2
("The structure image", "Changing a running device"). Each check answers its failures as (code, detail). -/

namespace Sys2Proof.Machine

/-! ### What the checks work on (R206) -/

/-- What the guard checks: the copy, its schedule without the cores that the pool has retired, the register state that results from
the image, and whether it is an amendment. -/
structure Checked where
  c : Copy
  d : Sched
  cfg : State
  amend : Bool

/-- The cores that the pool has retired, as a mask. -/
def retiredMask (s : State) : Nat := coreMask (fun c => role s c == 4) 0

/-- The register state that an image gives: for a full image its words over the reset values, for an amendment its patch words over
the active values (R206). -/
def resulting (s : State) (c : Copy) (amend : Bool) : State :=
  if amend then (imgWords s c).foldl (fun s w => engineBits s w false) s
  else (imgWords s c).foldl (fun s w => engineBits s w true) { s with regs := [] }

/-- What the guard checks for the image at `base`. -/
def checkedAt (s : State) (base : Nat) : Checked :=
  let c := copyAt s base
  let d := schedOf s c
  let amend := isAmend c.hdr
  let gone := if amend then bitList 80 (retiredMask s) else []
  { c := c, cfg := resulting s c amend, amend := amend
    d := { d with work := gone.foldl (fun m k => setBitAt m k false) d.work
                  spare := gone.foldl (fun m k => setBitAt m k false) d.spare } }

/-- The section table index of a type, 0 where the image has none. -/
def sectIx (c : Copy) (typ : Nat) : Nat := ((c.find typ).map SectE.ix).getD 0

/-- SECTION_FORMAT for an entry of a section. -/
def fmtIf (bad : Bool) (c : Copy) (typ entry : Nat) : List (Nat × Nat) :=
  failIf bad 0x010D (sectIx c typ + 2 ^ 16 * (entry % 2 ^ 16))

/-- The record of a section that writes an address last, 0 where none does. -/
def recordOf (s : State) (c : Copy) (typ addr : Nat) : Nat :=
  ((records s c typ).foldl (fun o r =>
    if r.target ≤ addr ∧ addr < r.target + 4 * r.words.length then some r.ix else o) none).getD 0

/-- Numbers below `n`, in turn. -/
def upTo_ (n : Nat) (f : Nat → List (Nat × Nat)) : List (Nat × Nat) := (List.range n).flatMap f

/-! ### Reserved fields (0x010C) -/

/-- Reserved fields and padding of TICK, POOL and KERN. -/
def reservedSched (s : State) (c : Copy) (e : SectE) : List (Nat × Nat) :=
  let at_ := fun o n => reservedAt (e.ofs + o) (memBytes s (c.base + e.ofs + o) n)
  match e.typ with
  | 1 =>
    at_ 1 1 ++ at_ 4 12 ++ upTo_ (slotEntries s c).length (fun k =>
      let o := 16 + 12 * k
      failIf (decide (2 ≤ sectLe s c e (o + 1) 1)) 0x010C (e.ofs + o + 1) ++ at_ (o + 10) 2)
  | 2 =>
    let p := poolParts s c e
    let spares := popCount 80 (mask80 (sectLe s c e 0x18 16))
    let pad := 2 * sectLe s c e 2 2
    at_ 0x12 6 ++ at_ 0x22 6 ++ at_ 0x28 24 ++ upTo_ (sectLe s c e 0 2) (fun k => at_ (64 + 32 * k + 0x18) 8) ++
    upTo_ spares (fun j => at_ (p.1 + 16 * j + 10) 6) ++ at_ (p.2.1 + pad) (upTo 4 pad - pad)
  | 3 =>
    let bs := blobsOf s c
    at_ 4 12 ++ at_ 16 (min 240 (e.len - 16)) ++ upTo_ bs.length (fun j =>
      match bs[j]? with
      | some b => at_ b.last ((match bs[j + 1]? with
          | some n => n.ofs
          | none => e.len) - b.last)
      | none => [])
  | _ => []

/-- Reserved fields of table-load sections and REGS. -/
def reservedTables (s : State) (c : Copy) (e : SectE) : List (Nat × Nat) :=
  let at_ := fun o n => reservedAt (e.ofs + o) (memBytes s (c.base + e.ofs + o) n)
  if 4 ≤ e.typ ∧ e.typ ≤ 10 then
    at_ 4 12 ++ (if e.typ = 10 then [] else
      ((records s c e.typ).foldl (fun (p : Nat × List (Nat × Nat)) r => (p.1 + 8 + 4 * r.count, p.2 ++ at_ (p.1 + 6) 2)) (16, [])).2)
  else []

/-- The bytes of a parameter block that are reserved, by kernel (Table 06.6). -/
def paramReserved (kernel : Nat) : List (Nat × Nat) :=
  (4, 12) :: (match kernel with
    | 0x11 | 0x12 => [(0x13, 1)]
    | 0x13 => [(0x11, 3)]
    | 0x14 | 0x15 => [(0x12, 2)]
    | 0x16 => [(0x11, 3)]
    | 0x17 => [(0x16, 2)]
    | 0x18 => [(0x1A, 2)]
    | 0x19 => [(0x1B, 1), (0x1E, 2)]
    | 0x1B => [(0x12, 2)]
    | _ => [])

/-- Reserved bytes of the items' parameter blocks. -/
def reservedParams (s : State) (x : Checked) : List (Nat × Nat) :=
  match x.c.find 2 with
  | none => []
  | some e =>
    let area := e.ofs + (poolParts s x.c e).2.2
    x.d.items.flatMap (fun it => (paramReserved it.kernel).flatMap (fun p =>
      reservedAt (area + it.paramOfs + p.1) (memBytes s (x.c.base + area + it.paramOfs + p.1) p.2)))

/-- RESERVED_NONZERO, in section table order. (DEDUCED, log 15) -/
def checkReserved (s : State) (x : Checked) : List (Nat × Nat) :=
  x.c.sects.flatMap (fun e => reservedSched s x.c e ++ reservedTables s x.c e ++ (if e.typ = 2 then reservedParams s x else []))

/-! ### Counts, lengths and ranges (0x010D) -/

/-- The shape of a section. -/
def shapeBad (s : State) (c : Copy) (e : SectE) : Bool :=
  let u := fun o n => sectLe s c e o n
  match e.typ with
  | 1 => u 2 2 == 0 || decide (16384 < u 2 2) || e.len != 16 + 12 * u 2 2
  | 2 =>
    u 0 2 == 0 || decide (1024 < u 0 2) || decide (16384 < u 2 2) || u 4 4 % 4 != 0 || e.len != (poolParts s c e).2.2 + u 4 4
  | 3 =>
    let bs := blobsOf s c
    let last := (bs.getLast?.map Blob.last).getD 256
    u 0 4 == 0 || decide (64 < u 0 4) || bs.length != u 0 4 || decide (e.len < last) || decide (upTo 256 last < e.len)
  | 10 => decide (65536 < u 0 4) || e.len != 16 + 12 * u 0 4
  | 11 => decide (65536 < e.len)
  | _ =>
    let rs := records s c e.typ
    rs.length != u 0 4 || e.len != 16 + (rs.map (fun r => 8 + 4 * r.count)).sum

/-- The shapes of all sections, the entries of TICK and the records of the table-load sections. -/
def checkShapes (s : State) (x : Checked) : List (Nat × Nat) :=
  x.c.sects.flatMap (fun e =>
    fmtIf (shapeBad s x.c e) x.c e.typ 0 ++
    (if e.typ = 1 then upTo_ x.d.slots.length (fun k =>
        match x.d.slots[k]? with
        | some q => fmtIf (q.rtype == 0 || decide (5 < q.rtype) || (q.retry && q.rtype != 1)) x.c 1 k
        | none => [])
      else if 4 ≤ e.typ ∧ e.typ ≤ 9 then
        (records s x.c e.typ).flatMap (fun r => fmtIf (r.count == 0 || decide (4096 < r.count) || r.target % 4 != 0) x.c e.typ r.ix)
      else []))

/-- PLEN of Table 06.6; 0 for a kernel outside the library. -/
def plenOf (it : ItemE) : Nat :=
  match it.kernel with
  | 0x11 | 0x12 => 0x14 + 8 * it.nIn
  | 0x13 => 0x18
  | 0x14 | 0x15 | 0x16 => 0x14
  | 0x17 => 0x18
  | 0x18 => 0x1C
  | 0x19 => 0x20
  | 0x1A => 0x24
  | 0x1B => 0x1C
  | _ => 0

/-- Whether the fields of a parameter block lie in the ranges of Table 06.6. -/
def fieldsOk (d : Sched) (it : ItemE) : Bool :=
  let u := fun o n => paramLe d it o n
  let within := fun (lo hi v : Nat) => decide (lo ≤ v) && decide (v ≤ hi)
  let floc := d.items.any (fun x => x.item == u 0x18 2 && x.kernel == 0x17)
  match it.kernel with
  | 0x11 | 0x12 => within 10 240 (u 0x10 2) && decide (u 0x12 1 ≤ 1)
  | 0x13 => within 1 50 (u 0x10 1)
  | 0x14 => within 2 50 (u 0x10 1) && decide (u 0x11 1 ≤ 1)
  | 0x15 => within 1 10 (u 0x10 1) && decide (u 0x11 1 ≤ 1)
  | 0x16 => decide (u 0x10 1 ≤ 1)
  | 0x17 => decide (u 0x10 2 < 4096) && within 10 2000 (u 0x12 2)
  | 0x18 => floc
  | 0x19 => floc && decide (u 0x1A 1 ≤ 15) && within 1 10000 (u 0x1C 2)
  | 0x1A => true
  | 0x1B => decide (u 0x18 4 ≤ 0x3F800000) || u 0x18 4 == 0x80000000
  | _ => false

/-- Whether N_IN suits the kernel (Table 06.5). -/
def inputsOk (it : ItemE) : Bool :=
  let n := it.nIn
  match it.kernel with
  | 0x11 | 0x12 | 0x14 => decide (n ≤ 16)
  | 0x13 => n == 3
  | 0x15 => n == 6 || n == 7
  | 0x16 => n == 3 || n == 6
  | 0x17 => decide (n ≤ 12)
  | 0x18 | 0x19 => decide (n ≤ 4)
  | 0x1A => n == 6
  | 0x1B => decide (3 ≤ n) && decide (n ≤ 12)
  | _ => true

/-- N_OUT of Table 07.1. -/
def outputsOf (d : Sched) (it : ItemE) : Nat :=
  match it.kernel with
  | 0x11 | 0x12 => 2 * it.nIn + 2 * (paramLe d it 0x12 1 % 2) + 2
  | 0x13 => 2
  | 0x14 =>
    let m := paramLe d it 0x10 1
    it.nIn * (m + min m 15 - 1)
  | 0x15 => 11
  | 0x16 => 2 * it.nIn
  | 0x17 => 5
  | 0x1B => 9
  | _ => 3

/-- The entry of an item within its ranges (Table 03.8, R327, R328, R341, R345). -/
def itemBad (x : Checked) (len k : Nat) (it : ItemE) : Bool :=
  let d := x.d
  decide (1023 < it.item) || (d.items.take k).any (fun o => o.item == it.item) || decide (2 < it.cls) || decide (1 < it.onFail) ||
  decide (79 < it.coreA) || decide (79 < it.coreB) || it.compare == 0 || decide (496 < it.compare) || it.nIn == 0 ||
  decide (64 < it.nIn) || it.nOut == 0 || decide (64 < it.nOut) || it.stateLen == 0 || decide (512 < it.stateLen) ||
  decide (len < it.paramOfs + it.paramLen) || paramLe d it 0 2 != it.kernel || paramLe d it 2 2 != it.paramLen ||
  it.paramLen != plenOf it || !fieldsOk d it || !inputsOk it || it.nOut != outputsOf d it ||
  decide (16384 < it.outBase + it.nOut) ||
  (d.items.take k).any (fun o => decide (o.outBase < it.outBase + it.nOut) && decide (it.outBase < o.outBase + o.nOut))

/-- The item entries, the state regions of each core (R321) and the group delays (R342). -/
def checkItems (x : Checked) : List (Nat × Nat) :=
  let d := x.d
  upTo_ d.items.length (fun k =>
    match d.items[k]? with
    | none => []
    | some it =>
      let of := fun c => ((d.items.filter (fun o => o.coreA == c || o.coreB == c)).map (fun o => 64 * o.stateLen)).sum
      let ds := (d.inputs it).map (fun ch => x.cfg.rd (Reg.ACQ_CHAN_CFG_D ch))
      fmtIf (itemBad x d.params.length k it || decide (32768 < of it.coreA) || decide (32768 < of it.coreB) ||
        ds.any (fun v => v != ds.headD 0)) x.c 2 k)

/-- Whether a record of a section writes an address. -/
def recordWrites (s : State) (c : Copy) (typ addr : Nat) : Bool :=
  (records s c typ).any (fun r => decide (r.target ≤ addr ∧ addr < r.target + 4 * r.words.length))

/-- SECTION_FORMAT for a record of a section that puts a register's fields outside their ranges (Table 03.12). -/
def fieldRange (s : State) (x : Checked) (typ : Nat) (r : Fld) (bad : Bool) : List (Nat × Nat) :=
  fmtIf (bad && recordWrites s x.c typ r.key) x.c typ (recordOf s x.c typ r.key)

/-- Ranges of an ACQM section's registers (Table 05.8, Table 05.10). -/
def acqRange (s : State) (x : Checked) (r : Fld) (bad : Bool) : List (Nat × Nat) := fieldRange s x 4 r bad

/-- The ranges of an ACQM section's fields (Table 05.3, Table 05.8, Table 05.10, R268, R271, R273). (DEDUCED, log 15) -/
def checkAcqRanges (s : State) (x : Checked) : List (Nat × Nat) :=
  let g := x.cfg
  let out := fun (lo hi v : Nat) => decide (v < lo) || decide (hi < v)
  acqRange s x Reg.ACQ_RNG_CFG (out 50 90 (g.rd Reg.ACQ_RNG_CFG_DOWN_PCT) || out 32 63 (g.rd Reg.ACQ_RNG_CFG_OVL_HI) ||
    out 1 31 (g.rd Reg.ACQ_RNG_CFG_OVL_LO)) ++
  [44, 45, 46, 47].flatMap (fun i => acqRange s x (Reg.ACQ_IN_CFG i)
    (out 0 43 (g.rd (Reg.ACQ_IN_CFG_TWIN i)) && g.rd (Reg.ACQ_IN_CFG_TWIN i) != 0x3F)) ++
  upTo_ 256 (fun c => acqRange s x (Reg.ACQ_CHAN_CFG c) (out 0 16 (g.rd (Reg.ACQ_CHAN_CFG_D c)) ||
    g.rd (Reg.ACQ_CHAN_CFG_SRC c) == 3 && out 0 7 (g.rd (Reg.ACQ_CHAN_CFG_SEL_B c)))) ++
  upTo_ 64 (fun n => acqRange s x (Reg.ACQ_SV_CFG n) (g.bit (Reg.ACQ_SV_CFG_EN n) && (out 0 2 (g.rd (Reg.ACQ_SV_CFG_KIND n)) ||
    out 0 2 (g.rd (Reg.ACQ_SV_CFG_SYNC_MIN n)) || out 2 16 (g.rd (Reg.ACQ_SV_CFG_DELAY n))))) ++
  acqRange s x Reg.TWC_JESD_CFG (out 1 12 (g.rd Reg.TWC_JESD_CFG_M) || out 1 16 (g.rd Reg.TWC_JESD_CFG_E)) ++
  acqRange s x Reg.TWC_SYSREF_CFG (out 200 20000 (g.rd Reg.TWC_SYSREF_CFG_PER_SMP))

/-- Clocks of the modulator inputs (R245, R255). -/
def checkInputs (s : State) (x : Checked) : List (Nat × Nat) :=
  let g := x.cfg
  upTo_ 48 (fun i =>
    let clk := g.rd (Reg.ACQ_IN_CFG_CLK i)
    fmtIf (x.d.rate == 5 && g.bit (Reg.ACQ_IN_CFG_EN i) && g.rd (Reg.ACQ_MCLK_FREQ clk) == 0) x.c 4
      (recordOf s x.c 4 (Reg.ACQ_IN_CFG i).key)) ++
  upTo_ 256 (fun ch =>
    let a := g.rd (Reg.ACQ_CHAN_CFG_SEL_A ch)
    let b := g.rd (Reg.ACQ_CHAN_CFG_SEL_B ch)
    fmtIf (g.rd (Reg.ACQ_CHAN_CFG_SRC ch) == 2 && g.rd (Reg.ACQ_IN_CFG_CLK a) != g.rd (Reg.ACQ_IN_CFG_CLK b)) x.c 4
      (recordOf s x.c 4 (Reg.ACQ_CHAN_CFG ch).key))

/-- Whether a publication list entry is refused (R367). -/
def entryBad (x : Checked) (bool : Bool) (e : Nat) : Bool :=
  let slot := e % 16384
  (bitAt e 14 && !bool) ||
  (if bitAt e 15 then x.cfg.rd (Reg.ACQ_CHAN_CFG_SRC (e % 256)) == 0
   else !x.d.items.any (fun it => decide (it.outBase ≤ slot) && decide (slot < it.outBase + it.nOut)))

/-- Entries of the publication list. -/
def listBad (x : Checked) (bool : Bool) (first n : Nat) : List (Nat × Nat) :=
  fmtIf (decide (8192 < first + n)) x.c 6 first ++
  upTo_ n (fun j => fmtIf (decide (first + j < 8192) && entryBad x bool (listEntry x.cfg (first + j))) x.c 6 (first + j))

/-- The publications (R351, R354, R361, R366, R367). -/
def checkPubs (x : Checked) : List (Nat × Nat) :=
  let g := x.cfg
  let rate := rateOf x.d.rate
  upTo_ 64 (fun n => fmtIf (g.bit (Reg.MPR_SV_CFG_EN n) && (g.rd (Reg.MPR_SV_CFG_KIND n) == 3 ||
    rate % svRate g (g.rd (Reg.MPR_SV_CFG_KIND n)) != 0)) x.c 6 n) ++
  upTo_ 128 (fun n => if g.bit (Reg.MPR_GOOSE_CFG_EN n) then
    let lo := g.rd (Reg.MPR_GOOSE_TIMING_T_MIN n)
    let hi := g.rd (Reg.MPR_GOOSE_TIMING_T_MAX n)
    fmtIf (decide (lo < 1) || decide (100 < lo) || decide (hi < 100) || decide (60000 < hi)) x.c 6 n ++
    listBad x true (g.rd (Reg.MPR_GOOSE_CFG_LIST_IDX n)) (g.rd (Reg.MPR_GOOSE_CFG_N_ENT n) + 1) else []) ++
  upTo_ 32 (fun n => if g.bit (Reg.MPR_C37_CFG_EN n) then
    fmtIf (decide (16 < g.rd (Reg.MPR_C37_CFG_N_ANALOG n))) x.c 6 n ++
    listBad x false (g.rd (Reg.MPR_C37_CFG_LIST_IDX n))
      (2 * (g.rd (Reg.MPR_C37_CFG_N_PHASOR_M1 n) + 1) + 2 + min 16 (g.rd (Reg.MPR_C37_CFG_N_ANALOG n))) else []) ++
  upTo_ 256 (fun n => if g.bit (Reg.MPR_HPUB_CFG_EN n) then
    let k := g.rd (Reg.MPR_HPUB_CFG_N n)
    fmtIf (k == 0 || decide (512 < k) || g.rd (Reg.MPR_HPUB_CFG_DIV n) == 0) x.c 6 n ++
    listBad x false (g.rd (Reg.MPR_HPUB_LIST_LIST_IDX n)) (min k 512) else [])

/-- The disturbance recorder, its triggers and the ring list (R368, R370, Table 07.10, R384). -/
def checkRecorder (x : Checked) : List (Nat × Nat) :=
  let g := x.cfg
  let na := g.rd Reg.MPR_DR_CHAN_NA
  let nd := g.rd Reg.MPR_DR_CHAN_ND
  let pre := min 2000 (g.rd Reg.MPR_DR_CFG_PRE_MS)
  let dr := fun j => if j % 2 = 0 then g.rd (Reg.MPR_DR_LIST_ENTRY0 (j / 2)) else g.rd (Reg.MPR_DR_LIST_ENTRY1 (j / 2))
  let n := g.rd Reg.MRG_CONTRIB_N
  fmtIf (decide (32 < na) || decide (32 < nd) ||
    decide (4 * 1048576 * 1000 < (8 + 4 * na + 2 * ceilDiv nd 16) * rateOf x.d.rate * pre)) x.c 6 0 ++
  upTo_ (min 32 na) (fun j => fmtIf (entryBad x false (dr j)) x.c 6 j) ++
  upTo_ 32 (fun t =>
    let typ := g.rd (Reg.MPR_TRIG_CFG_TYPE t)
    fmtIf (decide (6 ≤ typ) || (decide (1 ≤ typ) && decide (typ ≤ 3) && entryBad x false (g.rd (Reg.MPR_TRIG_CFG_SRC t)))) x.c 6 t) ++
  fmtIf (decide (126 < n)) x.c 7 0 ++ upTo_ (min 126 n) (fun j => fmtIf (entryBad x false (ringEntry g j)) x.c 7 j)

/-- The ranges of a ROUT section's fields (R437, Table 09.10). (DEDUCED, log 15) -/
def checkRoutes (s : State) (x : Checked) : List (Nat × Nat) :=
  let g := x.cfg
  let fn := fun (n : Nat) => decide (512 ≤ n) && n != 0x3FF
  upTo_ 512 (fun r => fieldRange s x 5 (Reg.PKT_FRER_REC_CFG r) (g.bit (Reg.PKT_FRER_REC_CFG_EN r) &&
    (decide (g.rd (Reg.PKT_FRER_REC_CFG_HISTORY r) < 2) || decide (64 < g.rd (Reg.PKT_FRER_REC_CFG_HISTORY r)) ||
      g.rd (Reg.PKT_FRER_REC_CFG_RESET_MS r) == 0))) ++
  upTo_ 2 (fun r => fieldRange s x 5 (Reg.PKT_RED_RCFG r) (g.rd (Reg.PKT_RED_RCFG_MODE r) == 3)) ++
  upTo_ 1024 (fun n => fieldRange s x 5 (Reg.PKT_SF_FRER n) (fn (g.rd (Reg.PKT_SF_FRER_GEN n)) || fn (g.rd (Reg.PKT_SF_FRER_REC n))))

/-- The range of D (Table 08.10), and what an MRNG patch may not change (Table 08.6). (DEDUCED, log 15) -/
def checkRing (s : State) (x : Checked) : List (Nat × Nat) :=
  let g := x.cfg
  fieldRange s x 7 Reg.MRG_CFG (decide (g.rd Reg.MRG_CFG_D < 1) || decide (8 < g.rd Reg.MRG_CFG_D)) ++
  fmtIf (x.amend && (x.c.find 7).isSome && (s.rd Reg.MRG_CFG_NODE_ID != g.rd Reg.MRG_CFG_NODE_ID ||
    s.rd Reg.MRG_CFG_RING_ID != g.rd Reg.MRG_CFG_RING_ID || s.rd Reg.MRG_CFG_D != g.rd Reg.MRG_CFG_D ||
    s.rd Reg.MRG_MEMBER != g.rd Reg.MRG_MEMBER)) x.c 7 (recordOf s x.c 7 Reg.MRG_CFG.key)

/-- The pins and channels of a CLIM section (R758). -/
def checkClim (x : Checked) : List (Nat × Nat) :=
  let g := x.cfg
  let pin := fun f ch => (List.range 48).any (fun n => g.rd (Reg.CLM_CIO_FUNC n) == f && g.rd (Reg.CLM_CIO_CHAN n) == ch)
  if (x.c.find 9).isNone then []
  else
    upTo_ 48 (fun n =>
      let f := g.rd (Reg.CLM_CIO_FUNC n)
      fmtIf (decide (10 < f) || (decide (3 ≤ f) && (List.range n).any (fun m =>
        g.rd (Reg.CLM_CIO_FUNC m) == f && g.rd (Reg.CLM_CIO_CHAN m) == g.rd (Reg.CLM_CIO_CHAN n)))) x.c 9 n) ++
    upTo_ 8 (fun k =>
      let fb := g.rd (Reg.CLM_DMP_CFG_FB k)
      let valve := if g.bit (Reg.CLM_VLV_CFG_MODE k) then pin 6 k && pin 7 k else pin 5 k
      fmtIf ((g.bit (Reg.CLM_DMP_CFG_EN k) && !(pin 3 k && pin 4 k)) || (g.bit (Reg.CLM_VLV_CFG_EN k) && !valve) ||
        (g.bit (Reg.CLM_HTR_CFG_EN k) && !pin 8 k) ||
        ((fb == 1 || fb == 2) && g.rd (Reg.CLM_DMP_FB_SPAN k) == g.rd (Reg.CLM_DMP_FB_ZERO k))) x.c 9 k)

/-- The ranges of a CLIM section's fields (Table 16.10). (DEDUCED, log 15) -/
def checkClimRanges (s : State) (x : Checked) : List (Nat × Nat) :=
  let g := x.cfg
  let out := fun (lo hi v : Nat) => decide (v < lo) || decide (hi < v)
  let r := fieldRange s x 9
  r Reg.CLM_TZ_OFS_MIN (decide (840 < (g.rdInt Reg.CLM_TZ_OFS_MIN).natAbs)) ++
  r Reg.CLM_H2CFG_H2_HOLD (out 1 255 (g.rd Reg.CLM_H2CFG_H2_HOLD) || out 0 100 (g.rd Reg.CLM_H2CFG_VENT_PRES_PCT)) ++
  r Reg.CLM_MSTP_CFG (out 0 5 (g.rd Reg.CLM_MSTP_CFG_BAUD) || out 1 15 (g.rd Reg.CLM_MSTP_CFG_MAX_INFO) ||
    out 1 127 (g.rd Reg.CLM_MSTP_CFG_MAX_MASTER)) ++
  upTo_ 32 (fun e => r (Reg.CLM_EXC_DATE_EN e) (g.bit (Reg.CLM_EXC_DATE_EN e) && g.rd (Reg.CLM_EXC_DATE_PROFILE e) != 7)) ++
  upTo_ 8 (fun d => r (Reg.CLM_DMP_STROKE_STROKE_S d) (g.bit (Reg.CLM_DMP_CFG_EN d) &&
    (g.rd (Reg.CLM_DMP_STROKE_STROKE_S d) == 0 || g.rd (Reg.CLM_DMP_STROKE_STALL_S d) == 0))) ++
  upTo_ 8 (fun v => r (Reg.CLM_VLV_TIME_PERIOD v) (g.bit (Reg.CLM_VLV_CFG_EN v) &&
    (if g.bit (Reg.CLM_VLV_CFG_MODE v) then g.rd (Reg.CLM_VLV_TIME_PERIOD v) == 0 else out 10 60000 (g.rd (Reg.CLM_VLV_TIME_PERIOD v)))))

/-- The ranges of the FAN and MTR fields that a CLIM section loads (Table 17.8, Table 17.10, R782, R783), of the channels that it enables. (DEDUCED, log 15) -/
def checkMoverRanges (s : State) (x : Checked) : List (Nat × Nat) :=
  let g := x.cfg
  let out := fun (lo hi v : Nat) => decide (v < lo) || decide (hi < v)
  let r := fieldRange s x 9
  upTo_ 12 (fun c => r (Reg.FAN_CH_CFG_EN c) (g.bit (Reg.FAN_CH_CFG_EN c) && (out 1 4 (g.rd (Reg.FAN_CH_CFG_PPR c)) ||
    (decide (3 < g.rd (Reg.FAN_CH_CFG_GROUP c)) && g.rd (Reg.FAN_CH_CFG_GROUP c) != 0xF)))) ++
  upTo_ 4 (fun m =>
    let on := g.bit (Reg.MTR_CH_CFG_EN m)
    r (Reg.MTR_CH_CFG_EN m) (on && out 1 15 (g.rd (Reg.MTR_CH_CFG_POLE_PAIRS m))) ++
    r (Reg.MTR_CH_PWM_TOP m) (on && (out 2000 12500 (g.rd (Reg.MTR_CH_PWM_TOP m)) || out 10 255 (g.rd (Reg.MTR_CH_PWM_DT m)))) ++
    r (Reg.MTR_CH_START_TRIES m) (on && g.rd (Reg.MTR_CH_START_TRIES m) == 0))

/-- SECTION_FORMAT, each entry once. (DEDUCED, log 15) -/
def checkFormat (s : State) (x : Checked) : List (Nat × Nat) :=
  (checkShapes s x ++ checkItems x ++ checkInputs s x ++ checkAcqRanges s x ++ checkPubs x ++ checkRecorder x ++ checkRoutes s x ++ checkRing s x ++ checkClim x ++
    checkClimRanges s x ++ checkMoverRanges s x).eraseDups

/-! ### The slot map (0x0301–0x0303) -/

/-- The slots of an entry. -/
def spanOf (e : SlotE) : List Nat := (List.range (e.last + 1 - e.first)).map (· + e.first)

/-- Whether an entry's RES and OWNER are those of Table 03.6 (R347). -/
def entryNames (d : Sched) (e : SlotE) : Bool :=
  let item := d.items.any (fun it => it.item == e.owner)
  match e.rtype with
  | 1 => decide (e.res < 80) && (if e.retry then e.owner == 0xFFFF else item)
  | 2 => decide (e.res < 24) && item
  | 3 => decide (e.res < 16) && decide (e.owner < 16)
  | 4 => decide (e.res < 8) && (decide (e.owner < 224) || decide (256 ≤ e.owner) && decide (e.owner < 512))
  | 5 => decide (e.res < 6) && decide (e.owner < 8)
  | _ => true

/-- Whether two entries share a slot of one resource. -/
def conflict (a b : SlotE) : Bool :=
  a.rtype == b.rtype && a.res == b.res && decide (a.first ≤ a.last) && decide (b.first ≤ b.last) &&
    decide (a.first ≤ b.last) && decide (b.first ≤ a.last)

/-- RATE_CODE, SLOT_RANGE, SLOT_CONFLICT. -/
def checkSlots (x : Checked) : List (Nat × Nat) :=
  let es := x.d.slots
  failIf (decide (5 < x.d.rate)) 0x0301 x.d.rate ++
  upTo_ es.length (fun k => match es[k]? with
    | some e => failIf (decide (e.last < e.first) || decide (495 < e.last) || !entryNames x.d e) 0x0302 (2 ^ 16 * k)
    | none => []) ++
  upTo_ es.length (fun k => match es[k]? with
    | some e => match (List.range k).find? (fun j => (es[j]?).any (fun o => conflict o e)) with
      | some j => [(0x0303, 2 ^ 16 * k + 2 ^ 8 * (j % 256))]
      | none => []
    | none => [])

/-! ### Cores, pairs and budgets (0x0304–0x030B) -/

/-- Counts of working and spare cores. -/
def coreCounts (d : Sched) : Nat × Nat := (popCount 80 d.work, popCount 80 d.spare)

/-- CORE_LIMIT. -/
def checkCores (d : Sched) : List (Nat × Nat) :=
  let n := coreCounts d
  failIf (decide (64 < n.1) || decide (n.2 < 16) || Nat.land d.work d.spare != 0 ||
    d.items.any (fun it => !bitAt d.work it.coreA || !bitAt d.work it.coreB)) 0x0304 (2 ^ 8 * n.1 + n.2)

/-- The members of an item, each once. -/
def membersOf (it : ItemE) : List Nat := if it.coreA = it.coreB then [it.coreA] else [it.coreA, it.coreB]

/-- The RETRY slots of a core. -/
def retryOf (d : Sched) (core : Nat) : List Nat :=
  ((d.slots.filter (fun e => e.rtype == 1 && e.retry && e.res == core)).flatMap spanOf).eraseDups

/-- The slots of a core that are assigned to an item. -/
def assignedOf (d : Sched) (core item : Nat) : List Nat :=
  ((d.slots.filter (fun e => e.rtype == 1 && !e.retry && e.res == core && e.owner == item)).flatMap spanOf).eraseDups

/-- PAIR_QUADRANT, RETRY_RESERVE, WCET, KERNEL_UNKNOWN. -/
def checkBudgets (x : Checked) : List (Nat × Nat) :=
  let d := x.d
  let cyc := slotCyc (rateOf d.rate)
  d.items.flatMap (fun it => failIf (it.coreA / 20 == it.coreB / 20) 0x0305 (2 ^ 16 * it.item)) ++
  (bitList 80 d.work).flatMap (fun c => failIf (decide ((retryOf d c).length < 75)) 0x0306 (2 ^ 16 * 0xFFFF + 2 ^ 8 * c)) ++
  d.items.flatMap (fun it => (membersOf it).flatMap (fun c =>
    let n := ((retryOf d c).filter (fun q => decide (it.compare < q))).length
    failIf ((d.kern it.kernel).isSome && decide (n * cyc < d.wcet it)) 0x0306 (2 ^ 16 * it.item + 2 ^ 8 * c))) ++
  d.items.flatMap (fun it =>
    match d.kern it.kernel with
    | none => []
    | some k =>
      (membersOf it).flatMap (fun c =>
        failIf (decide ((assignedOf d c it.item).length * cyc < d.wcet it)) 0x0307 (2 ^ 16 * it.item + 2 ^ 8 * c)) ++
      failIf (decide (k.stateMax < 64 * it.stateLen)) 0x0307 (2 ^ 16 * it.item + 2 ^ 8 * it.coreA)) ++
  d.items.flatMap (fun it => failIf (d.kern it.kernel).isNone 0x0308 (2 ^ 16 * it.item))

/-- KERNEL_STORE; an amendment's stores also hold the kernels in force (R206). -/
def checkStores (s : State) (x : Checked) : List (Nat × Nat) :=
  upTo_ 80 (fun c =>
    let old := if x.amend then ((s.img.sched.map (fun d => storeOf d c)).getD []) else []
    let ks := (storeOf x.d c ++ old).eraseDups
    failIf ((bitAt x.d.work c || bitAt x.d.spare c) && decide (65536 < (ks.map KernE.codeLen).sum)) 0x0309 (2 ^ 8 * c))

/-- The quadrants of a core's partners. -/
def partnersOf (d : Sched) (core : Nat) : List Nat :=
  d.items.flatMap (fun it => (if it.coreA = core then [it.coreB / 20] else []) ++ (if it.coreB = core then [it.coreA / 20] else []))

/-- The spares that may take a core's work: they cover it and lie outside its partners' quadrants. -/
def sparesFor (d : Sched) (core : Nat) : List Nat :=
  (bitList 80 d.spare).filter (fun sp => bitAt (d.coverOf sp) core && !(partnersOf d core).contains (sp / 20))

/-- SPARE_COVER. -/
def checkCover (d : Sched) : List (Nat × Nat) :=
  (bitList 80 d.work).flatMap (fun c => failIf (sparesFor d c).isEmpty 0x030A (2 ^ 8 * c))

/-- COMPARE_POINT, CHANNEL, CLASS_P_KERNEL. -/
def checkPoints (x : Checked) : List (Nat × Nat) :=
  let d := x.d
  d.items.flatMap (fun it => failIf ((membersOf it).any (fun c =>
    (assignedOf d c it.item).any (fun q => decide (it.compare ≤ q)))) 0x030B (2 ^ 16 * it.item)) ++
  d.items.flatMap (fun it => failIf (decide (d.chlist.length < it.inIndex + it.nIn) ||
    (d.inputs it).any (fun ch => decide (255 < ch) || !channelOn x.cfg ch)) 0x030C (2 ^ 16 * it.item)) ++
  d.items.flatMap (fun it => failIf (it.cls == 0 && (d.kern it.kernel).any (fun k => !k.pQual)) 0x030D (2 ^ 16 * it.item))

/-! ### Packet engine, tenants and quadrant loss (0x030E–0x0311) -/

/-- SILO_QUOTA. -/
def checkSilo (x : Checked) : List (Nat × Nat) :=
  let g := x.cfg
  let rsv := g.rd Reg.SLO_PROT_RSV_CELLS
  let all := rsv + ((List.range 139).map (fun a => g.rd (Reg.SLO_ACCT_GUAR_CELLS a))).sum
  failIf (decide (131072 < all)) 0x030E (all - 131072) ++
  upTo_ 139 (fun a =>
    let m := g.rd (Reg.SLO_ACCT_MAX_CELLS a)
    failIf (decide (131072 - rsv < m)) 0x030E (m - (131072 - rsv)))

/-- The gate states of a port in each slot of its cycle. -/
def gateSlots (g : State) (p : Nat) : List Nat :=
  (List.range (g.rd (Reg.PKT_GCFG_LEN_LEN p))).flatMap (fun j =>
    List.replicate (g.rd (Reg.PKT_GCL_DUR_M1 p j) + 1) (g.rd (Reg.PKT_GCL_GATES p j)))

/-- The traffic classes whose windows hold a slot of a port. -/
def windowOf (d : Sched) (p slot : Nat) : Nat :=
  (d.slots.filter (fun e => e.rtype == 5 && e.res == p && decide (e.first ≤ slot) && decide (slot ≤ e.last))).foldl
    (fun m e => setBitAt m (e.owner % 8) true) 0

/-- GATE_LIST (R428, R429). -/
def checkGates (x : Checked) : List (Nat × Nat) :=
  let g := x.cfg
  upTo_ 6 (fun p =>
    let len := g.rd (Reg.PKT_GCFG_LEN_LEN p)
    let mult := g.rd (Reg.PKT_GCFG_LEN_MULT p)
    let gs := gateSlots g p
    let sized := decide (1 ≤ len) && decide (len ≤ 256) && decide (1 ≤ mult) && decide (mult ≤ 16) && gs.length == 512 * mult
    failIf (!(sized && (List.range mult).all (fun t => (List.range 496).all (fun q =>
      gs.getD (512 * t + q) 0 == windowOf x.d p q)))) 0x030F (2 ^ 8 * p))

/-- TENANT_TOTAL; resources are numbered as the rows of Table 11.9. -/
def checkTenants (x : Checked) : List (Nat × Nat) :=
  let g := x.cfg
  let sum := fun (f : Nat → Nat) => ((List.range 128).map f).sum
  let qp := fun t => g.rd (Reg.HIF_TEN_QP_LIMIT t)
  let vec := fun t => g.rd (Reg.HIF_TEN_VEC_LIMIT t)
  failIf (decide (1024 < sum qp)) 0x0310 0 ++ failIf (decide (2048 < sum vec)) 0x0310 (2 ^ 8) ++
  failIf (decide (8192 < sum (fun t => g.rd (Reg.TUN_TEN_COUNT_COUNT t)))) 0x0310 (2 ^ 8 * 4) ++
  failIf (decide (16384 < sum (fun t => g.rd (Reg.CRY_TEN_SA_CNT t)))) 0x0310 (2 ^ 8 * 5) ++
  failIf (decide (64 < sum (fun t => g.rd (Reg.HIF_TEN_MBX_COUNT t)))) 0x0310 (2 ^ 8 * 7) ++
  upTo_ 128 (fun t => failIf (decide (64 < qp t)) 0x0310 (2 ^ 16 * t) ++ failIf (decide (64 < vec t)) 0x0310 (2 ^ 16 * t + 2 ^ 8))

/-- Whether each of several choices can be met by a value of its own, none of them already taken. -/
def distinctChoice : List (List Nat) → List Nat → Bool
  | [], _ => true
  | xs :: rest, taken => xs.any (fun v => !taken.contains v && distinctChoice rest (v :: taken))

/-- QUADRANT_LOSS. -/
def checkLoss (d : Sched) : List (Nat × Nat) :=
  upTo_ 4 (fun q =>
    let cores := (bitList 80 d.work).filter (fun c => c / 20 == q && d.items.any (fun it =>
      it.cls == 0 && (it.coreA == c || it.coreB == c)))
    failIf (!distinctChoice (cores.map (fun c => (sparesFor d c).filter (fun sp => sp / 20 != q))) []) 0x0311 (2 ^ 8 * q))

/-! ### Targets (0x0312) -/

/-- The blocks that Table 03.10 permits for a section. -/
def permittedBlocks : Nat → List Nat
  | 4 => [Blk.acq, Blk.twc]
  | 5 => [Blk.pkt, Blk.slo, Blk.tun, Blk.cry]
  | 6 => [Blk.mpr]
  | 7 => [Blk.mrg]
  | 8 => [Blk.hif]
  | 9 => [Blk.clm, Blk.fan, Blk.mtr, Blk.uar, Blk.iic]
  | _ => []

/-- Whether an address lies in the key vault (R170). -/
def inVault (a : Nat) : Bool :=
  decide (0x500010 ≤ a) && decide (a < 0x500048) || decide (0x510000 ≤ a) && decide (a < 0x530000) && decide (a % 0x10000 < 0x8000)

/-- Whether an address lies in PF BAR0 and in the active half of its page (R169). -/
def activeHalf (a : Nat) : Bool := decide (a < 0x4000000) && decide (a % 0x10000 < 0x8000)

/-- Whether a word of a table-load record lies where its section may write (R170). -/
def targetOk (typ a : Nat) : Bool :=
  activeHalf a && !inVault a && match findBlock blocks a with
    | some b => (permittedBlocks typ).contains b.id
    | none => false

/-- The blocks that a REGS triple must not target (R172). -/
def shutBlocks : List Nat := [Blk.img, Blk.tik, Blk.saf, Blk.rst, Blk.pwr, Blk.grn, Blk.mbx, Blk.bbx, Blk.dbg]

/-- The bits of a register that R172 lets a mask cover: every bit of a field that is not class S. -/
def openMask (r : RegD) : Word := (r.fields.filter (fun f => f.cls != .struc)).foldl (fun m f => m ||| maskOf f.lo f.w) 0

/-- Whether a REGS triple meets R172. (DEDUCED, log 15) -/
def tripleOk (w : PatchW) : Bool :=
  w.target % 4 == 0 && activeHalf w.target && !inVault w.target && match findBlock blocks w.target with
    | none => false
    | some b => !shutBlocks.contains b.id && match b.findReg (w.target - b.base) with
      | none => w.mask == 0
      | some r => (w.mask &&& ~~~(openMask r)) == 0

/-- TARGET_RANGE, in section table order. -/
def checkTargets (s : State) (x : Checked) : List (Nat × Nat) :=
  x.c.sects.flatMap (fun e =>
    if 4 ≤ e.typ ∧ e.typ ≤ 9 then
      (records s x.c e.typ).flatMap (fun r =>
        failIf (!(recWords r).all (fun w => targetOk e.typ w.target)) 0x0312 (e.ix + 2 ^ 16 * r.ix))
    else if e.typ = 10 then
      upTo_ (triples s x.c).length (fun k => match (triples s x.c)[k]? with
        | some w => failIf (!tripleOk w) 0x0312 (e.ix + 2 ^ 16 * (k % 2 ^ 16))
        | none => [])
    else [])

/-! ### Amendment conditions (Table 04.2) -/

/-- The bits that an amendment's word would set in class Q fields (R233). -/
def quietMask (w : PatchW) : Word :=
  match regAt w.target with
  | none => 0
  | some (_, r) => w.mask &&& (r.fields.filter (fun f => f.cls == .quiet)).foldl (fun m f => m ||| maskOf f.lo f.w) 0

/-- The carried items with a new member on one side: item, old member, new member, bytes (R225). -/
def moves (s : State) (new : Sched) : List (Nat × Nat × Nat × Nat) :=
  match s.img.sched with
  | none => []
  | some old => new.items.flatMap (fun it =>
      if carried old new it then
        (if memA s it.item ≠ it.coreA then [(it.item, memA s it.item, it.coreA, 64 * it.stateLen)] else []) ++
        (if memB s it.item ≠ it.coreB then [(it.item, memB s it.item, it.coreB, 64 * it.stateLen)] else [])
      else [])

/-- R200 holds. -/
def baseOk (s : State) (h : ImgHdr) : Bool :=
  h.baseId == s.rd Reg.IMG_ACTIVE_ID && h.baseVer == s.rd Reg.IMG_ACTIVE_VER && h.id == h.baseId && decide (h.baseVer < h.ver)

/-- The conditions that the guard tests, in code order (R207). -/
def checkAmend (s : State) (x : Checked) : List (Nat × Nat) :=
  if !x.amend then []
  else
    let h := x.c.hdr
    let words := imgWords s x.c
    let need := words.length
    let masks := Nat.lor x.d.work x.d.spare
    let all := schedOf s x.c
    failIf (s.img.sched.isNone || s.bit Reg.IMG_STATUS_COPY_DAMAGED) 0x0401 0 ++
    failIf (!baseOk s h) 0x0402 (s.rd Reg.IMG_ACTIVE_VER) ++
    failIf (decide (65536 < s.rd Reg.IMG_AMD_OVL_ENTRIES + need)) 0x0403 need ++
    [1, 2, 3].flatMap (fun t => failIf ((x.c.find t).all (fun e => bitAt e.flags 0)) 0x0404 t) ++
    [4, 5, 6, 7, 8, 9, 10].flatMap (fun t => failIf ((x.c.find t).any (fun e => !bitAt e.flags 0)) 0x0404 t) ++
    failIf ((x.c.find 11).any (fun e => bitAt e.flags 0)) 0x0404 11 ++
    failIf (x.d.rate != s.rd Reg.TIK_CFG_RATE) 0x0405 x.d.rate ++
    (bitList 80 (Nat.lor all.work all.spare)).flatMap (fun c => failIf (!bitAt masks c) 0x0406 (2 ^ 8 * c)) ++
    upTo_ 20 (fun sh => failIf (decide (32768 < (((moves s x.d).filter (fun m => m.2.2.1 / 4 == sh)).map (fun m => m.2.2.2)).sum))
      0x0407 (2 ^ 8 * sh)) ++
    words.flatMap (fun w => failIf ((s.reg w.target &&& quietMask w) != (w.value &&& quietMask w)) 0x0408 w.target)

/-- Every check, in code order (R181, R207). (DEDUCED, log 15) -/
def guardFailures (s : State) (base : Nat) : List (Nat × Nat) :=
  let x := checkedAt s base
  checkReserved s x ++ checkFormat s x ++ checkSlots x ++ checkCores x.d ++ checkBudgets x ++ checkStores s x ++ checkCover x.d ++
  checkPoints x ++ checkSilo x ++ checkGates x ++ checkTenants x ++ checkLoss x.d ++ checkTargets s x ++ checkAmend s x

/-- Whether an amendment changes class P: an item added or removed, its entry, parameter block, kernel or slots (R230). (DEDUCED, log 18) -/
def changesP (old new : Sched) : Bool :=
  let slots := fun (d : Sched) n => (d.slots.filter (fun e => !e.retry && decide (e.rtype ≤ 2) && e.owner == n))
  let nums := ((old.items ++ new.items).filter (fun it => it.cls == 0)).map ItemE.item
  nums.any (fun n =>
    let a := old.find n
    let b := new.find n
    decide (a ≠ b) || decide (a.map (itemParams old) ≠ b.map (itemParams new)) ||
    decide (a.map (fun it => old.kern it.kernel) ≠ b.map (fun it => new.kern it.kernel)) || decide (slots old n ≠ slots new n))

end Sys2Proof.Machine
end

