-- ==== Sys2Proof/Machine/Grn.lean ====
section
/-! DEFINITION. The Granary: its bytes, the journal, the commands, the read window and the block protection ("Granary, settings and
firmware slots"). -/

namespace Sys2Proof.Machine

/-! ### Bytes (R693, R699, R710) -/

/-- A byte of the Granary. (DESIGN CHOICE, log 5) -/
def gByte (s : State) (a : Nat) : Byte := Tab.get 0xFF s.grn.mem a

/-- Bytes of the Granary. -/
def gBytes (s : State) (a n : Nat) : List Byte := (List.range n).map (fun i => gByte s (a + i))

/-- A program pulse at one byte never sets a bit (R699). -/
def gCell (s : State) (p : Nat × Byte) : State :=
  { s with grn := { s.grn with mem := Tab.put 0xFF s.grn.mem p.1 (gByte s p.1 &&& p.2) } }

/-- A program pulse. -/
def gCells (s : State) (ps : List (Nat × Byte)) : State := ps.foldl gCell s

/-- Addresses from `a` on beside bytes. -/
def cellsAt (a : Nat) (bs : List Byte) : List (Nat × Byte) := (List.range bs.length).map (fun i => (a + i, bs.getD i 0))

/-- Program consecutive bytes. -/
def gProgram (s : State) (a : Nat) (bs : List Byte) : State := gCells s (cellsAt a bs)

/-- Erase a range: every byte reads 0xFF (R693). -/
def gErase (s : State) (a n : Nat) : State :=
  { s with grn := { s.grn with mem := s.grn.mem.filter (fun p => !(decide (a ≤ p.1) && decide (p.1 < a + n))) } }

/-- Whether a range is erased. -/
def gErased (s : State) (a n : Nat) : Bool := s.grn.mem.all (fun p => !(decide (a ≤ p.1) && decide (p.1 < a + n)))

/-- A program that was interrupted or failed leaves each byte at some mix of its old and new bits (R701, R710): a free value. (DEDUCED, log 42) -/
def gMix (s : State) (ps : List (Nat × Byte)) : State :=
  ps.foldl (fun s p => gCell s.used (p.1, p.2 ||| s.free.truncate 8)) s

/-- An erase that failed leaves each byte of the sector at some mix of its old bits and ones: a free value. (DEDUCED, log 42) -/
def gHalfErased (s : State) (sector : Nat) : State :=
  ((List.range 4096).map (fun i => sector + i)).foldl
    (fun s a => { s.used with grn := { s.grn with mem := Tab.put 0xFF s.grn.mem a (gByte s a ||| s.free.truncate 8) } }) s

/-- The sector of an address. -/
def sectorOf (a : Nat) : Nat := a - a % 4096

/-- The bank of an address. -/
def bankOf (a : Nat) : Nat := a / 0x80000

/-! ### Protection and regions (R694, R706) -/

/-- The protected part of a bank: its first address (Table 15.4). -/
def protStart (bank bp : Nat) : Option Nat :=
  match bp with
  | 1 => some (bank * 0x80000 + 0x60000)
  | 2 => some (bank * 0x80000 + 0x40000)
  | 3 => some (bank * 0x80000)
  | _ => none

/-- Whether GRN_PROT protects any byte of a range. -/
def gProtected (s : State) (a n : Nat) : Bool :=
  [(0, s.rd Reg.GRN_PROT_BP0), (1, s.rd Reg.GRN_PROT_BP1)].any (fun p =>
    match protStart p.1 p.2 with
    | none => false
    | some lo => decide (a < (p.1 + 1) * 0x80000) && decide (lo < a + n))

/-- Whether an erase of a range is refused: the range or the journal is protected (R706). -/
def eraseProtected (s : State) (a n : Nat) : Bool := gProtected s a n || gProtected s 0x4000 0x4000

/-- The regions that an initiator may program and erase (Table 15.1). -/
def grnRegions (i : Ident) : List (Nat × Nat) :=
  if isMgmt i then [(0x2000, 0x4000), (0x10000, 0x50000), (0x52000, 0x80000), (0xC0000, 0x100000)]
  else if i.toNat = 1 then [(0xC0000, 0x100000)] else []

/-- Whether a range lies in a region of its initiator. -/
def inRegion (i : Ident) (a n : Nat) : Bool := (grnRegions i).any (fun p => decide (p.1 ≤ a) && decide (a + n ≤ p.2))

/-! ### Status -/

/-- Whether a program or an erase runs. -/
def grnRunning (s : State) : Bool := s.grn.run.isSome

/-- Whether a black-box snapshot, or the erase of one of its slots, runs. -/
def bbxWorks (s : State) : Bool := s.bbx.snap.isSome || !s.bbx.erasing.isEmpty

/-- Whether an operation runs that refuses a command with BUSY (R698). -/
def grnBusy (s : State) : Bool := grnRunning s || bbxWorks s || s.grn.prot.isSome

/-- GRN_STATUS shows the operation that runs. -/
def showGrn (s : State) : State :=
  let scan := s.bit Reg.GRN_STATUS_SCAN
  let op := if scan then 4 else if s.bbx.snap.isSome then 3 else match s.grn.run with
    | some (.program ..) => 1
    | some (.erase ..) => 2
    | none => if !s.bbx.erasing.isEmpty then 2 else 0
  let s := (s.wr Reg.GRN_STATUS_OP op).setBit Reg.GRN_STATUS_BUSY (scan || grnBusy s)
  let s := (s.setBit Reg.GRN_STATUS_PROT_BUSY s.grn.prot.isSome).setBit Reg.GRN_STATUS_SUSPENDED s.grn.susp.isSome
  match s.grn.susp with
  | some (.erase _ sec _) => s.wr Reg.GRN_SUSP_ADDR_SECTOR (sec / 4096)
  | _ => s

/-! ### The journal (R702–R704) -/

/-- The bytes of an intent entry (Table 15.3). -/
def intentBytes (sector seq : Nat) : List Byte :=
  let head : List Byte := [0x47, 0x4A, 1]
  let rest := toLe 4 sector ++ toLe 4 seq
  head ++ [0xFE] ++ rest ++ toLe 4 (crc32c (head ++ rest))

/-- A valid journal entry at an address: sector, sequence, done. -/
def entryAt (s : State) (a : Nat) : Option (Nat × Nat × Bool) :=
  if gByte s a ≠ 0x47 then none
  else
    let b := gBytes s a 16
    if b.getD 1 0 = 0x4A ∧ crc32c (b.take 3 ++ (b.drop 4).take 8) = leNat (b.drop 12) then
      some (leNat ((b.drop 4).take 4), leNat ((b.drop 8).take 4), b.getD 3 0 == 0)
    else none

/-- The first address of a ring. -/
def ringBase (r : Nat) : Nat := 0x4000 + 0x2000 * r

/-- The valid entries of a journal sector: address, sector, sequence, done. -/
def entriesIn (s : State) (sec : Nat) : List (Nat × Nat × Nat × Bool) :=
  ((List.range 256).map (fun i => sec + 16 * i)).filterMap (fun a => (entryAt s a).map (fun e => (a, e)))

/-- The valid entries of a ring. -/
def ringEntries (s : State) (r : Nat) : List (Nat × Nat × Nat × Bool) :=
  entriesIn s (ringBase r) ++ entriesIn s (ringBase r + 4096)

/-- The highest sequence among entries. -/
def topSeq (es : List (Nat × Nat × Nat × Bool)) : Nat := es.foldl (fun m e => max m e.2.2.1) 0

/-- The current sector of a ring: the one with the newest valid entry; the first while the ring holds none. -/
def curSector (s : State) (r : Nat) : Nat :=
  let b := ringBase r
  let x := entriesIn s b
  let y := entriesIn s (b + 4096)
  if y.isEmpty then b else if x.isEmpty then b + 4096 else if topSeq x < topSeq y then b + 4096 else b

/-- The other sector of a ring. -/
def otherSector (s : State) (r : Nat) : Nat := 2 * ringBase r + 4096 - curSector s r

/-- The first free position of the current sector. -/
def freeEntry (s : State) (r : Nat) : Option Nat :=
  ((List.range 256).map (fun i => curSector s r + 16 * i)).find? (fun a => gErased s a 16)

/-- Whether a ring cannot take an intent (R704): its current sector is full and the other holds an entry that is not done. -/
def ringBlocked (s : State) (r : Nat) : Bool :=
  (freeEntry s r).isNone && (entriesIn s (otherSector s r)).any (fun e => !e.2.2.2)

/-- The next journal sequence. -/
def nextSeq (s : State) : Nat := (topSeq (ringEntries s 0 ++ ringEntries s 1) + 1) % 2 ^ 32

/-- Write an intent into a ring; a full current sector gives way to the other, which is erased first when it holds entries. -/
def putIntent (s : State) (r sector seq : Nat) : State :=
  match freeEntry s r with
  | some a => gProgram s a (intentBytes sector seq)
  | none =>
    let o := otherSector s r
    gProgram (gErase s o 4096) o (intentBytes sector seq)

/-- Write the intents of an erase into both rings; none when a ring is blocked. (DEDUCED, log 42) -/
def putIntents (s : State) (sector seq : Nat) : Option State :=
  if ringBlocked s 0 || ringBlocked s 1 then none
  else some (putIntent (putIntent s 0 sector seq) 1 sector seq)

/-- Mark done every intent of a sector that is not done, in J0 and then in J1 (R702 step 4, R709). -/
def markDone (s : State) (sector : Nat) : State :=
  let todo := (ringEntries s 0 ++ ringEntries s 1).filter (fun e => e.2.1 == sector && !e.2.2.2)
  gCells s (todo.map (fun e => (e.1 + 3, 0)))

/-- A journaled erase of one sector by hardware, from its intents to its done marks; none when the journal is blocked. -/
def hwErase (s : State) (sector : Nat) : Option State :=
  (putIntents s sector (nextSeq s)).map (fun s => markDone (gErase s sector 4096) sector)

/-! ### Reads (R696, R697) -/

/-- Serve a read of a word: value, or an error response after a second margin fault. -/
def serveRead (s : State) (r : GrnRead) : State :=
  if r.margin = 2 then
    let s := raise (s.inc Reg.GRN_READ_ERR) Blk.grn 0x0102 .fault (r.addr + 2 ^ 32 * r.init)
    { s with resp := some 0xFFFFFFFF }
  else
    let s := if r.margin = 1 then transient s Blk.grn 1 r.addr else s
    { s with resp := some (BitVec.ofNat 32 (leNat (gBytes s r.addr 4))) }

/-- Serve the reads that waited for the end of a pulse. -/
def serveWaiting (s : State) : State :=
  s.grn.waiting.foldl serveRead { s with grn := { s.grn with waiting := [] } }

/-- The sectors whose reads complete with an error response: being erased, suspended, or held by the scan; of a black-box slot that is
being erased, its four. (DEDUCED, log 42) -/
def deadSectors (s : State) : List Nat :=
  s.grn.held ++ (s.bbx.erasing.take 1).flatMap (fun n => (List.range 4).map (fun i => 0x80000 + 0x4000 * n + 0x1000 * i)) ++ [s.grn.run, s.grn.susp].filterMap (fun o => match o with
    | some (.erase _ sec _) => some sec
    | _ => none)

/-- A read of the window. -/
def execGranaryRead (i : Ident) (word : Fin 262144) (margin : Fin 3) (s : State) : Out :=
  let a := 4 * word.val
  let r : GrnRead := ⟨i.toNat, a, margin.val⟩
  let wait := { s with grn := { s.grn with waiting := s.grn.waiting ++ [r] } }
  if !blockUp s 0x900000 19 then
    .next { isoErr s Blk.grn i (0x2000000 + a) 19 with resp := some 0xFFFFFFFF }
  else if (deadSectors s).contains (sectorOf a) then .next { s with resp := some 0xFFFFFFFF }
  else match s.grn.run with
    | some (.program _ addr _) => if bankOf addr = bankOf a then .next wait else .next (serveRead s r)
    | some (.erase _ sec _) =>
      if bankOf sec ≠ bankOf a ∨ s.grn.readHold ∨ s.grn.failHold ∨ s.bbx.snap.isSome then .next (serveRead s r)
      else if 1000 ≤ s.grn.heldUs then .next wait
      else .next (serveRead { s with grn := { s.grn with readHold := true } } r)
    | none => .next (serveRead s r)

/-- 10 µs after the last read that suspended it, an erase resumes. -/
def execReadSuspendEnd (us : Nat) (s : State) : Out :=
  if s.grn.readHold then .next { s with grn := { s.grn with readHold := false, heldUs := s.grn.heldUs + us } } else .next s

/-! ### Commands (R698–R705) -/

/-- The result of a command of an initiator. -/
def grnResult (s : State) (i : Ident) (done : Bool) (code : Nat) : State :=
  (s.setBit (Reg.GRN_RESULT_DONE i) done).wr (Reg.GRN_RESULT_CODE i) code

/-- The shape of every command: the initiator, then SCAN, PFAIL and BUSY, then the command's own conditions. `any`: BUSY does not
apply here. -/
def grnCommand (s : State) (a : Access) (any : Bool) (k : State → State) : State :=
  withWrite s a 0x900000 Blk.grn 19 0x900004 fun s =>
    if !isPfOrMgmt a.init then cfgViol s Blk.grn a.init 0x900004
    else if s.bit Reg.GRN_STATUS_SCAN then grnResult s a.init true 10
    else if s.bit Reg.PWR_PFAIL_LOW then grnResult s a.init true 9
    else if !any && grnBusy s then grnResult s a.init true 1
    else k (grnResult s a.init false 0)

/-- Refuse an accepted command word with a code. -/
def grnRefuse (s : State) (a : Access) (code : Nat) : State :=
  let s := grnResult s a.init true code
  if code = 3 then cfgViol s Blk.grn a.init 0x900004 else s

/-- The bytes of an initiator's GRN_BUF. -/
def grnBuf (s : State) (i : Ident) (n : Nat) : List Byte :=
  ((List.range n).map (fun j => BitVec.ofNat 8 (s.rd (Reg.GRN_BUF i (j / 4)) / 2 ^ (8 * (j % 4)))))

/-- PROGRAM (R699, R700). -/
def execGrnProgram (a : Access) (_v : Word) (s : State) : Out :=
  .next (grnCommand s a false fun s =>
    let addr := s.rd Reg.GRN_ADDR_ADDR
    let len := s.rd Reg.GRN_LEN_LEN
    let page := addr - addr % 256
    let dead := match s.grn.susp with
      | some (.erase _ sec _) => sec == sectorOf addr
      | _ => false
    if len = 0 ∨ 256 < len then grnRefuse s a 4
    else if !inRegion a.init page 256 then grnRefuse s a 3
    else if gProtected s page 256 then grnRefuse s a 2
    else if dead then grnRefuse s a 8
    else
      let bs := grnBuf s a.init len
      let cells := (List.range len).map (fun i => (page + (addr + i) % 256, bs.getD i 0))
      showGrn { s with grn := { s.grn with run := some (.program a.init.toNat addr cells) } })

/-- The pulse of a program ends and its bytes are verified (R701). -/
def execProgramDone (first second : Bool) (s : State) : Out :=
  match s.grn.run with
  | some (.program init addr cells) =>
    let s := { s with grn := { s.grn with run := none } }
    let i : Ident := BitVec.ofNat 10 init
    let s :=
      if first || second then
        let s := gCells s cells
        let s := if first then s else transient s Blk.grn 2 addr
        let s := if 256 < addr % 256 + cells.length then s.inc Reg.GRN_WRAP_CNT else s
        grnResult s i true 0
      else raise (grnResult (gMix s cells) i true 5) Blk.grn 0x0103 .fault addr
    .next (serveWaiting (showGrn s))
  | _ => .next s

/-- ERASE (R702, R704). -/
def execGrnErase (a : Access) (v : Word) (s : State) : Out :=
  .next (grnCommand s a false fun s =>
    let sec := sectorOf (s.rd Reg.GRN_ADDR_ADDR)
    if fieldOf v 16 16 ≠ 0xC0DE then grnRefuse s a 11
    else if !inRegion a.init sec 4096 then grnRefuse s a 3
    else if eraseProtected s sec 4096 then grnRefuse s a 2
    else if s.grn.susp.isSome then grnRefuse s a 8
    else
      let seq := nextSeq s
      match putIntents s sec seq with
      | none => raise (grnResult s a.init true 6) Blk.grn 0x0104 .fault sec
      | some s => showGrn { s with grn := { s.grn with run := some (.erase a.init.toNat sec seq), readHold := false, heldUs := 0 } })

/-- The pulse of an erase ends and its sector is verified (R702, R709). An erase that is suspended does not end. -/
def execEraseDone (first second : Bool) (s : State) : Out :=
  match s.grn.run with
  | some (.erase init sec _) =>
    if s.grn.readHold || s.grn.failHold || s.bbx.snap.isSome then .next s
    else
      let s := { s with grn := { s.grn with run := none } }
      let i : Ident := BitVec.ofNat 10 init
      let s :=
        if first || second then
          let s := markDone (gErase s sec 4096) sec
          let s := { s with grn := { s.grn with held := s.grn.held.filter (fun x => x != sec) } }
          grnResult (if first then s else transient s Blk.grn 3 sec) i true 0
        else raise (grnResult (gHalfErased s sec) i true 6) Blk.grn 0x0104 .fault sec
      .next (serveWaiting (showGrn s))
  | _ => .next s

/-- SUSPEND (R705). (DEDUCED, log 42) -/
def execGrnSuspend (a : Access) (_v : Word) (s : State) : Out :=
  .next (grnCommand s a true fun s =>
    match s.grn.run with
    | some (.erase init sec seq) =>
      if bbxWorks s || s.grn.prot.isSome then grnRefuse s a 1
      else grnResult (serveWaiting (showGrn { s with grn := {
        s.grn with run := none, susp := some (.erase init sec seq), readHold := false } })) a.init true 0
    | some _ => grnRefuse s a 1
    | none => grnRefuse s a (if grnBusy s then 1 else 7))

/-- RESUME (R705). -/
def execGrnResume (a : Access) (_v : Word) (s : State) : Out :=
  .next (grnCommand s a false fun s =>
    match s.grn.susp with
    | none => grnRefuse s a 7
    | some op => grnResult (showGrn { s with grn := { s.grn with run := some op, susp := none } }) a.init true 0)

/-- A command word whose OP is none of the four (Table 15.2). -/
def grnUnknownOp (a : Access) (s : State) : State := grnCommand s a false fun s => grnRefuse s a 4

/-- The journal sector that was left is erased once all its entries are done (R704). -/
def execJournalErase (ring : Fin 2) (s : State) : Out :=
  let o := otherSector s ring.val
  if !blockUp s 0x900000 19 || s.bit Reg.GRN_STATUS_SCAN || grnBusy s || s.bit Reg.PWR_PFAIL_LOW || gProtected s 0x4000 0x4000 then
    .next s
  else
    let es := entriesIn s o
    if !es.isEmpty && es.all (fun e => e.2.2.2) then .next (gErase s o 4096) else .next s

/-! ### Protection (R707) -/

/-- A write to GRN_PROT. -/
def execProtWrite (a : Access) (v : Word) (wpn : Bool) (s : State) : Out :=
  .next (withWrite s a 0x900000 Blk.grn 19 0x900014 fun s =>
    let s := s.setBit Reg.GRN_STATUS_WPN wpn
    if !isPfOrMgmt a.init || !wpn || s.bit Reg.GRN_STATUS_SCAN || grnBusy s then cfgViol s Blk.grn a.init 0x900014
    else showGrn { s with grn := { s.grn with prot := some (a.init.toNat, fieldOf v 0 4) } })

/-- The protect update is stored. -/
def execProtStored (s : State) : Out :=
  match s.grn.prot with
  | none => .next s
  | some (i, v) =>
    let old := s.grn.row
    let s := s.wr Reg.GRN_PROT v
    let s := showGrn { s with grn := { s.grn with row := v, prot := none } }
    .next (if old = v then s else raise s Blk.grn 0x010A .info (v % 4 + 2 ^ 8 * (v / 4) + 2 ^ 32 * i))

end Sys2Proof.Machine
end

