-- ==== Sys2Proof/Machine/Bbx.lean ====
section
/-! DEFINITION. The black box: entries, freeze, snapshots and their directory in the Granary ("Mailboxes, doorbells and the black
box"). -/

namespace Sys2Proof.Machine

/-! ### Entries (R615–R617) -/

/-- One word of a ring entry. -/
def ringWord (index w : Nat) : Fld := Reg.BBX_RING (index / 1024) (index % 1024) w

/-- The words of a ring entry. -/
def ringWords (s : State) (index : Nat) : List Word := (List.range 8).map (fun w => s.reg (ringWord index w).key)

/-- The bytes of words, little-endian. -/
def wordBytes (ws : List Word) : List Byte := ws.flatMap (fun w => toLe 4 w.toNat)

/-- The bytes of an entry (Table 13.2). -/
def entryBytes (s : State) (e : Event) (seq : Nat) : List Byte :=
  let up := !bitAt (s.rd Reg.PWR_RESET) 2
  let b := toLe 8 (if up then s.taiNs else 0) ++ toLe 4 (if up then s.tick else 0) ++ toLe 2 e.block.toNat ++ toLe 2 e.code.toNat ++
    toLe 1 (sevCode e.sev) ++ toLe 1 s.bbx.level ++ toLe 2 seq ++ toLe 8 e.payload.toNat
  b ++ toLe 4 (crc32c b)

/-- Write one entry with the next sequence (R615, R616). -/
def writeEntry (s : State) (e : Event) : State :=
  let seq := s.rd Reg.BBX_HEAD_SEQ
  let bs := entryBytes s e seq
  let s := (List.range 8).foldl (fun s w => s.wr (ringWord (seq % 2048) w) (leNat ((bs.drop (4 * w)).take 4))) s
  s.wr Reg.BBX_HEAD_SEQ (seq + 1)

/-- The BBX_GAP event (R617). -/
def gapEvent (n : Nat) : Event := mkEvent Blk.bbx 0x0104 .info (n % 2 ^ 32)

/-- Take the front of the event queue; a place that frees goes to BBX_GAP when events were lost. (DEDUCED, log 37) -/
def popEvent (s : State) : State :=
  let q := s.bbx.queue.drop 1
  if s.bbx.lostRun = 0 then { s with bbx := { s.bbx with queue := q } }
  else { s with bbx := { s.bbx with queue := q ++ [gapEvent s.bbx.lostRun], lostRun := 0 } }

/-! ### The snapshot directory (R621–R624) -/

/-- The kind of a directory record by its first bytes: 1 SNAPSHOT, 2 CLAIM, 0 ERASE. -/
def dirKind (b : List Byte) : Option Nat :=
  if b.take 4 = [0x46, 0x56, 0x42, 0x53] then some 1
  else if b.take 4 = [0x46, 0x56, 0x42, 0x43] then some 2
  else if b.take 4 = [0x46, 0x56, 0x42, 0x45] then some 0
  else none

/-- A valid directory record: its address, kind, slot and record count. -/
structure DirRec where
  addr : Nat
  kind : Nat
  slot : Nat
  count : Nat

/-- The valid record at an address. -/
def dirAt (s : State) (a : Nat) : Option DirRec :=
  if gByte s a ≠ 0x46 then none
  else
    let b := gBytes s a 32
    match dirKind b with
    | none => none
    | some k => if crc32c (b.take 28) = leNat (b.drop 28) then some ⟨a, k, (b.getD 4 0).toNat, leNat ((b.drop 24).take 4)⟩ else none

/-- The valid records of a directory sector. -/
def dirIn (s : State) (sec : Nat) : List DirRec := ((List.range 128).map (fun i => sec + 32 * i)).filterMap (dirAt s)

/-- The valid records of the directory. -/
def dirAll (s : State) : List DirRec := dirIn s 0x50000 ++ dirIn s 0x51000

/-- The record with the highest record count. -/
def newestRec (rs : List DirRec) : Option DirRec :=
  rs.foldl (fun m r => match m with
    | none => some r
    | some x => if x.count < r.count then some r else m) none

/-- The current sector (R621). -/
def currentDir (s : State) : Nat :=
  match newestRec (dirAll s) with
  | none => 0x50000
  | some r => if r.addr < 0x51000 then 0x50000 else 0x51000

/-- The other sector. -/
def otherDir (s : State) : Nat := 0xA1000 - currentDir s

/-- The lowest free position of the current sector. -/
def freeDir (s : State) : Option Nat := ((List.range 128).map (fun i => currentDir s + 32 * i)).find? (fun a => gErased s a 32)

/-- The record that gives a slot its state (R623). -/
def slotRec (s : State) (n : Nat) : Option DirRec := newestRec ((dirAll s).filter (fun r => r.slot == n))

/-- The bytes of a record (Table 13.4). -/
def dirBytes (magic slot cause seq time first after img count : Nat) : List Byte :=
  let b := toLe 4 magic ++ toLe 1 slot ++ toLe 1 cause ++ toLe 2 seq ++ toLe 8 time ++ toLe 2 first ++ toLe 2 after ++ toLe 4 img ++
    toLe 4 count
  b ++ toLe 4 (crc32c b)

/-- The kind codes as little-endian words. -/
abbrev dirSnapshot := 0x53425646
abbrev dirClaim := 0x43425646
abbrev dirErase := 0x45425646

/-- BBX_SLOT and the count of erased slots follow the directory (R623). -/
def showSlots (s : State) : State :=
  let s := (List.range 16).foldl (fun s n => match slotRec s n with
    | none => (s.wr (Reg.BBX_SLOT_SSTATE n) 0).wr (Reg.BBX_SLOT_COUNT n) 0
    | some r => (s.wr (Reg.BBX_SLOT_SSTATE n) r.kind).wr (Reg.BBX_SLOT_COUNT n) r.count) s
  s.wr Reg.BBX_STATUS_ERASED ((List.range 16).filter (fun n => s.rd (Reg.BBX_SLOT_SSTATE n) == 0)).length

/-- The record count of the next record. -/
def nextCount (s : State) : Nat :=
  match newestRec (dirAll s) with
  | none => 1
  | some r => r.count + 1

/-- Append a record (R621, R622, R624): at the lowest free position, or at position 0 of the other sector when none remains. -/
def appendDir (s : State) (magic slot cause seq time first after : Nat) : State :=
  let b := dirBytes magic slot cause seq time first after (s.rd Reg.IMG_ACTIVE_ID) (nextCount s)
  let a := match freeDir s with
    | some a => a
    | none => otherDir s
  showSlots (gProgram s a b)

/-- Copy into the current sector the records of the other that give slots their states, and erase the other (R624). -/
def tidyDir (s : State) : State :=
  let o := otherDir s
  if s.bbx.snap.isSome || gErased s o 4096 then s
  else
    let live := ((List.range 16).filterMap (slotRec s)).filter (fun r => decide (o ≤ r.addr) && decide (r.addr < o + 4096))
    let s := live.foldl (fun s r => match freeDir s with
      | some a => gProgram s a (gBytes s r.addr 32)
      | none => s) s
    (hwErase s o).getD s

/-! ### Snapshots (R620, R625–R627, R905) -/

/-- The first address of a snapshot slot. -/
def slotBase (n : Nat) : Nat := 0x80000 + n * 0x4000

/-- Whether PD19 takes no work of BBX: in reset, powered down or running its scan. -/
def grnAway (s : State) : Bool := !blockUp s 0x900000 19 || s.bit Reg.GRN_STATUS_SCAN

/-- Whether GRN_PROT protects a slot or any part of the directory. -/
def slotProtected (s : State) (n : Nat) : Bool := gProtected s (slotBase n) 0x4000 || gProtected s 0x50000 0x2000

/-- The lowest-numbered erased slot whose erase is not running. -/
def erasedSlot (s : State) : Option Nat :=
  (List.range 16).find? (fun n => ((slotRec s n).map DirRec.kind).getD 0 == 0 && !s.bbx.erasing.contains n)

/-- The snapshot is not written (R627). -/
def snapFailed (s : State) (reason : Nat) (freeze : Bool) : State :=
  let s := { s.wr Reg.BBX_STATUS_SNAP 3 with bbx := { s.bbx with done := s.bbx.done || freeze } }
  raise s Blk.bbx 0x0103 .fault reason

/-- The last entry written: its sequence and its TAI ns. -/
def lastEntry (s : State) : Nat × Nat :=
  let seq := (s.rd Reg.BBX_HEAD_SEQ + 65535) % 65536
  (seq, leNat (wordBytes ((ringWords s (seq % 2048)).take 2)))

/-- Start a snapshot (R620): cause 1 safety freeze, 2 power fail, 3 command. While PD19 takes no work a freeze waits for its scan
(R670). (DEDUCED, log 37) -/
def startSnapshot (s : State) (cause : Nat) : State :=
  if grnAway s then s
  else match erasedSlot s with
    | none => snapFailed s 1 (cause != 3)
    | some n =>
      if slotProtected s n then snapFailed s 2 (cause != 3)
      else
        let head := s.rd Reg.BBX_HEAD_SEQ
        let first := (head + 65536 - 512) % 65536
        let trig := s.rd Reg.BBX_TRIG_SEQ_SEQ
        let named := if cause = 1 then (trig, leNat (wordBytes ((ringWords s (trig % 2048)).take 2))) else lastEntry s
        let data := (List.range 512).flatMap (fun i => wordBytes (ringWords s ((first + i) % 65536 % 2048)))
        let s := appendDir s dirClaim n cause named.1 named.2 first 0
        let s := s.wr Reg.BBX_STATUS_SNAP 1
        showGrn { s with bbx := { s.bbx with snap := some ⟨n, cause, first, s.bbx.after, data, named.1, named.2⟩ } }

/-- The ring becomes FROZEN (R618): what waited in the queue is only counted (R619). -/
def freezeRing (s : State) : State :=
  let q := s.bbx.queue
  let s := (s.wr Reg.BBX_STATUS_STATE 2).add Reg.BBX_FROZEN_DROP q.length
  let s := if q.any (fun e => e.sev == .safety) then s.wr Reg.BBX_STATUS_MISSED_SAFETY 1 else s
  { s with bbx := { s.bbx with queue := [], lostRun := 0, done := false } }

/-- Freeze after a trigger: BBX_FROZEN and the snapshot (R618, R620). -/
def freezeAfter (s : State) : State :=
  let s := freezeRing { s with bbx := { s.bbx with byFail := false } }
  let s := raise s Blk.bbx 0x0101 .warn (s.rd Reg.BBX_TRIG_SEQ_SEQ + 2 ^ 16 * s.bbx.after)
  if s.bbx.snap.isSome then s else startSnapshot s 1

/-- Write one event into the ring, with what it does to STATE (R618). -/
def recordEvent (s : State) (e : Event) : State :=
  let st := s.rd Reg.BBX_STATUS_STATE
  let seq := s.rd Reg.BBX_HEAD_SEQ
  let s := writeEntry s e
  if st = 0 ∧ e.sev = .safety then
    let s := (s.wr Reg.BBX_TRIG_SEQ_SEQ seq).wr Reg.BBX_STATUS_STATE 1
    { s with bbx := { s.bbx with after := 0 } }
  else if st = 1 then
    let s := { s with bbx := { s.bbx with after := s.bbx.after + 1 } }
    if 128 ≤ s.bbx.after then freezeAfter s else s
  else s

/-- BBX_ENTRY_WRITE: the front of the queue becomes an entry. -/
def execBbxEntryWrite (s : State) : Out :=
  match s.bbx.queue with
  | [] => .next s
  | e :: _ => .next (recordEvent (popEvent s) e)

/-- POST_TIMEOUT: POST_MS ms have passed since the trigger (R618). -/
def execPostTimeout (s : State) : Out :=
  if s.rd Reg.BBX_STATUS_STATE = 1 then .next (freezeAfter s) else .next s

/-- Write every event that waits, in order, while the ring takes entries. -/
def drainQueue : Nat → State → State
  | 0, s => s
  | n + 1, s =>
    match s.bbx.queue with
    | [] => s
    | e :: _ => if s.rd Reg.BBX_STATUS_STATE = 2 then s else drainQueue n (recordEvent (popEvent s) e)

/-- An event that is written at once, before anything that follows: events raised earlier are written first. -/
def writeNow (s : State) (e : Event) : State :=
  let s := { drainQueue 65 s with events := e :: s.events }
  if s.rd Reg.BBX_STATUS_STATE = 2 then bbxOffer s e true else recordEvent s e

/-- PFAIL_N falls (R625): POWER_FAIL, FROZEN at once, and a snapshot unless one exists or is being written. (DEDUCED, log 37) -/
def bbxPowerFail (s : State) : State :=
  let frozen := s.rd Reg.BBX_STATUS_STATE = 2
  let s := writeNow s (mkEvent Blk.bbx 0x0107 .warn 0)
  let s := if frozen then s else
    if s.rd Reg.BBX_STATUS_STATE = 2 then s else freezeRing { s with bbx := { s.bbx with byFail := true } }
  if s.bbx.done && s.rd Reg.BBX_STATUS_SNAP == 2 || s.bbx.snap.isSome then s else startSnapshot s (if s.bbx.byFail then 2 else 1)

/-! ### Erases of slots (R622, R627, R628) -/

/-- The intents of the four sector erases of a slot. -/
def slotIntents (s : State) (n : Nat) : Option State :=
  (List.range 4).foldl (fun o i => o.bind (fun s => putIntents s (slotBase n + 4096 * i) (nextSeq s))) (some s)

/-- Append an ERASE record and start the erase of a slot. -/
def startErase (s : State) (n : Nat) : State :=
  match slotIntents (appendDir s dirErase n 0 0 s.taiNs 0 0) n with
  | none => raise s Blk.grn 0x0104 .fault (slotBase n)
  | some s => showGrn { s with bbx := { s.bbx with erasing := s.bbx.erasing ++ [n] } }

/-- The valid slot with the lowest record count. -/
def oldestValid (s : State) : Option Nat :=
  ((List.range 16).filterMap (slotRec s)).foldl (fun m r =>
    if r.kind ≠ 1 then m else match m with
      | none => some r
      | some x => if r.count < x.count then some r else m) none |>.map DirRec.slot

/-- BBX_SNAPSHOT: the entries are programmed and the SNAPSHOT record appended (R620, R622); then the directory is tidied (R624),
OVERWRITE may erase a slot (R627), and a freeze that waited for a command's snapshot gets its own. (DEDUCED, log 37) -/
def execBbxSnapshot (s : State) : Out :=
  match s.bbx.snap with
  | none => .next s
  | some x =>
    let s := gProgram s (slotBase x.slot) x.data
    let s := appendDir s dirSnapshot x.slot x.cause x.seq x.time x.first x.after
    let s := ((s.wr Reg.BBX_STATUS_SNAP 2).wr Reg.BBX_STATUS_LAST_SLOT x.slot)
    let s := showGrn { s with bbx := { s.bbx with snap := none, done := s.bbx.done || x.cause != 3 } }
    let s := raise s Blk.bbx 0x0102 .info (x.slot + 2 ^ 8 * x.cause + 2 ^ 16 * x.first + 2 ^ 32 * (nextCount s - 1))
    let s := tidyDir s
    let s := if s.bit Reg.BBX_CFG_OVERWRITE && s.rd Reg.BBX_STATUS_ERASED == 0 then
        match oldestValid s with
        | none => s
        | some n => if slotProtected s n then s else tidyDir (startErase s n)
      else s
    if s.rd Reg.BBX_STATUS_STATE = 2 && !s.bbx.done then .next (startSnapshot s (if s.bbx.byFail then 2 else 1)) else .next s

/-- SLOT_ERASE_DONE: the four sector erases of a slot have completed. -/
def execSlotEraseDone (s : State) : Out :=
  match s.bbx.erasing with
  | [] => .next s
  | n :: rest =>
    let s := (List.range 4).foldl (fun s i => markDone (gErase s (slotBase n + 4096 * i) 4096) (slotBase n + 4096 * i)) s
    .next (showSlots (showGrn { s with bbx := { s.bbx with erasing := rest } }))

/-! ### Commands (R626, R628) -/

/-- A write of BBX_CMD: the key, and no snapshot being written. -/
def bbxCommand (s : State) (a : Access) (v : Word) (ok : State → Bool) (k : State → State) : State :=
  withWrite s a 0xB80000 Blk.bbx 0 0xB80008 fun s =>
    if fieldOf v 16 16 ≠ 0xC0DE || s.bbx.snap.isSome || !ok s then cfgViol s Blk.bbx a.init 0xB80008 else k s

/-- The ring returns from FROZEN to RECORDING. (DEDUCED, log 37) -/
def unfreeze (s : State) : State :=
  let s := (s.wr Reg.BBX_STATUS_STATE 0).wr Reg.BBX_STATUS_MISSED_SAFETY 0
  { s with bbx := { s.bbx with after := 0, done := false, byFail := false } }

/-- UNFREEZE (R628). -/
def execBbxUnfreeze (a : Access) (v : Word) (s : State) : Out :=
  .next (bbxCommand s a v (fun s => s.rd Reg.BBX_STATUS_STATE == 2 && s.bbx.done) fun s =>
    raise (unfreeze s) Blk.bbx 0x0105 .info (s.rd Reg.BBX_FROZEN_DROP))

/-- SNAPSHOT (R626). -/
def execBbxSnapshotCmd (a : Access) (v : Word) (s : State) : Out :=
  .next (bbxCommand s a v (fun s => s.rd Reg.BBX_STATUS_STATE != 2 && !grnAway s) fun s => startSnapshot s 3)

/-- ERASE_SLOT (R628). -/
def execBbxEraseSlot (a : Access) (v : Word) (s : State) : Out :=
  let n := fieldOf v 8 4
  .next (bbxCommand s a v (fun s => !grnAway s && !slotProtected s n) fun s => tidyDir (startErase s n))

/-! ### Readout (R630) -/

/-- A read of word `w` of a ring entry: word 0 latches the others, which then come from the latch (R630). -/
def readEntryWord (s : State) (i : Ident) (index : Fin 2048) (w : Nat) : State :=
  match w with
  | 0 =>
    let ws := ringWords s index.val
    { s with resp := some (ws.getD 0 0),
             bbx := { s.bbx with latch := Tab.put none s.bbx.latch i.toNat (some (index.val, ws.drop 1)) } }
  | n + 1 =>
    match Tab.get none s.bbx.latch i.toNat with
    | some (k, ws) => if k = index.val then { s with resp := some (ws.getD n 0) }
        else { s with resp := some (s.reg (ringWord index.val w).key) }
    | none => { s with resp := some (s.reg (ringWord index.val w).key) }

/-- BBX_ENTRY_READ: a read of word 0 of a ring entry latches words 1–7 for the reader. -/
def execBbxEntryRead (i : Ident) (index : Fin 2048) (s : State) : Out := .next (readEntryWord s i index 0)

/-! ### Resets (R629, R635, R670, R905) -/

/-- A reset of PD19 stops a snapshot; erases of slots are completed by the next scan (R905). -/
def bbxGranaryReset (s : State) : State :=
  let s := if s.bbx.snap.isSome then s.wr Reg.BBX_STATUS_SNAP 0 else s
  { s with bbx := { s.bbx with snap := none, erasing := [] } }

/-- The end of a scan: the slots are classified, and a freeze without a snapshot gets it (R670, R624). -/
def bbxScanned (s : State) : State :=
  let s := tidyDir (showSlots s)
  if s.rd Reg.BBX_STATUS_STATE = 2 && !s.bbx.done then startSnapshot s (if s.bbx.byFail then 2 else 1) else s

/-- The release of IMG after a reset (R629): RESET_MARK, after AUTO_UNFREEZE where it applies. -/
def resetMark (s : State) (code : Nat) : State :=
  if s.rd Reg.BBX_STATUS_STATE = 2 && s.bit Reg.BBX_CFG_AUTO_UNFREEZE && s.rd Reg.BBX_STATUS_SNAP == 2 && s.bbx.done then
    let missed := s.rd Reg.BBX_STATUS_MISSED_SAFETY
    writeNow (unfreeze s) (mkEvent Blk.bbx 0x0106 .info (code + 2 ^ 8 * (1 + 2 * missed) + 2 ^ 32 * s.rd Reg.BBX_FROZEN_DROP))
  else writeNow s (mkEvent Blk.bbx 0x0106 .info code)

end Sys2Proof.Machine
end

