-- ==== Sys2Proof/Machine/Mbx.lean ====
section
/-! DEFINITION. Mailboxes and doorbells ("Mailboxes, doorbells and the black box"). -/

namespace Sys2Proof.Machine

/-! ### Binding and access (R596–R600) -/

/-- Whether an identity, or group code, names an initiator (R597). -/
def names (code i : Nat) : Bool :=
  code == i && code != 0
    || code == 0x3FE && decide (1 ≤ i) && decide (i ≤ 0x80)
    || code == 0x3FF && (decide (1 ≤ i) && decide (i ≤ 0x80) || i == 0x100 || i == 0x101 || i == 0x102 || i == 0x103)

/-- Whether a channel is bound. -/
def bound (s : State) (c : Nat) : Bool := s.rd (Reg.MBX_BIND_RECEIVER c) != 0

/-- Whether the binding of a channel names an instance's identity as sender or receiver. -/
def binds (s : State) (c i : Nat) : Bool :=
  bound s c && (names (s.rd (Reg.MBX_BIND_SENDER c)) i || names (s.rd (Reg.MBX_BIND_RECEIVER c)) i)

/-- Whether channel `c` is accessible to instance `t` (R599). (DEDUCED, log 36) -/
def accessible (s : State) (t c : Nat) : Bool :=
  binds s c (t + 1) &&
    decide (((List.range c).filter (fun d => binds s d (t + 1))).length < s.rd (Reg.HIF_TEN_MBX_COUNT t))

/-- Whether an initiator is a permitted sender of a channel. -/
def permitted (s : State) (c : Nat) (i : Ident) : Bool := names (s.rd (Reg.MBX_BIND_SENDER c)) i.toNat

/-- The address by which an access names a channel register: the BAR0 offset, or the view address in the BMC view or a tenant window
(R238). -/
def mbxAddr (i : Ident) (c off : Nat) (view : Bool) : Nat :=
  if i.toNat = 0x102 then 0x2000 + off
  else if view then 0x30000 + c * 0x100 + off else 0xB00000 + c * 0x100 + off

/-- Whether an access reaches a channel (R596, R599); when not, it is dropped and raises CFG_VIOL. -/
def reaches (s : State) (i : Ident) (c : Nat) : Bool :=
  bound s c && match instanceOf i with
    | some t => accessible s t c
    | none => true

/-- Whether the window through which an access comes is closed: PD13 down, or an FLR (R546). -/
def windowShut (s : State) (i : Ident) (view : Bool) : Bool :=
  view && (!domainUp s 13 || match instanceOf i with
    | some t => s.bit (Reg.HIF_TEN_STATUS_FLR_ACTIVE t)
    | none => true)

/-- A write to a channel. -/
def mbxWrite (s : State) (a : Access) (c off : Nat) (view : Bool) (k : State → State) : State :=
  let addr := mbxAddr a.init c off view
  if debugShut s a.init then cfgViol s Blk.mbx a.init addr
  else if windowShut s a.init view then isoErr s Blk.mbx a.init addr 13
  else if a.be ≠ 15 then accSize s Blk.mbx a.init addr
  else if reaches s a.init c then k s
  else cfgViol s Blk.mbx a.init addr

/-- A read of a channel. The value of a dropped read is open. (DEDUCED, log 36) -/
def mbxRead (s : State) (i : Ident) (c off : Nat) (view : Bool) (k : State → State) : State :=
  let addr := mbxAddr i c off view
  if debugShut s i then { cfgViol s.used Blk.mbx i addr with resp := some s.free }
  else if windowShut s i view then { isoErr s Blk.mbx i addr 13 with resp := some 0xFFFFFFFF }
  else if reaches s i c then k s
  else { cfgViol s.used Blk.mbx i addr with resp := some s.free }

/-! ### Notification (R611) -/

/-- Notify an identity of a channel, with its note register's EN and VEC. -/
def notify (s : State) (c i en vec : Nat) : State :=
  if 1 ≤ i ∧ i ≤ 0x80 then (if en = 1 then msix s (i - 1) vec else s)
  else if i = 0x100 ∨ i = 0x101 then emit s (.mgmtIrq Blk.mbx)
  else if i = 0x103 then emit s (.owlIrq Blk.mbx)
  else if i = 0x102 then { s with mbx := { s.mbx with bmc := setBitAt s.mbx.bmc c true } }
  else s

/-- Notify the receiver of a channel. -/
def notifyReceiver (s : State) (c : Nat) : State :=
  notify s c (s.rd (Reg.MBX_BIND_RECEIVER c)) (s.rd (Reg.MBX_RX_NOTE_EN c)) (s.rd (Reg.MBX_RX_NOTE_VEC c))

/-- Notify the sender of the message: the identity that hardware stamped. -/
def notifySender (s : State) (c : Nat) : State :=
  notify s c (fieldOf (s.reg (Reg.MBX_MSG c 0).key) 16 10) (s.rd (Reg.MBX_TX_NOTE_EN c)) (s.rd (Reg.MBX_TX_NOTE_VEC c))

/-- A message ends: FULL 0, ACKED 1, with a code for MBX_ACK where one is given. -/
def endMessage (s : State) (c : Nat) (code : Option Nat) : State :=
  let s := (s.wr (Reg.MBX_STATUS_FULL c) 0).wr (Reg.MBX_STATUS_ACKED c) 1
  let s := match code with
    | some x => s.wr (Reg.MBX_ACK_CODE c) x
    | none => s
  notifySender s c

/-! ### The lock (R601–R605) -/

/-- A read of MBX_LOCK. -/
def execMbxLockRead (i : Ident) (ch : Fin 64) (view : Bool) (s : State) : Out :=
  .next (mbxRead s i ch.val 0x40 view fun s =>
    let owner := s.rd (Reg.MBX_LOCK_OWNER ch.val)
    if i.toNat = 0x104 then { s with resp := some (BitVec.ofNat 32 owner) }
    else if !permitted s ch.val i then
      let s := cfgViol s Blk.mbx i (mbxAddr i ch.val 0x40 view)
      { s with resp := some (BitVec.ofNat 32 (2 ^ 31 + owner)) }
    else if owner = 0 then { s.wr (Reg.MBX_LOCK_OWNER ch.val) i.toNat with resp := some 0 }
    else { s with resp := some (BitVec.ofNat 32 owner) })

/-- A write to MBX_LOCK. -/
def execMbxLockRelease (a : Access) (ch : Fin 64) (v : Word) (view : Bool) (s : State) : Out :=
  .next (mbxWrite s a ch.val 0x40 view fun s =>
    if s.rd (Reg.MBX_LOCK_OWNER ch.val) = a.init.toNat ∧ v.toNat = a.init.toNat then s.wr (Reg.MBX_LOCK_OWNER ch.val) 0
    else cfgViol s Blk.mbx a.init (mbxAddr a.init ch.val 0x40 view))

/-- A lock was held LOCK_TMO ms while FULL was 0 (R605). -/
def execLockExpired (ch : Fin 64) (s : State) : Out :=
  let owner := s.rd (Reg.MBX_LOCK_OWNER ch.val)
  if s.rd Reg.MBX_CFG_LOCK_TMO = 0 ∨ owner = 0 ∨ s.bit (Reg.MBX_STATUS_FULL ch.val) then .next s
  else .next (raise (s.wr (Reg.MBX_LOCK_OWNER ch.val) 0) Blk.mbx 0x0101 .warn (ch.val + 2 ^ 16 * owner))

/-! ### Sending and receiving (R606–R610) -/

/-- Whether an initiator owns a channel's lock. -/
def owns (s : State) (c : Nat) (i : Ident) : Bool := s.rd (Reg.MBX_LOCK_OWNER c) == i.toNat && i.toNat != 0

/-- A write to MBX_MSG[n] (R606). -/
def execMbxMsgWrite (a : Access) (ch : Fin 64) (n : Fin 16) (v : Word) (view : Bool) (s : State) : Out :=
  .next (mbxWrite s a ch.val (4 * n.val) view fun s =>
    if owns s ch.val a.init && !s.bit (Reg.MBX_STATUS_FULL ch.val) then s.setReg (Reg.MBX_MSG ch.val n.val).key v
    else s.wr (Reg.MBX_STATUS_ERR_WR ch.val) 1)

/-- A write to MBX_SEND (R607). What MBX_ACK holds after a SEND is open (R609). (DEDUCED, log 36) -/
def execMbxSend (a : Access) (ch : Fin 64) (v : Word) (view : Bool) (s : State) : Out :=
  .next (mbxWrite s a ch.val 0x44 view fun s =>
    if fieldOf v 0 1 = 0 then s
    else if owns s ch.val a.init && !s.bit (Reg.MBX_STATUS_FULL ch.val) then
      let k := (Reg.MBX_MSG ch.val 0).key
      let s := s.setReg k (withField (s.reg k) 16 10 a.init.toNat)
      let s := (s.wr (Reg.MBX_STATUS_FULL ch.val) 1).wr (Reg.MBX_STATUS_ACKED ch.val) 0
      notifyReceiver (s.used.wr (Reg.MBX_ACK_CODE ch.val) s.free.toNat) ch.val
    else s.wr (Reg.MBX_STATUS_ERR_SEND ch.val) 1)

/-- A write to MBX_ACK (R609). -/
def execMbxAck (a : Access) (ch : Fin 64) (v : Word) (view : Bool) (s : State) : Out :=
  .next (mbxWrite s a ch.val 0x4C view fun s =>
    let code := fieldOf v 0 16
    if s.rd (Reg.MBX_BIND_RECEIVER ch.val) ≠ a.init.toNat then s
    else if 0xFFFE ≤ code then cfgViol s Blk.mbx a.init (mbxAddr a.init ch.val 0x4C view)
    else if s.bit (Reg.MBX_BIND_MODE ch.val) || !s.bit (Reg.MBX_STATUS_FULL ch.val) then s
    else endMessage s ch.val (some code))

/-- A read of MBX_POP (R610). -/
def execMbxPop (i : Ident) (ch : Fin 64) (view : Bool) (s : State) : Out :=
  .next (mbxRead s i ch.val 0x50 view fun s =>
    if s.bit (Reg.MBX_BIND_MODE ch.val) && s.rd (Reg.MBX_BIND_RECEIVER ch.val) == i.toNat && s.bit (Reg.MBX_STATUS_FULL ch.val) then
      let w := s.reg (Reg.MBX_MSG ch.val 0).key
      { endMessage s ch.val none with resp := some w }
    else { s with resp := some 0 })

/-- The state after a command that answers a next state. -/
def stateAfter (s : State) : Out → State
  | .next t => t
  | _ => s

/-- Whether an initiator may read the message of a channel (R608). -/
def readsMessage (s : State) (c : Nat) (i : Ident) : Bool :=
  owns s c i || s.bit (Reg.MBX_STATUS_FULL c) && s.rd (Reg.MBX_BIND_RECEIVER c) == i.toNat

/-- A read of a word of a channel (Table 13.3). -/
def chanRead (s : State) (i : Ident) (ch : Fin 64) (off : Nat) (view : Bool) : State :=
  if off = 0x40 then stateAfter s (execMbxLockRead i ch view s)
  else if off = 0x50 then stateAfter s (execMbxPop i ch view s)
  else mbxRead s i ch.val off view fun s =>
    if off < 0x40 ∧ !readsMessage s ch.val i then { s with resp := some 0 }
    else { s with resp := some (readWord s i (0xB00000 + ch.val * 0x100 + off)) }

/-- Whether an initiator writes a note register: MBX_RX_NOTE the receiver, MBX_TX_NOTE the permitted senders (R611). -/
def writesNote (s : State) (c off : Nat) (i : Ident) : Bool :=
  if off = 0x54 then s.rd (Reg.MBX_BIND_RECEIVER c) == i.toNat else permitted s c i

/-- A write of a word of a channel (Table 13.3). -/
def chanWrite (s : State) (a : Access) (ch : Fin 64) (off : Nat) (v : Word) (view : Bool) : State :=
  if off < 0x40 then stateAfter s (execMbxMsgWrite a ch (Fin.ofNat 16 (off / 4)) v view s)
  else if off = 0x40 then stateAfter s (execMbxLockRelease a ch v view s)
  else if off = 0x44 then stateAfter s (execMbxSend a ch v view s)
  else if off = 0x4C then stateAfter s (execMbxAck a ch v view s)
  else mbxWrite s a ch.val off view fun s =>
    if (off = 0x54 ∨ off = 0x58) ∧ !writesNote s ch.val off a.init then
      cfgViol s Blk.mbx a.init (mbxAddr a.init ch.val off view)
    else plainWrite s a.init (0xB00000 + ch.val * 0x100 + off) v

/-- A write to MBX_BIND_LOCK (R598). (DEDUCED, log 36) -/
def execBindLock (a : Access) (v : Word) (s : State) : Out :=
  .next (withWrite s a 0xB00000 Blk.mbx 0 0xB10100 fun s =>
    if !isMgmt a.init then cfgViol s Blk.mbx a.init 0xB10100
    else if fieldOf v 0 1 = 1 then s.wr Reg.MBX_BIND_LOCK_LOCK 1 else s)

/-! ### Doorbells (R612–R614) -/

/-- Whether an initiator manages the doorbells of an instance. -/
def manages (s : State) (i : Ident) (t : Nat) : Bool :=
  if t = 0 ∨ s.bit Reg.MBX_DB_ROUTE_MGR then isMgmt i else i.toNat == 1

/-- A write to MBX_DB[t]: DOWN bits set, UP bits clear. -/
def execManagerDoorbellWrite (a : Access) (t : Fin 128) (v : Word) (s : State) : Out :=
  .next (withWrite s a 0xB00000 Blk.mbx 0 (0xB20000 + 4 * t.val) fun s =>
    if !manages s a.init t.val then s
    else
      let old := s.reg (Reg.MBX_DB t.val).key
      let rising := bitList 4 (fieldOf (v &&& ~~~old) 0 4)
      let s := s.setReg (Reg.MBX_DB t.val).key ((old ||| (v &&& 0xF)) &&& ~~~(v &&& 0xF0))
      if s.bit (Reg.TW_DB_CFG_EN t.val) then rising.foldl (fun s _ => msix s t.val (s.rd (Reg.TW_DB_CFG_VEC t.val))) s else s)

/-- A write to TW_DB of an instance: DOWN bits clear, UP bits set. -/
def execInstanceDoorbellWrite (t : Fin 128) (be : BitVec 4) (v : Word) (s : State) : Out :=
  .next (windowWrite s t.val be 0x34000 0 fun s =>
    let old := s.reg (Reg.MBX_DB t.val).key
    let rising := bitList 4 (fieldOf (v &&& ~~~old) 4 4)
    let s := s.setReg (Reg.MBX_DB t.val).key ((old ||| (v &&& 0xF0)) &&& ~~~(v &&& 0xF))
    rising.foldl (fun s _ =>
      if t.val = 0 ∨ s.bit Reg.MBX_DB_ROUTE_MGR then emit s (.mgmtIrq Blk.mbx) else msix s 0 (s.rd Reg.MBX_DB_ROUTE_PF_VEC)) s)

/-! ### Resets and share changes (R604, R633, R634) -/

/-- A waiting message is discarded: 1 receiver reset, 2 withdrawn. -/
def discardMessage (s : State) (c reason : Nat) : State :=
  let s := endMessage s c (some (if reason = 1 then 0xFFFF else 0xFFFE))
  raise s Blk.mbx 0x0102 .info (c + 2 ^ 8 * reason + 2 ^ 16 * s.rd (Reg.MBX_BIND_RECEIVER c))

/-- The reset of initiators: their locks are released and the messages that wait for them are discarded; the doorbell bits of a
reset instance are cleared (Table 13.7). -/
def mbxReset (s : State) (sel : Nat → Bool) : State :=
  let s := (List.range 64).foldl (fun s c =>
    let s := if sel (s.rd (Reg.MBX_LOCK_OWNER c)) then s.wr (Reg.MBX_LOCK_OWNER c) 0 else s
    if s.bit (Reg.MBX_STATUS_FULL c) && sel (s.rd (Reg.MBX_BIND_RECEIVER c)) then discardMessage s c 1 else s) s
  (List.range 128).foldl (fun s t => if sel (t + 1) then s.wr (Reg.MBX_DB t) 0 else s) s

/-- Remember the channels that a commit made inaccessible to an instance (R634). -/
def noteMbx (old s : State) : State :=
  let lost := (List.range 64).flatMap (fun c => ((List.range 128).filter (fun t => accessible old t c && !accessible s t c)).map
    (fun t => (c, t)))
  { s with mbx := { s.mbx with withdrawn := s.mbx.withdrawn ++ lost } }

/-- At the tick edge: locks that the instances hold on those channels are released, messages that wait for them discarded. -/
def mbxEdge (s : State) : State :=
  s.mbx.withdrawn.foldl (fun s p =>
    let s := if s.rd (Reg.MBX_LOCK_OWNER p.1) = p.2 + 1 then s.wr (Reg.MBX_LOCK_OWNER p.1) 0 else s
    if s.bit (Reg.MBX_STATUS_FULL p.1) && s.rd (Reg.MBX_BIND_RECEIVER p.1) == p.2 + 1 then discardMessage s p.1 2 else s)
    { s with mbx := { s.mbx with withdrawn := [] } }

end Sys2Proof.Machine
end

