-- ==== Sys2Proof/Machine/Boot.lean ====
section
/-! DEFINITION. The Granary's power-up scan, the firmware boot, boot records, trials and the key hash fuses ("Granary, settings and
firmware slots"). -/

namespace Sys2Proof.Machine

/-! ### The power-up scan (R708, R709) -/

/-- The intents without a done mark in either ring: sector and sequence. -/
def openIntents (s : State) : List (Nat × Nat) :=
  let es := ringEntries s 0 ++ ringEntries s 1
  ((es.filter (fun e => !es.any (fun x => x.2.1 == e.2.1 && x.2.2.1 == e.2.2.1 && x.2.2.2))).map (fun e => (e.2.1, e.2.2.1))).eraseDups

/-- At the release of PD19 the scan starts: GRN_PROT is loaded and the sectors of open intents are held (R708, R709, R729). -/
def scanStart (s : State) : State :=
  let s := (s.wr Reg.GRN_PROT s.grn.row).wr Reg.GRN_AR_COUNT_COUNT s.grn.ar
  showGrn { s.wr Reg.GRN_STATUS_SCAN 1 with grn := { s.grn with held := ((openIntents s).map Prod.fst).eraseDups } }

/-- Mark done every entry of a sequence and sector. -/
def markSeq (s : State) (p : Nat × Nat) : State :=
  gCells s (((ringEntries s 0 ++ ringEntries s 1).filter (fun e => e.2.1 == p.1 && e.2.2.1 == p.2 && !e.2.2.2)).map (fun e => (e.1 + 3, 0)))

/-- One erase of the scan. -/
def scanErase (retried failed : List Nat) (s : State) (p : Nat × Nat) : State :=
  if failed.contains (p.1 / 4096) then raise (gHalfErased s p.1) Blk.grn 0x0104 .fault p.1
  else
    let s := markSeq (gErase s p.1 4096) p
    let s := { s with grn := { s.grn with held := s.grn.held.filter (fun x => x != p.1) } }
    if retried.contains (p.1 / 4096) then transient s Blk.grn 3 p.1 else s

/-- The journal sectors that hold neither valid entries nor erased bytes only. -/
def staleJournal (s : State) : List Nat :=
  [0x4000, 0x5000, 0x6000, 0x7000].filter (fun a => (entriesIn s a).isEmpty && !gErased s a 4096)

/-- SCAN_DONE: the scan's erases, marks and classification (R708). -/
def execScanDone (us : Nat) (retried failed : List (Fin 256)) (s : State) : Out :=
  if !s.bit Reg.GRN_STATUS_SCAN || !blockUp s 0x900000 19 then .next s
  else
    let bad := failed.map Fin.val
    let todo := openIntents s
    let erased := (todo.filter (fun p => !bad.contains (p.1 / 4096))).length
    let s := todo.foldl (scanErase (retried.map Fin.val) bad) s
    let stale := staleJournal s
    let s := stale.foldl (fun s a => gErase s a 4096) s
    let half := (ringEntries s 0 ++ ringEntries s 1).filter (fun e => e.2.2.2)
    let s := half.foldl (fun s e => markSeq s (e.2.1, e.2.2.1)) s
    let s := (s.wr Reg.GRN_SCAN_INFO_US_DIV4 (min (us / 4) 65535)).wr Reg.GRN_SCAN_INFO_JREPAIR (min stale.length 15)
    let s := (s.wr Reg.GRN_SCAN_INFO_ERASED (min erased 15)).wr Reg.GRN_STATUS_SCAN 0
    let s := raise (showGrn s) Blk.grn 0x0101 .info (erased % 256 + 2 ^ 8 * (stale.length % 256) + 2 ^ 32 * (us % 2 ^ 32))
    .next (bbxScanned s)

/-! ### Boot records (R718) -/

/-- A boot record copy (Table 15.7): where it lies and its fields. -/
structure BootRec where
  base : Nat
  gen : Nat
  active : Nat
  trial : Nat
  img : Nat
  last : Nat
  stA : Nat
  stB : Nat
  tried : Bool
  expired : Bool
  fail : Nat

/-- A valid copy. -/
def bootCopy (s : State) (base : Nat) : Option BootRec :=
  let b := gBytes s base 64
  let n := fun i => (b.getD i 0).toNat
  if b.take 4 = [0x46, 0x56, 0x42, 0x52] ∧ crc32c (b.take 44) = leNat ((b.drop 44).take 4) then
    some { base := base, gen := leNat ((b.drop 4).take 4), active := n 8, trial := n 9, img := n 10, last := n 11, stA := n 12, stB := n 13,
           tried := n 48 == 0, expired := n 49 == 0, fail := n 50 }
  else none

/-- The record in force; without a valid copy, what the boot ROM assumes. (DEDUCED, log 42) -/
def bootRec (s : State) : BootRec :=
  match bootCopy s 0, bootCopy s 0x1000 with
  | some x, some y => if x.gen < y.gen then y else x
  | some x, none => x
  | none, some y => y
  | none, none => { base := 0x1000, gen := 0, active := 0, trial := 0xFF, img := 0xFF, last := 0, stA := 1, stB := 1, tried := false,
                    expired := false, fail := 0xFF }

/-- The state of a slot in a record. -/
def BootRec.state (r : BootRec) (slot : Nat) : Nat := if slot = 0 then r.stA else r.stB

/-- A record with a slot's state set. -/
def BootRec.setState (r : BootRec) (slot st : Nat) : BootRec := if slot = 0 then { r with stA := st } else { r with stB := st }

/-- The bytes of a record, with its marks unprogrammed. -/
def recBytes (r : BootRec) : List Byte :=
  let b := [0x46, 0x56, 0x42, 0x52] ++ toLe 4 r.gen ++ toLe 1 r.active ++ toLe 1 r.trial ++ toLe 1 r.img ++ toLe 1 r.last ++
    toLe 1 r.stA ++ toLe 1 r.stB ++ List.replicate 30 0
  b ++ toLe 4 (crc32c b)

/-- The first address of a firmware slot in the flash (R714). -/
def fwBase (slot : Nat) : Nat := slot * 0x800000

/-- Bytes of the external flash. -/
def flashBytes (s : State) (a n : Nat) : List Byte := (List.range n).map (fun i => Tab.get 0xFF s.flash (a + i))

/-- Whether the fields of a firmware header hold (Table 15.6). -/
def fwHeaderOk (h : List Byte) : Bool :=
  let n := fun a k => leNat ((h.drop a).take k)
  let len := n 0x14 4
  n 0 4 == 0x31465646 && n 4 2 == 1 && n 6 2 == 0 && n 8 4 == 0x00F77720 && decide (n 0x0C 1 ≤ 64) && n 0x0D 3 == 0
    && len % 256 == 0 && decide (0x100 ≤ len) && decide (len ≤ 0x300000) && (h.drop 0xB0).all (· == 0)

/-- The header of a firmware slot. -/
def fwHeader (s : State) (slot : Nat) : List Byte := flashBytes s (fwBase slot) 256

/-- The SVN of a firmware slot's header. -/
def fwSvn (s : State) (slot : Nat) : Nat := ((fwHeader s slot).getD 0x0C 0).toNat

/-- The FW_VER of a firmware slot's header. -/
def fwVer (s : State) (slot : Nat) : Nat := leNat (((fwHeader s slot).drop 0x10).take 4)

/-- GRN_FW_SLOT follows the headers and the record in force. -/
def showFw (s : State) : State :=
  let r := bootRec s
  [0, 1].foldl (fun s n =>
    let ok := fwHeaderOk (fwHeader s n)
    let s := (s.wr (Reg.GRN_FW_SLOT_STATE n) (r.state n)).wr (Reg.GRN_FW_SLOT_SVN n) (if ok then fwSvn s n else 0)
    s.wr (Reg.GRN_FW_SLOT_VER n) (if ok then fwVer s n else 0)) s

/-- Write a new record with the next generation into the other copy's sector, by an erase and a program; nothing where GRN_PROT
protects them (R706, R718). -/
def writeRec (s : State) (r : BootRec) : State :=
  let o := 0x1000 - (bootRec s).base
  if eraseProtected s o 4096 then s
  else match hwErase s o with
    | none => raise s Blk.grn 0x0104 .fault o
    | some s => showFw (gProgram s o (recBytes { r with gen := ((bootRec s).gen + 1) % 2 ^ 32 }))

/-- Program a mark into the record in force. -/
def programMark (s : State) (o : Nat) (v : Byte) : State :=
  let b := (bootRec s).base
  if gProtected s b 64 then s else gProgram s (b + o) [v]

/-! ### Anti-rollback (R724) -/

/-- The count of the mirror: its leading 0x00 bytes. -/
def mirrorCount (s : State) : Nat := ((gBytes s 0x8000 64).takeWhile (· == 0)).length

/-- Program the mirror and its copy to a count. -/
def setMirror (s : State) (n : Nat) : State :=
  if gProtected s 0x8000 0x1000 then s
  else gProgram (gProgram s 0x8000 (List.replicate n 0)) 0x8100 (List.replicate n 0)

/-- Blow fuse steps up to a count. -/
def blowTo (s : State) (n : Nat) : State :=
  let n := min n 64
  if n ≤ s.grn.ar then s else { s.wr Reg.GRN_AR_COUNT_COUNT n with grn := { s.grn with ar := n } }

/-! ### Booting (R715–R720) -/

/-- MODE codes of GRN_BOOT_STATUS. -/
abbrev modeNormal := 0
abbrev modeTrial := 1
abbrev modeFallback := 2
abbrev modeForced := 3
abbrev modeHalt := 4
abbrev modeNone := 5

/-- GRN_BOOT_STATUS of a boot. -/
def bootStatus (s : State) (mode slot reason : Nat) : State :=
  ((s.wr Reg.GRN_BOOT_STATUS_MODE mode).wr Reg.GRN_BOOT_STATUS_SLOT slot).wr Reg.GRN_BOOT_STATUS_REASON reason

/-- Start copying a slot. -/
def tryBoot (s : State) (b : Boot) : State := { s with grn := { s.grn with boot := some b } }

/-- FIRMWARE_BOOT: the boot ROM reads the boot record and copies the chosen slot (R715, R717, R719, R724). (DEDUCED, log 43) -/
def execFirmwareBoot (s : State) : Out :=
  if !s.grn.bootWait || !domainUp s 17 || !domainUp s 22 || !domainUp s 19 || s.bit Reg.GRN_STATUS_SCAN ||
      s.rd Reg.IMG_STATUS_STATE == 1 then .next s
  else
    let r := bootRec s
    let s := { s with grn := { s.grn with bootWait := false } }
    let s := showFw (blowTo s (max (mirrorCount s) (fwSvn s r.active)))
    match s.rd Reg.RST_BOOT_BOOT_SEL with
    | 3 => .next (bootStatus s modeHalt 0 0)
    | 1 => .next (tryBoot s { slot := 0, mode := modeForced })
    | 2 => .next (tryBoot s { slot := 1, mode := modeForced })
    | _ =>
      if r.trial = 0xFF then .next (tryBoot s { slot := r.active, mode := modeNormal })
      else if r.tried then
        let reason := if r.fail ≠ 0xFF then r.fail else if r.expired then 4 else 3
        let s := writeRec s { r.setState r.trial 3 with trial := 0xFF, last := reason }
        .next (tryBoot s { slot := r.active, mode := modeFallback, left := r.trial, reason := reason })
      else .next (tryBoot (programMark s 48 0) { slot := r.trial, mode := modeTrial })

/-- Why a slot does not authenticate: 0 it does, 1 AUTH, 2 SVN (R716, Table 15.9). (DEDUCED, log 43) -/
def authFault (s : State) (slot : Nat) : Nat :=
  let h := fwHeader s slot
  let body := flashBytes s (fwBase slot + 0x100) (leNat ((h.drop 0x14).take 4))
  if !fwHeaderOk h then 1
  else if Config.sha384 body ≠ (h.drop 0x20).take 48 then 1
  else if !Config.p384Verify Config.firmwareKey (h.take 0x50) ((h.drop 0x50).take 96) then 1
  else if fwSvn s slot < s.rd Reg.GRN_AR_COUNT_COUNT then 2
  else 0

/-! ### Settings generations (R711, R712) -/

/-- The first address of a settings area (Table 15.1). -/
def areaBase (n : Nat) : Nat := 0x10000 * (n + 1)

/-- A valid settings area: its schema ID and its generation number (Table 15.5). -/
def settingsArea (s : State) (n : Nat) : Option (Nat × Nat) :=
  let h := gBytes s (areaBase n) 64
  let at_ := fun o => leNat ((h.drop o).take 4)
  if h.take 4 ≠ [0x46, 0x56, 0x53, 0x54] then none
  else if at_ 12 = 0 ∨ 65472 < at_ 12 ∨ crc32c (h.take 60) ≠ at_ 60 then none
  else if crc32c (gBytes s (areaBase n + 64) (at_ 12)) ≠ at_ 16 then none
  else some (at_ 4, at_ 8)

/-- The valid areas. -/
def settingsAreas (s : State) : List (Nat × Nat) := (List.range 4).filterMap (settingsArea s)

/-- The area with the highest generation. -/
def highestArea (l : List (Nat × Nat)) : Option (Nat × Nat) :=
  l.foldl (fun o a => match o with
    | none => some a
    | some b => if b.2 < a.2 then some a else some b) none

/-- The area that a firmware uses: the highest generation among the schemas that it supports (R712). -/
def settingsInUse (s : State) (schemas : List (BitVec 32)) : Option (Nat × Nat) :=
  highestArea ((settingsAreas s).filter (fun a => schemas.any (fun k => k.toNat == a.1)))

/-- A trial firmware that supports no valid area, where one exists, logs the highest valid one (R726): the black-box entry of step 2.
Steps 3 and 4 are the firmware's own writes, FAIL_TRIAL and RST_CMD_DOMAIN. (DEDUCED, log 43) -/
def logSchema (s : State) (schemas : List (BitVec 32)) : State :=
  match settingsInUse s schemas, highestArea (settingsAreas s) with
  | none, some a => raise s Blk.firmware 0x0201 .warn (a.1 + 2 ^ 32 * a.2)
  | _, _ => s

/-- The bytes of a firmware slot that its header counts (Table 15.6). (DEDUCED, log 43) -/
def fwBody (s : State) (slot : Nat) : List Byte := flashBytes s (fwBase slot + 0x100) (leNat (((fwHeader s slot).drop 0x14).take 4))

/-- The firmware of a slot starts (R716, R720, R722, R726). (DEDUCED, log 43) -/
def startFirmware (s : State) (b : Boot) : State :=
  let s := { s with grn := { s.grn with boot := none, fw := some (b.slot, fwSvn s b.slot) } }
  let s := bootStatus s b.mode b.slot (if b.mode = modeFallback then b.reason else 0)
  let s := raise s Blk.grn 0x0105 .info (b.slot + 2 ^ 8 * b.mode + 2 ^ 32 * fwVer s b.slot)
  if b.mode = modeFallback then raise s Blk.grn 0x0106 .warn (b.left + 2 ^ 8 * b.reason)
  else if b.mode = modeTrial then
    let sec := 60 * max (s.rd Reg.GRN_FW_CFG_TRIAL_MIN) 1
    let s := { s.wr Reg.GRN_TRIAL_LEFT_SEC sec with grn := { s.grn with trialEnd := some (s.taiNs + sec * 1000000000) } }
    logSchema s (Config.fwSchemas (fwBody s b.slot))
  else s

/-- No firmware starts: the MGMT pairs stay halted. (DEDUCED, log 43) -/
def noFirmware (s : State) (b : Boot) (event : Bool) : State :=
  let s := bootStatus { s with grn := { s.grn with boot := none } } modeNone 0 0
  if event then raise s Blk.grn 0x0109 .fault (b.whyA + 2 ^ 8 * b.whyB) else s

/-- FW_BOOT_COMPLETE: the copied slot authenticates and starts, or the next row of Table 15.8 applies. -/
def execFwBootComplete (s : State) : Out :=
  match s.grn.boot with
  | none => .next s
  | some b =>
    let why := authFault s b.slot
    let r := bootRec s
    if why = 0 then
      let s := if b.second then
          writeRec s { (r.setState b.left 4) with active := b.slot, last := b.reason }
        else s
      .next (startFirmware s b)
    else
      let b' := if b.slot = 0 then { b with whyA := why } else { b with whyB := why }
      if b.mode = modeForced then .next (noFirmware s b' false)
      else if b.mode = modeTrial then
        let s := writeRec s { r.setState b.slot 4 with trial := 0xFF, last := why }
        .next (tryBoot s { b' with slot := r.active, mode := modeFallback, left := b.slot, reason := why })
      else if !b.second && r.state (1 - b.slot) == 1 then
        .next (tryBoot s { b' with slot := 1 - b.slot, mode := modeFallback, left := b.slot, reason := why, second := true })
      else .next (noFirmware s b' true)

/-! ### Boot record commands (R721–R727, R906) -/

/-- The result of a GRN_FW_CMD command. -/
def fwResult (s : State) (code : Nat) : State := s.wr Reg.GRN_FW_RESULT_CODE code

/-- The checks of R906 in order; `k` carries out the command. -/
def fwCommand (s : State) (a : Access) (v : Word) (who key range state prot : Bool) (k : State → State) : State :=
  withWrite s a 0x900000 Blk.grn 19 0x900034 fun s =>
    if !who then fwResult s 4
    else if s.bit Reg.GRN_STATUS_SCAN || grnBusy s then fwResult s 1
    else if key && fieldOf v 16 16 != 0xC0DE then fwResult s 3
    else if !range then fwResult s 5
    else if !state then fwResult s 2
    else if prot then fwResult s 6
    else k s

/-- A write of the record that fails (R906): the other copy is left without a valid record. -/
def failRec (s : State) (erase : Bool) : State :=
  let o := 0x1000 - (bootRec s).base
  if erase then raise s Blk.grn 0x0104 .fault o
  else raise (gMix (gErase s o 4096) (cellsAt (o + 4) (List.replicate 40 0))) Blk.grn 0x0103 .fault o

/-- Write a new record for a command, or fail. -/
def commandRec (s : State) (r : BootRec) (fail : Nat) (k : State → State) : State :=
  if fail = 1 ∨ fail = 2 then fwResult (failRec s (fail == 1)) 7
  else if ringBlocked s 0 || ringBlocked s 1 then fwResult (failRec s true) 7
  else k (fwResult (writeRec s r) 0)

/-- The slot that a command's ARG names. -/
def fwArg (v : Word) : Nat := fieldOf v 8 8

/-- TRIAL (R721). -/
def execFwTrial (a : Access) (v : Word) (fail : Fin 3) (s : State) : Out :=
  let r := bootRec s
  let x := fwArg v
  .next (fwCommand s a v (isPfOrMgmt a.init) true (decide (x ≤ 1)) (r.trial == 0xFF && x != r.active)
    (eraseProtected s (0x1000 - r.base) 4096) fun s =>
      commandRec s { r.setState x 2 with trial := x } fail.val id)

/-- Whether the trial firmware runs: the slot on trial was booted for its trial, and the trial has not ended by a commit. A reset of PD19
clears GRN_BOOT_STATUS, but the trial goes on. (DEDUCED, log 43) -/
def trialRuns (s : State) : Bool :=
  let r := bootRec s
  let mode := s.rd Reg.GRN_BOOT_STATUS_MODE
  s.grn.fw.any (fun f => f.1 == r.trial) && (mode == modeTrial || mode == modeNormal && r.tried)

/-- COMMIT (R723, R724). -/
def execFwCommit (a : Access) (v : Word) (fail : Fin 4) (s : State) : Out :=
  let r := bootRec s
  .next (fwCommand s a v (isPfOrMgmt a.init) true true (trialRuns s && !r.expired)
    (eraseProtected s (0x1000 - r.base) 4096 || gProtected s 0x8000 0x1000) fun s =>
      let svn := (s.grn.fw.map Prod.snd).getD 0
      commandRec s { r with active := r.trial, stA := 1, stB := 1, trial := 0xFF } fail.val fun s =>
        if fail.val = 3 then
          fwResult (raise (gMix s (cellsAt 0x8000 (List.replicate svn 0))) Blk.grn 0x0103 .fault 0x8000) 7
        else
          let s := blowTo (setMirror s svn) svn
          let s := { s.wr Reg.GRN_TRIAL_LEFT_SEC 0 with grn := { s.grn with trialEnd := none } }
          raise s Blk.grn 0x0108 .info (r.trial + 2 ^ 8 * svn + 2 ^ 16 * s.rd Reg.GRN_AR_COUNT_COUNT))

/-- FAIL_TRIAL (R725). -/
def execFailTrial (a : Access) (v : Word) (fail : Bool) (s : State) : Out :=
  let x := fwArg v
  .next (fwCommand s a v (isMgmt a.init) false (x != 0 && x != 0xFF) (trialRuns s) (gProtected s (bootRec s).base 64) fun s =>
    if fail then
      fwResult (raise (gMix s [((bootRec s).base + 50, BitVec.ofNat 8 x)]) Blk.grn 0x0103 .fault ((bootRec s).base + 50)) 7
    else fwResult (programMark s 50 (BitVec.ofNat 8 x)) 0)

/-- IMG_SLOT (R727). -/
def execImgSlotSelect (a : Access) (v : Word) (fail : Fin 3) (s : State) : Out :=
  let r := bootRec s
  let x := fwArg v
  .next (fwCommand s a v (isPfOrMgmt a.init) true (x == 0 || x == 1 || x == 0xFF) true
    (eraseProtected s (0x1000 - r.base) 4096) fun s => commandRec s { r with img := x } fail.val id)

/-- TRIAL_EXPIRED: the trial window ends without a commit (R722). -/
def execTrialExpired (s : State) : Out :=
  let r := bootRec s
  if trialRuns s && s.grn.trialEnd.isSome && !r.expired then
    let s := programMark s 49 0
    let s := { s.wr Reg.GRN_TRIAL_LEFT_SEC 0 with grn := { s.grn with trialEnd := none } }
    .next (raise s Blk.grn 0x0107 .warn r.trial)
  else .next s

/-- GRN_TRIAL_LEFT counts down in seconds (R722). -/
def trialCountdown (s : State) : State :=
  match s.grn.trialEnd with
  | none => s
  | some e => s.wr Reg.GRN_TRIAL_LEFT_SEC (ceilDiv (e - s.taiNs) 1000000000)

/-! ### Key hash fuses (R728) -/

/-- The PF service channel. -/
def serviceChannel (s : State) : Option Nat :=
  (List.range 64).find? (fun c => s.rd (Reg.MBX_BIND_SENDER c) == 1 && s.rd (Reg.MBX_BIND_RECEIVER c) == 0x100 && !s.bit (Reg.MBX_BIND_MODE c))

/-- The image engine shows the fuses. -/
def showFuses (s : State) : State :=
  let f := s.img.fuses
  let s := (s.wr Reg.IMG_KEY_STATE_PROGRAMMED f.programmed).wr Reg.IMG_KEY_STATE_REVOKED f.revoked
  (List.range 4).foldl (fun s n => (List.range 12).foldl
    (fun s j => s.wr (Reg.IMG_KEYHASH n j) (leNat (((Tab.get [] f.hash n).drop (4 * j)).take 4))) s) s

/-- Serve a message of the PF service channel whose word 0 bits [7:0] are `op`: the ACK code and the fuses after it. -/
def fuseService (s : State) (op : Nat) (serve : Fuses → Nat → List Byte → Nat × Fuses) : State :=
  match serviceChannel s with
  | none => s
  | some c =>
    let w := s.reg (Reg.MBX_MSG c 0).key
    if s.grn.fw.isNone || !s.bit (Reg.MBX_STATUS_FULL c) || fieldOf w 0 8 != op then s
    else
      let slot := fieldOf w 8 2
      let hash := (List.range 12).flatMap (fun j => toLe 4 (s.rd (Reg.MBX_MSG c (j + 1))))
      let p := if fieldOf w 16 10 ≠ 1 then (4, s.img.fuses) else serve s.img.fuses slot hash
      let s := { s with img := { s.img with fuses := p.2 } }
      endMessage (if blockUp s 0x40000 18 then showFuses s else s) c (some p.1)

/-- FUSE_PROGRAM: message 0x21. (DEDUCED, log 42) -/
def execFuseProgram (fail : Bool) (s : State) : Out :=
  .next (fuseService s 0x21 fun f n h =>
    if (Tab.get [] f.hash n).any (· != 0) then (1, f)
    else
      let f := { f with hash := Tab.put [] f.hash n h }
      if fail then (5, f) else (0, { f with programmed := setBitAt f.programmed n true }))

/-- FUSE_REVOKE: message 0x22. -/
def execFuseRevoke (s : State) : Out :=
  .next (fuseService s 0x22 fun f n _ =>
    if !bitAt f.programmed n then (2, f)
    else if (List.range 4).all (fun m => m == n || !bitAt f.programmed m || bitAt f.revoked m) && !bitAt f.revoked n then (3, f)
    else (0, { f with revoked := setBitAt f.revoked n true }))

end Sys2Proof.Machine
end

