-- ==== Sys2Proof/Machine/Drive.lean ====
section
/-! DEFINITION. The drive of one motor channel in its PWM periods: duties, gate commands, current measurement and the back-EMF observer ("Fans,
pumps and blowers"). -/

namespace Sys2Proof.Machine

/-- PD21 is up. -/
def moveUp (s : State) : Bool := domainUp s 21

/-- A motor channel. -/
def motOf (s : State) (m : Nat) : Mot := Tab.get {} s.mov.mot m

/-- Set a motor channel. -/
def setMot (s : State) (m : Nat) (x : Mot) : State := { s with mov := { s.mov with mot := Tab.put {} s.mov.mot m x } }

/-- The state codes of MSTATE. -/
abbrev mStopped := 0
abbrev mAlign := 1
abbrev mRamp := 2
abbrev mRunning := 3
abbrev mStopping := 4
abbrev mWait := 5
abbrev mFault := 6

/-- The state of a channel. -/
def mState (s : State) (m : Nat) : Nat := s.rd (Reg.MTR_ST_MSTATE_STATE m)

/-- Whether MTR_EN[m] is high (R784). -/
def motorDriven (s : State) (m : Nat) : Bool := [1, 2, 3, 4].contains (s.rd (Reg.MTR_ST_MSTATE_STATE m))

/-! ### The sinusoidal drive (R783, R785) -/

/-- An entry of the waveform table. -/
def waveEntry (s : State) (k : Nat) : Int :=
  signedOf 16 (if k % 2 = 0 then s.rd (Reg.MTR_WAVE_EVEN (k / 2)) else s.rd (Reg.MTR_WAVE_ODD (k / 2)))

/-- w(θ) in units of 1 ÷ (64 × 0x7FFF). -/
def waveAt (s : State) (th : Nat) : Int :=
  let k := th / 64 % 1024
  let f : Int := th % 64
  waveEntry s k * (64 - f) + waveEntry s ((k + 1) % 1024) * f

/-- The denominator of a phase duty. -/
abbrev dutyDen : Int := 2 * (2 : Int) ^ 149 * 64 * 32767

/-- A phase duty 0.5 + 0.5 × A × w(θ); one whose on-time would be too short is set to 0 or 1 (R783). -/
def phaseDuty (s : State) (m th : Nat) (amp : Word) : Int :=
  let n := (2 : Int) ^ 149 * 64 * 32767 + fpVal amp * waveAt s th
  let top : Int := s.rd (Reg.MTR_CH_PWM_TOP m)
  let dt : Int := s.rd (Reg.MTR_CH_PWM_DT m)
  if n * top < dt * dutyDen then 0
  else if (dutyDen - n) * top < dt * dutyDen then dutyDen
  else n

/-- The three phase duties at an angle; CFG.DIR exchanges V and W. -/
def phaseDuties (s : State) (m th : Nat) (amp : Word) : List Int :=
  let v := (th + 65536 - 21845) % 65536
  let w := (th + 65536 - 43691) % 65536
  let p := if s.bit (Reg.MTR_CH_CFG_DIR m) then (w, v) else (v, w)
  [phaseDuty s m th amp, phaseDuty s m p.1 amp, phaseDuty s m p.2 amp]

/-! ### The counter and the gate commands (R782–R784, R803) -/

/-- The up-down counter at `t` cycles after it was 0, in a period of 2 × TOP cycles (R782). -/
def counterAt (top t : Nat) : Nat := if t ≤ top then t else 2 * top - t

/-- The high-side command of a phase with a duty over `dutyDen`: on while the counter is at or above TOP × (1 − d) (R782). -/
def edgesOf (top : Nat) (d : Int) : PhaseEdges :=
  let rise := (((top : Int) * (dutyDen - d) + dutyDen - 1) / dutyDen).toNat
  ⟨rise, 2 * top - rise⟩

/-- The high-side gate command at a cycle of the period: it begins DT after the low side's end (R783). -/
def highOn (dt : Nat) (e : PhaseEdges) (t : Nat) : Bool :=
  decide (e.rise < e.fall) && (e.rise == 0 || decide (e.rise + dt ≤ t)) && decide (t < e.fall)

/-- The low-side gate command at a cycle of the period: at all other times, except during dead time (R782, R783). -/
def lowOn (dt : Nat) (e : PhaseEdges) (t : Nat) : Bool :=
  if e.fall ≤ e.rise then true else e.rise != 0 && (decide (t < e.rise) || decide (e.fall + dt ≤ t))

/-- The gate outputs of a channel at a cycle of its last period, high side and low side of U, V, W: the levels of CFG.POL_H and POL_L, all
inactive without drive and after a trip (R783, R784, R803, R806). -/
def gateLevels (s : State) (m t : Nat) : List (Bool × Bool) :=
  let y := motOf s m
  let on := moveUp s && motorDriven s m && !y.blank
  let dt := s.rd (Reg.MTR_CH_PWM_DT m)
  [0, 1, 2].map (fun i =>
    let p := match (if on then y.edges[i]? else none) with
      | some e => (highOn dt e t, lowOn dt e t)
      | none => (false, false)
    (p.1 != s.bit (Reg.MTR_CH_CFG_POL_H m), p.2 != s.bit (Reg.MTR_CH_CFG_POL_L m)))

/-! ### Current measurement (R786–R790) -/

/-- The phases in the order of their duties, the highest first; of equal ones the first of U, V, W. (DEDUCED, log 46) -/
def dutyRank (ds : List Int) : Nat × Nat × Nat :=
  let d := fun i => ds.getD i 0
  let hi := if d 0 < d 1 then (if d 1 < d 2 then 2 else 1) else if d 0 < d 2 then 2 else 0
  let a := if hi = 0 then 1 else 0
  let b := if hi = 2 then 1 else 2
  if d a < d b then (hi, b, a) else (hi, a, b)

/-- A phase whose edge within the up-count comes no earlier than `lo`: moved later where it does, with its edge in the down-count, so that its
on-time is unchanged; none where that does not fit within the period (R789). -/
def shiftEdge (top lo : Nat) (e : PhaseEdges) : Option PhaseEdges :=
  if lo ≤ e.rise then some e
  else if lo ≤ top ∧ e.fall + (lo - e.rise) ≤ 2 * top then some ⟨lo, e.fall + (lo - e.rise)⟩
  else none

/-- The minimum window of mode S, in cycles: SETTLE × 5 ns + 100 ns (R788). -/
def minWindow (settle : Nat) : Nat := settle + 20

/-- The edges of a mode S period with its two windows at the minimum at least (R788, R789); none where no shift fits. -/
def windowEdges (top settle : Nat) (rank : Nat × Nat × Nat) (es : List PhaseEdges) : Option (List PhaseEdges) :=
  let e := fun i => es.getD i ⟨0, 0⟩
  (shiftEdge top ((e rank.1).rise + minWindow settle) (e rank.2.1)).bind (fun mid =>
    (shiftEdge top (mid.rise + minWindow settle) (e rank.2.2)).map (fun low => (es.set rank.2.1 mid).set rank.2.2 low))

/-- A current in A from a code of current input `k`: (code − IOFS) × ISCALE, with IOFS the mean of 64 codes (R786, R794). -/
def ampsOf (s : State) (m k : Nat) (code : Fin 4096) : Word :=
  Config.fpMul (Config.fpOfQuot (64 * (code.val : Int) - ((motOf s m).iofs.getD k 0 : Int)) 64) (s.reg (Reg.MTR_CH_FP m 6).key)

/-- Minus the sum of two currents. -/
def minusSum (a b : Word) : Word := fpNegate (Config.fpAdd a b)

/-- The phase currents U, V, W of a mode T period (R787). -/
def currentsT (s : State) (m : Nat) (p : PwmIn) : Option (Word × Word × Word) :=
  match p.first, p.second with
  | some a, some b =>
    let u := ampsOf s m 0 a
    let v := ampsOf s m 1 b
    some (u, v, minusSum u v)
  | _, _ => none

/-- The phase currents U, V, W of a mode S period: the first sample is the current of the max phase, the second minus that of the min phase
(R788). -/
def currentsS (s : State) (m : Nat) (rank : Nat × Nat × Nat) (p : PwmIn) : Option (Word × Word × Word) :=
  match p.first, p.second with
  | some a, some b =>
    let hi := ampsOf s m 0 a
    let lo := fpNegate (ampsOf s m 0 b)
    let of := fun i => if i = rank.1 then hi else if i = rank.2.2 then lo else minusSum hi lo
    some (of 0, of 1, of 2)
  | _, _ => none

/-- The edges of a period, its measurement, and the conversions that it dropped (R787–R790). A mode S period without a fitting shift keeps its
edges and takes no sample. (DEDUCED, log 46) -/
def measure (s : State) (m : Nat) (p : PwmIn) : List PhaseEdges × Option (Word × Word × Word) × Nat :=
  let top := s.rd (Reg.MTR_CH_PWM_TOP m)
  let ds := (motOf s m).duty
  let es := ds.map (edgesOf top)
  let late := p.first.isNone.toNat + p.second.isNone.toNat
  if s.bit (Reg.MTR_CH_CFG_MODE_I m) then (es, currentsT s m p, late)
  else match windowEdges top (s.rd (Reg.MTR_CH_PWM_SETTLE m)) (dutyRank ds) es with
    | some es => (es, currentsS s m (dutyRank ds) p, late)
    | none => (es, none, 0)

/-! ### The observer (R796) -/

/-- 1 ÷ √3 as FP32. -/
abbrev fpInvSqrt3 : Word := 0x3F13CD3A

/-- π as FP32. -/
abbrev fpPi : Word := 0x40490FDB

/-- The α and β components of three phase quantities; with CFG.DIR 1 the phases V and W are exchanged, as in R785. (DEDUCED, log 46) -/
def clarke (dir : Bool) (x : Word × Word × Word) : Word × Word :=
  let v := if dir then x.2.2 else x.2.1
  let w := if dir then x.2.1 else x.2.2
  let sum := Config.fpAdd v w
  (Config.fpMul (Config.fpAdd (Config.fpAdd x.1 x.1) (fpNegate sum)) (Config.fpOfQuot 1 3),
   Config.fpMul (Config.fpAdd v (fpNegate w)) fpInvSqrt3)

/-- The applied phase voltages (d_x − 0.5) × the bus voltage. -/
def phaseVolts (s : State) (m : Nat) : Word × Word × Word :=
  let vb := s.reg (Reg.MTR_ST_VBUS m).key
  let one := fun i => Config.fpMul (Config.fpOfQuot (2 * (motOf s m).duty.getD i 0 - dutyDen) (2 * dutyDen)) vb
  (one 0, one 1, one 2)

/-- One component of e = v − R_PH × i − L_PH × di/dt; without a current of the period before, di/dt counts as 0. (DEDUCED, log 46) -/
def emfOf (s : State) (m ns : Nat) (v i : Word) (prev : Option Word) : Word :=
  let di := match prev with
    | some q => Config.fpDiv (Config.fpAdd i (fpNegate q)) (Config.fpOfQuot ns 1000000000)
    | none => 0
  let ri := Config.fpMul (s.reg (Reg.MTR_CH_FP m 2).key) i
  let li := Config.fpMul (s.reg (Reg.MTR_CH_FP m 3).key) di
  Config.fpAdd (Config.fpAdd v (fpNegate ri)) (fpNegate li)

/-- The length of a PWM period in ns: 2 × TOP cycles of 5 ns (R782). -/
def periodNs (s : State) (m : Nat) : Nat := 10 * s.rd (Reg.MTR_CH_PWM_TOP m)

/-- The speed in rpm at which an electrical angle changed by `d` units in `ns`. -/
def rpmOfTurn (d : Int) (ns pairs : Nat) : Word := Config.fpOfQuot (d * 60000000000) ((65536 * ns * pairs : Nat) : Int)

/-- The observer after a PWM period with α and β currents `i` (R796). -/
def observe (s : State) (m : Nat) (i : Word × Word) (y : Mot) : Mot :=
  let ns := periodNs s m
  let v := clarke (s.bit (Reg.MTR_CH_CFG_DIR m)) (phaseVolts s m)
  let a := emfOf s m ns v.1 i.1 (y.iab.map Prod.fst)
  let b := emfOf s m ns v.2 i.2 (y.iab.map Prod.snd)
  let th := ((Config.fpAngle a b).toNat + 65536 - 0x4000) % 65536
  let speed := match y.obs with
    | some q => Config.speedFilter y.speed (rpmOfTurn (signedOf 16 ((th + 65536 - q) % 65536)) ns (s.rd (Reg.MTR_CH_CFG_POLE_PAIRS m))) ns 10000000
    | none => y.speed
  { y with iab := some i, emf := (a, b), obs := some th, speed := speed }

/-! ### The ramp (R794, R797) -/

/-- The open-loop speed after `t` ns of a ramp, as rpm numerator and denominator (R794). -/
def rampSpeed (s : State) (m t : Nat) : Nat × Nat :=
  let r := s.rd (Reg.MTR_CH_RAMP_RAMP_MS m) * 1000000
  let e := s.rd (Reg.MTR_CH_RAMP_RAMP_END m)
  if r ≤ t then (e, 1) else (e * t, r)

/-- The open-loop angle after `t` ns of a ramp: the alignment angle and the integral of the open-loop speed (R794). -/
def rampAngle (s : State) (m t : Nat) : Nat :=
  let r := s.rd (Reg.MTR_CH_RAMP_RAMP_MS m) * 1000000
  let k := s.rd (Reg.MTR_CH_RAMP_RAMP_END m) * s.rd (Reg.MTR_CH_CFG_POLE_PAIRS m) * 65536
  let turned := if r ≤ t then k * (2 * t - r) / 120000000000 else k * t * t / (120000000000 * r)
  (s.rd (Reg.MTR_CH_START_ALIGN_ANGLE m) * 256 + turned) % 65536

/-- Whether a speed lies within ±HO_TOL % of the open-loop speed (R797). -/
def emfAgrees (s : State) (m : Nat) (speed : Word) (ol : Nat × Nat) : Bool :=
  let want : Int := (ol.1 * fpOne : Nat)
  decide (100 * (fpVal speed * ol.2 - want).natAbs ≤ s.rd (Reg.MTR_CH_HANDOVER_HO_TOL m) * (ol.1 * fpOne))

/-! ### One PWM period (R785–R797) -/

/-- The angle of the period that follows: open loop in RAMP, else the observer's with ADV (R794, R797). -/
def nextAngle (s : State) (m : Nat) (y : Mot) : Nat :=
  if mState s m = mRamp then rampAngle s m y.ramp
  else ((y.obs.getD y.angle) + s.rd (Reg.MTR_CH_HANDOVER_ADV m) * 256) % 65536

/-- One PWM period of a channel in RAMP, RUNNING or STOPPING: its edges, its currents, the observer, and the duties of the next. (DEDUCED, log 46) -/
def pwmPeriod (s : State) (m : Nat) (p : PwmIn) : State :=
  if mState s m ≠ mRamp ∧ mState s m ≠ mRunning ∧ mState s m ≠ mStopping then s
  else
    let ns := periodNs s m
    let x := measure s m p
    let s := s.add (Reg.MTR_ST_ADC_LATE m) x.2.2
    let y := motOf s m
    let amps := match x.2.1 with
      | some i => some i
      | none => y.amps
    let y := { y with edges := x.1, blank := false, amps := amps, miss := if x.2.1.isSome then 0 else y.miss + 1, ramp := y.ramp + ns }
    let i := clarke (s.bit (Reg.MTR_CH_CFG_DIR m)) (amps.getD (0, 0, 0))
    let mag := Config.fpSqrt (Config.fpAdd (Config.fpMul i.1 i.1) (Config.fpMul i.2 i.2))
    let y := observe s m i { y with imag := Config.currentFilter y.imag mag ns }
    let y := { y with agree := if emfAgrees s m y.speed (rampSpeed s m y.ramp) then y.agree + ns else 0 }
    let th := nextAngle s m y
    setMot s m { y with angle := th, duty := phaseDuties s m th (s.reg (Reg.MTR_ST_AMP m).key) }

end Sys2Proof.Machine
end

