-- ==== Sys2Proof/Machine/Mov.lean ====
section
/-! DEFINITION. Fans and motors ("Fans, pumps and blowers"). -/

namespace Sys2Proof.Machine

/-- The largest climate request that names a channel (R756): kind 0 FAN, 1 MTR; none while PD20 is down. -/
def climateReq (s : State) (kind chan : Nat) : Nat :=
  if domainUp s 20 then
    ((List.range 8).filter (fun m => s.bit (Reg.CLM_MOV_CFG_EN m) && s.rd (Reg.CLM_MOV_CFG_KIND m) == kind &&
      s.rd (Reg.CLM_MOV_CFG_CHAN m) == chan)).foldl (fun x m => max x (s.rd (Reg.CLM_MOV_MSTATUS_REQ m))) 0
  else 0

/-- THM requests full fan speed. -/
def fanFull (s : State) : Bool := s.bit Reg.THM_STATUS_FAN_FULL

/-! ### Fans (R774–R781) -/

/-- Whether a fan channel is faulty. -/
def fanFaulty (s : State) (c : Nat) : Bool := s.rd (Reg.FAN_CH_CSTATUS_STATE c) == 2

/-- The faulty members of a cooling group. -/
def groupFaults (s : State) (g : Nat) : List Nat :=
  (List.range 12).filter (fun c => s.rd (Reg.FAN_CH_CFG_GROUP c) == g && fanFaulty s c)

/-- Whether a group boost applies to a channel (R781). -/
def boosted (s : State) (c : Nat) : Bool :=
  let g := s.rd (Reg.FAN_CH_CFG_GROUP c)
  decide (g < 4) && bitAt (s.rd Reg.FAN_CTRL_BOOST) g && (groupFaults s g).any (· != c)

/-- The requests of a channel in the order of their source codes: source and percent (R774, Table 17.8). -/
def fanRequests (s : State) (c : Nat) : List (Nat × Nat) :=
  [(1, min (s.rd (Reg.FAN_CH_SET_PCT c)) 100), (2, min (climateReq s 0 c) 100),
   (3, if s.bit (Reg.FAN_CH_CFG_LOSS c) && s.bit Reg.FAN_STATUS_WDT_EXPIRED then 100 else 0),
   (4, if s.bit (Reg.FAN_CH_CFG_THM_FULL c) && fanFull s then 100 else 0), (5, if boosted s c then 100 else 0)]

/-- The effective duty and its source (R774): of equal requests the lower source code. -/
def fanDuty (s : State) (c : Nat) : Nat × Nat :=
  if s.rd (Reg.FAN_CH_CSTATUS_STATE c) = 0 then (0, 0)
  else
    let best := (fanRequests s c).foldl (fun b r => if b.2 < r.2 then r else b) (0, 0)
    let low := s.rd (Reg.FAN_CH_LIMITS_MIN_PCT c)
    if best.2 = 0 then (if s.bit (Reg.FAN_CH_CFG_STOP_OK c) then (0, 0) else (6, low))
    else if best.2 < low then (6, low) else best

/-- Recompute one channel's duty; a duty that rises from below FAULT_PCT starts the spin-up time (R779). -/
def fanChannel (s : State) (c : Nat) : State :=
  let old := s.rd (Reg.FAN_CH_DUTY_PCT c)
  let d := fanDuty s c
  let thr := s.rd (Reg.FAN_CH_LIMITS_FAULT_PCT c)
  let f := Tab.get {} s.mov.fan c
  let f := if d.2 < thr then { f with below := 0 }
    else if old < thr then { f with below := 0, spin := s.rd (Reg.FAN_CH_TACH_CFG_SPINUP c) * 100 } else f
  let s := (s.wr (Reg.FAN_CH_DUTY_PCT c) d.2).wr (Reg.FAN_CH_DUTY_SOURCE c) d.1
  { s with mov := { s.mov with fan := Tab.put {} s.mov.fan c f } }

/-- The level of FAN_PWM[c] at cycle `t` of its period of 8,000 cycles: active for the effective duty from its start, active high with INV 0;
none, high impedance, while PD21 is down (R773, R806). -/
def fanPwmLevel (s : State) (c t : Nat) : Option Bool :=
  if moveUp s then some (decide (t < 80 * s.rd (Reg.FAN_CH_DUTY_PCT c)) != s.bit (Reg.FAN_CH_CFG_INV c)) else none

/-- The groups whose boost is in force. -/
def boostMask (s : State) : Nat :=
  ((List.range 4).filter (fun g => bitAt (s.rd Reg.FAN_CTRL_BOOST) g && !(groupFaults s g).isEmpty)).foldl (fun m g => m + 2 ^ g) 0

/-- Recompute every fan: GROUP_BOOST where a boost begins, duties, and FAN_STATUS. -/
def fansUpdate (s : State) : State :=
  if !moveUp s then s
  else
    let now := boostMask s
    let s := (List.range 4).foldl (fun s g =>
      if bitAt now g && !bitAt s.mov.boost g then
        raise s Blk.fan 0x0105 .warn (g + 2 ^ 8 * (groupFaults s g).headD 0)
      else s) s
    let s := { s with mov := { s.mov with boost := now } }
    let s := (List.range 12).foldl fanChannel s
    let full := ((List.range 12).filter (fun c => s.rd (Reg.FAN_CH_DUTY_PCT c) == 100)).foldl (fun m c => m + 2 ^ c) 0
    let bad := ((List.range 12).filter (fanFaulty s)).foldl (fun m c => m + 2 ^ c) 0
    (s.wr Reg.FAN_STATUS_FULL full).wr Reg.FAN_STATUS_FAULT bad

/-- A write to FAN_KICK (R775, R776). -/
def execFanKick (a : Access) (_v : Word) (ms : Nat) (s : State) : Out :=
  .next (withWrite s a 0x9C0000 Blk.fan 21 0x9C0008 fun s =>
    if !isPfOrMgmt a.init then cfgViol s Blk.fan a.init 0x9C0008
    else if s.bit Reg.FAN_STATUS_WDT_EXPIRED then
      fansUpdate (raise (s.wr Reg.FAN_STATUS_WDT_EXPIRED 0) Blk.fan 0x0104 .info (ms % 2 ^ 32))
    else s)

/-- No kick for FAN_WDT ms (R776, R777). -/
def execFanWdtExpired (s : State) : Out :=
  if !moveUp s || s.bit Reg.FAN_STATUS_WDT_EXPIRED || (List.range 12).all (fun c => s.rd (Reg.FAN_CH_CSTATUS_STATE c) == 0) then .next s
  else .next (fansUpdate (raise (s.wr Reg.FAN_STATUS_WDT_EXPIRED 1) Blk.fan 0x0103 .warn 0))

/-- RPM of a tachometer (R778). A PPR of 0 or edges without a time between them give no stated value. (DEDUCED, log 46) -/
def rpmOf (s : State) (c : Nat) (t : TachIn) : Nat × State :=
  let ppr := s.rd (Reg.FAN_CH_CFG_PPR c)
  if t.edges < 2 then (0, s)
  else if ppr = 0 ∨ t.span = 0 then (s.free.toNat % 65536, s.used)
  else (min (60000000 * (t.edges - 1) / (ppr * t.span)) 65535, s)

/-- A faulty channel becomes RUNNING again (R780). -/
def fanOk (s : State) (c : Nat) : State :=
  let s := s.wr (Reg.FAN_CH_CSTATUS_STATE c) 1
  let f := Tab.get {} s.mov.fan c
  raise { s with mov := { s.mov with fan := Tab.put {} s.mov.fan c { f with below := 0, good := 0 } } } Blk.fan 0x0102 .info c

/-- One channel's RPM and fault check (R778–R780). -/
def rpmChannel (ts : List TachIn) (s : State) (c : Nat) : State :=
  let p := rpmOf s c (ts.getD c ⟨0, 0⟩)
  let s := p.2.wr (Reg.FAN_CH_RPM_RPM c) p.1
  let min := s.rd (Reg.FAN_CH_TACH_CFG_TACH_MIN c)
  let f := Tab.get {} s.mov.fan c
  match s.rd (Reg.FAN_CH_CSTATUS_STATE c) with
  | 1 =>
    let runs := decide (s.rd (Reg.FAN_CH_LIMITS_FAULT_PCT c) ≤ s.rd (Reg.FAN_CH_DUTY_PCT c)) && min != 0
    let below := if runs && f.spin == 0 && decide (p.1 < min) then f.below + 250 else 0
    let s := { s with mov := { s.mov with fan := Tab.put {} s.mov.fan c { f with below := below, spin := f.spin - 250, good := 0 } } }
    if runs && below != 0 && decide (s.rd (Reg.FAN_CH_TACH_CFG_TACH_T c) * 100 ≤ below) then
      raise ((s.wr (Reg.FAN_CH_CSTATUS_STATE c) 2).inc (Reg.FAN_CH_FAULTS c)) Blk.fan 0x0101 .warn (c + 2 ^ 32 * p.1)
    else s
  | 2 =>
    let good := if p.1 < min then 0 else f.good + 250
    let s := { s with mov := { s.mov with fan := Tab.put {} s.mov.fan c { f with good := good } } }
    if 2000 ≤ good then fanOk s c else s
  | _ => s

/-- RPM_UPDATE: every 250 ms. -/
def execRpmUpdate (t : List TachIn) (s : State) : Out :=
  if moveUp s then .next (fansUpdate ((List.range 12).foldl (rpmChannel t) s)) else .next s

/-- A write of 1 to CSTATUS.CLR (R780). -/
def execFanFaultClear (a : Access) (c : Fin 12) (v : Word) (s : State) : Out :=
  .next (withWrite s a 0x9C0000 Blk.fan 21 (0x9C0118 + 0x20 * c.val) fun s =>
    if fieldOf v 31 1 = 1 ∧ fanFaulty s c.val then fansUpdate (fanOk s c.val) else s)

/-! ### Motor states (R792–R805) -/

/-- Go to a state; without drive there is no duty. -/
def toMState (s : State) (m st : Nat) : State :=
  let s := s.wr (Reg.MTR_ST_MSTATE_STATE m) st
  if [mStopped, mFault, mWait].contains st then setMot s m { motOf s m with duty := [], edges := [], blank := false } else s

/-- The speed target (R792). -/
def speedTarget (s : State) (m : Nat) : Nat :=
  let top := s.rd (Reg.MTR_CH_SPEED_SPEED_MAX m)
  let low := s.rd (Reg.MTR_CH_SPEED_SPEED_MIN m)
  let t := max (s.rd (Reg.MTR_CH_SET_RPM m)) (climateReq s 1 m * top / 100)
  let t := min (max t (if s.bit (Reg.MTR_CH_CFG_THM_FULL m) && fanFull s then top else 0)) top
  if 0 < t ∧ t < low then low else t

/-- The attempts that TRIES allows. -/
def triesOf (s : State) (m : Nat) : Nat := max (s.rd (Reg.MTR_CH_START_TRIES m)) 1

/-- A start attempt begins (R794); `left` attempts remain after it. (DEDUCED, log 46) -/
def startAttempt (s : State) (m left : Nat) : State :=
  let s := (toMState s m mAlign).wr (Reg.MTR_ST_MSTATE_TRIES_LEFT m) left
  setMot (s.inc (Reg.MTR_ST_STARTS m)) m { motOf s m with
    keRun := 0, ocRun := 0, iofs := [], duty := [], edges := [], amps := none, miss := 0, iab := none, obs := none, speed := 0, ramp := 0, agree := 0 }

/-- A new target takes effect (R793, Table 17.5). -/
def motorTarget (s : State) (m : Nat) : State :=
  let x := motOf s m
  if !x.on then s
  else
    let old := x.target
    let t := speedTarget s m
    let s := setMot s m { x with target := t }
    let st := mState s m
    if t = 0 then
      if st = mAlign ∨ st = mRamp ∨ st = mWait then toMState s m mStopped
      else if st = mRunning then toMState s m (if s.bit (Reg.MTR_CH_CFG_STOP_MODE m) then mStopping else mStopped)
      else s
    else if st = mStopped ∧ old = 0 then startAttempt s m (triesOf s m - 1)
    else s

/-- Recompute every motor's target. -/
def motorsUpdate (s : State) : State := if moveUp s then (List.range 4).foldl motorTarget s else s

/-- The movers follow a change of a request. -/
def moversUpdate (s : State) : State := motorsUpdate (fansUpdate s)

/-- PD21 starts at an activation with a CLIM section or a restore (R807). -/
def moversStart (s : State) : State :=
  if !moveUp s then s
  else
    let s := (List.range 12).foldl (fun s c => if s.bit (Reg.FAN_CH_CFG_EN c) then s.wr (Reg.FAN_CH_CSTATUS_STATE c) 1 else s) s
    let s := (List.range 4).foldl (fun s m => if s.bit (Reg.MTR_CH_CFG_EN m) then setMot s m { motOf s m with on := true } else s) s
    moversUpdate s

/-- The number of the attempt in progress. (DEDUCED, log 46) -/
def attemptNo (s : State) (m : Nat) : Nat := triesOf s m - s.rd (Reg.MTR_ST_MSTATE_TRIES_LEFT m)

/-- Entry to FAULT (R805). -/
def motorFault (s : State) (m code : Nat) : State :=
  if mState s m = mFault then s
  else
    let s := (toMState s m mFault).wr (Reg.MTR_ST_MSTATE_FAULT_CODE m) code
    raise s Blk.mtr 0x0103 .fault
      (m + 2 ^ 8 * code + 2 ^ 16 * s.rd (Reg.MTR_ST_SPEED_RPM_RPM m) + 2 ^ 32 * s.rd (Reg.MTR_ST_KE m))

/-- A start attempt fails (R798). -/
def failAttempt (s : State) (m cause : Nat) : State :=
  let s := s.inc (Reg.MTR_ST_FAILED_STARTS m)
  let s := raise s Blk.mtr 0x0102 .warn (m + 2 ^ 8 * attemptNo s m + 2 ^ 16 * cause)
  if s.rd (Reg.MTR_ST_MSTATE_TRIES_LEFT m) = 0 then motorFault s m 1 else toMState s m mWait

/-- A fault condition of R801–R803: in RUNNING and STOPPING a fault, in ALIGN and RAMP a failed attempt (R798). -/
def motorTrouble (s : State) (m code : Nat) : State :=
  let st := mState s m
  if st = mRunning ∨ st = mStopping then motorFault s m code
  else if st = mAlign ∨ st = mRamp then failAttempt s m code
  else s

/-- A write to SET of a motor channel (R775, R792, R793). -/
def execMotorSet (a : Access) (m : Fin 4) (v : Word) (s : State) : Out :=
  .next (withWrite s a 0x9E0000 Blk.mtr 21 (0x9E010C + 0x100 * m.val) fun s =>
    if !isPfOrMgmt a.init then cfgViol s Blk.mtr a.init (0x9E010C + 0x100 * m.val)
    else motorTarget ((s.wr (Reg.MTR_CH_SET_RPM m.val) (fieldOf v 0 16)).wr (Reg.MTR_CH_SET_WRITER m.val) a.init.toNat) m.val)

/-- A percentage as an FP32 value. -/
def pctWord (n : Nat) : Word := Config.fpOfQuot n 100

/-- Step 2 of an attempt: the fixed angle and amplitude of the alignment (Table 17.2). -/
def alignDrive (s : State) (m : Nat) : State :=
  let th := s.rd (Reg.MTR_CH_START_ALIGN_ANGLE m) * 256
  let amp := pctWord (s.rd (Reg.MTR_CH_START_ALIGN_AMP m))
  let ds := phaseDuties s m th amp
  setMot (s.setReg (Reg.MTR_ST_AMP m).key amp) m
    { motOf s m with angle := th, duty := ds, edges := ds.map (edgesOf (s.rd (Reg.MTR_CH_PWM_TOP m))) }

/-- ALIGN_END: the offsets are set, and the ramp begins (Table 17.2). -/
def execAlignEnd (m : Fin 4) (sums : List Nat) (s : State) : Out :=
  if mState s m.val = mAlign then
    let s := toMState s m.val mRamp
    let th := s.rd (Reg.MTR_CH_START_ALIGN_ANGLE m.val) * 256
    let amp := pctWord (s.rd (Reg.MTR_CH_HANDOVER_RAMP_AMP m.val))
    .next (setMot (s.setReg (Reg.MTR_ST_AMP m.val).key amp) m.val
      { motOf s m.val with iofs := sums, angle := th, duty := phaseDuties s m.val th amp, ramp := 0, agree := 0 })
  else .next s

/-- Whether the observer has agreed with the ramp for HO_CONFIRM, with the open-loop speed at RAMP_END ÷ 4 at least (R797). -/
def handoverDue (s : State) (m : Nat) : Bool :=
  let y := motOf s m
  let ol := rampSpeed s m y.ramp
  y.obs.isSome && decide (s.rd (Reg.MTR_CH_RAMP_RAMP_END m) * ol.2 ≤ 4 * ol.1) &&
    decide (s.rd (Reg.MTR_CH_HANDOVER_HO_CONFIRM m) * 1000000 ≤ y.agree)

/-- One PWM period, and the ADC fault of the sixteenth in a row without a complete measurement (R790). -/
def drivePeriod (m : Nat) (s : State) (p : PwmIn) : State :=
  let s := pwmPeriod s m p
  let st := mState s m
  if (st = mRamp ∨ st = mRunning ∨ st = mStopping) ∧ 16 ≤ (motOf s m).miss then motorFault s m 6 else s

/-- What a channel does in a millisecond up to some instant: the conversions of R791 that came, and the PWM periods (R785–R797). (DEDUCED, log 46) -/
def motorMs (s : State) (m : Nat) (vbus aux : Option (Fin 4096)) (periods : List PwmIn) : State :=
  let put := fun (s : State) (r : Nat) (scale : Nat) (v : Option (Fin 4096)) => match v with
    | some v => s.setReg r (Config.fpMul (fpOfNat v.val) (s.reg (Reg.MTR_CH_FP m scale).key))
    | none => s
  periods.foldl (drivePeriod m) (put (put s (Reg.MTR_ST_VBUS m).key 7 vbus) (Reg.MTR_ST_AUX m).key 8 aux)

/-- HANDOVER: the speed loop takes over from the ramp (R797). The rpm at handover is the open-loop speed, rounded down. (DEDUCED, log 46) -/
def execHandover (m : Fin 4) (vbus aux : Option (Fin 4096)) (periods : List PwmIn) (s : State) : Out :=
  let s := motorMs s m.val vbus aux periods
  if mState s m.val = mRamp ∧ handoverDue s m.val = true then
    let ol := rampSpeed s m.val (motOf s m.val).ramp
    let s := toMState s m.val mRunning
    let amp := pctWord (s.rd (Reg.MTR_CH_HANDOVER_RAMP_AMP m.val))
    let th := nextAngle s m.val (motOf s m.val)
    let s := setMot s m.val { motOf s m.val with
      integ := amp, ramped := ((1000 * ol.1 / ol.2 : Nat) : Int), angle := th, duty := phaseDuties s m.val th amp, keRun := 0 }
    .next (raise s Blk.mtr 0x0101 .info (m.val + 2 ^ 8 * attemptNo s m.val + 2 ^ 16 * (ol.1 / ol.2 % 65536)))
  else .next s

/-- START_RETRY: no handover by the time limit (R798). -/
def execStartRetry (m : Fin 4) (s : State) : Out :=
  if mState s m.val = mRamp then .next (failAttempt s m.val 1) else .next s

/-- RETRY_DELAY_END: a new attempt (R798). -/
def execRetryDelayEnd (m : Fin 4) (s : State) : Out :=
  if mState s m.val = mWait then .next (startAttempt s m.val (s.rd (Reg.MTR_ST_MSTATE_TRIES_LEFT m.val) - 1)) else .next s

/-- Limit an FP32 value to 0–1. -/
def unit01 (w : Word) : Word := if fpLt w 0 then 0 else if fpLt 0x3F800000 w then 0x3F800000 else w

/-- The ramped target after 1 ms (R793, R797), in 0.001 rpm. (DEDUCED, log 46) -/
def rampStep (m : Nat) (now goal : Int) : Int :=
  let d : Int := Config.motorAccel m
  if now < goal then min (now + d) goal else max (now - d) goal

/-- An FP32 value in rpm as a whole number, rounded toward zero. (DEDUCED, log 46) -/
def rpmWhole (w : Word) : Int := Int.tdiv (fpVal w) fpOne

/-- What a channel shows each millisecond while its observer runs: speed and current magnitude. -/
def showMotor (s : State) (m : Nat) : State :=
  let y := motOf s m
  (s.setReg (Reg.MTR_ST_I_MAG m).key y.imag).wrInt (Reg.MTR_ST_SPEED_RPM_RPM m) (rpmWhole y.speed)

/-- The speed loop and the current limit of a driven channel (R799, R800). -/
def speedLoop (s : State) (m : Nat) : State :=
  let fp := fun k => s.reg (Reg.MTR_CH_FP m k).key
  let y := motOf s m
  let goal : Int := if mState s m = mStopping then 1000 * (s.rd (Reg.MTR_CH_SPEED_SPEED_MIN m) : Int) else 1000 * (y.target : Int)
  let ramped := rampStep m y.ramped goal
  let e := Config.fpAdd (Config.fpOfQuot ramped 1000) (fpNegate y.speed)
  let limit := fpLt (fp 9) y.imag
  let integ := Config.fpAdd y.integ (Config.fpMul (Config.fpMul (fp 1) e) (Config.fpOfQuot 1 1000))
  let raw := Config.fpAdd (Config.fpMul (fp 0) e) integ
  let amp := if limit then unit01 (Config.fpAdd (s.reg (Reg.MTR_ST_AMP m).key) (Config.fpOfQuot (-1) 100)) else unit01 raw
  let keep := limit || fpLe raw 0 || fpLe 0x3F800000 raw
  let s := setMot (s.setReg (Reg.MTR_ST_AMP m).key amp) m
    { y with ramped := ramped, integ := if keep then y.integ else integ, duty := phaseDuties s m y.angle amp }
  if limit then raiseLimited s Blk.mtr 0x0105 .warn m (m + 2 ^ 32 * y.imag.toNat) else s

/-- SPEED_LOOP_STEP: a millisecond of a channel: the measurements (R791), its PWM periods (R785–R797), then the speed loop (R799) and the
current limit (R800). In ALIGN the first ends step 1 (Table 17.2). -/
def execSpeedLoopStep (m : Fin 4) (x : MotorIn) (s : State) : Out :=
  let s := motorMs s m.val (some x.vbus) (some x.aux) x.periods
  let st := mState s m.val
  .next (if st = mAlign then (if (motOf s m.val).duty.isEmpty then alignDrive s m.val else s)
    else if st = mRamp then showMotor s m.val
    else if st = mRunning ∨ st = mStopping then speedLoop (showMotor s m.val) m.val
    else s)

/-- MOTOR_STOPPED: a ramped stop reaches SPEED_MIN (R793). -/
def execMotorStopped (m : Fin 4) (s : State) : Out :=
  if mState s m.val = mStopping then .next (toMState s m.val mStopped) else .next s

/-- LOCKED_ROTOR (R801). -/
def execLockedRotor (m : Fin 4) (s : State) : Out := .next (motorTrouble s m.val 2)

/-- The magnitude of e divided by the electrical speed in rad/s (R802). -/
def keOf (s : State) (m : Nat) : Word :=
  let y := motOf s m
  let mag := Config.fpSqrt (Config.fpAdd (Config.fpMul y.emf.1 y.emf.1) (Config.fpMul y.emf.2 y.emf.2))
  let turns := Config.fpMul y.speed (Config.fpOfQuot (2 * s.rd (Reg.MTR_CH_CFG_POLE_PAIRS m) : Nat) 60)
  Config.fpDiv mag (Config.fpMul turns fpPi)

/-- KE_EVALUATION (R802). (DEDUCED, log 46) -/
def execKeEvaluation (m : Fin 4) (periods : List PwmIn) (s : State) : Out :=
  let s := motorMs s m.val none none periods
  let st := mState s m.val
  let ke := keOf s m.val
  if (st = mRunning ∨ st = mRamp) ∧ fpLe (fpOfNat (s.rd (Reg.MTR_CH_SPEED_SPEED_MIN m.val))) (motOf s m.val).speed then
    let s := s.setReg (Reg.MTR_ST_KE m.val).key ke
    let good := fpLe (s.reg (Reg.MTR_CH_FP m.val 4).key) ke && fpLe ke (s.reg (Reg.MTR_CH_FP m.val 5).key)
    let y := motOf s m.val
    let s := setMot s m.val { y with keRun := if good then 0 else y.keRun + 1 }
    if !good && decide (s.rd (Reg.MTR_CH_FAULT_CFG_KE_T m.val) ≤ y.keRun + 1) then .next (motorTrouble s m.val 3) else .next s
  else .next s

/-- OVERCURRENT_TRIP: one PWM period with a trip (R803). -/
def execOvercurrentTrip (m : Fin 4) (again : Bool) (s : State) : Out :=
  if motorDriven s m.val then
    let y := motOf s m.val
    let n := if again then y.ocRun + 1 else 1
    let s := setMot (s.inc (Reg.MTR_ST_OC_CYCLES m.val)) m.val { y with ocRun := n, blank := true }
    if s.rd (Reg.MTR_CH_FAULT_CFG_OC_N m.val) ≤ n then .next (motorTrouble s m.val 4) else .next s
  else .next s

/-- DRIVER_FAULT: MTR_FLT_N low for 100 ns (R804). -/
def execDriverFault (m : Fin 4) (s : State) : Out := if moveUp s then .next (motorFault s m.val 5) else .next s

/-- ADC_FAULT: sixteen periods without a complete measurement (R790). -/
def execAdcFault (m : Fin 4) (s : State) : Out := if motorDriven s m.val then .next (motorFault s m.val 6) else .next s

/-- A channel leaves FAULT (R805): 1 by CLR, 2 by RESTART_S. -/
def clearFault (s : State) (m how : Nat) : State :=
  raise (toMState s m mStopped) Blk.mtr 0x0104 .info (m + 2 ^ 8 * how)

/-- A write of 1 to MSTATE.CLR (R805). -/
def execMotorFaultClear (a : Access) (m : Fin 4) (v : Word) (high : Bool) (s : State) : Out :=
  .next (withWrite s a 0x9E0000 Blk.mtr 21 (0x9E0180 + 0x100 * m.val) fun s =>
    if fieldOf v 31 1 = 1 ∧ high ∧ mState s m.val = mFault then clearFault s m.val 1 else s)

/-- MOTOR_AUTO_RESTART: RESTART_S after a START_FAIL or LOCKED fault (R805). -/
def execMotorAutoRestart (m : Fin 4) (s : State) : Out :=
  let code := s.rd (Reg.MTR_ST_MSTATE_FAULT_CODE m.val)
  if mState s m.val = mFault ∧ (code = 1 ∨ code = 2) ∧ s.rd (Reg.MTR_CH_FAULT_CFG_RESTART_S m.val) ≠ 0 then
    let go := decide (0 < (motOf s m.val).target)
    if go then .next (startAttempt (clearFault s m.val 2) m.val (triesOf s m.val - 1))
    else .next s
  else .next s

end Sys2Proof.Machine
end

