-- ==== Sys2Proof/Machine/Clm.lean ====
section
/-! DEFINITION. The climate engine: sensors, zones, schedules, loops, outputs and the battery-room interlock ("Enclosure climate and
the building bus"). -/

namespace Sys2Proof.Machine

/-- The engine runs: PD20 up and STATE RUNNING. -/
def clmRuns (s : State) : Bool := domainUp s 20 && s.rd Reg.CLM_STATUS_STATE == 1

/-- The NaN that an invalid quantity reads as. -/
abbrev fpInvalid : Word := 0x7FC00000

/-- FP32 constants of the formulas, as quotients. -/
def fpQ (n d : Int) : Word := Config.fpOfQuot n d

/-- FP32 subtraction. -/
def fpSub (a b : Word) : Word := Config.fpAdd a (fpNegate b)

/-- 100 percent. -/
abbrev fpHundred : Word := 0x42C80000

/-! ### Sensors (R731–R733) -/

/-- A parameter of a sensor input: P1 is 0. -/
def sensP (s : State) (i k : Nat) : Word := s.reg (Reg.CLM_SENS_P i k).key

/-- The temperature of a thermistor from its mean code (Table 16.1). -/
def ntcTemp (s : State) (i : Nat) (x : AuxMean) : Word :=
  let c := fpQ x.sum x.n
  let r := Config.fpDiv (Config.fpMul (sensP s i 2) c) (fpSub (fpQ 4095 1) c)
  let inv := Config.fpAdd (fpQ 100 29815) (Config.fpDiv (Config.fpLn (Config.fpDiv r (sensP s i 0))) (sensP s i 1))
  fpSub (Config.fpDiv (fpQ 1 1) inv) (fpQ 27315 100)

/-- One byte of a CRC-8 with polynomial 0x31 (R732). -/
def humCrcByte (crc : Nat) (b : Byte) : Nat :=
  (List.range 8).foldl (fun c _ => if 128 ≤ c then Nat.xor (2 * c % 256) 0x31 else 2 * c) (Nat.xor crc b.toNat)

/-- Whether a word of a humidity sensor is followed by its CRC-8, with initial value 0xFF (R732). -/
def humWordOk (w : Nat) : Bool :=
  [BitVec.ofNat 8 (w / 2 ^ 16), BitVec.ofNat 8 (w / 2 ^ 8)].foldl humCrcByte 0xFF == w % 256

/-- The words, temperature and humidity, of an attempt that reads six bytes whose CRCs hold. -/
def humWords (x : Option (BitVec 48)) : Option (Nat × Nat) :=
  x.bind (fun b =>
    let t := b.toNat / 2 ^ 24
    let h := b.toNat % 2 ^ 24
    if humWordOk t && humWordOk h then some (t / 256, h / 256) else none)

/-- The words of a transaction: of its first attempt, else of its repeat (R732). -/
def HumRead.words (x : HumRead) : Option (Nat × Nat) :=
  match humWords x.first with
  | some w => some w
  | none => humWords x.second

/-- The inputs of types 3 and 4: those with one address share one transaction per read cycle, for which the lowest-numbered stands here
(R732). -/
def humInputs (s : State) : List Nat :=
  let all := (List.range 32).filter (fun i => s.rd (Reg.CLM_SENS_CFG_TYPE i) == 3 || s.rd (Reg.CLM_SENS_CFG_TYPE i) == 4)
  all.filter (fun i => !all.any (fun j => decide (j < i) && s.rd (Reg.CLM_SENS_CFG_ADDR j) == s.rd (Reg.CLM_SENS_CFG_ADDR i)))

/-- One attempt on I2C0: the two command bytes of P1, and after the wait the read of six bytes (R732). -/
def humAttempt (s : State) (addr i : Nat) : State :=
  let p := (sensP s i 0).toNat
  emit (emit s (.i2c 0 none addr [BitVec.ofNat 8 (p / 256), BitVec.ofNat 8 p] 0)) (.i2c 0 none addr [] 6)

/-- The transaction of an input's address in a read cycle: its attempts, and TRANSIENT where only the repeat holds (R35, R732). The
lowest-numbered input of the address gives the command. (DEDUCED, log 44) -/
def humTransact (i2c : List HumRead) (s : State) (i : Nat) : State :=
  let addr := s.rd (Reg.CLM_SENS_CFG_ADDR i)
  let x := i2c.find? (fun x => x.addr.val == addr)
  let s := humAttempt s addr i
  if (x.bind (fun x => humWords x.first)).isSome then s
  else
    let s := humAttempt s addr i
    if (x.bind (fun x => humWords x.second)).isSome then raise s Blk.clm 0x0005 .info (1 + 2 ^ 16 * addr) else s

/-- What a read cycle gives an input: its value, or the cause of a failed cycle, 1 open, 2 short, 3 I²C. -/
def readSensor (s : State) (adc : List AuxMean) (i2c : List HumRead) (i : Nat) : Word ⊕ Nat :=
  let typ := s.rd (Reg.CLM_SENS_CFG_TYPE i)
  let ch := s.rd (Reg.CLM_SENS_CFG_CH i)
  let hum := i2c.find? (fun x => x.addr.val == s.rd (Reg.CLM_SENS_CFG_ADDR i))
  if typ = 1 ∨ typ = 2 then
    match adc.find? (fun x => x.ch.val == ch && x.n != 0) with
    | none => .inl (s.reg (Reg.CLM_SENS_VALUE i).key)
    | some x =>
      if typ = 2 then
        .inl (Config.fpAdd (Config.fpDiv (Config.fpMul (sensP s i 0) (fpQ x.sum x.n)) (fpQ 4095 1)) (sensP s i 1))
      else if 4090 * x.n ≤ x.sum then .inr 1
      else if x.sum ≤ 5 * x.n then .inr 2
      else .inl (ntcTemp s i x)
  else
    match hum.bind HumRead.words with
    | none => .inr 3
    | some w =>
      if typ = 3 then .inl (fpQ (175 * w.1 - 45 * 65535) 65535)
      else .inl (fpClamp 0 fpHundred (fpQ (100 * w.2) 65535))

/-- One input of a read cycle. (DEDUCED, log 44) -/
def sensorCycle (adc : List AuxMean) (i2c : List HumRead) (s : State) (i : Nat) : State :=
  let typ := s.rd (Reg.CLM_SENS_CFG_TYPE i)
  if typ = 0 ∨ 4 < typ then s
  else
    let st := s.rd (Reg.CLM_SENS_STATUS_STATE i)
    match readSensor s adc i2c i with
    | .inl v =>
      let n := Tab.get 0 s.clm.good i + 1
      let s := s.setReg (Reg.CLM_SENS_VALUE i).key v
      let s := { s with clm := { s.clm with good := Tab.put 0 s.clm.good i (min n 3), bad := Tab.put 0 s.clm.bad i 0 } }
      if 3 ≤ n ∧ st ≠ 1 then raise (s.wr (Reg.CLM_SENS_STATUS_STATE i) 1) Blk.clm 0x0102 .info i else s
    | .inr cause =>
      let n := Tab.get 0 s.clm.bad i + 1
      let s := s.inc (Reg.CLM_SENS_STATUS_FAILS i)
      let s := { s with clm := { s.clm with bad := Tab.put 0 s.clm.bad i (min n 3), good := Tab.put 0 s.clm.good i 0 } }
      if 3 ≤ n ∧ st ≠ 2 then raise (s.wr (Reg.CLM_SENS_STATUS_STATE i) 2) Blk.clm 0x0101 .warn (i + 2 ^ 8 * cause) else s

/-! ### Zones (R734–R737) -/

/-- The OK inputs of a mask. -/
def okInputs (s : State) (mask : Nat) : List Nat := (bitList 32 mask).filter (fun i => s.rd (Reg.CLM_SENS_STATUS_STATE i) == 1)

/-- The values of inputs. -/
def sensValues (s : State) (is : List Nat) : List Word := is.map (fun i => s.reg (Reg.CLM_SENS_VALUE i).key)

/-- The mean of values; invalid without any. -/
def fpMean : List Word → Word
  | [] => fpInvalid
  | v :: vs => Config.fpDiv (vs.foldl Config.fpAdd v) (fpQ (vs.length + 1) 1)

/-- The maximum of values; invalid without any. -/
def fpMax : List Word → Word
  | [] => fpInvalid
  | v :: vs => vs.foldl (fun m x => if fpLt m x then x else m) v

/-- The dew point of R735. -/
def dewPoint (t rh : Word) : Word :=
  let b := fpQ 1762 100
  let c := fpQ 24312 100
  let g := Config.fpAdd (Config.fpLn (Config.fpDiv rh fpHundred)) (Config.fpDiv (Config.fpMul b t) (Config.fpAdd c t))
  Config.fpDiv (Config.fpMul c g) (fpSub b g)

/-- The condensation margin of a zone; invalid where the dew point is. -/
def margin (s : State) (z : Nat) : Word :=
  let d := s.reg (Reg.CLM_ZONE_DEWPT z).key
  if fpNan d then fpInvalid else fpSub (s.reg (Reg.CLM_ZONE_TEMP z).key) d

/-- Recompute a zone after a read cycle (R734, R735). (DEDUCED, log 44) -/
def zoneCycle (s : State) (z : Nat) : State :=
  let ts := sensValues s (okInputs s (s.rd (Reg.CLM_ZONE_T_MASK z)))
  let t := if s.bit (Reg.CLM_ZONE_ZCFG_AGG z) then fpMax ts else fpMean ts
  let rh := fpMean (sensValues s (okInputs s (s.rd (Reg.CLM_ZONE_RH_MASK z))))
  let d := if fpNan t || fpNan rh then fpInvalid else dewPoint t rh
  let s := ((s.setReg (Reg.CLM_ZONE_TEMP z).key t).setReg (Reg.CLM_ZONE_RH z).key rh).setReg (Reg.CLM_ZONE_DEWPT z).key d
  let m := margin s z
  let lim := s.reg (Reg.CLM_ZONE_DP_MARGIN z).key
  if !s.bit (Reg.CLM_ZONE_ZSTATUS_COND z) && fpLt m lim then
    raise (s.wr (Reg.CLM_ZONE_ZSTATUS_COND z) 1) Blk.clm 0x0104 .warn (z + 2 ^ 32 * m.toNat)
  else if s.bit (Reg.CLM_ZONE_ZSTATUS_COND z) && fpLt (Config.fpAdd lim 0x3F800000) m then
    raise (s.wr (Reg.CLM_ZONE_ZSTATUS_COND z) 0) Blk.clm 0x0105 .info (z + 2 ^ 32 * m.toNat)
  else s

/-- Whether a presence input of a mask has been active within the last `hold` minutes. -/
def presentWithin (s : State) (mask hold : Nat) : Bool :=
  (bitList 8 mask).any (fun i => bitAt s.clm.pres i ||
    (Tab.get 0 s.clm.presAt i != 0 && decide (s.taiSec + 1 ≤ Tab.get 0 s.clm.presAt i + 60 * hold)))

/-- The mode of a zone (R736), and whether rule 2 gave it. -/
def zoneMode (s : State) (z : Nat) : Nat × Bool :=
  let sched := s.rd (Reg.CLM_ZONE_ZCFG_SCHED z)
  let v := Tab.get 0 s.clm.sched sched
  let held := presentWithin s (s.rd (Reg.CLM_ZONE_ZCFG_PRES_MASK z)) (s.rd (Reg.CLM_ZONE_ZCFG_PRES_HOLD z))
  if s.bit (Reg.CLM_ZONE_OVR_MODE_EN z) then (s.rd (Reg.CLM_ZONE_OVR_MODE_MODE z), false)
  else if sched < 8 then (if held && (v == 1 || v == 2) then (3, true) else (v, false))
  else (3, false)

/-- A loop's state. -/
def pidOf (s : State) (l : Nat) : Pid := Tab.get {} s.clm.pid l

/-- Set a loop's state. -/
def setPid (s : State) (l : Nat) (x : Pid) : State := { s with clm := { s.clm with pid := Tab.put {} s.clm.pid l x } }

/-- A parameter of a loop: KP, TI, TD, SP, OUT_MIN, OUT_MAX, FAIL_OUT. -/
def loopP (s : State) (l k : Nat) : Word := s.reg (Reg.CLM_LOOP_PARAM l k).key

/-- A loop without a run before its next: only the tick of its last run is kept. -/
def freshPid (s : State) (l : Nat) : Pid := { ranIn := (pidOf s l).ranIn }

/-- A loop starts with I = 0 (R748). -/
def loopStart (s : State) (l : Nat) : State :=
  if s.bit (Reg.CLM_LOOP_CFG_EN l) then
    setPid ((s.setReg (Reg.CLM_LOOP_I l).key 0).wr (Reg.CLM_LOOP_LSTATUS_STATE l) 1) l (freshPid s l)
  else setPid (s.wr (Reg.CLM_LOOP_LSTATUS_STATE l) 0) l (freshPid s l)

/-- A loop of a zone in mode OFF delivers OUT_MIN with its integral 0 (R737). -/
def loopOff (s : State) (l : Nat) : State :=
  let s := (s.setReg (Reg.CLM_LOOP_OUT l).key (loopP s l 4)).setReg (Reg.CLM_LOOP_I l).key 0
  setPid (s.wr (Reg.CLM_LOOP_LSTATUS_STATE l) 3) l (freshPid s l)

/-- The loops of a zone when its mode changes from `old` to `new`: they rest in OFF, and start when the zone leaves it (R737, R748). (DEDUCED, log 44) -/
def zoneLoops (s : State) (z old new : Nat) : State :=
  if old = new ∨ (old ≠ 0 ∧ new ≠ 0) then s
  else
    let ls := (List.range 32).filter (fun l => s.bit (Reg.CLM_LOOP_CFG_EN l) && s.rd (Reg.CLM_LOOP_CFG_ZONE l) == z)
    ls.foldl (if new = 0 then loopOff else loopStart) s

/-- Decide every zone's mode. -/
def zoneModes (s : State) : State :=
  (List.range 16).foldl (fun s z =>
    let p := zoneMode s z
    let old := s.rd (Reg.CLM_ZONE_ZSTATUS_MODE z)
    zoneLoops ((s.wr (Reg.CLM_ZONE_ZSTATUS_MODE z) p.1).setBit (Reg.CLM_ZONE_ZSTATUS_PRES z) p.2) z old p.1) s

/-- The heating (0) or cooling (1) setpoint of a zone in its mode (R737). -/
def zoneSetpoint (s : State) (z hc : Nat) : Word :=
  let pair := match s.rd (Reg.CLM_ZONE_ZSTATUS_MODE z) with
    | 3 => 0
    | 2 => 2
    | _ => 4
  s.reg (Reg.CLM_ZONE_SP z (pair + hc)).key

/-! ### Local time and schedules (R739–R743) -/

/-- Seconds of local time since 1970-01-01 (R739). (DEDUCED, log 44) -/
def localSec (s : State) : Int :=
  (s.taiSec : Int) - s.rdInt Reg.TIM_UTC_OFS_OFS + 60 * s.rdInt Reg.CLM_TZ_OFS_MIN + 3600 * (s.rd Reg.CLM_TZ_DST : Int)

/-- Day of the week of a day since 1970-01-01, 0 Monday. -/
def dayOfWeek (d : Int) : Nat := ((d + 3) % 7).toNat

/-- The date (year, month, day) of a day since 1970-01-01, in the Gregorian calendar. -/
def dateOf (d : Int) : Nat × Nat × Nat :=
  let z := (d + 719468).toNat
  let era := z / 146097
  let doe := z % 146097
  let yoe := (doe - doe / 1460 + doe / 36524 - doe / 146096) / 365
  let doy := doe - (365 * yoe + yoe / 4 - yoe / 100)
  let mp := (5 * doy + 2) / 153
  let day := doy - (153 * mp + 2) / 5 + 1
  let month := if mp < 10 then mp + 3 else mp - 9
  (yoe + era * 400 + (if month ≤ 2 then 1 else 0), month, day)

/-- The profile of a day for a schedule (R740). -/
def ovrProfileOf (s : State) (n : Nat) (d : Int) : Nat :=
  let date := dateOf d
  if (List.range 32).any (fun e => s.bit (Reg.CLM_EXC_DATE_EN e) && bitAt (s.rd (Reg.CLM_EXC_SCHED_MASK_MASK e)) n &&
      (s.rd (Reg.CLM_EXC_DATE_YEAR e) == 0x7F || s.rd (Reg.CLM_EXC_DATE_YEAR e) + 2000 == date.1) &&
      s.rd (Reg.CLM_EXC_DATE_MONTH e) == date.2.1 && s.rd (Reg.CLM_EXC_DATE_DAY e) == date.2.2) then 7
  else dayOfWeek d

/-- The latest valid transition of a profile at or before a minute of the day; of two at one time the higher index (R741). (DEDUCED, log 44) -/
def transition (s : State) (n p minute : Nat) : Option Nat :=
  let hits := (List.range 8).filter (fun k => s.bit (Reg.CLM_SCHED_VALID n p k) &&
    decide (60 * s.rd (Reg.CLM_SCHED_HOUR n p k) + s.rd (Reg.CLM_SCHED_MINUTE n p k) ≤ minute))
  let best := hits.foldl (fun (b : Option (Nat × Nat)) k =>
    let t := 60 * s.rd (Reg.CLM_SCHED_HOUR n p k) + s.rd (Reg.CLM_SCHED_MINUTE n p k)
    match b with
    | none => some (t, k)
    | some x => if x.1 ≤ t then some (t, k) else b) none
  best.map (fun x => s.rd (Reg.CLM_SCHED_MODE n p x.2))

/-- The value of a schedule (R741, R743). -/
def scheduleValue (s : State) (n : Nat) : Nat :=
  let dflt := s.rd (Reg.CLM_SCHED_SCFG_DEFAULT n)
  if s.taiSec < 1577836837 then dflt
  else
    let t := localSec s
    let d := t / 86400
    match transition s n (ovrProfileOf s n d) ((t % 86400) / 60).toNat with
    | some v => v
    | none => (transition s n (ovrProfileOf s n (d - 1)) 2047).getD dflt

/-- Evaluate the schedules, show local time, and decide the zones' modes (R742). -/
def scheduleAll (s : State) : State :=
  let t := localSec s
  let sec := (t % 86400).toNat
  let s := ((s.wr Reg.CLM_LOCAL_DOW (dayOfWeek (t / 86400))).wr Reg.CLM_LOCAL_HOUR (sec / 3600)).wr Reg.CLM_LOCAL_MINUTE (sec / 60 % 60)
  let vs := (List.range 8).map (fun n => (n, scheduleValue s n))
  zoneModes { s with clm := { s.clm with sched := vs.filter (fun p => p.2 != 0), minute := some (t / 60) } }

/-! ### Demands and the interlock (R749, R759–R761) -/

/-- A loop's OUT in percent; 0 for loop number 0x3F. -/
def loopOut (s : State) (l : Nat) : Word := if l < 32 then s.reg (Reg.CLM_LOOP_OUT l).key else 0

/-- A demand: the override while EN, else the loop's output. -/
def demandOf (s : State) (en pct : Fld) (l : Nat) : Word := if s.bit en then fpQ (s.rd pct) 1 else loopOut s l

/-- The hydrogen alarm is in force: recognised active, or within H2_HOLD (R759). -/
def h2Force (s : State) : Bool := s.clm.h2 || s.clm.h2Hold

/-- The battery zones. -/
def battZones (s : State) : List Nat := (List.range 16).filter (fun z => s.bit (Reg.CLM_ZONE_ZCFG_BATT z))

/-- The battery zones with a presence input recognised active (R760). -/
def presentBatt (s : State) : List Nat :=
  (battZones s).filter (fun z => (bitList 8 (s.rd (Reg.CLM_ZONE_ZCFG_PRES_MASK z))).any (bitAt s.clm.pres))

/-- Whether a heater or relay is a heat output of a battery zone. (DEDUCED, log 44) -/
def heatOutput (s : State) (h : Nat) : Bool :=
  let l := s.rd (Reg.CLM_HTR_CFG_LOOP h)
  (battZones s).any (fun z => decide (l < 32) && s.rd (Reg.CLM_LOOP_CFG_ZONE l) == z && !bitAt (s.rd (Reg.CLM_ZONE_VENT_RELAYS z)) h)

/-- What the interlock forces on a heater or relay: on, off, or nothing. -/
def forcedRelay (s : State) (h : Nat) : Option Bool :=
  if h2Force s && (battZones s).any (fun z => bitAt (s.rd (Reg.CLM_ZONE_VENT_RELAYS z)) h) then some true
  else if h2Force s && heatOutput s h then some false
  else if decide (0 < s.rd Reg.CLM_H2CFG_VENT_PRES_PCT) && (presentBatt s).any (fun z => bitAt (s.rd (Reg.CLM_ZONE_VENT_RELAYS z)) h) then
    some true
  else none

/-! ### Outputs (R750–R757) -/

/-- The request of a mover reference in percent (R756, R759, R760). -/
def moverReq (s : State) (m : Nat) : Nat :=
  let lo : Int := s.rd (Reg.CLM_MOV_RANGE_MIN_PCT m)
  let hi : Int := s.rd (Reg.CLM_MOV_RANGE_MAX_PCT m)
  let d := fpVal (demandOf s (Reg.CLM_MOV_OVR_EN m) (Reg.CLM_MOV_OVR_PCT m) (s.rd (Reg.CLM_MOV_CFG_LOOP m)))
  let r := ((lo * 100 * (fpOne : Int) + (hi - lo) * d) / (100 * (fpOne : Int))).toNat
  if h2Force s && (battZones s).any (fun z => bitAt (s.rd (Reg.CLM_ZONE_VENT_MOVERS z)) m) then hi.toNat
  else if (presentBatt s).any (fun z => bitAt (s.rd (Reg.CLM_ZONE_VENT_MOVERS z)) m) then max r (s.rd Reg.CLM_H2CFG_VENT_PRES_PCT)
  else r

/-- A heater or relay switches; its minimum time starts (R755). -/
def switchRelay (s : State) (h : Nat) (on : Bool) : State :=
  if s.bit (Reg.CLM_HTR_HSTATE_ON h) = on then s
  else
    let t := if on then s.rd (Reg.CLM_HTR_SWITCH_MIN_ON_S h) else s.rd (Reg.CLM_HTR_SWITCH_MIN_OFF_S h)
    { s.setBit (Reg.CLM_HTR_HSTATE_ON h) on with clm := { s.clm with lock := setBitAt s.clm.lock h (t != 0) } }

/-- One heater or relay channel. -/
def relayUpdate (s : State) (h : Nat) : State :=
  if !s.bit (Reg.CLM_HTR_CFG_EN h) then s
  else
    let f := forcedRelay s h
    let s := s.setBit (Reg.CLM_HTR_HSTATE_FORCED h) f.isSome
    match f with
    | some on => switchRelay s h on
    | none =>
      let d := fpVal (demandOf s (Reg.CLM_HTR_OVR_EN h) (Reg.CLM_HTR_OVR_PCT h) (s.rd (Reg.CLM_HTR_CFG_LOOP h)))
      if bitAt s.clm.lock h then s
      else if s.bit (Reg.CLM_HTR_HSTATE_ON h) then
        (if d ≤ (s.rd (Reg.CLM_HTR_SWITCH_OFF_PCT h) * fpOne : Nat) then switchRelay s h false else s)
      else if ((s.rd (Reg.CLM_HTR_SWITCH_ON_PCT h) * fpOne : Nat) : Int) ≤ d then switchRelay s h true else s

/-- The estimated position after the time since the last update (R751). -/
def estimate (x : Act) (now stroke : Nat) (pos : Word) : Word :=
  let step := fpQ (100 * (now - x.seen)) (stroke * 1000000000)
  if stroke = 0 ∨ x.dir = 0 then pos
  else fpClamp 0 fpHundred (if x.dir = 1 then Config.fpAdd pos step else fpSub pos step)

/-- The direction that a position calls for (R750). -/
def wantDir (pos demand db : Word) : Nat :=
  if fpLt pos (fpSub demand db) then 1 else if fpLt (Config.fpAdd demand db) pos then 2 else 0

/-- A drive goes to the wanted direction, with both pins inactive for 200 ms between directions (R750). -/
def drive (x : Act) (now want : Nat) : Act :=
  let x := { x with seen := now }
  if x.dir ≠ 0 ∧ want ≠ x.dir then { x with dir := 0, stop := now, lastDir := x.dir }
  else if x.dir = 0 ∧ want ≠ 0 then
    if x.lastDir ≠ 0 ∧ x.lastDir ≠ want ∧ now < x.stop + 200000000 then x else { x with dir := want }
  else x

/-- A channel with an estimated position: what becomes due (R752), and the drive. -/
def estDrive (x : Act) (now stroke : Nat) (want : Nat) : Act :=
  let ran := x.ran + (now - x.seen)
  let x := if 86400000000000 ≤ ran then { x with ran := 0, sync := true } else { x with ran := ran }
  let x := if want ≠ 0 ∧ x.stroke ≠ stroke then { x with stroke := stroke, sync := true } else x
  drive x now (if x.sync then 2 else want)

/-- The position that a feedback gives (R751); none where this command brings no code. -/
def feedback (s : State) (d : Nat) (aux : List AuxMean) : Option Word :=
  let zero := s.rdInt (Reg.CLM_DMP_FB_ZERO d)
  let span := s.rdInt (Reg.CLM_DMP_FB_SPAN d)
  let ch := s.rd (Reg.CLM_DMP_CFG_CH d)
  if s.rd (Reg.CLM_DMP_CFG_FB d) = 1 then some (fpClamp 0 fpHundred (fpQ (100 * (s.rdInt (Reg.PNL_QEP_COUNT ch) - zero)) span))
  else (aux.find? (fun x => x.ch.val == ch && x.n != 0)).map
    (fun x => fpClamp 0 fpHundred (fpQ (100 * ((x.sum : Int) - zero * x.n)) ((span - zero) * x.n)))

/-- The dead band of a damper in percent. -/
def dampBand (s : State) (d : Nat) : Word := fpQ (s.rd (Reg.CLM_DMP_STROKE_DB d)) 1

/-- One damper channel (R750–R753). (DEDUCED, log 44) -/
def damperUpdate (aux : List AuxMean) (s : State) (d : Nat) : State :=
  if !s.bit (Reg.CLM_DMP_CFG_EN d) then s
  else
    let now := s.taiNs
    let x := Tab.get {} s.clm.dmp d
    let pos := s.reg (Reg.CLM_DMP_POS d).key
    let demand := demandOf s (Reg.CLM_DMP_OVR_EN d) (Reg.CLM_DMP_OVR_PCT d) (s.rd (Reg.CLM_DMP_CFG_LOOP d))
    let stroke := s.rd (Reg.CLM_DMP_STROKE_STROKE_S d)
    let fb := s.rd (Reg.CLM_DMP_CFG_FB d)
    let pos := if fb = 0 then estimate x now stroke pos else (feedback s d aux).getD pos
    let band := dampBand s d
    let want := wantDir pos demand band
    let st := s.rd (Reg.CLM_DMP_DSTATUS_STATE d)
    let still := st = 3 ∧ ¬ (fpLt (Config.fpAdd x.stallAt (Config.fpAdd band band)) demand ∨
      fpLt demand (fpSub x.stallAt (Config.fpAdd band band)))
    let y := if still then { x with seen := now } else if fb = 0 then estDrive x now stroke want else drive x now want
    let s := (s.setReg (Reg.CLM_DMP_POS d).key pos).wr (Reg.CLM_DMP_DSTATUS_STATE d) (if still then 3 else y.dir)
    { s with clm := { s.clm with dmp := Tab.put {} s.clm.dmp d y } }

/-- One valve channel in MODE 1 (R754). -/
def valveUpdate (s : State) (v : Nat) : State :=
  if !s.bit (Reg.CLM_VLV_CFG_EN v) || !s.bit (Reg.CLM_VLV_CFG_MODE v) then s
  else
    let now := s.taiNs
    let x := Tab.get {} s.clm.vlv v
    let stroke := s.rd (Reg.CLM_VLV_TIME_PERIOD v)
    let pos := estimate x now stroke (s.reg (Reg.CLM_VLV_POS v).key)
    let demand := demandOf s (Reg.CLM_VLV_OVR_EN v) (Reg.CLM_VLV_OVR_PCT v) (s.rd (Reg.CLM_VLV_CFG_LOOP v))
    let y := estDrive x now stroke (wantDir pos demand 0)
    { s.setReg (Reg.CLM_VLV_POS v).key pos with clm := { s.clm with vlv := Tab.put {} s.clm.vlv v y } }

/-- Whether the VLV_PWM pin of a valve in MODE 0 is active: for demand% of each period from its start. A period starts where TAI ms is a
multiple of PERIOD_MS. (DEDUCED, log 53) -/
def valvePwm (s : State) (v : Nat) : Bool :=
  let per := s.rd (Reg.CLM_VLV_TIME_PERIOD v) * 1000000
  let d := fpVal (demandOf s (Reg.CLM_VLV_OVR_EN v) (Reg.CLM_VLV_OVR_PCT v) (s.rd (Reg.CLM_VLV_CFG_LOOP v)))
  s.bit (Reg.CLM_VLV_CFG_EN v) && !s.bit (Reg.CLM_VLV_CFG_MODE v) && per != 0 &&
    decide (((s.taiNs % per * 100 * fpOne : Nat) : Int) < d * (per : Int))

/-- The level of an output pin before INV, where the engine drives one. -/
def pinDrive (s : State) (n : Nat) : Option Bool :=
  let c := s.rd (Reg.CLM_CIO_CHAN n)
  match s.rd (Reg.CLM_CIO_FUNC n) with
  | 2 => some (s.bit (Reg.CLM_CIO_OUT n))
  | 3 => some (s.rd (Reg.CLM_DMP_DSTATUS_STATE c) == 1)
  | 4 => some (s.rd (Reg.CLM_DMP_DSTATUS_STATE c) == 2)
  | 5 => some (valvePwm s c)
  | 6 => some ((Tab.get {} s.clm.vlv c).dir == 1)
  | 7 => some ((Tab.get {} s.clm.vlv c).dir == 2)
  | 8 => some (s.bit (Reg.CLM_HTR_HSTATE_ON c))
  | _ => none

/-- LEVEL of the output pins (R757). -/
def pinLevels (s : State) : State :=
  (List.range 48).foldl (fun s n => match pinDrive s n with
    | some b => s.setBit (Reg.CLM_CIO_LEVEL n) b
    | none => s) s

/-- Update every output (R750–R761). (DEDUCED, log 53) -/
def outputsUpdate (s : State) (aux : List AuxMean) : State :=
  if !clmRuns s then s
  else
    let s := s.setBit Reg.CLM_STATUS_INTERLOCK (h2Force s || !(presentBatt s).isEmpty)
    let s := (List.range 8).foldl relayUpdate s
    let s := (List.range 8).foldl (damperUpdate aux) s
    let s := (List.range 8).foldl valveUpdate s
    let s := (List.range 8).foldl (fun s m =>
      if s.bit (Reg.CLM_MOV_CFG_EN m) then
        (s.wr (Reg.CLM_MOV_MSTATUS_REQ m) (moverReq s m)).setBit (Reg.CLM_MOV_MSTATUS_NO_DOMAIN m) (!bitAt (s.rd Reg.PWR_STATUS) 21)
      else s) s
    moversUpdate (pinLevels s)

/-- SENSOR_READ_CYCLE: the inputs, the zones, and what follows from them (R731–R736). -/
def execSensorReadCycle (adc : List AuxMean) (i2c : List HumRead) (s : State) : Out :=
  if !clmRuns s then .next s
  else
    let s := (humInputs s).foldl (humTransact i2c) s
    let s := (List.range 32).foldl (sensorCycle adc i2c) s
    let s := (List.range 16).foldl zoneCycle s
    .next (outputsUpdate (zoneModes s) adc)

/-- SCHEDULE_EVALUATION (R742). -/
def execScheduleEvaluation (s : State) : Out :=
  if clmRuns s then .next (outputsUpdate (scheduleAll s) []) else .next s

/-- At a tick edge the engine follows the time: the schedules in a new local minute, which a step of the time scale or a change of
TIM_UTC_OFS may bring, then the outputs (R742, R750–R755). (DEDUCED, log 53) -/
def clmEdge (s : State) : State :=
  if !clmRuns s then s
  else outputsUpdate (if s.clm.minute = some (localSec s / 60) then s else scheduleAll s) []

/-! ### Inputs (R738, R759) -/

/-- The pin that carries an input function. -/
def inputPin (s : State) (func chan : Nat) : Option Nat :=
  (List.range 48).find? (fun n => s.rd (Reg.CLM_CIO_FUNC n) == func && s.rd (Reg.CLM_CIO_CHAN n) == chan)

/-- A recognised level of an input. -/
def inputLevel (s : State) (func chan : Nat) (b : Bool) (k : State → State) : State :=
  match inputPin s func chan with
  | some n => if clmRuns s then k (s.setBit (Reg.CLM_CIO_LEVEL n) b) else s
  | none => s

/-- PRESENCE_CHANGE (R736, R738, R760). -/
def execPresenceChange (i : Fin 8) (active : Bool) (s : State) : Out :=
  .next (inputLevel s 9 i.val active fun s =>
    let s := { s with clm := { s.clm with pres := setBitAt s.clm.pres i.val active,
                                          presAt := Tab.put 0 s.clm.presAt i.val (s.taiSec + 1) } }
    outputsUpdate (zoneModes s) [])

/-- H2_ALARM (R759, R761). -/
def execH2Alarm (s : State) : Out :=
  .next (inputLevel s 10 0 true fun s =>
    let s := { s.wr Reg.CLM_STATUS_H2 1 with clm := { s.clm with h2 := true, h2Hold := false } }
    raise (outputsUpdate s []) Blk.clm 0x0106 .fault 0)

/-- H2_CLEAR: the hold time starts (R759, R761). -/
def execH2Clear (s : State) : Out :=
  .next (inputLevel s 10 0 false fun s =>
    if s.clm.h2 then
      let s := { s.wr Reg.CLM_STATUS_H2 0 with clm := { s.clm with h2 := false, h2Hold := true } }
      raise (outputsUpdate s []) Blk.clm 0x0107 .info 0
    else s)

/-- H2_HOLD_END (R759). -/
def execH2HoldEnd (s : State) : Out :=
  if s.clm.h2Hold then .next (outputsUpdate { s with clm := { s.clm with h2Hold := false } } []) else .next s

/-- HEATER_MIN_TIME_END: a switch that was held back takes place (R755). -/
def execHeaterMinTimeEnd (h : Fin 8) (s : State) : Out :=
  if clmRuns s then
    .next (outputsUpdate { s with clm := { s.clm with lock := setBitAt s.clm.lock h.val false } } [])
  else .next s

/-- DAMPER_STALL (R753). -/
def execDamperStall (d : Fin 8) (s : State) : Out :=
  let st := s.rd (Reg.CLM_DMP_DSTATUS_STATE d.val)
  if clmRuns s && s.rd (Reg.CLM_DMP_CFG_FB d.val) != 0 && (st == 1 || st == 2) then
    let demand := demandOf s (Reg.CLM_DMP_OVR_EN d.val) (Reg.CLM_DMP_OVR_PCT d.val) (s.rd (Reg.CLM_DMP_CFG_LOOP d.val))
    let x := Tab.get {} s.clm.dmp d.val
    let y := { x with dir := 0, stop := s.taiNs, lastDir := x.dir, stallAt := demand }
    let s := { s.wr (Reg.CLM_DMP_DSTATUS_STATE d.val) 3 with clm := { s.clm with dmp := Tab.put {} s.clm.dmp d.val y } }
    .next (pinLevels (raise s Blk.clm 0x0103 .warn (d.val + 2 ^ 32 * s.rd (Reg.CLM_DMP_POS d.val))))
  else .next s

/-- A write of 1 to DSTATUS.STALL_CLR (R753). -/
def stallClear (s : State) (d : Nat) : State :=
  if s.rd (Reg.CLM_DMP_DSTATUS_STATE d) = 3 then outputsUpdate (s.wr (Reg.CLM_DMP_DSTATUS_STATE d) 0) [] else s

/-- DAMPER_SYNC: the position is 0 (R752). -/
def execDamperSync (d : Fin 8) (valve : Bool) (s : State) : Out :=
  let x := Tab.get {} (if valve then s.clm.vlv else s.clm.dmp) d.val
  if !clmRuns s || !x.sync then .next s
  else
    let y := { x with sync := false, seen := s.taiNs }
    if valve then
      .next (outputsUpdate { s.wr (Reg.CLM_VLV_POS d.val) 0 with clm := { s.clm with vlv := Tab.put {} s.clm.vlv d.val y } } [])
    else
      .next (outputsUpdate { s.wr (Reg.CLM_DMP_POS d.val) 0 with clm := { s.clm with dmp := Tab.put {} s.clm.dmp d.val y } } [])

/-! ### Loops (R744–R748) -/

/-- The minimum DIV of a tick rate (Table 16.2). -/
def minDiv (rate : Nat) : Nat :=
  if rate ≤ 4800 then 9 else if rate ≤ 9600 then 10 else if rate ≤ 14400 then 11 else 12

/-- The DIV in effect. -/
def loopDiv (s : State) (l : Nat) : Nat := min (max (s.rd (Reg.CLM_LOOP_CFG_DIV l)) (minDiv s.rate)) 20

/-- Whether a loop runs in this tick, in which it has not run yet (R744). -/
def loopDue (s : State) (l : Nat) : Bool :=
  s.tick % 2 ^ loopDiv s l == l % 2 ^ loopDiv s l && (pidOf s l).ranIn != s.tick + 1

/-- The process value of a loop; invalid as NaN (R745, R747). -/
def loopPv (s : State) (l : Nat) : Word :=
  let z := s.rd (Reg.CLM_LOOP_CFG_ZONE l)
  let i := s.rd (Reg.CLM_LOOP_CFG_PV_IDX l)
  match s.rd (Reg.CLM_LOOP_CFG_PV_SRC l) with
  | 0 => if i < 32 ∧ s.rd (Reg.CLM_SENS_STATUS_STATE i) = 1 then s.reg (Reg.CLM_SENS_VALUE i).key else fpInvalid
  | 1 => s.reg (Reg.CLM_ZONE_TEMP z).key
  | 2 => s.reg (Reg.CLM_ZONE_RH z).key
  | 3 => margin s z
  | _ => fpInvalid

/-- The setpoint of a loop (R745). -/
def loopSp (s : State) (l : Nat) : Word :=
  let z := s.rd (Reg.CLM_LOOP_CFG_ZONE l)
  match s.rd (Reg.CLM_LOOP_CFG_SP_SRC l) with
  | 0 => loopP s l 3
  | 1 => zoneSetpoint s z 0
  | 2 => zoneSetpoint s z 1
  | 3 => s.reg (Reg.CLM_ZONE_RH_MAX z).key
  | 4 => s.reg (Reg.CLM_ZONE_DP_MARGIN z).key
  | _ => fpInvalid

/-- A normal run of a loop (R746). -/
def loopNormal (s : State) (l : Nat) (pv sp : Word) : State :=
  let x := pidOf s l
  let kp := loopP s l 0
  let ti := loopP s l 1
  let td := loopP s l 2
  let dt := fpQ (2 ^ loopDiv s l : Nat) s.rate
  let act := s.bit (Reg.CLM_LOOP_CFG_ACTION l)
  let e := if act then fpSub pv sp else fpSub sp pv
  let p := Config.fpMul kp e
  let old := s.reg (Reg.CLM_LOOP_I l).key
  let noI := fpVal ti == 0
  let i := if noI then 0 else Config.fpAdd old (Config.fpMul (Config.fpDiv (Config.fpMul kp dt) ti) e)
  let d := match x.prev with
    | none => 0
    | some q =>
      if fpVal td == 0 then 0
      else
        let m := Config.fpDiv (Config.fpMul (Config.fpMul kp td) (fpSub pv q)) dt
        if act then m else fpNegate m
  let u := Config.fpAdd (Config.fpAdd p i) d
  let lo := loopP s l 4
  let hi := loopP s l 5
  let keep := !noI && ((fpLt hi u && fpLt 0 e) || (fpLt u lo && fpLt e 0))
  let s := (s.setReg (Reg.CLM_LOOP_PV l).key pv).setReg (Reg.CLM_LOOP_OUT l).key (fpClamp lo hi u)
  let s := (s.setReg (Reg.CLM_LOOP_I l).key (if keep then old else i)).wr (Reg.CLM_LOOP_LSTATUS_STATE l) 1
  setPid s l { x with prev := some pv, p := p, d := d }

/-- One run of a loop (R737, R746–R748). (DEDUCED, log 44) -/
def loopRun (s : State) (l : Nat) : State :=
  let z := s.rd (Reg.CLM_LOOP_CFG_ZONE l)
  let s := setPid s l { pidOf s l with ranIn := s.tick + 1 }
  if s.rd (Reg.CLM_ZONE_ZSTATUS_MODE z) = 0 then loopOff s l
  else
    let pv := loopPv s l
    let sp := loopSp s l
    if fpNan pv || fpNan sp then
      (s.setReg (Reg.CLM_LOOP_OUT l).key (loopP s l 6)).wr (Reg.CLM_LOOP_LSTATUS_STATE l) 2
    else loopNormal s l pv sp

/-- LOOP_RUN: a loop runs in its tick. -/
def execLoopRun (l : Fin 32) (aux : List AuxMean) (s : State) : Out :=
  if clmRuns s && s.bit (Reg.CLM_LOOP_CFG_EN l.val) && loopDue s l.val && s.rd Reg.TIK_STATUS_STATE != 0 then
    .next (outputsUpdate (loopRun s l.val) aux)
  else .next s

/-- The loops that a commit enabled start. -/
def loopsChanged (old s : State) : State :=
  (List.range 32).foldl (fun s l =>
    if s.bit (Reg.CLM_LOOP_CFG_EN l) && !old.bit (Reg.CLM_LOOP_CFG_EN l) then loopStart s l else s) s

/-- An override of an output is released: the loops that feed it continue without a step (R749): I is set, and OUT to what that I gives,
so that the demand does not fall back to the loop's last output before its next run. (DEDUCED, log 53) -/
def bumpless (s : State) (l pct : Nat) : State :=
  if 32 ≤ l then s
  else
    let x := pidOf s l
    let lo := loopP s l 4
    let hi := loopP s l 5
    let i := fpClamp lo hi (fpSub (fpSub (fpQ pct 1) x.p) x.d)
    let s := s.setReg (Reg.CLM_LOOP_I l).key i
    if s.rd (Reg.CLM_LOOP_LSTATUS_STATE l) = 1 then
      s.setReg (Reg.CLM_LOOP_OUT l).key (fpClamp lo hi (Config.fpAdd (Config.fpAdd x.p i) x.d))
    else s

/-- Release every override of an output whose WRITER `sel` picks (R769). -/
def releaseOverrides (s : State) (sel : Nat → Bool) : State :=
  if !domainUp s 20 then s
  else
    let one := fun (en wr pct loop : Nat → Fld) (s : State) (n : Nat) =>
      if s.bit (en n) && sel (s.rd (wr n)) then bumpless (s.wr (en n) 0) (s.rd (loop n)) (s.rd (pct n)) else s
    let s := (List.range 8).foldl (one Reg.CLM_DMP_OVR_EN Reg.CLM_DMP_OVR_WRITER Reg.CLM_DMP_OVR_PCT Reg.CLM_DMP_CFG_LOOP) s
    let s := (List.range 8).foldl (one Reg.CLM_VLV_OVR_EN Reg.CLM_VLV_OVR_WRITER Reg.CLM_VLV_OVR_PCT Reg.CLM_VLV_CFG_LOOP) s
    let s := (List.range 8).foldl (one Reg.CLM_HTR_OVR_EN Reg.CLM_HTR_OVR_WRITER Reg.CLM_HTR_OVR_PCT Reg.CLM_HTR_CFG_LOOP) s
    let s := (List.range 8).foldl (one Reg.CLM_MOV_OVR_EN Reg.CLM_MOV_OVR_WRITER Reg.CLM_MOV_OVR_PCT Reg.CLM_MOV_CFG_LOOP) s
    let s := (List.range 16).foldl (fun s z =>
      if s.bit (Reg.CLM_ZONE_OVR_MODE_EN z) && sel (s.rd (Reg.CLM_ZONE_OVR_MODE_WRITER z)) then s.wr (Reg.CLM_ZONE_OVR_MODE_EN z) 0
      else s) s
    outputsUpdate (zoneModes s) []

/-- CLM starts at the first RUNNING tick after an activation, or after a restore (R770, R771). -/
def clmStart (s : State) : State :=
  if !domainUp s 20 || !s.bit Reg.CLM_CTRL_EN then s
  else
    let now := s.taiNs
    let est := fun (on : Bool) (stroke : Nat) => ({ seen := now, sync := on, stroke := stroke } : Act)
    let dmp := (List.range 8).map (fun d => (d, est (s.rd (Reg.CLM_DMP_CFG_FB d) == 0) (s.rd (Reg.CLM_DMP_STROKE_STROKE_S d))))
    let vlv := (List.range 8).map (fun v => (v, est true (s.rd (Reg.CLM_VLV_TIME_PERIOD v))))
    let keep := fun (t : List (Nat × Act)) => t.filter (fun p => p.2 != {})
    let s := { s.wr Reg.CLM_STATUS_STATE 1 with clm := { s.clm with starts := false, dmp := keep dmp, vlv := keep vlv } }
    outputsUpdate (scheduleAll ((List.range 32).foldl loopStart s)) []

end Sys2Proof.Machine
end

