-- ==== Sys2Proof/Machine/Spm.lean ====
section
/-! DEFINITION. The two SPI masters: SPIM0 with the external octal flash, and SPIM1 ("Panel and serial ports"). -/

namespace Sys2Proof.Machine

/-! ### The external flash (R830, R833) -/

/-- A byte of the external flash. (DESIGN CHOICE, log 5) -/
def xByte (s : State) (a : Nat) : Byte := Tab.get 0xFF s.flash (a % 2 ^ 28)

/-- Set a byte of the external flash. -/
def setXByte (s : State) (a : Nat) (b : Byte) : State := { s with flash := Tab.put 0xFF s.flash (a % 2 ^ 28) b }

/-- Program one byte. What a byte holds when the new value needs a bit that is not erased is open: a free value. (DEDUCED, log 48) -/
def xProgram (s : State) (p : Nat × Byte) : State :=
  if xByte s p.1 &&& p.2 = p.2 then setXByte s p.1 p.2 else setXByte s.used p.1 (s.free.truncate 8)

/-- Erase a block: every byte reads 0xFF. -/
def xErase (s : State) (a n : Nat) : State :=
  { s with flash := s.flash.filter (fun p => !(decide (a ≤ p.1) && decide (p.1 < a + n))) }

/-- A program or an erase that did not complete leaves its bytes open: free values. (DEDUCED, log 48) -/
def xOpen (s : State) (a n : Nat) : State :=
  ((List.range n).map (fun i => a + i)).foldl (fun s a => setXByte s.used a (s.free.truncate 8)) s

/-! ### SPIM0 commands (R832–R834) -/

/-- The identity of a stored initiator number. -/
def idOf (n : Nat) : Ident := BitVec.ofNat 10 n

/-- The result of a SPIM0 command. -/
def flashResult (s : State) (i : Nat) (done queued : Bool) (code : Nat) : State :=
  ((s.setBit (Reg.SPM0_RESULT_DONE (idOf i)) done).setBit (Reg.SPM0_RESULT_QUEUED (idOf i)) queued).wr
    (Reg.SPM0_RESULT_CODE (idOf i)) code

/-- BUSY and QUEUED of SPM0_STATUS. -/
def showSpm (s : State) : State :=
  (s.setBit Reg.SPM0_STATUS_BUSY s.spm.run.isSome).setBit Reg.SPM0_STATUS_QUEUED (!s.spm.queue.isEmpty)

/-- The flash command bytes of an operation (R830, R831): OP 1 READ, 2 PROGRAM, 3 ERASE4K, 4 ERASE64K; a program or an erase follows a
write enable. (DEDUCED, log 48) -/
def sendFlash (s : State) (c : FlashCmd) : State :=
  let octal := s.bit Reg.SPM0_CFG_MODE
  match c.op with
  | 1 => emit s (.flash octal (if octal then 0xEE else 0x13) c.addr [])
  | 2 => emit (emit s (.flash octal 0x06 0 [])) (.flash octal 0x12 c.addr c.data)
  | 3 => emit (emit s (.flash octal 0x06 0 [])) (.flash octal 0x21 c.addr [])
  | _ => emit (emit s (.flash octal 0x06 0 [])) (.flash octal 0xDC c.addr [])

/-- A READ moves bytes of the flash into the initiator's buffer. -/
def flashRead (s : State) (c : FlashCmd) : State :=
  let put := fun (s : State) (j : Nat) =>
    let f := Reg.SPM0_BUF (idOf c.init) (j / 4)
    s.wr ⟨f.key, 8 * (j % 4), 8⟩ (xByte s (c.addr + j)).toNat
  flashResult ((List.range c.len).foldl put s) c.init true false 0

/-- Start the commands that wait, oldest first, up to the first that keeps the flash busy; none while a fetch runs. -/
def startFlash : Nat → State → State
  | 0, s => s
  | n + 1, s =>
    if s.bit Reg.SPM0_STATUS_FETCH || s.spm.run.isSome then s
    else match s.spm.queue with
      | [] => s
      | c :: cs =>
        let s := sendFlash { s with spm := { s.spm with queue := cs } } c
        if c.op = 1 then startFlash n (flashRead s c)
        else { flashResult s c.init false false 0 with spm := { s.spm with run := some c, owned := true } }

/-- Start what can start, and show it. -/
def nextFlash (s : State) : State := showSpm (startFlash (s.spm.queue.length + 1) s)

/-- A fetch by the boot ROM or the image engine begins, or waits for the flash to report ready (R832). (DEDUCED, log 48) -/
def fetchBegin (s : State) : State :=
  if s.spm.run.isSome then { s with spm := { s.spm with fetchWait := true } } else s.wr Reg.SPM0_STATUS_FETCH 1

/-- A fetch ends, or is stopped. -/
def fetchEnd (s : State) : State :=
  nextFlash ({ s with spm := { s.spm with fetchWait := false } }.wr Reg.SPM0_STATUS_FETCH 0)

/-- The running operation of the flash ends. -/
def flashEnd (s : State) (code : Nat) : State :=
  match s.spm.run with
  | none => s
  | some c =>
    let s := if s.spm.owned then flashResult s c.init true false code else s
    let wait := s.spm.fetchWait
    let s := { s with spm := { s.spm with run := none, fetchWait := false } }
    nextFlash (if wait then s.wr Reg.SPM0_STATUS_FETCH 1 else s)

/-- A SPIM0 command (R832, R833). (DEDUCED, log 48) -/
def flashCommand (s : State) (a : Access) (v : Word) (op : Nat) : State :=
  withWrite s a 0xA20000 Blk.spm 22 0xA20010 fun s =>
    let i := a.init.toNat
    let addr := s.rd (Reg.SPM0_ADDR_ADDR a.init)
    let len := s.rd (Reg.SPM0_LEN_LEN a.init)
    if !isPfOrMgmt a.init then cfgViol s Blk.spm a.init 0xA20010
    else if s.spm.queue.any (fun c => c.init == i) || s.spm.owned && s.spm.run.any (fun c => c.init == i) then
      flashResult s i true false 1
    else if op ≠ 1 ∧ fieldOf v 16 16 ≠ 0xC0DE then flashResult s i true false 4
    else if op ≤ 2 ∧ (len = 0 ∨ 256 < len) then flashResult s i true false 2
    else if op = 2 ∧ 256 < addr % 256 + len then flashResult s i true false 2
    else
      let base := if op = 3 then addr - addr % 4096 else if op = 4 then addr - addr % 65536 else addr
      let n := if op = 3 then 4096 else if op = 4 then 65536 else len
      let byteOf := fun j => BitVec.ofNat 8 (s.rd (Reg.SPM0_BUF a.init (j / 4)) / 2 ^ (8 * (j % 4)))
      let data := if op = 2 then (List.range len).map byteOf else []
      let busy := s.bit Reg.SPM0_STATUS_FETCH || s.spm.run.isSome
      let s := flashResult s i false busy 0
      nextFlash { s with spm := { s.spm with queue := s.spm.queue ++ [⟨i, op, base, n, data⟩] } }

/-- READ. -/
def execFlashRead (a : Access) (v : Word) (s : State) : Out := .next (flashCommand s a v 1)

/-- PROGRAM. -/
def execFlashProgram (a : Access) (v : Word) (s : State) : Out := .next (flashCommand s a v 2)

/-- ERASE4K. -/
def execFlashErase4k (a : Access) (v : Word) (s : State) : Out := .next (flashCommand s a v 3)

/-- ERASE64K. -/
def execFlashErase64k (a : Access) (v : Word) (s : State) : Out := .next (flashCommand s a v 4)

/-- A command word whose OP is none of the four: refused with RANGE. (DEDUCED, log 48) -/
def flashUnknownOp (a : Access) (s : State) : State :=
  withWrite s a 0xA20000 Blk.spm 22 0xA20010 fun s =>
    if isPfOrMgmt a.init then flashResult s a.init.toNat true false 2 else cfgViol s Blk.spm a.init 0xA20010

/-- The status polling finds the flash ready: the bytes are programmed or erased. -/
def execFlashOpComplete (s : State) : Out :=
  match s.spm.run with
  | none => .next s
  | some c =>
    let s := if c.op = 2 then ((List.range c.len).map (fun j => (c.addr + j, c.data.getD j 0))).foldl xProgram s
      else xErase s c.addr c.len
    .next (flashEnd s 0)

/-- FLASH_TIMEOUT: PROG_MAX or ERASE_MAX has passed since the operation began (R834). (DEDUCED, log 48) -/
def execFlashTimeout (s : State) : Out :=
  match s.spm.run with
  | none => .next s
  | some c => .next (raise (flashEnd (xOpen s c.addr c.len) 3) Blk.spm 0x0102 .fault (c.op + 2 ^ 32 * c.addr))

/-- The first bytes of an SFDP area: "SFDP", the first in bits 7:0. -/
abbrev sfdpWord : Word := 0x50444653

/-- SPIM0_INIT at the release of PD22 (R831): SPIM0 sends 0x06 and 0x81 with ENTRY_VAL, and what it then reads decides the mode. -/
def execSpim0Init (sig : Word) (s : State) : Out :=
  if !domainUp s 22 then .next s
  else
    let entry := BitVec.ofNat 8 (s.rd Reg.SPM0_CFG_ENTRY_VAL)
    let s := emit (emit s (.flash false 0x06 0 [])) (.flash false 0x81 0 [entry])
    let ok := decide (sig = sfdpWord)
    let s := (s.setBit Reg.SPM0_CFG_MODE ok).setBit Reg.SPM0_STATUS_FALLBACK (!ok)
    .next (if ok then s else raise s Blk.spm 0x0101 .fault 0)

/-! ### SPIM1 (R835–R839) -/

/-- Whether an initiator is the one that an OWNER bit names: 0 the PF, 1 the MGMT pairs. -/
def isOwner (owner : Bool) (i : Ident) : Bool := if owner then isMgmt i else i.toNat == 1

/-- The big-endian low `n` bytes of a word. -/
def headBytes (v n : Nat) : List Byte := (toLe n v).reverse

/-- The bytes of SPM1_BUF. -/
def buf1 (s : State) (n : Nat) : List Byte :=
  (List.range n).map (fun j => BitVec.ofNat 8 (s.rd (Reg.SPM1_BUF (j / 4)) / 2 ^ (8 * (j % 4))))

/-- The result of a SPIM1 transfer. -/
def result1 (s : State) (done : Bool) (code : Nat) : State :=
  (s.setBit Reg.SPM1_RESULT_DONE done).wr Reg.SPM1_RESULT_CODE code

/-- Whether the settings of a transfer are in the ranges of R835 and R836. (DEDUCED, log 49) -/
def ranges1 (s : State) (v : Word) : Bool :=
  let t := fieldOf v 24 4
  let ls := [s.rd (Reg.SPM1_TGT_LANES_DATA t), s.rd (Reg.SPM1_TGT_LANES_ADDR t), s.rd (Reg.SPM1_TGT_LANES_CMD t)]
  (ls.all (· == 0) || ls.all (· != 0)) && ls.all (fun l => decide (l ≤ 4)) && decide (fieldOf v 20 2 ≤ 2) &&
    decide (fieldOf v 16 3 ≤ 4) && decide (fieldOf v 0 9 ≤ 256) && decide (2 ≤ s.rd (Reg.SPM1_TGT_DIV t))

/-- GO. (DEDUCED, log 49) -/
def execSpim1Go (a : Access) (v : Word) (s : State) : Out :=
  .next (withWrite s a 0xA20000 Blk.spm 22 0xA21004 fun s =>
    if !isOwner (s.bit Reg.SPM1_CTRL_OWNER) a.init then cfgViol s Blk.spm a.init 0xA21004
    else if s.spm.xfer.isSome then result1 s true 1
    else
      let s := s.setReg Reg.SPM1_XFER.key (v &&& 0x0F3711FF#32)
      if !s.bit Reg.SPM1_CTRL_EN then s
      else if !ranges1 s v then result1 s true 2
      else
        let t := fieldOf v 24 4
        let n := fieldOf v 0 9
        let full := s.rd (Reg.SPM1_TGT_LANES_DATA t) == 0
        let read := fieldOf v 12 1 == 1 && !full
        let sent := headBytes (s.rd Reg.SPM1_CMDW) (fieldOf v 20 2) ++ headBytes (s.rd Reg.SPM1_ADDRW) (fieldOf v 16 3) ++
          (if read then [] else buf1 s n)
        let s := emit ((result1 s false 0).wr Reg.SPM1_XFER_GO 1) (.spim1 t sent (if read || full then n else 0))
        { s with spm := { s.spm with xfer := some ⟨t, read, full, n, s.bit (Reg.SPM1_TGT_RDY_EN t)⟩ } })

/-- Received bytes replace those of SPM1_BUF. -/
def receive1 (s : State) (x : Xfer1) (data : List Byte) : State :=
  if x.read || x.full then
    (List.range (min x.len data.length)).foldl
      (fun s j => s.wr ⟨(Reg.SPM1_BUF (j / 4)).key, 8 * (j % 4), 8⟩ (data.getD j 0).toNat) s
  else s

/-- The transfer ends with a result. -/
def end1 (s : State) (x : Xfer1) (data : List Byte) (code : Nat) : State :=
  let s := (receive1 s x data).wr Reg.SPM1_XFER_GO 0
  result1 { s with spm := { s.spm with xfer := none } } true code

/-- The transfer is complete. -/
def execSpim1Done (data : List Byte) (s : State) : Out :=
  match s.spm.xfer with
  | none => .next s
  | some x => .next (end1 s x data 0)

/-- RDY_TIMEOUT: SPIM1_RDY has stayed low for SPM1_RDY_TMO; 0 acts as 1 (R838). (DEDUCED, log 49) -/
def execRdyTimeout (x : RdyLow) (s : State) : Out :=
  match s.spm.xfer with
  | none => .next s
  | some t => if t.rdy && decide (max 1 (s.rd Reg.SPM1_RDY_TMO_US) ≤ x.us) then .next (end1 s t x.data 5) else .next s

/-! ### Resets (Table 18.4) -/

/-- The commands and transfers of reset initiators are discarded. A flash operation in progress goes on in the flash. -/
def spmDiscard (s : State) (sel : Nat → Bool) : State :=
  let run := s.spm.run
  let s := showSpm { s with spm := { s.spm with
    queue := s.spm.queue.filter (fun c => !sel c.init), owned := s.spm.owned && !run.any (fun c => sel c.init) } }
  let owner := if s.bit Reg.SPM1_CTRL_OWNER then sel 0x100 else sel 1
  if owner && s.spm.xfer.isSome then { s.wr Reg.SPM1_XFER_GO 0 with spm := { s.spm with xfer := none } } else s

/-- A reset of PD22 stops a flash operation: its bytes are left open. -/
def spmReset (s : State) : State :=
  match s.spm.run with
  | none => { s with spm := {} }
  | some c => { xOpen s c.addr c.len with spm := {} }

end Sys2Proof.Machine
end

