-- ==== Sys2Proof/Machine/Uar.lean ====
section
/-! DEFINITION. The UARTs ("Panel and serial ports"). -/

namespace Sys2Proof.Machine

/-- A UART beside its registers. -/
def uart (s : State) (u : Nat) : Uart := Tab.get {} s.uar u

/-- Set a UART, with the counts and flags of STATUS that follow it. -/
def setUart (s : State) (u : Nat) (x : Uart) : State :=
  let s := { s with uar := Tab.put {} s.uar u x }
  ((s.wr (Reg.UAR_STATUS_RX_CNT u) x.rx.length).wr (Reg.UAR_STATUS_TX_CNT u) x.tx.length).setBit
    (Reg.UAR_STATUS_TX_EMPTY u) x.tx.isEmpty

/-- An interrupt cause of a UART: the PF's message and the MGMT interrupt. (DEDUCED, log 51) -/
def uartIrq (s : State) (u : Nat) (cause : Fld) : State :=
  if s.bit (Reg.UAR_IRQ_EN u) && s.bit cause then emit (msix s 0 (s.rd (Reg.UAR_IRQ_VEC u))) (.mgmtIrq Blk.uar) else s

/-- The divisor in sixteenths. A bit lasts this many times 5 ns (R849). -/
def divisor (s : State) (u : Nat) : Nat := 16 * s.rd (Reg.UAR_DIV_INT u) + s.rd (Reg.UAR_DIV_FRAC u)

/-- The character time in ns (R854). -/
def charNs (s : State) (u : Nat) : Nat :=
  let bits := 1 + (8 - s.rd (Reg.UAR_CFG_DATA7 u)) + (if s.rd (Reg.UAR_CFG_PARITY u) = 0 then 0 else 1) + 1 +
    s.rd (Reg.UAR_CFG_STOP2 u)
  bits * 5 * divisor s u

/-- T3.5 in half ns: 3.5 character times, or 1,750 µs above 19,200 bit/s. -/
def t35 (s : State) (u : Nat) : Nat := if 19200 * divisor s u < 200000000 then 2 * 1750000 else 7 * charNs s u

/-- T1.5 in half ns. -/
def t15 (s : State) (u : Nat) : Nat := if 19200 * divisor s u < 200000000 then 2 * 750000 else 3 * charNs s u

/-- The value of a bit: the majority of its samples 7, 8 and 9 (R850). -/
def majority (x : BitVec 3) : Bool := decide (2 ≤ popCount 3 x.toNat)

/-- A received frame (R849–R851): start bit, data, parity bit and first stop bit. -/
structure UartBits where
  start : Bool
  data : Nat
  par : Bool
  stop : Bool
  deriving DecidableEq, Repr

/-- The bits of a frame in the format of a UART; a bit that no sample was taken of reads as the idle line. (DEDUCED, log 51) -/
def uartBits (s : State) (u : Nat) (f : UartFrame) : UartBits :=
  let bit := fun j => majority (f.bits.getD j 7)
  let n := 8 - s.rd (Reg.UAR_CFG_DATA7 u)
  let p := if s.rd (Reg.UAR_CFG_PARITY u) = 0 then 0 else 1
  ⟨bit 0, ((List.range n).map (fun j => (bit (1 + j)).toNat * 2 ^ j)).sum, p == 1 && bit (1 + n), bit (1 + n + p)⟩

/-- Whether a frame's parity bit is wrong (R849). -/
def parityBad (s : State) (u : Nat) (data : Nat) (par : Bool) : Bool :=
  match s.rd (Reg.UAR_CFG_PARITY u) with
  | 1 => (popCount 8 data + par.toNat) % 2 != 0
  | 2 => (popCount 8 data + par.toNat) % 2 != 1
  | _ => false

/-- A received byte that finds the FIFO full (R852). -/
def uartOverrun (s : State) (u : Nat) : State :=
  let n := (uart s u).lost + 1
  let s := s.inc (Reg.UAR_OVERRUN u)
  if limitOpen s Blk.uar 0x0101 u then
    setUart (raiseLimited s Blk.uar 0x0101 .warn u (u + 2 ^ 32 * (n % 2 ^ 32))) u { uart s u with lost := 0 }
  else setUart s u { uart s u with lost := n }

/-- A frame on the line (R850–R854). (DEDUCED, log 51) -/
def execUartFrameReceive (u : Fin 4) (f : UartFrame) (s : State) : Out :=
  let u := u.val
  if !domainUp s 20 || !s.bit (Reg.UAR_CFG_EN u) then .next s
  else if (uart s u).de && !s.bit (Reg.UAR_CFG_ECHO u) then .next s
  else if (uartBits s u f).start then .next (s.inc (Reg.UAR_NOISE u))
  else
    let x := uartBits s u f
    let data := x.data
    let stop := x.stop
    let pe := parityBad s u data x.par
    let brk := !stop && data == 0 && !x.par
    let modbus := s.bit (Reg.UAR_CFG_MODBUS u)
    let som := modbus && decide (t35 s u ≤ 2 * f.idle)
    let gap := modbus && !som && decide (t15 s u < 2 * f.idle)
    let s := if stop then s else s.inc (Reg.UAR_FRAMING u)
    let s := if pe then s.inc (Reg.UAR_PARITY u) else s
    let s := if brk then s.inc (Reg.UAR_BREAK u) else s
    let s := (setUart s u { uart s u with quiet := false }).wr (Reg.UAR_STATUS_IDLE u) 0
    let x := uart s u
    if 64 ≤ x.rx.length then .next (uartOverrun s u)
    else
      let w := BitVec.ofNat 32 (2 ^ 31 + 2 ^ 12 * som.toNat + 2 ^ 11 * gap.toNat + 2 ^ 10 * brk.toNat + 2 ^ 9 * pe.toNat +
        2 ^ 8 * (!stop).toNat + data)
      .next (uartIrq (setUart s u { x with rx := x.rx ++ [w] }) u (Reg.UAR_IRQ_RX u))

/-- The owner of a UART (R855). -/
def ownsUart (s : State) (u : Nat) (i : Ident) : Bool := isOwner (s.bit (Reg.UAR_CFG_OWNER u)) i

/-- A read of DATA. The value of a dropped read is open. -/
def execUartDataRead (i : Ident) (u : Fin 4) (s : State) : Out :=
  let addr := 0xA6000C + u.val * 0x100
  if debugShut s i then .next { cfgViol s.used Blk.uar i addr with resp := some s.free }
  else if !domainUp s 20 then .next { isoErr s Blk.uar i addr 20 with resp := some 0xFFFFFFFF }
  else if !ownsUart s u.val i then .next { cfgViol s.used Blk.uar i addr with resp := some s.free }
  else
    let x := uart s u.val
    match x.rx with
    | [] => .next { s with resp := some 0 }
    | w :: ws => .next { setUart s u.val { x with rx := ws } with resp := some w }

/-- Send the next byte when the transmitter is free: under MODBUS the first byte waits for an idle line (R853, R854). (DEDUCED, log 51) -/
def uartKick (s : State) (u : Nat) : State :=
  let x := uart s u
  match x.shift, x.tx with
  | none, b :: bs =>
    if s.bit (Reg.UAR_CFG_EN u) && (!s.bit (Reg.UAR_CFG_MODBUS u) || x.quiet) then
      let de := s.bit (Reg.UAR_CFG_DE_EN u)
      let s := if de then emit s (.uartDe u true (s.rd (Reg.UAR_DE_LEAD u))) else s
      let s := emit (setUart s u { x with shift := some b, tx := bs, de := de }) (.uart u b)
      let s := s.wr (Reg.UAR_STATUS_IDLE u) 0
      if bs.isEmpty then uartIrq s u (Reg.UAR_IRQ_TXE u) else s
    else s
  | _, _ => s

/-- A write of DATA (R852, R855). -/
def execUartDataWrite (a : Access) (u : Fin 4) (v : Word) (s : State) : Out :=
  let addr := 0xA6000C + u.val * 0x100
  .next (withWrite s a 0xA60000 Blk.uar 20 addr fun s =>
    if u.val = 0 ∧ s.bit Reg.CLM_MSTP_CTRL_EN then s
    else if !ownsUart s u.val a.init then cfgViol s Blk.uar a.init addr
    else
      let x := uart s u.val
      if 64 ≤ x.tx.length then s.wr (Reg.UAR_STATUS_TX_DROP u.val) 1
      else uartKick (setUart s u.val { x with tx := x.tx ++ [v.truncate 8] }) u.val)

/-- The level of UART_DE: asserted high with DE_POL 0, and inactive at the release of PD20 (R853, R862); none while PD20 is down.
(DEDUCED, log 51) -/
def uartDeLevel (s : State) (u : Nat) : Option Bool :=
  if domainUp s 20 then some ((uart s u).de != s.bit (Reg.UAR_CFG_DE_POL u)) else none

/-- The last stop bit of a byte is sent (R853). -/
def execUartTxComplete (u : Fin 4) (s : State) : Out :=
  let u := u.val
  let x := uart s u
  match x.shift, x.tx with
  | none, _ => .next s
  | some _, [] =>
    let s := if x.de then emit s (.uartDe u false (s.rd (Reg.UAR_DE_LAG u))) else s
    .next (setUart s u { x with shift := none, de := false, quiet := false })
  | some _, b :: bs =>
    let s := emit (setUart s u { x with shift := some b, tx := bs, quiet := false }) (.uart u b)
    .next (if bs.isEmpty then uartIrq s u (Reg.UAR_IRQ_TXE u) else s)

/-- The line has been idle for T3.5 after a byte (R854). (DEDUCED, log 51) -/
def execModbusEom (x : UartIdle) (s : State) : Out :=
  let u := x.uart.val
  if !domainUp s 20 || !s.bit (Reg.UAR_CFG_EN u) || !s.bit (Reg.UAR_CFG_MODBUS u) || (uart s u).quiet ||
      (uart s u).shift.isSome || decide (2 * x.ns < t35 s u) then .next s
  else
    let s := (setUart s u { uart s u with quiet := true }).wr (Reg.UAR_STATUS_IDLE u) 1
    .next (uartKick (uartIrq s u (Reg.UAR_IRQ_EOM u)) u)

end Sys2Proof.Machine
end

