-- ==== Sys2Proof/Machine/Iic.lean ====
section
/-! DEFINITION. The I²C controllers and the SFP modules ("Panel and serial ports"). -/

namespace Sys2Proof.Machine

/-- A controller beside its registers. -/
def iic (s : State) (c : Nat) : Iic := Tab.get {} s.iic c

/-- Set a controller. -/
def setIic (s : State) (c : Nat) (x : Iic) : State := { s with iic := Tab.put {} s.iic c x }

/-- One byte of a CRC-8 with polynomial 0x07 (R856). -/
def crc8Byte (crc : Nat) (b : Byte) : Nat :=
  (List.range 8).foldl (fun c _ => if 128 ≤ c then Nat.xor (2 * c % 256) 7 else 2 * c) (Nat.xor crc b.toNat)

/-- The packet error code of bytes. (DEDUCED, log 52) -/
def pecOf (bs : List Byte) : Byte := BitVec.ofNat 8 (bs.foldl crc8Byte 0)

/-- The bytes that a transaction writes after its first address. -/
def wbytes (s : State) (c : Nat) (i : Ident) : List Byte :=
  (List.range (s.rd (Reg.IIC_XFER_WLEN i c))).map
    (fun j => BitVec.ofNat 8 (s.rd (Reg.IIC_WBUF i c (j / 4)) / 2 ^ (8 * (j % 4))))

/-- The address byte of a transaction. -/
def addrByte (s : State) (c : Nat) (i : Ident) (read : Bool) : Byte :=
  BitVec.ofNat 8 (2 * s.rd (Reg.IIC_XFER_ADDR i c) + read.toNat)

/-- The byte for the multiplexer (R860). -/
def muxByte (s : State) (c : Nat) (i : Ident) : Option Byte :=
  if c = 1 ∧ s.bit (Reg.IIC_XFER_SFP_SEL i c) ∧ s.bit Reg.IIC_MUX_EN then
    some (BitVec.ofNat 8 (2 ^ s.rd (Reg.IIC_XFER_SFP i c))) else none

/-- An attempt of the transaction of an initiator goes out on the bus (R856, R860). (DEDUCED, log 52) -/
def sendI2c (s : State) (c : Nat) (n : Nat) : State :=
  let i := idOf n
  let w := wbytes s c i
  let rlen := s.rd (Reg.IIC_XFER_RLEN i c)
  let pec := s.bit (Reg.IIC_XFER_PEC i c)
  let data := if pec && rlen == 0 then w ++ [pecOf (addrByte s c i false :: w)] else w
  emit s (.i2c c (muxByte s c i) (s.rd (Reg.IIC_XFER_ADDR i c)) data (if pec && rlen != 0 then rlen + 1 else rlen))

/-- The result of a transaction. -/
def i2cResult (s : State) (c n : Nat) (done : Bool) (code : Nat) : State :=
  (s.setBit (Reg.IIC_RESULT_DONE (idOf n) c) done).wr (Reg.IIC_RESULT_CODE (idOf n) c) code

/-- The transaction of an initiator ends with a failure (R858). -/
def failI2c (s : State) (c n code : Nat) : State :=
  let s := (i2cResult s c n true code).wr (Reg.IIC_XFER_GO (idOf n) c) 0
  raiseLimited (s.inc (Reg.IIC_FAIL c)) Blk.iic 0x0101 .warn c
    (c + 2 ^ 8 * s.rd (Reg.IIC_XFER_ADDR (idOf n) c) + 2 ^ 16 * code)

/-- The place of an initiator in the round robin after the one served last (R857). -/
def turnOf (last n : Nat) : Nat := (n + 0x200 - last - 1) % 0x200

/-- The waiting initiator whose turn it is. -/
def nextTurn (last : Nat) : List Nat → Option Nat
  | [] => none
  | n :: ns => some (ns.foldl (fun m k => if turnOf last k < turnOf last m then k else m) n)

/-- Serve the next transaction when the bus is free; on a stuck bus every one fails with TIMEOUT (R857, R859). (DEDUCED, log 52) -/
def serveI2c : Nat → Nat → State → State
  | 0, _, s => s
  | k + 1, c, s =>
    let x := iic s c
    if x.cur.isSome || !s.bit (Reg.IIC_CFG_EN c) then s
    else match nextTurn x.last x.wait with
      | none => s
      | some n =>
        let x := { x with wait := x.wait.filter (fun m => m != n), last := n, again := false }
        if x.stuck then serveI2c k c (failI2c (setIic s c x) c n 2)
        else sendI2c (setIic s c { x with cur := some n }) c n

/-- GO (R856, R857). -/
def execI2cGo (a : Access) (c : Fin 2) (v : Word) (sda : Bool) (s : State) : Out :=
  let c := c.val
  let addr := 0xA80004 + c * 0x100
  .next (withWrite s a 0xA80000 Blk.iic 22 addr fun s =>
    let n := a.init.toNat
    let x := iic s c
    if !isPfOrMgmt a.init then cfgViol s Blk.iic a.init addr
    else if x.wait.contains n || x.cur == some n then i2cResult s c n true 5
    else
      let s := s.setReg (Reg.IIC_XFER a.init c).key (v &&& 0x4F7F3F3F#32)
      let s := setIic s c { x with stuck := x.stuck && !sda }
      if 32 < fieldOf v 0 6 ∨ 32 < fieldOf v 8 6 ∨ fieldOf v 27 1 = 1 ∧ 5 < fieldOf v 24 3 then i2cResult s c n true 6
      else
        let s := (i2cResult s c n false 0).wr (Reg.IIC_XFER_GO a.init c) 1
        serveI2c 4 c (setIic s c { iic s c with wait := (iic s c).wait ++ [n] }))

/-- The failure code of an attempt, with the stretch limit and the check of the PEC (R856, R858). (DEDUCED, log 52) -/
def i2cCode (s : State) (c : Nat) (i : Ident) (e : I2cEnd) : Nat :=
  let rlen := s.rd (Reg.IIC_XFER_RLEN i c)
  let all := addrByte s c i false :: wbytes s c i ++ addrByte s c i true :: e.data.take rlen
  if s.rd (Reg.IIC_CFG_STRETCH c) < e.low then 2
  else if e.arb then 3
  else if e.nack then 1
  else if s.bit (Reg.IIC_XFER_PEC i c) && rlen != 0 && pecOf all != e.pec then 4 else 0

/-- An attempt ends (R858, R859). (DEDUCED, log 52) -/
def execI2cComplete (c : Fin 2) (e : I2cEnd) (s : State) : Out :=
  let c := c.val
  let x := iic s c
  match x.cur with
  | none => .next s
  | some n =>
    let i := idOf n
    let code := i2cCode s c i e
    if code = 0 then
      let rlen := s.rd (Reg.IIC_XFER_RLEN i c)
      let put := fun (s : State) (j : Nat) =>
        s.wr ⟨(Reg.IIC_RBUF i c (j / 4)).key, 8 * (j % 4), 8⟩ (e.data.getD j 0).toNat
      let s := (List.range rlen).foldl put s
      let s := (i2cResult s c n true 0).wr (Reg.IIC_XFER_GO i c) 0
      let s := if x.again then transient s Blk.iic 1 (c + 2 ^ 8 * s.rd (Reg.IIC_XFER_ADDR i c)) else s
      .next (serveI2c 4 c (setIic s c { x with cur := none }))
    else
      let stuck := e.sdaLow && (code == 2 || code == 3)
      let s := if stuck then raise s Blk.iic 0x0104 .fault c else s
      if stuck then .next (serveI2c 4 c (failI2c (setIic s c { x with cur := none, stuck := true }) c n 2))
      else if x.again then .next (serveI2c 4 c (failI2c (setIic s c { x with cur := none }) c n code))
      else .next (sendI2c (setIic s c { x with again := true }) c n)

/-- SFP_ABS has been stable for 100 ms (R861). -/
def execSfpPresenceChange (p : Fin 6) (present los : Bool) (s : State) : Out :=
  if !domainUp s 22 then .next s
  else
    let old := s.bit (Reg.IIC_SFP_PRESENT p.val)
    let s := (s.setBit (Reg.IIC_SFP_PRESENT p.val) present).setBit (Reg.IIC_SFP_LOS p.val) los
    if old = present then .next s
    else .next (raise s Blk.iic (if present then 0x0102 else 0x0103) .info p.val)

/-- The transactions of reset initiators are discarded (Table 18.4). -/
def iicDiscard (s : State) (sel : Nat → Bool) : State :=
  [0, 1].foldl (fun s c =>
    let x := iic s c
    let cur := if x.cur.any sel then none else x.cur
    serveI2c 4 c (setIic s c { x with wait := x.wait.filter (fun n => !sel n), cur := cur })) s

end Sys2Proof.Machine
end

