-- ==== Sys2Proof/Machine/Mstp.lean ====
section
/-! DEFINITION. The MS/TP data link: the master node state machine, its queues and the presence of the firmware ("Enclosure climate
and the building bus"). The states and their transitions follow ANSI/ASHRAE 135-2020 clause 9, which the spec names (R763). -/

namespace Sys2Proof.Machine

/-- Set the node. -/
def setMstp (s : State) (x : Mstp) : State := { s with clm := { s.clm with mstp := x } }

/-- The node's own MAC. -/
def mstpMac (s : State) : Nat := s.rd Reg.CLM_MSTP_CFG_MAC

/-- The station after one in the polling order. -/
def mstpSucc (s : State) (n : Nat) : Nat := (n + 1) % (s.rd Reg.CLM_MSTP_CFG_MAX_MASTER + 1)

/-- Whether the link is enabled and its domain up. -/
def mstpUp (s : State) : Bool := domainUp s 20 && s.bit Reg.CLM_MSTP_CTRL_EN

/-- The link states of CLM_MSTP_STATUS. -/
abbrev linkOff := 0
abbrev linkJoined := 1
abbrev linkAbsent := 2
abbrev linkLeft := 3

/-- The link state. -/
def linkState (s : State) : Nat := s.rd Reg.CLM_MSTP_STATUS_LINK

/-- Send a frame. -/
def mstpSend (s : State) (typ dst : Nat) (data : List Byte) : State := emit s (.mstp typ dst (mstpMac s) data)

/-- Send Poll For Master. -/
def sendPoll (s : State) (dst : Nat) : State :=
  setMstp (mstpSend s 1 dst []) { s.clm.mstp with state := .pollForMaster, poll := dst, retries := 0 }

/-- Send the token to the next station. -/
def sendToken (s : State) : State :=
  setMstp (mstpSend s 0 s.clm.mstp.next []) { s.clm.mstp with state := .passToken, retries := 0 }

/-- The most frames that one token hold sends (R764). -/
def maxInfo (s : State) : Nat := max (s.rd Reg.CLM_MSTP_CFG_MAX_INFO) 1

/-- Polls between maintenance polls, of the standard. -/
abbrev mstpNpoll := 50

/-- The token has been used: what the node does next. (PRESUMED, log 45) -/
def doneWithToken (s : State) : State :=
  let x := s.clm.mstp
  let ts := mstpMac s
  if !x.sole && x.next == ts then sendPoll s (mstpSucc s ts)
  else if x.tokens < mstpNpoll - 1 then
    if x.sole then setMstp s { x with state := .useToken, frames := 0, tokens := x.tokens + 1 }
    else sendToken (setMstp s { x with tokens := x.tokens + 1 })
  else if mstpSucc s x.poll ≠ x.next then sendPoll s (mstpSucc s x.poll)
  else if x.sole then
    let p := mstpSucc s x.next
    sendPoll (setMstp s { x with next := ts, tokens := 1 }) p
  else sendToken (setMstp s { x with poll := ts, tokens := 1 })

/-- TX_Q and RX_Q, and the head of the receive queue in its window (R765). -/
def mstpQueues (s : State) : State :=
  let x := s.clm.mstp
  let s := (s.wr Reg.CLM_MSTP_STATUS_TX_Q (min x.tx.length 15)).wr Reg.CLM_MSTP_STATUS_RX_Q (min x.rx.length 15)
  match x.rx with
  | [] => (List.range 128).foldl (fun s n => s.wr (Reg.CLM_MSTP_RX n) 0) s
  | f :: _ =>
    let bs := toLe 1 f.typ ++ toLe 1 f.dst ++ toLe 1 f.src ++ toLe 1 f.reply.toNat ++ toLe 4 f.data.length ++ f.data
    (List.range 128).foldl (fun s n => s.wr (Reg.CLM_MSTP_RX n) (leNat ((bs.drop (4 * n)).take 4))) s

/-- Use the token while queued frames and MAX_INFO allow: at most `n` frames (R764). While the firmware is absent nothing is sent
(R766). -/
def useToken : Nat → State → State
  | 0, s => doneWithToken s
  | n + 1, s =>
    let x := s.clm.mstp
    if linkState s ≠ linkJoined then doneWithToken s
    else match x.tx with
      | [] => doneWithToken s
      | f :: fs =>
        let s := mstpQueues (mstpSend (setMstp s { x with tx := fs, frames := x.frames + 1 }) f.typ f.dst f.data)
        if f.typ = 5 ∧ f.dst ≠ 255 then setMstp s { s.clm.mstp with state := .waitReply }
        else useToken n s

/-- Hold the token. -/
def holdToken (s : State) : State := useToken (maxInfo s - s.clm.mstp.frames) s

/-- The node has the token: it is used; as the only master the node goes on with it at its next opportunity. -/
def takeToken (s : State) : State :=
  holdToken (setMstp s { s.clm.mstp with state := .useToken, frames := 0 })

/-- A data frame for the firmware: queued, or discarded and counted (R764, R766). -/
def indicate (s : State) (f : MstpFrame) : State :=
  let x := s.clm.mstp
  if linkState s ≠ linkJoined then s.inc Reg.CLM_MSTP_ABSENT_DROP
  else if 8 ≤ x.rx.length then s.inc Reg.CLM_MSTP_RX_DROP
  else mstpQueues (setMstp s { x with rx := x.rx ++ [f] })

/-- A queued reply to the asking station is sent at once. -/
def sendReply (s : State) : State :=
  let x := s.clm.mstp
  match x.tx.find? (fun f => f.reply && f.dst == x.asker) with
  | none => s
  | some f =>
    mstpQueues (mstpSend (setMstp s { x with tx := x.tx.erase f, state := .idle }) f.typ f.dst f.data)

/-- A frame in the idle state, or after one that ended another state. -/
def idleFrame (s : State) (f : MstpFrame) : State :=
  let ts := mstpMac s
  let x := s.clm.mstp
  let mine := f.dst == ts
  if f.typ = 0 then
    if !mine then s
    else if linkState s = linkLeft then sendToken (setMstp s { x with sole := false })
    else takeToken (setMstp s { x with sole := false })
  else if f.typ = 1 then (if mine && linkState s != linkLeft then mstpSend s 2 f.src [] else s)
  else if f.typ = 3 then (if mine && linkState s != linkLeft then mstpSend s 4 f.src f.data else s)
  else if f.typ = 5 then
    if mine then
      let s := indicate s f
      if linkState s = linkJoined then sendReply (setMstp s { s.clm.mstp with state := .answer, asker := f.src }) else s
    else if f.dst = 255 then indicate s f else s
  else if f.typ = 6 then (if mine || f.dst == 255 then indicate s f else s)
  else s

/-- A good frame by the state of the node. (PRESUMED, log 45) -/
def mstpFrame (s : State) (f : MstpFrame) : State :=
  let x := s.clm.mstp
  let ts := mstpMac s
  match x.state with
  | .waitReply =>
    if f.dst == ts && (f.typ == 4 || f.typ == 6 || f.typ == 7) then
      let s := if f.typ = 6 then indicate s f else s
      if s.clm.mstp.frames < maxInfo s then holdToken (setMstp s { s.clm.mstp with state := .useToken })
      else doneWithToken (setMstp s { s.clm.mstp with state := .doneWithToken })
    else idleFrame (setMstp s { x with state := .idle }) f
  | .pollForMaster =>
    if f.typ == 2 && f.dst == ts then
      sendToken (setMstp s { x with sole := false, next := f.src, poll := ts, tokens := 0 })
    else idleFrame (setMstp s { x with state := .idle }) f
  | _ => idleFrame (setMstp s { x with state := .idle }) f

/-- MSTP_FRAME_RECEIVE (R763, R764, R767). -/
def execMstpFrameReceive (good : Bool) (typ dst src : Byte) (data : List Byte) (s : State) : Out :=
  if !mstpUp s then .next s
  else if !good || decide (7 < typ.toNat) || decide (501 < data.length) then .next (s.inc Reg.CLM_MSTP_BAD_FRAME)
  else if src.toNat = mstpMac s then
    .next (raiseMinute (s.inc Reg.CLM_MSTP_DUP_MAC) Blk.clm 0x010A .warn 0 (mstpMac s))
  else .next (mstpFrame s ⟨typ.toNat, dst.toNat, src.toNat, false, data⟩)

/-- REPLY_POSTPONED: no reply is queued 200 ms after a type 5 frame (R764). -/
def execReplyPostponed (s : State) : Out :=
  if mstpUp s && s.clm.mstp.state == .answer then
    .next (mstpSend (setMstp s { s.clm.mstp with state := .idle }) 7 s.clm.mstp.asker [])
  else .next s

/-- MSTP_TIMER_EXPIRY: a timer of the node expires (R763). (PRESUMED, log 45) -/
def execMstpTimerExpiry (t : MstpTimer) (s : State) : Out :=
  let x := s.clm.mstp
  let ts := mstpMac s
  if !mstpUp s || linkState s == linkLeft then .next s
  else match t, x.state with
    | .noToken, .idle => .next (setMstp s { x with state := .noToken })
    | .slot, .noToken =>
      .next (sendPoll (setMstp s { x with next := ts, tokens := 0 }) (mstpSucc s ts))
    | .slot, .useToken => .next (holdToken s)
    | .reply, .waitReply => .next (doneWithToken (setMstp s { x with state := .doneWithToken, frames := maxInfo s }))
    | .usage, .passToken =>
      if x.retries < 1 then
        .next (setMstp (mstpSend s 0 x.next []) { x with retries := x.retries + 1 })
      else .next (sendPoll (setMstp s { x with next := ts, tokens := 0 }) (mstpSucc s x.next))
    | .usage, .pollForMaster =>
      if x.sole then .next (takeToken (setMstp s { x with tokens := x.tokens + 1 }))
      else if x.next ≠ ts then .next (sendToken s)
      else if mstpSucc s x.poll ≠ ts then .next (sendPoll s (mstpSucc s x.poll))
      else .next (takeToken (setMstp s { x with sole := true }))
    | _, _ => .next s

/-! ### Presence of the firmware (R766) -/

/-- The link follows EN, FW_READY and the heartbeat: OFF, JOINED with MSTP_JOINED, or ABSENT. -/
def mstpPresence (s : State) : State :=
  let link := linkState s
  if !s.bit Reg.CLM_MSTP_CTRL_EN then
    (if link = linkOff then s else setMstp (s.wr Reg.CLM_MSTP_STATUS_LINK linkOff) { s.clm.mstp with state := .idle, sole := false })
  else if s.bit Reg.CLM_MSTP_CTRL_FW_READY && s.clm.mstp.hb then
    if link = linkJoined then s
    else
      let s := s.wr Reg.CLM_MSTP_STATUS_LINK linkJoined
      let s := if link = linkOff then setMstp s { s.clm.mstp with next := mstpMac s, poll := mstpMac s } else s
      raise s Blk.clm 0x0109 .info (mstpMac s)
  else if link = linkOff then
    setMstp (s.wr Reg.CLM_MSTP_STATUS_LINK linkAbsent) { s.clm.mstp with next := mstpMac s, poll := mstpMac s }
  else if link = linkJoined then s.wr Reg.CLM_MSTP_STATUS_LINK linkAbsent
  else s

/-- A write to CLM_MSTP_HB. -/
def execMstpHeartbeat (a : Access) (_v : Word) (s : State) : Out :=
  .next (withWrite s a 0x980000 Blk.clm 20 0x981D0C fun s => mstpPresence (setMstp s { s.clm.mstp with hb := true }))

/-- MSTP_ABSENT: no heartbeat for 1 s. -/
def execMstpAbsent (s : State) : Out :=
  if domainUp s 20 then .next (mstpPresence (setMstp s { s.clm.mstp with hb := false })) else .next s

/-- MSTP_LEFT: five seconds after ABSENT began; a held token is passed on first. -/
def execMstpLeft (s : State) : Out :=
  if mstpUp s && linkState s == linkAbsent then
    let s := match s.clm.mstp.state with
      | .useToken | .waitReply | .doneWithToken => sendToken s
      | _ => s
    .next (raise (s.wr Reg.CLM_MSTP_STATUS_LINK linkLeft) Blk.clm 0x0108 .warn (mstpMac s))
  else .next s

/-! ### Queue access (R765) -/

/-- A write to RX_POP. -/
def execMstpRxPop (a : Access) (v : Word) (s : State) : Out :=
  .next (withWrite s a 0x980000 Blk.clm 20 0x981D20 fun s =>
    if !isMgmt a.init then cfgViol s Blk.clm a.init 0x981D20
    else if fieldOf v 0 1 = 1 then mstpQueues (setMstp s { s.clm.mstp with rx := s.clm.mstp.rx.drop 1 })
    else s)

/-- A write to TX_PUSH: the built entry is queued; with 15 entries queued it is dropped. -/
def execMstpTxPush (a : Access) (v : Word) (s : State) : Out :=
  .next (withWrite s a 0x980000 Blk.clm 20 0x981D24 fun s =>
    if !isMgmt a.init then cfgViol s Blk.clm a.init 0x981D24
    else if fieldOf v 0 1 = 0 ∨ 15 ≤ s.clm.mstp.tx.length then s
    else
      let h := s.reg (Reg.CLM_MSTP_TX 0).key
      let len := fieldOf (s.reg (Reg.CLM_MSTP_TX 1).key) 0 9
      let bs := (List.range 126).flatMap (fun n => toLe 4 (s.rd (Reg.CLM_MSTP_TX (n + 2))))
      let f : MstpFrame := ⟨fieldOf h 0 8, fieldOf h 8 8, fieldOf h 16 8, bitAt h.toNat 24, bs.take len⟩
      let s := mstpQueues (setMstp s { s.clm.mstp with tx := s.clm.mstp.tx ++ [f] })
      if s.clm.mstp.state == .answer then sendReply s else s)

end Sys2Proof.Machine
end

