-- ==== Sys2Proof/Machine/Rec.lean ====
section
/-! DEFINITION. Record shipping over NVMe/TCP (R499–R505, "Tunnels, cryptography and record shipping"). -/

namespace Sys2Proof.Machine

/-- A namespace's state beside its registers. -/
def nsOf (s : State) (n : Nat) : Ns := Tab.get {} s.ns n

/-- Set a namespace's state. -/
def setNs (s : State) (n : Nat) (x : Ns) : State := { s with ns := Tab.put {} s.ns n x }

/-- NSTATE codes (Table 10.13). -/
abbrev nsDisabled := 0
abbrev nsConnecting := 1
abbrev nsReady := 2
abbrev nsFull := 3
abbrev nsFailed := 4

/-- The state of a namespace. -/
def nsState (s : State) (n : Nat) : Nat := s.rd (Reg.REC_NS_NSTATE_STATE n)

/-- Set NSTATE. -/
def setNsState (s : State) (n st reason : Nat) : State := (s.wr (Reg.REC_NS_NSTATE_STATE n) st).wr (Reg.REC_NS_NSTATE_REASON n) reason

/-- Whether a namespace is enabled and REC is out of reset. -/
def nsOn (s : State) (n : Nat) : Bool := domainUp s 10 && s.bit (Reg.REC_NS_NCFG_EN n)

/-- NS_CONNECT: REC begins to connect an enabled namespace (R500, R504). A FAILED namespace stays FAILED until it is READY. -/
def execNsConnect (n : Fin 16) (s : State) : Out :=
  .next (if !nsOn s n || nsState s n == nsReady || nsState s n == nsFull then s
    else
      let s := if nsState s n = nsFailed then s else setNsState s n nsConnecting 0
      emit s (.nvme n 1 0))

/-- A namespace becomes FAILED and is reported (R500, R504). -/
def nsDown (s : State) (n reason status : Nat) : State :=
  raise (setNsState s n nsFailed reason) Blk.recb 0x0102 .warn (n + 2 ^ 8 * reason + 2 ^ 16 * status)

/-- NS_READY: the connection stands; the format is checked (R500). (DEDUCED, log 29) -/
def execNsReady (n : Fin 16) (lba size mdts : Nat) (s : State) : Out :=
  .next (if !nsOn s n || (nsState s n != nsConnecting && nsState s n != nsFailed) then s
    else
      let first := s.rd64 (Reg.REC_NS_START_LBA_LO n) (Reg.REC_NS_START_LBA_HI n)
      let count := s.rd64 (Reg.REC_NS_LBA_COUNT_LO n) (Reg.REC_NS_LBA_COUNT_HI n)
      if (lba ≠ 512 ∧ lba ≠ 4096) ∨ size < first + count then nsDown s n 4 0
      else
        let s := setNs s n { nsOf s n with tries := 0, mdts := mdts, lba := lba, rtxAdmin := 0, rtxIo := 0 }
        raise (setNsState s n nsReady 0) Blk.recb 0x0101 .info n)

/-- KEEP_ALIVE: every KATO ÷ 2 on a connected namespace (R500). -/
def execKeepAlive (n : Fin 16) (s : State) : Out :=
  .next (if nsOn s n && (nsState s n == nsReady || nsState s n == nsFull) then emit s (.nvme n 2 0) else s)

/-- Units of 4 KiB of the record area (R501). -/
def areaUnits (s : State) (n : Nat) : Nat :=
  s.rd64 (Reg.REC_NS_LBA_COUNT_LO n) (Reg.REC_NS_LBA_COUNT_HI n) * (nsOf s n).lba / 4096

/-- Units of a record: a header unit and its file (R501). -/
def recordUnits (r : DrRec) : Nat := 1 + ceilDiv r.fileLen 4096

/-- NEXT; units 0 and 1 hold the superblock. -/
def nextUnit (s : State) (n : Nat) : Nat := max 2 (s.rd64 (Reg.REC_NS_NEXT_LO n) (Reg.REC_NS_NEXT_HI n))

/-- Whether a record is being written to some namespace. -/
def inProgress (s : State) (r : DrRec) : Bool :=
  s.ns.any (fun p => match p.2.now with
    | some x => x.kind == r.kind && x.seq == r.seq
    | none => false)

/-- The Write commands of a record at a unit (R502): each of at most MDTS, the first with the record header of Table 10.7. (DEDUCED, log 29) -/
def shipWrites (s : State) (n unit : Nat) (r : DrRec) : State :=
  let per := max 1 ((nsOf s n).mdts / 4096)
  let u := recordUnits r
  (List.range (ceilDiv u per)).foldl (fun s i =>
    emit s (.nvmeWrite n (unit + i * per) (min per (u - i * per)) (if i = 0 then recordHeader s r else []))) s

/-- Bytes 0–63 of the superblock of Table 10.6. (DEDUCED, log 29) -/
def superblock (s : State) (n next seq wraps count : Nat) : List Byte :=
  let b := [0x46, 0x56, 0x52, 0x53] ++ toLe 2 1 ++ (toLe 6 (deviceMac s)).reverse ++ toLe 4 0 ++
    toLe 8 (s.rd64 (Reg.REC_NS_START_LBA_LO n) (Reg.REC_NS_START_LBA_HI n)) ++ toLe 8 (areaUnits s n) ++ toLe 8 next ++ toLe 8 seq ++
    toLe 4 wraps ++ toLe 8 count
  b ++ toLe 4 (crc32c b)

/-- Begin to write a record to a READY namespace (R502, R503): none when it is full. (DEDUCED, log 29) -/
def beginShip (s : State) (n : Nat) (r : DrRec) : State × Bool :=
  let next := nextUnit s n
  let area := areaUnits s n
  if next + recordUnits r ≤ area then
    (shipWrites (setNs s n { nsOf s n with now := some r, unit := next, wraps := false }) n next r, true)
  else if s.bit (Reg.REC_NS_NCFG_WRAP n) ∧ 2 + recordUnits r ≤ area then
    (shipWrites (setNs s n { nsOf s n with now := some r, unit := 2, wraps := true }) n 2 r, true)
  else (raise (setNsState s n nsFull 0) Blk.recb 0x0105 .warn n, false)

/-- A record of a FAILED or FULL namespace goes to ALT, when that is enabled and READY (R505). -/
def redirect (s : State) (n : Nat) (r : DrRec) : State :=
  let alt := s.rd (Reg.REC_NS_NCFG_ALT n)
  if s.bit (Reg.REC_NS_NCFG_ALT_EN n) && nsOn s alt && nsState s alt == nsReady && (nsOf s alt).now.isNone then
    let s := raise s Blk.recb 0x0104 .warn (n + 2 ^ 8 * alt + 2 ^ 16 * (r.seq % 65536))
    (beginShip s alt r).1
  else s

/-- REC_SHIP: the next waiting record of namespace `n` (R502, R503, R505). -/
def execRecShip (n : Fin 16) (s : State) : Out :=
  .next (if !nsOn s n || s.rd Reg.MPR_DR_CHAN_DEST != 0x100 + n.val then s
    else match s.mpr.waiting.find? (fun r => !inProgress s r) with
    | none => s
    | some r =>
      if nsState s n = nsReady then
        if (nsOf s n).now.isSome then s
        else match beginShip s n r with
          | (s, true) => s
          | (s, false) => redirect s n r
      else if nsState s n = nsFull ∨ nsState s n = nsFailed then redirect s n r
      else s)

/-- REC_SHIPPED: the second Flush of a record has completed (R502). (DEDUCED, log 29) -/
def execRecShipped (n : Fin 16) (s : State) : Out :=
  .next (match (nsOf s n).now with
    | none => s
    | some r =>
      let x := nsOf s n
      let s := s.wr64 (Reg.REC_NS_NEXT_LO n) (Reg.REC_NS_NEXT_HI n) (x.unit + recordUnits r)
      let s := s.wr64 (Reg.REC_NS_LAST_SEQ_LO n) (Reg.REC_NS_LAST_SEQ_HI n) r.seq
      let y := { x with now := none, wrapCount := x.wrapCount + x.wraps.toNat, superCount := x.superCount + 1 }
      let s := setNs (s.inc (Reg.REC_NS_RECORDS n)) n y
      let b := superblock s n (x.unit + recordUnits r) r.seq y.wrapCount y.superCount
      let s := emit (emit (emit s (.nvme n 3 0)) (.nvmeWrite n (y.superCount % 2) 1 b)) (.nvme n 3 0)
      raise (forgetRecord s r) Blk.recb 0x0103 .info
        (n.val + 2 ^ 8 * r.kind + 2 ^ 16 * (r.seq % 65536) + 2 ^ 32 * (x.unit % 2 ^ 32)))

/-- Both connections of a namespace close and it reconnects; the record in progress restarts (R504). -/
def nsReconnect (s : State) (n : Nat) : State :=
  let s := setNs s n { nsOf s n with now := none, rtxAdmin := 0, rtxIo := 0 }
  setNsState (s.inc (Reg.REC_NS_FAILS n)) n nsConnecting 0

/-- Whether a namespace is connected. -/
def nsUp (s : State) (n : Nat) : Bool := nsState s n == nsReady || nsState s n == nsFull

/-- A connection attempt failed; after MAX_TRY of them the namespace is FAILED (R504). -/
def attemptFails (s : State) (n reason status : Nat) : State :=
  let k := (nsOf s n).tries + 1
  let s := setNs (s.inc (Reg.REC_NS_FAILS n)) n { nsOf s n with tries := k, rtxAdmin := 0, rtxIo := 0 }
  if nsState s n = nsConnecting ∧ max 1 (s.rd Reg.REC_CFG_MAX_TRY) ≤ k then nsDown s n reason status else s

/-- NVME_COMMAND_TIMEOUT: a command failed or has no completion, and is repeated once: a repetition that succeeds is transient, after one
that fails the namespace reconnects, or its connection attempt has failed (R35, R504). (DEDUCED, log 29) -/
def execNvmeCommandTimeout (n : Fin 16) (e : NvmeFail) (s : State) : Out :=
  .next (if !nsOn s n || nsState s n == nsDisabled then s
    else if e.recovered then transient s Blk.recb 1 n
    else if nsUp s n then nsReconnect s n
    else attemptFails s n (if e.status.isSome then 2 else 3) ((e.status.map BitVec.toNat).getD 0))

/-- NS_RETRY: a connection attempt failed; after MAX_TRY of them the namespace is FAILED (R504). -/
def execNsRetry (n : Fin 16) (reason : Fin 5) (status : BitVec 16) (s : State) : Out :=
  .next (if !nsOn s n || nsState s n == nsDisabled || nsUp s n then s else attemptFails s n reason status.toNat)

/-- TCP_RETRANSMIT_TIMEOUT: a segment is sent again; after 8 retransmissions the connection is reset (Table 10.5). -/
def execTcpRetransmitTimeout (n : Fin 16) (admin : Bool) (s : State) : Out :=
  .next (if !nsOn s n || nsState s n == nsDisabled then s
    else
      let x := nsOf s n
      let k := (if admin then x.rtxAdmin else x.rtxIo) + 1
      if 8 < k then (if nsUp s n then nsReconnect s n else attemptFails s n 1 0)
      else setNs s n (if admin then { x with rtxAdmin := k } else { x with rtxIo := k }))

end Sys2Proof.Machine
end

