-- ==== Sys2Proof/Machine/Dom.lean ====
section
/-! DEFINITION. What the assertion and the release of a reset do to the blocks of one domain (R638, and the section "From reset" of
each block's chapter), and how a restored domain resumes (R653). -/

namespace Sys2Proof.Machine

/-! ### Scopes: bit d is PDd, bit 24 the IMG reset domain -/

/-- The IMG reset domain in a scope. -/
abbrev domImg := 24

/-- The scope of a list of domains. -/
def scopeOf (ds : List Nat) : Nat := ds.foldl (fun m d => m ||| 2 ^ d) 0

/-- A scope without the domains of another. -/
def scopeLess (a b : Nat) : Nat := scopeOf ((bitList 25 a).filter (fun d => !bitAt b d))

/-- The image-defined domains (R650). -/
def imageDomains : List Nat := [3, 4, 5, 6, 7, 8, 9, 10, 11, 12, 14, 15, 16, 20, 21]

/-- The optional domains (Table 14.4). -/
def optionalDomains : List Nat := [4, 9, 21, 23]

/-- The order of release (Table 14.2, R650, R651). -/
def releaseOrder : List Nat := [0, 1, 2, 19, 18, 17, 22, 13, 23, domImg] ++ imageDomains

/-- Whether an image is in force. -/
def imageLive (s : State) : Bool := s.img.sched.isSome

/-- Whether a domain is powered. -/
def powered (s : State) (d : Nat) : Bool := bitAt (s.rd Reg.PWR_STATUS) d

/-- Set or clear a domain's bit in PWR_RESET; the IMG reset domain has none. -/
def showReset (s : State) (d : Nat) (on : Bool) : State :=
  if d = domImg then { s with rst := { s.rst with imgReset := on } }
  else s.wr Reg.PWR_RESET (if on then s.rd Reg.PWR_RESET ||| 2 ^ d else scopeLess (s.rd Reg.PWR_RESET) (2 ^ d))

/-- Set or clear a domain's bit in PWR_STATUS. -/
def showPower (s : State) (d : Nat) (on : Bool) : State :=
  if d = domImg then s
  else s.wr Reg.PWR_STATUS (if on then s.rd Reg.PWR_STATUS ||| 2 ^ d else scopeLess (s.rd Reg.PWR_STATUS) (2 ^ d))

/-! ### The Granary (R660, R701, R710) -/

/-- The Granary pulse or protect update that delays a reset: 1 program, 2 erase, 3 protect update (Table 14.16). -/
def pulseKind (s : State) : Option Nat :=
  if !domainUp s 19 then none
  else match s.grn.run with
    | some (.program ..) => some 1
    | some (.erase ..) => if s.grn.readHold || s.grn.failHold then (if s.grn.prot.isSome then some 3 else none) else some 2
    | none => if !s.bbx.erasing.isEmpty then some 2 else if s.bbx.snap.isSome then some 1
        else if s.grn.prot.isSome then some 3 else none

/-- An erase or a program that a reset cuts leaves its bytes open; a protect update that is being stored leaves the old or the new
value (R707, R710). -/
def cutOp (s : State) : Option GrnOp → State
  | none => s
  | some (.program _ _ cells) => gMix s cells
  | some (.erase _ sec _) => gHalfErased s sec

/-- PD19 enters reset: what runs or is suspended ends, and what waits is dropped. -/
def granaryReset (s : State) : State :=
  let s := cutOp (cutOp s s.grn.run) s.grn.susp
  let s := match s.grn.prot with
    | none => s
    | some p => let new := bitAt s.free.toNat 0
                { s.used with grn := { s.grn with row := if new then p.2 else s.grn.row } }
  let s := s.bbx.erasing.foldl (fun s n => [0, 1, 2, 3].foldl (fun s k => gHalfErased s (slotBase n + k * 0x1000)) s) s
  let s := bbxGranaryReset s
  { s with grn := { s.grn with run := none, susp := none, readHold := false, heldUs := 0, failHold := false, waiting := []
                               prot := none, held := [], trialEnd := none } }

/-! ### Blocks in reset -/

/-- Queued frames leave with PD10 (R463). -/
def dropFrames (s : State) : State :=
  let s := (s.pkt.queue.flatMap Prod.snd).foldl (fun s q => endUse (dropRef s q.chain) q.chain) s
  { s with pkt := {} }

/-- The open and waiting records are lost (R378). -/
def dropRecords (s : State) : State :=
  let rs := s.mpr.waiting ++ s.mpr.record.toList
  let s := rs.foldl (fun s r => r.chains.foldl dropRef s) s
  let drop := fun (i : HostItem) => match i with
    | .frame .. => true
    | .record _ => false
  { s with
    mpr := { hist := s.mpr.hist }
    hif := { s.hif with wait := (s.hif.wait.map (fun p => (p.1, p.2.filter drop))).filter (fun p => !p.2.isEmpty) } }

/-- Whether an instance has anything that an FLR ends: a register of its window that does not hold its reset value, a held chain or a
loaded key. -/
def instanceInUse (s : State) (t : Nat) : Bool :=
  let lo := winAddr t 0
  s.regs.any (fun p => decide (lo ≤ keyAddr p.1) && decide (keyAddr p.1 < lo + 0x8000)) ||
    s.slo.chains.any (fun c => c.holder == some t) || s.cry.key.any (fun p => keyLoader s p.1 == (identOf t).toNat)

/-- Every instance is reset (R545, R552). `flr`: without quiesce, which is reported (PERST_N and hot reset). -/
def resetInstances (s : State) (flr : Bool) : State :=
  (List.range 128).foldl (fun s t =>
    resetInstance (if flr && instanceInUse s t then s else s.wr (Reg.HIF_TEN_STATUS_QUIESCED t) 1) t) s

/-- PD17 enters reset (R604, R633, R766, R769, Tables 09.8 and 18.4). -/
def mgmtReset (s : State) : State :=
  let mgmt := fun (i : Nat) => i == 0x100 || i == 0x101
  let s := releaseOverrides (mbxReset s mgmt) mgmt
  let s := if domainUp s 20 then
      let s := s.wr Reg.CLM_MSTP_CTRL_FW_READY 0
      mstpPresence { s with clm := { s.clm with mstp := { s.clm.mstp with hb := false } } }
    else s
  let s := clearStaging (clearStaging (dropHeld (iicDiscard (spmDiscard s mgmt) mgmt) mgmt) 0x100) 0x101
  { s with grn := { s.grn with boot := none, fw := none, trialEnd := none } }

/-- The pool when the schedule in force is gone (R316, R330): nothing runs and the tick generator is IDLE (Table 01.5). -/
def poolIdle (s : State) : State :=
  let s := { s with thr := { s.thr with runs := [], idle := true, cursor := [], adoptions := [] } }
  if s.rd Reg.TIK_STATUS_STATE = 0 then s else s.wr Reg.TIK_STATUS_STATE 1

/-- The IMG reset domain enters reset (R194, R198, R241). -/
def imgReset (s : State) : State :=
  let flash := s.img.load.any (fun l => decide (l.src < 2))
  let s := if flash ∧ s.rd Reg.IMG_STATUS_STATE = 1 then fetchEnd s else s
  poolIdle { s with img := { fuses := s.img.fuses }, tik := { s.tik with activate := 0 } }

/-- MRG in reset (R414). -/
def ringReset (s : State) : State := { s with mrg := {} }

/-- In place of a source: a failed activation takes back the domains that it released (R187); R329 does not count it. -/
abbrev codeActivation : Nat := 0xFF

/-- What the assertion of a reset does to the blocks of domain `d`, beside their registers; `scope` is the scope of the reset and
`code` its source. (DEDUCED, log 39) -/
def blocksReset (s : State) (scope code d : Nat) : State :=
  match d with
  | 2 => { s with tik := {}, tim := {} }
  | 3 => { s with acq := {} }
  | 4 => { s with twc := {} }
  | 5 | 6 | 7 | 8 =>
    let s := clearQuadrant s (d - 5)
    if bitAt scope 18 || code == codeActivation || !domainUp s 18 then s else loseQuadrant s (d - 5) 1
  | 9 => ringReset s
  | 10 => let s := dropRecords (dropFrames s)
          { s with ns := [] }
  | 11 => { s with cry := {}, pkt := { s.pkt with msHold := (List.range 6).filter (fun p => s.bit (Reg.CRY_MS_PCFG_EN p)) } }
  | 12 => siloReset s
  | 13 =>
    let all := fun (i : Nat) => decide (1 ≤ i) && decide (i ≤ 128)
    let pf := fun (i : Nat) => i == 1
    let s := mbxReset (resetInstances s (code == 9 || code == 10)) all
    let s := if code = 9 ∨ code = 10 then iicDiscard (spmDiscard (releaseOverrides s pf) pf) pf else s
    { s with hif := {} }
  | 14 => loseLink (loseLink s 0) 1
  | 15 => loseLink (loseLink s 2) 3
  | 16 =>
    let s := loseLink (loseLink s 4) 5
    if domainUp s 9 then ringReset (resetRegs s (fun k => keyPd k == 9)) else s
  | 17 => mgmtReset s
  | 18 => { s with thr := {}, mpr := { s.mpr with hist := [] } }
  | 19 => granaryReset s
  | 20 => { s with clm := {}, uar := [] }
  | 21 => { s with mov := {} }
  | 22 => { spmReset s with pnl := {}, sps := {}, iic := [] }
  | 24 => imgReset s
  | _ => s

/-- Whether a register lies in the image engine. -/
def inImg (k : Nat) : Bool := decide (0x40000 ≤ keyAddr k) && decide (keyAddr k < 0x80000)

/-- The assertion of a reset in domain `d` (R638, R645, R657): an amendment that targets a block of it is refused at its seam
(TARGET_RESET), and a restore in progress stops (Table 14.9). A reset of PD16 reaches MRG too (R637). -/
def resetPd (scope code : Nat) (s : State) (d : Nat) : State :=
  let within := fun (k : Nat) => keyPd k == d || (d == 16 && domainUp s 9 && keyPd k == 9)
  let hit := s.img.amd.any (fun a => a.words.any (fun w => !w.triple && within w.target))
  let s := match s.img.amd with
    | some a => if hit then { s with img := { s.img with amd := some { a with resetPd := a.resetPd.or (some d) } } } else s
    | none => s
  let gone := fun (l : List Nat) => l.filter (fun x => x != d)
  let s := { s with rst := { s.rst with restoring := gone s.rst.restoring, resume := gone s.rst.resume, resumed := gone s.rst.resumed } }
  let s := blocksReset s scope code d
  let s := if d = domImg then resetRegs s inImg else resetFieldsIn (resetRegs s (fun k => keyPd k == d)) d
  showReset s d true

/-! ### Release -/

/-- SILO_RESET goes to every enabled event ring (R553). -/
def siloNotice (s : State) : State :=
  if !domainUp s 13 then s
  else (List.range 128).foldl (fun s t => if s.bit (Reg.EVQ_CFG_EN t) then tenantEvent s t Blk.hif 0x0114 .warn 0 else s) s

/-- The release of IMG (R198, R593, R629): RESET_MARK is written and the autoload waits (R189); the latch of L4 ends, unless
Owl's lockstep latch holds it (R568, R582), and FAULT_N with it (R572); after a device-wide reset the shed request and the quarantines are
cleared (Table 12.11). -/
def imgRelease (s : State) : State :=
  let code := s.rst.imgCode
  let s := resetMark (showFuses s) code
  let s := { s with img := { s.img with autoWait := true } }
  let s := if s.saf.owlLatch then s else { s.wr Reg.SAF_STATUS_LATCHED 0 with saf := { s.saf with faultN := false } }
  if [3, 4, 7, 12, 13, 14].contains code then
    { s.wr Reg.SAF_STATUS_SHED_REQ 0 with
      saf := { s.saf with quarantine := [], diagShed := false, adoptShed := 0, restore := false }, thr := { s.thr with shedSaf := 0 } }
  else s

/-- What the release does to the blocks of a domain. -/
def blocksRelease (s : State) (d : Nat) : State :=
  match d with
  | 12 => siloNotice s
  | 17 => { s with grn := { s.grn with bootWait := true } }
  | 19 => scanStart s
  | 24 => imgRelease s
  | _ => s

/-- Whether a released domain is restored (R652, R654). -/
def restores (s : State) (d : Nat) : Bool :=
  imageLive s && !s.bit Reg.IMG_STATUS_COPY_DAMAGED && s.rd Reg.IMG_STATUS_STATE != 5 && !([5, 6, 7, 8, 13, 18, domImg].contains d)

/-- Domain `d` leaves reset (R646); its switch is closed (R662). -/
def releasePd (s : State) (d : Nat) : State :=
  let s := blocksRelease (showReset (showPower s d true) d false) d
  if restores s d then { s with rst := { s.rst with restoring := d :: s.rst.restoring } } else s

/-! ### Resuming after a restore (R653, R771, R807) -/

/-- The blocks of a restored domain resume at a tick edge. -/
def resumeBlocks (s : State) (d : Nat) : State :=
  match d with
  | 3 => { s.wr Reg.ACQ_STATUS_STATE 1 with acq := { s.acq with first := s.tick } }
  | 9 => ringActivate s true
  | 10 => publisherStart (s.wr Reg.PKT_STATUS_STATE 1)
  | 20 => [0, 1, 2, 3].foldl uartKick (mstpPresence (clmStart s))
  | 21 => moversStart s
  | _ => s

/-- At a tick edge the restored domains resume; the sentinel takes their words in again in phase 3 of this tick (R653, R656). -/
def resumeEdge (s : State) : State :=
  let ds := s.rst.resume
  let s := if s.thr.idle then s else ds.foldl resumeBlocks s
  { s with rst := { s.rst with resume := [], resumed := ds } }

/-- The domains that the sentinel and Owl skip (R656): in reset or off, in restore, or not resumed yet. -/
def skippedPd (s : State) (d : Nat) : Bool := !domainUp s d || s.rst.restoring.contains d || s.rst.resume.contains d

end Sys2Proof.Machine
end

