-- ==== Sys2Proof/Machine/Sent.lean ====
section
/-! DEFINITION. The config sentinel: the covered words, the chunk values and the references (R66, R67, R573–R576). -/

namespace Sys2Proof.Machine

/-- The bits of a register that class S, Q and T* fields cover (R573). -/
def coverMask (r : RegD) : Word :=
  (r.fields.filter (fun f => f.cls == .struc || f.cls == .quiet || f.cls == .tickSafe)).foldl
    (fun m f => m ||| maskOf f.lo f.w) 0

/-- The register that a PF BAR0 offset reaches in an active half: in the blocks, or in the PF's own window (R3, R517). -/
def barKey (a : Nat) : Option Nat :=
  if 0x8000 ≤ a % 0x10000 then none
  else if a < 0x1000000 then some a
  else if 0x1800000 ≤ a ∧ a < 0x1840000 then some (0x4000000 + (a - 0x1800000))
  else none

/-- The covered words of chunk `c`: offset, register and mask, in ascending offset order (R573). -/
def chunkWords (c : Nat) : List (Nat × Nat × Word) :=
  ((List.range 0x18400).map (fun n => 4 * (c + 64 * n))).filterMap (fun a =>
    (barKey a).bind (fun k => (regAt k).bind (fun p =>
      if coverMask p.2 = 0 ∨ p.2.perInit then none else some (a, k, coverMask p.2))))

/-- The value of a chunk over words read by `rd`, without the words of domains that are skipped (R573, R656). -/
def chunkCrc (s : State) (rd : Nat → Word) (c : Nat) : Nat :=
  crc32c (((chunkWords c).filter (fun w => !skippedPd s (keyPd w.2.1))).flatMap (fun w =>
    toLe 4 w.1 ++ toLe 4 (rd w.2.1 &&& w.2.2).toNat))

/-- The active value of a register without the bits that an injection flipped; a flip ends when its word is written. (DEDUCED, log 19) -/
def soundWord (s : State) (k : Nat) : Word :=
  (s.saf.flips.filter (fun f => f.1 == k && f.2.2 == s.reg k)).foldl (fun w f => w ^^^ f.2.1) (s.reg k)

/-- The reference of a chunk: its value as configured. -/
def chunkRef (s : State) (c : Nat) : Nat := chunkCrc s (soundWord s) c

/-- The value that the sentinel engines read. -/
def chunkValue (s : State) (c : Nat) : Nat := chunkCrc s s.reg c

/-- Set the reference of a chunk: SAF's, and Owl's own copy (R575). (DEDUCED, log 19) -/
def setReference (s : State) (c : Nat) : State :=
  let v : Word := BitVec.ofNat 32 (chunkRef s c)
  let s := s.wr (Reg.SAF_SENT_REF c) v.toNat
  { s with saf := { s.saf with owlRef := Tab.put 0 s.saf.owlRef c v } }

/-- Activation sets the 64 references (R575). (DEDUCED, log 19) -/
def setReferences (s : State) : State := (List.range 64).foldl setReference s

/-- The chunk of a register. -/
def chunkOf (k : Nat) : Nat := keyAddr k / 4 % 64

/-- The chunks in which the active values of two states differ. -/
def changedChunks (a b : State) : List Nat :=
  (((a.regs ++ b.regs).map Prod.fst).filter (fun k => decide (a.reg k ≠ b.reg k))).map chunkOf

/-- A commit recomputes the references of the chunks that it changed, and of those with words of a domain that resumed (R67, R232,
R656). (DEDUCED, log 19) -/
def followCommit (old s : State) : State :=
  let cs := if s.rst.resumed.isEmpty then (changedChunks old s).eraseDups else List.range 64
  cs.foldl setReference { s with rst := { s.rst with resumed := [] } }

end Sys2Proof.Machine
end

