-- ==== Sys2Proof/Machine/Write.lean ====
section
/-! DEFINITION. What a write of a register does in the blocks that an image may write: the writes that a chapter refuses, what a write does
beside its fields, and the writes that are rows of their own ("Scope and conventions", R170, R172). -/

namespace Sys2Proof.Machine

/-! ### Writes that a chapter refuses (R124, R146, R147, R598, R763, R765, R775, R839) -/

/-- Whether a chapter refuses a write of a register: some true with CFG_VIOL, some false in silence. (DEDUCED, log 49) -/
def refusedWrite (s : State) (i : Ident) (addr : Nat) (v : Word) : Option Bool :=
  let x := v.toNat
  let later := fun (sec : Nat) => decide (s.taiSec < sec)
  let leapAt := s.rd64 Reg.TIM_LEAP_AT_LO Reg.TIM_LEAP_AT_HI
  if addr = Reg.TIM_UTC_OFS.key then
    if bitsAt x 16 2 = 3 ∨ (bitsAt x 16 2 ≠ 0 ∧ ¬ later leapAt) then some true else none
  else if addr = Reg.TIM_LEAP_AT_HI.key then
    let lo := (Tab.get none s.held (initKey i Reg.TIM_LEAP_AT_LO.key)).getD (s.reg Reg.TIM_LEAP_AT_LO.key)
    if (s.bit Reg.TIM_UTC_OFS_LEAP61 || s.bit Reg.TIM_UTC_OFS_LEAP59) && !later (lo.toNat + 2 ^ 32 * x) then some true else none
  else if addr = Reg.TIM_PTP_CFG.key then
    if 5 < bitsAt x 5 3 ∨ 2 < bitsAt x 3 2 ∨ (bitsAt x 3 2 = 2 ∧ 2 < bitsAt x 5 3) then some true else none
  else if 0xB10000 ≤ addr ∧ addr < 0xB10100 then
    if !isMgmt i || s.bit Reg.MBX_BIND_LOCK_LOCK then some true else none
  else if 0x984000 ≤ addr ∧ addr < 0x984600 then (if isMgmt i then none else some true)
  else if (List.range 12).any (fun c => addr == (Reg.FAN_CH_SET c).key) then (if isPfOrMgmt i then none else some true)
  else if addr = Reg.SPM1_XFER.key ∨ addr = Reg.SPM1_CMDW.key ∨ addr = Reg.SPM1_ADDRW.key ∨ (List.range 64).any (fun n => addr == (Reg.SPM1_BUF n).key) then
    if isOwner (s.bit Reg.SPM1_CTRL_OWNER) i then none else some true
  else if 0xA60000 ≤ addr ∧ addr < 0xA60100 ∧ s.bit Reg.CLM_MSTP_CTRL_EN then some false
  else none

/-! ### What a write does beside its fields -/

/-- A write of TIM_CTRL (R109, R115, R142, R149): a cleared SERVO_EN gives up the active source, a set one selects a source. -/
def timCtrlWritten (old s : State) : State :=
  let s := if old.rd Reg.TIM_CTRL_STEER = s.rd Reg.TIM_CTRL_STEER then s else steer s
  let act := s.rd Reg.TIM_STATUS_ACTIVE_SRC
  if !s.bit Reg.TIM_CTRL_SERVO_EN then
    if act = 0 then s else setActive (raise s Blk.tim 0x0102 .warn (act + 2 ^ 8 * lossCode .servoDisabled)) 0
  else if old.bit Reg.TIM_CTRL_SERVO_EN then s
  else setActive s (firstQualified s)

/-- A write of TIM_PTP_CFG: PTP is no longer valid where its conditions fail, and may be valid where they now hold (R110).
(DEDUCED, log 14) -/
def ptpCfgWritten (s : State) : State := if parentOk s then becomeValid s .ptp else loseSource s .ptp .clockClass

/-- A write of TIM_IRIG_CFG: the same for IRIG-B and TQ_MAX (R135). (DEDUCED, log 14) -/
def irigCfgWritten (s : State) : State := becomeValid (irigQuality s) .irig

/-- An override register of an output: its EN and PCT, its WRITER, and the loop that feeds the output. -/
structure OvrReg where
  en : Fld
  pct : Fld
  writer : Fld
  loop : Option Fld
  deriving DecidableEq, Repr

/-- The override registers. -/
def ovrRegs : List OvrReg :=
  ((List.range 8).map (fun d => ⟨Reg.CLM_DMP_OVR_EN d, Reg.CLM_DMP_OVR_PCT d, Reg.CLM_DMP_OVR_WRITER d, some (Reg.CLM_DMP_CFG_LOOP d)⟩)) ++
  ((List.range 8).map (fun d => ⟨Reg.CLM_VLV_OVR_EN d, Reg.CLM_VLV_OVR_PCT d, Reg.CLM_VLV_OVR_WRITER d, some (Reg.CLM_VLV_CFG_LOOP d)⟩)) ++
  ((List.range 8).map (fun d => ⟨Reg.CLM_HTR_OVR_EN d, Reg.CLM_HTR_OVR_PCT d, Reg.CLM_HTR_OVR_WRITER d, some (Reg.CLM_HTR_CFG_LOOP d)⟩)) ++
  ((List.range 8).map (fun d => ⟨Reg.CLM_MOV_OVR_EN d, Reg.CLM_MOV_OVR_PCT d, Reg.CLM_MOV_OVR_WRITER d, some (Reg.CLM_MOV_CFG_LOOP d)⟩)) ++
  ((List.range 16).map (fun z =>
    ⟨Reg.CLM_ZONE_OVR_MODE_EN z, Reg.CLM_ZONE_OVR_MODE_MODE z, Reg.CLM_ZONE_OVR_MODE_WRITER z, none⟩))

/-- A write of an override: its WRITER, the release without a step, and the outputs (R736, R749, R768). (DEDUCED, log 53) -/
def ovrWritten (old s : State) (i : Ident) (x : OvrReg) : State :=
  let s := s.wr x.writer i.toNat
  let s := match x.loop with
    | some l => if old.bit x.en && !s.bit x.en then bumpless s (s.rd l) (old.rd x.pct) else s
    | none => s
  moversUpdate (outputsUpdate (zoneModes s) [])

/-- A masked MSI-X vector that is unmasked sends what is pending (R541; as PCIe defines). (PRESUMED, log 31) -/
def unmasked (s : State) (t vec : Nat) : State :=
  let f := Reg.MSIX_PBA t (vec / 32)
  if quiesced s t || bitAt (s.rd (Reg.MSIX_TABLE t vec 3)) 0 || !bitAt (s.rd f) (vec % 32) then s
  else msix (s.wr f (setBitAt (s.rd f) (vec % 32) false)) t vec

/-- What a write of a register at a BAR0 address does beside its fields; `old` is the state before it. (DEDUCED, log 14, 30, 53) -/
def afterWrite (old s : State) (i : Ident) (addr : Nat) (v : Word) : State :=
  if addr = Reg.TIM_CTRL.key then timCtrlWritten old s
  else if addr = Reg.TIM_SRC_PRIO.key then selectAfterQualified s
  else if addr = Reg.TIM_OCXO_CFG.key ∨ addr = Reg.TIM_OCXO_LIM.key then steer s
  else if addr = Reg.TIM_UTC_OFS.key ∨ addr = Reg.CLM_TZ.key then
    let s := noteOfs old s
    if domainUp s 20 && s.rd Reg.CLM_STATUS_STATE != 0 then outputsUpdate (scheduleAll s) [] else s
  else if addr = Reg.TIM_PTP_CFG.key then ptpCfgWritten s
  else if addr = Reg.TIM_IRIG_CFG.key then irigCfgWritten s
  else if 0x500010 ≤ addr ∧ addr < 0x50003C then s.setReg (initKey i addr) v
  else if addr = Reg.THM_PEAK.key then (if fieldOf v 0 16 = 0 then s else s.wr Reg.THM_PEAK_TJ 0)
  else if addr = Reg.CLM_MSTP_CTRL.key then mstpPresence s
  else match ovrRegs.find? (fun x => x.en.key == addr) with
  | some x => ovrWritten old s i x
  | none =>
    match (List.range 48).find? (fun n => addr == (Reg.CLM_CIO n).key) with
    | some _ => pinLevels s
    | none =>
    match (List.range 12).find? (fun c => addr == (Reg.FAN_CH_SET c).key) with
    | some c => fansUpdate (s.wr (Reg.FAN_CH_SET_WRITER c) i.toNat)
    | none =>
    match (List.range 8).find? (fun d => addr == (Reg.CLM_DMP_DSTATUS d).key) with
    | some d =>
      let s := s.wr (Reg.CLM_DMP_DSTATUS_STALL_CLR d) 0
      if bitAt v.toNat 8 then stallClear s d else s
    | none =>
    match (List.range 16).find? (fun n => addr == (Reg.PNL_LED n).key) with
    | some n => ledWritten old s n
    | none =>
    match (List.range 4).find? (fun u => addr == (Reg.UAR_CFG u).key) with
    | some u => uartKick s u
    | none =>
    match (List.range 2).find? (fun c => addr == (Reg.IIC_CFG c).key) with
    | some c => serveI2c 4 c s
    | none =>
    match (List.range 128).find? (fun t => addr == (Reg.HIF_DLOG_DCFG t).key) with
    | some t => if s.bit (Reg.HIF_DLOG_DCFG_EN t) && !old.bit (Reg.HIF_DLOG_DCFG_EN t) then s.wr (Reg.HIF_DLOG_DCFG_OVERFLOW t) 0 else s
    | none => s

/-! ### Writes with a row of their own, in these blocks -/

/-- A write that reaches a register of these blocks whose write is another row's, which that row answers; where the row takes more from
outside than the write, nothing goes wrong there and no time has passed. (DEDUCED, log 20) -/
def blockRow (a : Access) (addr : Nat) (v : Word) (s : State) : Option Out :=
  let cmd := fieldOf v 0 4
  match addr with
  | 0x20020 => some (execFreqAdjWrite a v s)
  | 0x20024 => some (execPhaseAdjWrite a v s)
  | 0x20030 => some (execServoUpdate a v s)
  | 0x200A4 => some (execTodLoad a v s)
  | 0x80014 => some (execLinkLostClear a false v s)
  | 0x80018 => some (execLinkLostClear a true v s)
  | 0x100008 => some (execThrRetireCmd a v s)
  | 0x200000 => if bitAt v.toNat 1 then some (execManTrig a v s) else none
  | 0x300010 =>
    match cmd with
    | 1 => some (execFdbFlushPort a v s)
    | 2 => some (execFdbFlushVlan a v s)
    | 3 => some (execFdbFlushAll a v s)
    | _ => none
  | 0x500040 =>
    match fieldOf v 28 2 with
    | 1 => some (execKeyLoad a v s)
    | 2 => some (execKeyZeroise a v s)
    | _ => none
  | 0x500054 =>
    match fieldOf v 0 2 with
    | 1 => some (execSaRead a s)
    | 2 => some (execSaWrite a s)
    | _ => none
  | 0x981D0C => some (execMstpHeartbeat a v s)
  | 0x981D20 => some (execMstpRxPop a v s)
  | 0x981D24 => some (execMstpTxPush a v s)
  | 0x9C0008 => some (execFanKick a v 0 s)
  | 0xA00000 => some (execPnlLock a v 0 s)
  | 0xA20010 =>
    match cmd with
    | 1 => some (execFlashRead a v s)
    | 2 => some (execFlashProgram a v s)
    | 3 => some (execFlashErase4k a v s)
    | 4 => some (execFlashErase64k a v s)
    | _ => some (.next (flashUnknownOp a s))
  | 0xA21004 => if bitAt v.toNat 31 then some (execSpim1Go a v s) else none
  | _ => none

/-- The same for the registers of arrays. (DEDUCED, log 20) -/
def blockArrayRow (a : Access) (addr : Nat) (v : Word) (s : State) : Option Out :=
  let at_ := fun (base count stride : Nat) =>
    if base ≤ addr ∧ addr < base + count * stride ∧ (addr - base) % stride = 0 then some ((addr - base) / stride) else none
  match at_ 0x610000 128 0x40 with
  | some t => some (execQuiesce a (Fin.ofNat 128 t) v s)
  | none =>
  match at_ 0x9C0118 12 0x20 with
  | some c => some (execFanFaultClear a (Fin.ofNat 12 c) v s)
  | none =>
  match at_ 0x9E010C 4 0x100 with
  | some m => some (execMotorSet a (Fin.ofNat 4 m) v s)
  | none =>
  match at_ 0x9E0180 4 0x100 with
  | some m => some (execMotorFaultClear a (Fin.ofNat 4 m) v true s)
  | none =>
  match at_ 0xA6000C 4 0x100 with
  | some u => some (execUartDataWrite a (Fin.ofNat 4 u) v s)
  | none =>
  match at_ 0xA80004 2 0x100 with
  | some c => if bitAt v.toNat 31 then some (execI2cGo a (Fin.ofNat 2 c) v false s) else none
  | none => none

/-- The write of a register that is not refused: its fields, and what follows. -/
def fieldsWritten (s : State) (i : Ident) (addr : Nat) (v : Word) : State := afterWrite s (plainWrite s i addr v) i addr v

end Sys2Proof.Machine
end

