-- ==== Sys2Proof/Machine/Img.lean ====
section
/-! DEFINITION. The image engine: loads, activation, deactivation ("The structure image"), and amendments from their load to their apply
("Changing a running device"). -/

namespace Sys2Proof.Machine

/-! ### States (Table 03.11) -/

abbrev imgEmpty := 0
abbrev imgFetch := 1
abbrev imgVerify := 2
abbrev imgGuard := 3
abbrev imgReady := 4
abbrev imgActivating := 5
abbrev imgActive := 6
abbrev imgFailed := 7

/-- IMG_STATUS.STATE. -/
def imgState (s : State) : Nat := s.rd Reg.IMG_STATUS_STATE

/-- The engine enters a state; BUSY is 1 in FETCH, VERIFY, GUARD and ACTIVATING. -/
def toImg (s : State) (st : Nat) : State :=
  (s.wr Reg.IMG_STATUS_STATE st).setBit Reg.IMG_STATUS_BUSY (st == imgFetch || st == imgVerify || st == imgGuard || st == imgActivating)

/-- IMG_STAGED_ID and IMG_STAGED_VER. -/
def showStaged (s : State) (id ver : Nat) : State := (s.wr Reg.IMG_STAGED_ID id).wr Reg.IMG_STAGED_VER ver

/-- A write to a command register of the image engine. -/
def imgCommand (s : State) (a : Access) (addr : Nat) (k : State → State) : State := withWrite s a 0x40000 Blk.img 18 addr k

/-- The record of the failures of a check (R183). -/
def showFailures (s : State) (fs : List (Nat × Nat)) : State :=
  let f := fs.headD (0, 0)
  let s := ((s.wr Reg.IMG_STATUS_CODE f.1).wr Reg.IMG_REJ_DETAIL f.2).wr Reg.IMG_REJ_COUNT fs.length
  (List.range 16).foldl (fun s i =>
    let x := fs.getD i (0, 0)
    (s.wr (Reg.IMG_REJ_LOG_CODE i) x.1).wr (Reg.IMG_REJ_LOG_DETAIL i) x.2) s

/-! ### Loading (R174–R180, R204, R205) -/

/-- The amendment area begins at IMG_AMD_BASE (R205). -/
def amdBase (s : State) : Nat := s.rd Reg.IMG_AMD_BASE

/-- Where the copy of the load in progress lies. -/
def loadBase (s : State) (l : LoadRec) : Nat := if l.amend then amdBase s else 0

/-- A load starts (R174). -/
def startLoad (s : State) (src : Nat) (auto : Bool) : State :=
  let s := { s with img := { s.img with load := some ⟨src, auto, false, 0⟩, guardPool := none, actWait := false } }
  let s := showStaged (toImg s imgFetch) 0 0
  if src < 2 then fetchBegin s else s

/-- An autoload failed with a code: the other slot is loaded, or the device waits for a host load (R189). -/
def autoFailed (s : State) (code : Nat) : State :=
  match s.img.auto with
  | none => s
  | some (slot, none) =>
    let s := raise s Blk.img 0x0105 .warn (slot + 2 ^ 8 * code)
    startLoad { s with img := { s.img with auto := some (slot, some code) } } (1 - slot) true
  | some (slot, some first) =>
    let p := if slot = 0 then (first, code) else (code, first)
    raise { s with img := { s.img with auto := none } } Blk.img 0x0106 .fault (p.1 + 2 ^ 16 * p.2)

/-- A load ends with failures: IMG_REJECTED, and FAILED or, with an image in force, ACTIVE (R183, R204, R208). (DEDUCED, log 16) -/
def loadFails (s : State) (l : LoadRec) (fs : List (Nat × Nat)) : State :=
  let f := fs.headD (0, 0)
  let s := raise (showFailures s fs) Blk.img 0x0102 .warn (f.1 + 2 ^ 32 * (f.2 % 2 ^ 32))
  let s := if l.amend then
      ((s.wr Reg.IMG_AMD_STATUS_ASTATE amdRefused).wr Reg.IMG_AMD_STATUS_CODE f.1).wr Reg.IMG_AMD_DETAIL f.2
    else s
  let s := showStaged (toImg { s with img := { s.img with load := none } } (if imageLive s then imgActive else imgFailed)) 0 0
  if l.auto then autoFailed s f.1 else s

/-- The staged or refused amendment is discarded (R222, Table 04.4). -/
def dropAmend (s : State) : State :=
  let s := if amdWaiting s then showStaged s 0 0 else s
  let c37 := s.mpr.c37Change.filter (fun p => p.2 != 1)
  { s.wr Reg.IMG_AMD_STATUS_ASTATE amdNone with img := { s.img with amd := none }, mpr := { s.mpr with c37Change := c37 } }

/-- IMG_LOAD: CMD 1 of IMG_CMD (R174, Tables 03.14 and 04.4). In ACTIVATING, where R180 and Table 03.14 differ, the table is followed: the
write is ignored and raises CFG_VIOL. (DEDUCED, log 16) -/
def execImgLoad (a : Access) (_v : Word) (s : State) : Out :=
  .next (imgCommand s a 0x40004 fun s =>
    if s.bit Reg.IMG_STATUS_BUSY || s.rd Reg.IMG_AMD_STATUS_ASTATE == amdArmed then cfgViol s Blk.img a.init 0x40004
    else
      let st := s.rd Reg.IMG_AMD_STATUS_ASTATE
      let s := if st = amdStaged ∨ st = amdRefused then dropAmend s else s
      startLoad { s with img := { s.img with auto := none } } (min (s.rd Reg.IMG_CTRL_SRC) 2) false)

/-- AUTOLOAD: at the release of IMG the engine loads the slot that the boot record names, or slot A (R189). -/
def execAutoload (s : State) : Out :=
  if !s.img.autoWait || s.rst.imgReset || !domainUp s 18 then .next s
  else
    let slot := if (bootRec s).img = 1 then 1 else 0
    .next (startLoad { s with img := { s.img with autoWait := false, auto := some (slot, none) } } slot true)

/-- Bytes with zeros for what is missing. -/
def padTo (n : Nat) (bs : List Byte) : List Byte := bs.take n ++ List.replicate (n - bs.length) 0

/-- The header passed its check: it is written into structure memory, and the rest is copied (R175, R205). -/
def copyImage (s : State) (l : LoadRec) (bs : List Byte) (failAt : Option Nat) (us : Nat) : State :=
  let h := hdrOf bs
  let base := loadBase s l
  let l := { l with total := h.total }
  let s := showStaged s h.id h.ver
  let s := writeCopy s base (bs.take ((failAt.getD h.total)))
  let s := { s with img := { s.img with load := some l, fullLen := if l.amend then s.img.fullLen else h.total } }
  match failAt with
  | some o => loadFails s l [(0x010B, l.src + 2 ^ 16 * (o / 256))]
  | none =>
    let fs := tableFailures s (copyAt s base)
    if fs.isEmpty then toImg (s.wr Reg.IMG_LOAD_TIME_FETCH_US (min (us / 4) 65535)) imgVerify else loadFails s l fs

/-- FETCH_COMPLETE: the copy ends (R175, R176, R180, R205). (DEDUCED, log 16) -/
def execFetchComplete (data : List Byte) (retried : Bool) (failAt : Option Nat) (us : Nat) (s : State) : Out :=
  match s.img.load with
  | none => .next s
  | some l =>
    if imgState s ≠ imgFetch ∨ s.spm.fetchWait then .next s
    else
      let a := if l.src = 0 then s.rd Reg.IMG_FLASH_A else s.rd Reg.IMG_FLASH_B
      let get := fun n => if l.src < 2 then flashBytes s a n else padTo n data
      let s := if l.src < 2 then fetchEnd s else s
      let s := if retried && failAt.isNone then transientOpen s Blk.img else s
      let bs := get 256
      let h := hdrOf bs
      let host := if l.src < 2 then none else some (s.rd Reg.IMG_HOST_LEN)
      let fs := hdrFailures bs (fieldOf (s.reg 4) 0 16) host
      let whole := { l with amend := isAmend h }
      .next (
        if failAt.any (fun o => decide (o < 256)) then loadFails s l [(0x010B, l.src + 2 ^ 16 * (failAt.getD 0 / 256))]
        else if !fs.isEmpty then loadFails (if isAmend h then dropAmend s else s) whole fs
        else if !isAmend h && imageLive s then loadFails s l [(0x0110, 0)]
        else
          let l := whole
          let s := if l.amend then (dropAmend s).wr Reg.IMG_AMD_STATUS_ASTATE amdLoading else s
          if l.amend && decide (0x800000 - amdBase s < h.total) then loadFails s l [(0x0403, h.total)]
          else copyImage s l (get h.total) (failAt.filter (fun o => decide (o < h.total))) us)

/-- VERIFY_COMPLETE: the image signature and then the kernel signatures, from the copy (R177). (DEDUCED, log 16) -/
def execVerifyComplete (us : Nat) (s : State) : Out :=
  match s.img.load with
  | none => .next s
  | some l =>
    if imgState s ≠ imgVerify then .next s
    else
      let c := copyAt s (loadBase s l)
      let s := s.wr Reg.IMG_LOAD_TIME_FETCH_US (min (us / 4) 65535)
      let fs := if (sigFailures s c).isEmpty then kernFailures s c else sigFailures s c
      .next (if fs.isEmpty then toImg { s with img := { s.img with guardPool := none } } imgGuard else loadFails s l fs)

/-- A full image passed every check (R183, R184). -/
def imageReady (s : State) (l : LoadRec) : State :=
  let h := (copyAt s 0).hdr
  let act := l.auto || (l.src == 2 && s.bit Reg.IMG_CTRL_AUTO_ACT)
  let s := { s with img := { s.img with load := none, actWait := act } }
  raise (toImg (s.wr Reg.IMG_STATUS_SRC_USED l.src) imgReady) Blk.img 0x0101 .info (h.id + 2 ^ 32 * h.ver)

/-- The preload adds the kernels of an amendment to those of the schedule in force in each kernel store (R210); none of them runs before
the apply (R219), so all of them stand from its beginning on. (DEDUCED, log 18) -/
def preloadKernels (s : State) (d : Sched) : State :=
  loadStores s d (fun c => (((s.img.sched.map (fun o => storeOf o c)).getD []) ++ storeOf d c).eraseDups)

/-- An amendment passed every check: it is STAGED and its preload begins; how many ticks that takes is open up to 64 (R209–R211, R230). (DEDUCED, log 18) -/
def amendStaged (s : State) (l : LoadRec) : State :=
  let c := copyAt s (amdBase s)
  let d := schedOf s c
  let p := s.img.sched.any (fun old => changesP old d)
  let lead := s.free.toNat % 65
  let amd : Amend := { ver := c.hdr.ver, sched := d, words := imgWords s c, poolChanged := s.img.guardPool }
  let s := preloadKernels (s.used.wr Reg.IMG_AMD_LEAD_TICKS lead) d
  let s := s.wr Reg.IMG_AMD_STATUS_ASTATE amdStaged
  let s := (s.setBit Reg.IMG_AMD_STATUS_P_CHANGE p).setBit Reg.IMG_AMD_STATUS_POOL_MOVE (!(moves s d).isEmpty)
  let s := toImg { s with img := { s.img with load := none, amd := some amd } } (if imageLive s then imgActive else imgFailed)
  raise (s.wr Reg.IMG_STATUS_SRC_USED l.src) Blk.img 0x0109 .info (c.hdr.ver + 2 ^ 32 * lead)

/-- GUARD_COMPLETE: the schedule guard (R181–R183, R206–R209). -/
def execGuardComplete (us : Nat) (s : State) : Out :=
  match s.img.load with
  | none => .next s
  | some l =>
    if imgState s ≠ imgGuard then .next s
    else
      let fs := guardFailures s (loadBase s l)
      let s := s.wr Reg.IMG_LOAD_TIME_GUARD_US (min (us / 4) 65535)
      .next (if !fs.isEmpty then loadFails s l fs
        else
          let s := showFailures s []
          if l.amend then amendStaged s l else imageReady s l)

/-- IMG_ABORT: CMD 3 of IMG_CMD (R204, Tables 03.14 and 04.4). (DEDUCED, log 16) -/
def execImgAbort (a : Access) (_v : Word) (s : State) : Out :=
  .next (imgCommand s a 0x40004 fun s =>
    match s.img.load with
    | none => s
    | some l =>
      let s := if l.src < 2 ∧ imgState s = imgFetch then fetchEnd s else s
      let s := if l.amend then s.wr Reg.IMG_AMD_STATUS_ASTATE amdNone else s
      showStaged (toImg { s with img := { s.img with load := none, auto := none } } (if imageLive s then imgActive else imgEmpty)) 0 0)

/-- PERST_N ends a host load (Table 03.14). -/
def hostLoadLost (s : State) : State :=
  match s.img.load with
  | some l => if l.src = 2 ∧ imgState s = imgFetch then loadFails s l [(0x010B, 2)] else s
  | none => s

/-! ### Writes of the engine (R186, R217) -/

/-- The identity of the image engine (Table 00.4). -/
def engineAccess : Access := ⟨0x105, 15⟩

/-- The bits of the fields of a register that `p` picks. -/
def fieldMask (r : RegD) (p : FieldD → Bool) : Word := (r.fields.filter p).foldl (fun m f => m ||| maskOf f.lo f.w) 0

/-- The bits that the engine sets directly: class S, T and T* fields (R186). -/
def directMask (r : RegD) : Word := fieldMask r (fun f => f.cls == .struc || f.cls == .tick || f.cls == .tickSafe)

/-- The bits that the engine writes as any initiator does: Live fields that can be written, and class Q fields with `q` (R186, R233). -/
def writtenMask (r : RegD) (q : Bool) : Word :=
  fieldMask r (fun f => (f.cls == .quiet && q) || (f.cls == .live && f.acc != .ro && f.acc != .rc))

/-- The bits that keep their value where the value they hold is written: those of read-write fields. -/
def restMask (r : RegD) : Word := fieldMask r (fun f => f.acc == .rw || f.acc == .ro)

/-- A write of the engine in its own name of a register whose class S, T and T* fields it has set: what any initiator's write of the
word does (R23, R146, R147, R149, R171). (DEDUCED, log 18) -/
def engineRegister (s : State) (addr : Nat) (v : Word) : State :=
  match (blockRow engineAccess addr v s).or (blockArrayRow engineAccess addr v s) with
  | some o => stateAfter s o
  | none => match refusedWrite s engineAccess.init addr v with
    | some true => cfgViol s (match findBlock blocks addr with | some b => b.id | none => Blk.img) engineAccess.init addr
    | some false => s
    | none => fieldsWritten s engineAccess.init addr v

/-- A pending value without the bits of a mask. -/
def dropPend (s : State) (k : Nat) (m : Word) : State :=
  { s with pend := s.pend.filterMap (fun p => if p.1 = k then (p.2.keep (~~~m)).map (fun q => (p.1, q)) else some p) }

/-- One word of an image written with identity 0x105: class S, T and T* fields into their active values, leaving no pending value (R186),
the others as a write of theirs. (DEDUCED, log 18) -/
def engineWrite (q : Bool) (s : State) (w : PatchW) : State :=
  match regAt w.target with
  | none => s
  | some (_, r) =>
    if !domainUp s (keyPd w.target) then s
    else
      let k := regKey r 0x105 w.target
      let m := w.mask &&& directMask r
      let s := dropPend (s.setReg k (mergeBits (s.reg k) m w.value)) k m
      if w.mask &&& writtenMask r q = 0 then s
      else
        let p := Tab.get {} s.pend k
        let v := mergeBits (s.reg k &&& restMask r) (w.mask &&& writtenMask r q) w.value
        let s := engineRegister s w.target v
        { s with pend := Tab.put {} s.pend k p }

/-! ### Activation (R184–R188) -/

/-- The image-defined domains that an image uses (R650). -/
def usedDomains (s : State) (c : Copy) (d : Sched) : List Nat :=
  let quad := fun q => (bitList 80 (Nat.lor d.work d.spare)).any (fun core => core / 20 == q)
  imageDomains.filter (fun p =>
    if 5 ≤ p ∧ p ≤ 8 then quad (p - 5)
    else if p = 4 then (records s c 4).any (fun r => keyPd r.target == 4)
    else if p = 9 then (c.find 7).isSome
    else if p = 20 ∨ p = 21 then (c.find 9).isSome
    else true)

/-- The vote reference of a schedule: the number of class P items and the CRC-32C of their numbers (R566, R567). -/
def voteRefOf (d : Sched) : Nat × Nat :=
  let ps := sortBy id ((d.items.filter (fun it => it.cls == 0)).map ItemE.item)
  (ps.length, crc32c (ps.flatMap (fun n => toLe 2 n)))

/-- Set SAF_VOTE_EXP and SAF_VOTE_REF (R567). -/
def setVoteRef (s : State) (d : Sched) : State :=
  (s.wr Reg.SAF_VOTE_EXP (voteRefOf d).1).wr Reg.SAF_VOTE_REF (voteRefOf d).2

/-- Whether a spare may take the items of a withdrawn core: it lies in another quadrant than each partner, and covers the core (R187). -/
def takers (d : Sched) (gone taken : List Nat) (core : Nat) : List Nat :=
  (sparesFor d core).filter (fun sp => !gone.contains sp && !taken.contains sp)

/-- Whether a core has work items. -/
def hasItems (d : Sched) (c : Nat) : Bool := d.items.any (fun it => it.coreA == c || it.coreB == c)

/-- A taker for each withdrawn core that has items, the lowest number that is free, core after core. (DEDUCED, log 17) -/
def firstTakers (d : Sched) (gone : List Nat) : List Nat → List Nat → List (Nat × Option Nat)
  | [], _ => []
  | c :: cs, taken =>
    let t := if hasItems d c then (takers d gone taken c).head? else none
    (c, t) :: firstTakers d gone cs (t.toList ++ taken)

/-- The schedule without the withdrawn cores and with their items at their takers. -/
def withoutCores (d : Sched) (w : List (Nat × Option Nat)) : Sched :=
  let taker := fun (c : Nat) => ((w.find? (fun p => p.1 == c)).bind Prod.snd).getD c
  let ts := w.filterMap Prod.snd
  let work := w.foldl (fun m p => setBitAt m p.1 false) d.work
  let spare := w.foldl (fun m p => setBitAt m p.1 false) d.spare
  { d with
    work := ts.foldl (fun m t => setBitAt m t true) work
    spare := ts.foldl (fun m t => setBitAt m t false) spare
    items := d.items.map (fun it => { it with coreA := taker it.coreA, coreB := taker it.coreB }) }

/-- What the remaining cores fail (R187). (DEDUCED, log 17) -/
def withdrawalFailures (d : Sched) (w : List (Nat × Option Nat)) : List (Nat × Nat) :=
  let lacks := w.filter (fun p => p.2.isNone && hasItems d p.1)
  let x := withoutCores d w
  checkCores x ++ lacks.map (fun p => (0x030A, 2 ^ 8 * p.1)) ++ checkCover x ++ checkLoss x

/-- An assignment of takers with which the remaining cores pass, tried core after core, the lowest number first (R187); `done` are the
cores that have theirs. (DEDUCED, log 17) -/
def findTakers (d : Sched) (gone : List Nat) : List Nat → List (Nat × Option Nat) → Option (List (Nat × Option Nat))
  | [], done => if (withdrawalFailures d done).isEmpty then some done else none
  | c :: cs, done =>
    if hasItems d c then
      (takers d gone (done.filterMap Prod.snd) c).findSome? (fun t => findTakers d gone cs (done ++ [(c, some t)]))
    else findTakers d gone cs (done ++ [(c, none)])

/-- The takers of the withdrawn cores: an assignment that passes where there is one (R187); no core can be spared beyond the spares above
16. (DEDUCED, log 17) -/
def assignTakers (d : Sched) (gone : List Nat) : List (Nat × Option Nat) :=
  let first := firstTakers d gone gone []
  if popCount 80 d.spare < 16 + (first.filter (fun p => p.2.isSome || bitAt d.spare p.1)).length then first
  else (findTakers d gone gone []).getD first

/-- The tick generator starts, or continues (R98, R101); a stop for a new rate also starts Owl's check of the handshake afresh (R565),
and a step that waits is made while the tick is STOPPED (R122); the schedule is activated in the seam of the first tick that follows. -/
def startTick (s : State) (rate since : Nat) : State :=
  let same := s.rd Reg.TIK_STATUS_STATE ≠ 0 ∧ s.rd Reg.TIK_CFG_RATE = rate
  let r := rateOf rate
  let cyc := slotCyc r
  let s := { s with tik := { s.tik with activate := 1 } }
  if same then s
  else
    let s := ((s.wr Reg.TIK_CFG_RATE rate).wr Reg.TIK_CFG_SLOT_CYC cyc).wr Reg.TIK_CFG_SEAM_NOM (1600000000 / r - 496 * cyc)
    let s := if s.rd Reg.TIK_STATUS_STATE = 0 then s
      else
        let s := { s with saf := { s.saf with handshake := none } }
        stepNow (if s.tim.refBack then takeRefclk s else s)
    let s := (s.wr Reg.TIK_STATUS_STATE 0).wr Reg.TIK_STATUS_SLOT 0
    let s := { s with tik := { s.tik with starts := true, startAt := s.tim.now + since } }
    { s with tik := { s.tik with next := some (startPlace s) } }

/-- A failed activation: FAILED with a code, and no domain that step 1 released is left running (R187). (DEDUCED, log 17) -/
def activationFails (s : State) (f : Nat × Nat) : State :=
  let ds := s.img.released
  let s := ds.foldl (fun s d => showPower (resetPd (scopeOf ds) codeActivation s d) d false) s
  let s := toImg ((s.wr Reg.IMG_STATUS_CODE f.1).wr Reg.IMG_REJ_DETAIL f.2) imgFailed
  autoFailed (showStaged { s with img := { s.img with released := [] } } 0 0) f.1

/-- Step 1: release the used domains that are not running (R185, R650). A domain in PWR_FAILED stays off. (DEDUCED, log 17) -/
def releaseUsed (s : State) (used : List Nat) : State :=
  let ds := used.filter (fun d => !domainUp s d && !bitAt (s.rd Reg.PWR_FAILED) d)
  let s := ds.foldl (fun s d => releasePd (if powered s d then s else raise s Blk.pwr 0x0101 .info d) d) s
  { s.wr Reg.PWR_USED (scopeOf used) with img := { s.img with released := ds } }

/-- What the blocks do when an image is loaded: the pool, the publisher, the ring, the climate engine and the movers start (R336, R378,
R415, R770, R807). -/
def startBlocks (s : State) (c : Copy) (d : Sched) (w : List (Nat × Option Nat)) : State :=
  let s := publisherStart (poolActivate s d w)
  let s := if domainUp s 9 then ringActivate s (c.find 7).isSome else s
  let s := if (c.find 9).isSome then moversStart (mstpPresence { s with clm := { s.clm with starts := true } }) else s
  if domainUp s 20 then [0, 1, 2, 3].foldl uartKick s else s

/-- The registers of an image in force. -/
def showActive (s : State) (h : ImgHdr) : State :=
  let s := ((s.wr Reg.IMG_ACTIVE_ID h.id).wr Reg.IMG_ACTIVE_VER h.ver).wr Reg.IMG_ACTIVE_LEN h.total
  let s := (s.wr Reg.IMG_AMD_BASE (upTo 4096 h.total)).wr Reg.IMG_AMD_COUNT 0
  ((s.wr Reg.IMG_AMD_OVL_ENTRIES 0).wr Reg.IMG_STATUS_COPY_DAMAGED 0).wr Reg.IMG_AMD_STATUS_ASTATE amdNone

/-- Steps 1 to 7 of R185. (DEDUCED, log 17) -/
def activate (s : State) (failed : List Nat) (since : Nat) : State :=
  let c := copyAt s 0
  let d := schedOf s c
  let s := toImg { s with img := { s.img with actWait := false } } imgActivating
  let s := releaseUsed s (usedDomains s c d)
  let s := (imgWords s c).foldl (engineWrite true) s
  let off := (bitList 80 (Nat.lor d.work d.spare)).filter (fun x => failed.contains x || !domainUp s (5 + x / 20))
  let w := assignTakers d off
  let s := w.foldl (fun s p => raise s Blk.img 0x0107 .warn p.1) s
  let fs := if w.isEmpty then [] else withdrawalFailures d w
  match fs with
  | f :: _ => activationFails s f
  | [] =>
    let s := showActive (setVoteRef s d) c.hdr
    let s := { s with
      img := { s.img with sched := some d, ovl := [], amd := none, applied := false, next := none, deact := none, auto := none }
      saf := { s.saf with quarantine := [], mismatchSaid := false, voteExp := (voteRefOf d).1, voteRef := (voteRefOf d).2, flips := [] } }
    setReferences (startTick (startBlocks s c d w) d.rate since)

/-- IMG_ACTIVATE: CMD 2 of IMG_CMD with its key, or the activation that starts on its own (R184, R191). -/
def execImgActivate (cmd : Option (Access × Word)) (test : SelfTest) (s : State) : Out :=
  let go := fun (s : State) => if imgState s = imgReady then activate s (test.failed.map Fin.val) test.since else s
  match cmd with
  | none => .next (if s.img.actWait then go s else s)
  | some (a, v) => .next (imgCommand s a 0x40004 fun s =>
      if fieldOf v 16 16 ≠ 0xC0DE then cfgViol s Blk.img a.init 0x40004 else go s)

/-- At the first RUNNING tick the image is ACTIVE (R188): the edge of `tick`. -/
def imageActive (s : State) : State :=
  let s := s.wr64 Reg.IMG_ACT_TICK_LO Reg.IMG_ACT_TICK_HI s.tick
  let s := showStaged (toImg { s with img := { s.img with released := [] } } imgActive) 0 0
  raise s Blk.img 0x0103 .info (s.rd Reg.IMG_ACTIVE_ID + 2 ^ 32 * (s.tick % 2 ^ 32))

/-! ### Deactivation (R190) -/

/-- IMG_DEACTIVATE: CMD 4 of IMG_CMD with its key (R190, R191, Table 04.4). -/
def execImgDeactivate (a : Access) (v : Word) (s : State) : Out :=
  .next (imgCommand s a 0x40004 fun s =>
    if fieldOf v 16 16 ≠ 0xC0DE then cfgViol s Blk.img a.init 0x40004
    else if imgState s ≠ imgActive || s.img.deact.isSome then s
    else
      let last := s.tick + if 508 ≤ s.rd Reg.TIK_STATUS_SLOT then 1 else 0
      let s := if amdWaiting s then dropAmend s else s
      { s with img := { s.img with deact := some last } })

/-- Phase 4 of the last RUNNING tick: IMG_DEACTIVATED, and the state is READY (R190). -/
def imageDeactivated (s : State) : State :=
  let h := (copyAt s 0).hdr
  let id := s.rd Reg.IMG_ACTIVE_ID
  let s := ((s.wr Reg.IMG_ACTIVE_ID 0).wr Reg.IMG_ACTIVE_VER 0).wr Reg.IMG_ACTIVE_LEN 0
  let s := showStaged (toImg { s with img := { s.img with deact := none, sched := none, next := none } } imgReady) h.id h.ver
  raise s Blk.img 0x0104 .warn id

/-! ### Structure memory errors (R196, R197, R223) -/

/-- The section of the load in progress that holds an offset of structure memory; a free value names the section where the error lies in
no section, and in FETCH, where the copy does not yet stand there. (DEDUCED, log 16) -/
def hitSection (s : State) (l : LoadRec) (ofs : Nat) : Option Nat :=
  let base := if imgState s = imgFetch ∧ imageLive s then amdBase s else loadBase s l
  let c := copyAt s base
  let o := ofs - base
  if ofs < base then none
  else if imgState s = imgFetch then some (s.free.toNat % 256)
  else if l.total ≤ o then none
  else match c.sects.find? (fun e => decide (e.ofs ≤ o) && decide (o < e.ofs + e.len)) with
    | some e => some e.ix
    | none => some (s.free.toNat % 256)

/-- STRUCT_MEM_UNCORR: an uncorrectable error in structure memory or in the restore overlay (R196, R197, R223, Table 04.4). (DEDUCED, log 16) -/
def execStructMemUncorr (ofs : Fin 8388608) (overlay : Bool) (s : State) : Out :=
  let damaged := fun (s : State) => raise (s.wr Reg.IMG_STATUS_COPY_DAMAGED 1) Blk.img 0x0108 .fault ofs
  if s.rst.imgReset then .next s
  else if overlay then .next (if imageLive s then damaged s else s)
  else match s.img.load.bind (fun l => (hitSection s l ofs).map (fun x => (l, x))) with
    | some (l, x) => .next (loadFails (if l.src < 2 ∧ imgState s = imgFetch then fetchEnd s.used else s.used) l [(0x010A, x)])
    | none =>
      if !imageLive s then .next s
      else
        let s := damaged s
        .next (if amdWaiting s ∧ amdBase s ≤ ofs then amdRefuse s 0x0401 0 else s)

/-! ### Amendments: arming (R211–R215, R222, R230) -/

/-- PRELOAD_COMPLETE: IMG_AMD_LEAD reaches 0 (R211). -/
def execPreloadComplete (s : State) : Out := .next (if amdWaiting s then s.wr Reg.IMG_AMD_LEAD_TICKS 0 else s)

/-- An ARM is refused and the amendment stays STAGED (R214, R230). -/
def armRefused (s : State) (code detail : Nat) : State :=
  let s := (s.wr Reg.IMG_AMD_STATUS_CODE code).wr Reg.IMG_AMD_DETAIL detail
  raise s Blk.img 0x010C .warn (code + 2 ^ 32 * (detail % 2 ^ 32))

/-- IMG_AMD_AT. -/
def amdAt (s : State) : Nat := s.rd64 Reg.IMG_AMD_AT_LO Reg.IMG_AMD_AT_HI

/-- AMD_ARM: CMD 1 of IMG_AMD_CMD (R213–R215, R230). -/
def execAmdArm (a : Access) (v : Word) (s : State) : Out :=
  .next (imgCommand s a 0x40400 fun s =>
    if fieldOf v 16 16 ≠ 0xC0DE then cfgViol s Blk.img a.init 0x40400
    else match s.img.amd with
      | none => s
      | some x =>
        if s.rd Reg.IMG_AMD_STATUS_ASTATE ≠ amdStaged then s
        else if amdAt s < s.tick + s.rd Reg.IMG_AMD_LEAD_TICKS + 2 then armRefused s 0x040A (amdAt s % 2 ^ 32)
        else if s.bit Reg.IMG_AMD_STATUS_P_CHANGE && !bitAt v.toNat 4 then armRefused s 0x040C 0
        else
          let after := x.words.foldl (fun s w => engineBits s w false) s
          let c37 := (streamsChanged s after).foldl (fun t n => if Tab.get 0 t n = 0 then Tab.put 0 t n 1 else t) s.mpr.c37Change
          let s := { s with img := { s.img with armAt := amdAt s }, mpr := { s.mpr with c37Change := c37 } }
          raise (s.wr Reg.IMG_AMD_STATUS_ASTATE amdArmed) Blk.img 0x010A .info (amdAt s))

/-- AMD_DISARM: CMD 2 of IMG_AMD_CMD (R222). -/
def execAmdDisarm (a : Access) (_v : Word) (s : State) : Out :=
  .next (imgCommand s a 0x40400 fun s =>
    let early := decide (s.tick < s.img.armAt) || (s.tick == s.img.armAt && !afterSlot504 s)
    if s.rd Reg.IMG_AMD_STATUS_ASTATE == amdArmed && early then
      let s := { s with mpr := { s.mpr with c37Change := s.mpr.c37Change.filter (fun p => p.2 != 1) } }
      raise (s.wr Reg.IMG_AMD_STATUS_ASTATE amdStaged) Blk.img 0x010E .info (amdAt s)
    else s)

/-- AMD_DISCARD: CMD 3 of IMG_AMD_CMD (R222). -/
def execAmdDiscard (a : Access) (_v : Word) (s : State) : Out :=
  .next (imgCommand s a 0x40400 fun s =>
    let st := s.rd Reg.IMG_AMD_STATUS_ASTATE
    if st = amdArmed then cfgViol s Blk.img a.init 0x40400
    else if st = amdStaged ∨ st = amdRefused ∨ st = amdApplied then dropAmend s
    else s)

/-! ### Amendments: the apply seam (R216–R224, Table 04.2) -/

/-- Whether the armed amendment is due in the seam of this tick. -/
def amdDue (s : State) : Bool := s.rd Reg.IMG_AMD_STATUS_ASTATE == amdArmed && s.img.armAt == s.tick && s.img.amd.isSome

/-- The first seam condition that fails (R216, Table 04.2). (DEDUCED, log 18) -/
def seamRefusal (s : State) (x : Amend) : Option (Nat × Nat) :=
  let level := s.rd Reg.SAF_STATUS_LEVEL
  if !imageLive s || s.bit Reg.IMG_STATUS_COPY_DAMAGED then some (0x0401, 0)
  else if !baseOk s (copyAt s (amdBase s)).hdr then some (0x0402, s.rd Reg.IMG_ACTIVE_VER)
  else match x.poolChanged with
    | some c => some (0x0409, 2 ^ 8 * c)
    | none =>
      if s.bit Reg.IMG_AMD_STATUS_P_CHANGE && decide (2 ≤ level) then some (0x040B, level)
      else match x.resetPd with
        | some d => some (0x040D, d)
        | none => if level = 4 then some (0x040E, level) else none

/-- The bits of a word that the apply sets: without those of class Q fields (R223, R233). -/
def applyMask (w : PatchW) : Word :=
  match regAt w.target with
  | none => 0
  | some (_, r) => w.mask &&& (r.fields.filter (fun f => f.cls != .quiet && !(f.cls == .live && (f.acc == .ro || f.acc == .rc)))).foldl
      (fun m f => m ||| maskOf f.lo f.w) 0

/-- A software pending value of a field that the amendment sets is discarded and counted (R218). -/
def overrideFields (s : State) (w : PatchW) : State :=
  match regAt w.target with
  | none => s
  | some (_, r) =>
    r.fields.foldl (fun s f =>
      let m := maskOf f.lo f.w
      if m &&& applyMask w ≠ 0 ∧ (Tab.get {} s.pend w.target).mask &&& m ≠ 0 then (dropPend s w.target m).inc Reg.IMG_AMD_OVERRIDE
      else s) s

/-- The apply of an amendment in phase 3 of its tick: every patch word and triple, and every dirty software pending value (R216–R220,
R223, R567). (DEDUCED, log 18) -/
def amdApply (s : State) (x : Amend) : State :=
  let s := commitWhere (x.words.foldl overrideFields s) (fun _ => true)
  let s := x.words.foldl (engineWrite false) s
  let new := x.words.map (fun w => { w with mask := applyMask w })
  let p := s.bit Reg.IMG_AMD_STATUS_P_CHANGE
  let s := if p then setVoteRef s x.sched else s
  let s := (s.wr Reg.IMG_ACTIVE_VER x.ver).wr64 Reg.IMG_AMD_LAST_LO Reg.IMG_AMD_LAST_HI s.tick
  let s := (s.wr64 Reg.TIK_COMMIT_LAST_LO Reg.TIK_COMMIT_LAST_HI s.tick).wr Reg.IMG_AMD_STATUS_ASTATE amdApplied
  let s := showStaged (s.inc Reg.IMG_AMD_COUNT) 0 0
  let s := { s with img := { s.img with ovl := s.img.ovl ++ new, amd := none, next := some x.sched, applied := true } }
  s.wr Reg.IMG_AMD_OVL_ENTRIES s.img.ovl.length

/-- AMD_APPLIED in phase 4 of the tick of the apply (R220). -/
def tellApplied (s : State) : State :=
  if s.img.applied then
    raise { s with img := { s.img with applied := false } } Blk.img 0x010B .info (s.rd Reg.IMG_ACTIVE_VER + 2 ^ 32 * (s.tick % 2 ^ 32))
  else s

/-! ### Restore (R652) -/

/-- Replay what the full image and the overlay give the blocks of domain `d`, and how many records, triples and entries that were. (DEDUCED, log 18) -/
def replay (s : State) (d : Nat) : State × Nat :=
  let c := copyAt s 0
  let mine := fun (w : PatchW) => keyPd w.target == d
  let rs := loadOrder.flatMap (fun t => (records s c t).filter (fun r => (recWords r).any mine))
  let ts := (triples s c).filter mine
  let os := s.img.ovl.filter mine
  let s := (((rs.flatMap recWords).filter mine) ++ ts).foldl (engineWrite true) s
  (os.foldl (engineWrite false) s, rs.length + ts.length + os.length)

end Sys2Proof.Machine
end

