-- ==== Sys2Proof/Machine/Rst.lean ====
section
/-! DEFINITION. Resets and their release, power switching, power failure and the thermal limits ("Reset, power domains and thermal
management"). -/

namespace Sys2Proof.Machine

/-! ### Scopes (Table 14.1) -/

/-- Every domain. -/
abbrev scopeAll := 0x1FFFFFF

/-- Every domain except PD00, PD01 and PD02. -/
abbrev scopeWarm := 0x1FFFFF8

/-- The domains of the cold release after PD00 (Table 14.2). -/
abbrev scopeCold := 0x1CE2006

/-- Whether a domain is held in reset by a pin, the internal POR or the latched trip (R685, R687). -/
def heldDomain (s : State) (d : Nat) : Bool :=
  s.rst.porHeld || s.rst.porstLow || (s.rst.warmLow && bitAt scopeWarm d) || (s.rst.perstLow && d == 13) || (s.rst.trip && decide (1 < d))

/-! ### Records (R637, R640, R691) -/

/-- RST_HIST and RST_COUNT record a reset; RST_CAUSE one whose scope includes PD17; lost stores are counted (Table 14.3). -/
def recordReset (s : State) (code scope init lost : Nat) (delayed : Bool) (tick : Nat) : State :=
  let i := s.rd Reg.RST_STATUS_HIST_NEXT
  let who := if code = 7 ∨ code = 8 then init else 0
  let s := ((s.wr (Reg.RST_HIST_W0 i) 0).wr (Reg.RST_HIST_W0_CODE i) code).wr (Reg.RST_HIST_W0_INIT i) who
  let s := (s.wr (Reg.RST_HIST_W1 i) (tick % 2 ^ 32)).wr Reg.RST_STATUS_HIST_NEXT ((i + 1) % 16)
  let s := s.inc (Reg.RST_COUNT (code - 1))
  if !bitAt scope 17 then s
  else
    let s := s.add Reg.RST_DRAIN_LOST lost
    let s := ((s.wr Reg.RST_CAUSE_CODE code).setBit Reg.RST_CAUSE_DELAYED delayed).setBit Reg.RST_CAUSE_DRAIN_LOST (decide (0 < lost))
    s.wr Reg.RST_CAUSE_AON_KEPT 0

/-! ### Assertion (R637, R638, R686) -/

/-- The scope with the IMG reset domain of PD18, and with what a running activation has released (R195, R637). -/
def fullScope (s : State) (scope : Nat) : Nat :=
  let m := if bitAt scope 18 then Nat.lor scope (2 ^ domImg) else scope
  if bitAt m domImg && imgState s == imgActivating then Nat.lor m (scopeOf s.img.released) else m

/-- The order in which the blocks of a scope are reset. -/
def assertOrder : List Nat :=
  [5, 6, 7, 8, 13, 17, domImg, 2, 3, 4, 9, 10, 11, 12, 14, 15, 16, 18, 19, 20, 21, 22, 23]

/-- A reset is asserted: its domains enter reset, and the union of what waits is released afresh (R645, R686). A domain that is powered
off stays off (Table 14.9). (DEDUCED, log 39) -/
def assertReset (s : State) (code scope init lost : Nat) (delayed : Bool) : State :=
  let scope := fullScope s scope
  let s := if code = 9 ∨ code = 10 then hostLoadLost s else s
  let s := recordReset s code scope init lost delayed s.tick
  let ds := assertOrder.filter (fun d => bitAt scope d && (d == domImg && powered s 18 || d != domImg && powered s d))
  let s := ds.foldl (resetPd scope code) s
  let img := if bitAt scope domImg then code else s.rst.imgCode
  { s.wr Reg.RST_STATUS_BUSY 1 with rst := { s.rst with rel := Nat.lor s.rst.rel (scopeOf ds), code := code, imgCode := img } }

/-- A domain whose supply failed is reset and powered off; a second failure within 1 s leaves it off (R643). -/
def owlPowerOff (s : State) (d lost : Nat) (delayed : Bool) : State :=
  if !powered s d then s
  else
    let again := (Tab.get none s.rst.owlRel d).any (fun t => decide (s.taiNs ≤ t + 1000000000))
    let rel := s.rst.rel
    let s := assertReset s 5 (2 ^ d) 0 lost delayed
    let s := raise (showPower s d false) Blk.pwr 0x0102 .info (d + 2 ^ 8 * 2)
    let off := if again then s.rst.owlOff else d :: s.rst.owlOff
    let s := { s with rst := { s.rst with rel := scopeLess (Nat.lor rel (scopeLess s.rst.rel (2 ^ d))) (2 ^ d), owlOff := off
                                          on := scopeLess s.rst.on (2 ^ d) } }
    let s := s.setBit Reg.RST_STATUS_BUSY (s.rst.rel != 0)
    if again then raise (s.wr Reg.PWR_FAILED (Nat.lor (s.rd Reg.PWR_FAILED) (2 ^ d))) Blk.pwr 0x0103 .fault d else s

/-! ### Internal POR and PORST_N (R640, R648) -/

/-- The registers that PORST_N leaves unchanged when VDD_AON stayed valid (R635, R640): RST_HIST, RST_COUNT, the ring and its
sequence. -/
def keptAtPorst (k : Nat) : Bool :=
  (decide (0x880100 ≤ k) && decide (k < 0x880300)) || (decide (0xB90000 ≤ k) && decide (k < 0xBB0000)) || k == 0xB8000C || k == 0xB80010

/-- What the black box keeps at PORST_N (R635, R640): a ring in POST becomes FROZEN. -/
def bbxKept (old s : State) : State :=
  let st := old.rd Reg.BBX_STATUS_STATE
  let snap := old.rd Reg.BBX_STATUS_SNAP
  let s := (s.wr Reg.BBX_STATUS_STATE (if st = 0 then 0 else 2)).wr Reg.BBX_STATUS_MISSED_SAFETY (old.rd Reg.BBX_STATUS_MISSED_SAFETY)
  let s := s.wr Reg.BBX_STATUS_SNAP (if st = 2 ∧ snap ≠ 1 then snap else 0)
  { s with bbx := { s.bbx with done := decide (st = 2) && old.bbx.done, byFail := old.bbx.byFail, after := old.bbx.after } }

/-- The device when every domain is reset: what lies in the Granary, in flash and in fuses stays (R639); the latched trip and the pins
stay as they are. -/
def powerOnState (s : State) (kept : Bool) : State :=
  let g := granaryReset s
  let new : State := {
    pending := s.pending, events := g.events, outputs := g.outputs, resp := s.resp, freeCtr := g.freeCtr, flash := g.flash
    regs := if kept then g.regs.filter (fun p => keptAtPorst p.1) else []
    grn := { mem := g.grn.mem, row := g.grn.row, ar := g.grn.ar }
    img := { fuses := g.img.fuses }
    rst := { porHeld := s.rst.porHeld, porstLow := s.rst.porstLow, warmLow := s.rst.warmLow, perstLow := s.rst.perstLow
             trip := s.rst.trip, rel := 0 } }
  if kept then (bbxKept s new).wr Reg.RST_STATUS_HIST_NEXT (s.rd Reg.RST_STATUS_HIST_NEXT) else new

/-- The cold release starts (Table 14.2 step 1). After a trip that stays latched only PD01 follows (R685). (DEDUCED, log 38) -/
def startCold (s : State) : State :=
  if s.rst.porHeld || s.rst.porstLow then s
  else
    let rel := if s.rst.trip then 2 else scopeCold
    let s := (s.wr Reg.RST_STATUS_BUSY 1).wr Reg.RST_STATUS_STEP 1
    { s with rst := { s.rst with rel := rel, done := 1 } }

/-- PORST_N is asserted. -/
def assertPorst (s : State) (delayed : Bool) : State :=
  let boot := s.rd Reg.RST_BOOT_BOOT_SEL
  let tick := s.tick
  let low := s.rd Reg.PWR_PFAIL_LOW
  let s := recordReset (powerOnState s true) 2 scopeAll 0 0 delayed tick
  let s := (s.wr Reg.RST_CAUSE_AON_KEPT 1).wr Reg.PWR_PFAIL_LOW low
  startCold ({ s with rst := { s.rst with code := 2, imgCode := 2 } }.wr Reg.RST_BOOT_BOOT_SEL boot)

/-- INTERNAL_POR: VDD_AON or VDD_OWL below its POR threshold (R637, R640). (DEDUCED, log 38) -/
def execInternalPor (s : State) : Out :=
  let tick := s.tick
  let s := recordReset (powerOnState { s with rst := { s.rst with porHeld := true, trip := false } } false) 1 scopeAll 0 0 false tick
  .next { s with rst := { s.rst with code := 1, imgCode := 1 } }

/-- POR_RELEASE: the supplies are back; the cold release starts (R648). -/
def execPorRelease (bootSel : Fin 4) (s : State) : Out :=
  .next (if !s.rst.porHeld then s
    else startCold ({ s with rst := { s.rst with porHeld := false } }.wr Reg.RST_BOOT_BOOT_SEL bootSel))

/-! ### Requests and delays (R660, R661) -/

/-- A reset request: delayed by a Granary pulse or protect update, else asserted; without effect after a trip (R660, R683). -/
def resetRequest (s : State) (code scope init lost : Nat) : State :=
  if s.rst.trip && code != 2 then s
  else match (if bitAt scope 19 then pulseKind s else none) with
    | some k =>
      let s := (s.inc Reg.RST_DELAY_CNT).wr Reg.RST_STATUS_DELAYED 1
      { s with rst := { s.rst with delayed := s.rst.delayed ++ [⟨code, scope, init, lost, k⟩] } }
    | none =>
      if code = 2 then assertPorst s false
      else if code = 5 then (bitList 24 scope).foldl (fun s d => owlPowerOff s d lost false) s
      else assertReset s code scope init lost false

/-- One delayed reset is asserted. (DEDUCED, log 39) -/
def assertDelayed (us : Nat) (s : State) (x : Delayed) : State :=
  let s := raise s Blk.rst 0x0102 .info (x.code + 2 ^ 8 * x.kind + 2 ^ 16 * (min (us / 4) 65535))
  if x.code = 2 then assertPorst s true
  else if x.code = 5 then (bitList 24 x.scope).foldl (fun s d => owlPowerOff s d x.lost true) s
  else assertReset s x.code x.scope x.init x.lost true

/-- DELAYED_RESET_ASSERT: the pulse or the protect update has ended; every waiting reset is asserted (R660, Table 14.9). -/
def execDelayedResetAssert (us : Nat) (s : State) : Out :=
  if s.rst.delayed.isEmpty || (pulseKind s).isSome then .next s
  else
    let ds := s.rst.delayed
    let s := { s.wr Reg.RST_STATUS_DELAYED 0 with rst := { s.rst with delayed := [] } }
    .next (ds.foldl (assertDelayed us) s)

/-- PORST_N_ASSERT: PORST_N is recognised low (R637, R644). -/
def execPorstNAssert (s : State) : Out :=
  .next (if s.rst.porstLow then s
    else
      let s := { s with rst := { s.rst with porstLow := true } }
      if s.rst.porHeld then s else resetRequest s 2 scopeAll 0 0)

/-- PORST_N_RELEASE: PORST_N is recognised high; BOOT_SEL is sampled and the cold release starts; the trip clears when the comparators
have cooled (R640, R648, R685). -/
def execPorstNRelease (bootSel : Fin 4) (aonKept cool : Bool) (s : State) : Out :=
  .next (if !s.rst.porstLow then s
    else
      let s := { s with rst := { s.rst with porstLow := false, trip := s.rst.trip && !cool } }
      let s := s.wr Reg.RST_BOOT_BOOT_SEL bootSel
      if s.rst.delayed.any (fun x => x.code == 2) || s.rst.porHeld then s
      else if aonKept || s.rd Reg.RST_CAUSE_CODE != 2 then startCold s
      else
        let lost := recordReset { s with regs := s.regs.filter (fun p => !keptAtPorst p.1), bbx := {} } 2 0 0 0 false 0
        startCold (((lost.wr Reg.BBX_STATUS 0).wr Reg.RST_CAUSE_AON_KEPT 0).wr Reg.RST_STATUS_HIST_NEXT 1))

/-- WARM_RST_N: the pin is recognised low (R637, R687). -/
def execWarmRstN (lost : Nat) (s : State) : Out :=
  .next (if s.rst.warmLow then s
    else
      let s := { s with rst := { s.rst with warmLow := true } }
      if s.rst.porHeld || s.rst.porstLow then s else resetRequest s 3 scopeWarm 0 lost)

/-- WARM_RST_N_RELEASE: the pin is recognised high; the release of its scope may proceed (R687). -/
def execWarmRstNRelease (s : State) : Out :=
  let s := { s with rst := { s.rst with warmLow := false } }
  .next (if s.rst.rel != 0 && !s.rst.porHeld && !s.rst.porstLow then s.wr Reg.RST_STATUS_BUSY 1 else s)

/-- PERST_N: the pin is low (R637, R687, Table 03.14). (DEDUCED, log 39) -/
def execPerstN (s : State) : Out :=
  .next (if s.rst.perstLow then s
    else
      let s := { s with rst := { s.rst with perstLow := true } }
      if s.rst.porHeld || s.rst.porstLow then s else resetRequest s 9 (2 ^ 13) 0 0)

/-- PERST_N_RELEASE: the pin is high; PD13 may be released (R687). -/
def execPerstNRelease (s : State) : Out :=
  let s := { s with rst := { s.rst with perstLow := false } }
  .next (if bitAt s.rst.rel 13 && !heldDomain s 13 then s.wr Reg.RST_STATUS_BUSY 1 else s)

/-- HOT_RESET: a PCIe hot reset from the link partner (R637). -/
def execHotReset (s : State) : Out :=
  .next (if s.rst.porHeld || s.rst.porstLow then s else resetRequest s 10 (2 ^ 13) 0 0)

/-- A write to RST_CMD with its key by the PF or a MGMT pair (R641). -/
def rstCommand (s : State) (a : Access) (v : Word) (k : State → State) : State :=
  withWrite s a 0x880000 Blk.rst 0 0x880004 fun s =>
    if !isPfOrMgmt a.init || fieldOf v 16 16 ≠ 0xC0DE then cfgViol s Blk.rst a.init 0x880004 else k s

/-- RST_CMD_WARM: TYPE 1 (R641). -/
def execRstCmdWarm (a : Access) (v : Word) (lost : Nat) (s : State) : Out :=
  .next (rstCommand s a v fun s => resetRequest s 7 scopeWarm a.init.toNat lost)

/-- RST_CMD_DOMAIN: TYPE 2 resets the domains of RST_MASK (R641, R642). -/
def execRstCmdDomain (a : Access) (v : Word) (lost : Nat) (s : State) : Out :=
  .next (rstCommand s a v fun s =>
    let scope := s.rd Reg.RST_MASK % 2 ^ 25
    if safeOp s && [2, 3, 18, domImg].any (bitAt scope) then cfgViol s Blk.rst a.init 0x880004
    else if scope = 0 then s
    else resetRequest s 8 scope a.init.toNat (if bitAt scope 17 then lost else 0))

/-! ### VF resets (R544–R547, R604) -/

/-- VF_FLR: an FLR of an instance; one of the PF clears VF Enable (R544, R545, R547). (DEDUCED, log 39) -/
def execVfFlr (t : Fin 128) (s : State) : Out :=
  if !domainUp s 13 then .next s
  else
    let one := fun (s : State) (t : Nat) => mbxReset (resetInstance s t) (fun i => i == t + 1)
    let s := one s t
    .next (if t.val = 0 then
        let vfs := ((List.range 128).drop 1).filter (instanceInUse s)
        (vfs.foldl one ((s.wr Reg.HIF_STATUS_VF_EN 0).wr Reg.HIF_STATUS_NUM_VFS 0))
      else s)

/-- VF_ENABLE_CLEAR: every VF is reset as by an FLR (R547). -/
def execVfEnableClear (s : State) : Out :=
  if !domainUp s 13 then .next s
  else
    let one := fun (s : State) (t : Nat) => mbxReset (resetInstance s t) (fun i => i == t + 1)
    let vfs := ((List.range 128).drop 1).filter (instanceInUse s)
    .next (vfs.foldl one ((s.wr Reg.HIF_STATUS_VF_EN 0).wr Reg.HIF_STATUS_NUM_VFS 0))

/-! ### Release (R646–R651, R669, R670) -/

/-- Whether the steps after PD19 wait for the end of the Granary scan or of the snapshot that R670 writes. (DEDUCED, log 39) -/
def waitsForScan (s : State) (d : Nat) : Bool :=
  bitAt s.rst.done 19 && domainUp s 19 && !([0, 1, 2, 19].contains d) && (s.bit Reg.GRN_STATUS_SCAN || s.bbx.snap.isSome)

/-- The domain that the next step of the sequence releases. -/
def nextRelease (s : State) : Option Nat :=
  releaseOrder.find? (fun d => bitAt s.rst.rel d && !heldDomain s d && (d != domImg || domainUp s 18))

/-- The sequence has released all that no pin holds: RESET_DONE (R692). (DEDUCED, log 39) -/
def sequenceDone (s : State) : State :=
  if (nextRelease s).isSome then s
  else
    let s := raise (s.wr Reg.RST_STATUS_BUSY 0) Blk.rst 0x0101 .info (s.rst.code + 2 ^ 32 * s.rst.done)
    { s with rst := { s.rst with done := 0 } }

/-- One step of a release sequence. -/
def releaseStep (s : State) (d : Nat) : State :=
  let n := releaseOrder.findIdx (fun x => x == d)
  let s := (s.wr Reg.RST_STATUS_BUSY 1).wr Reg.RST_STATUS_STEP (min n 10 + 1)
  let back := s.rst.owlOff.contains d
  let s := { s with rst := { s.rst with
    rel := scopeLess s.rst.rel (2 ^ d), done := if d < 24 then Nat.lor s.rst.done (2 ^ d) else s.rst.done
    owlOff := s.rst.owlOff.filter (fun x => x != d) } }
  let s := if back then { s with rst := { s.rst with owlRel := Tab.put none s.rst.owlRel d (some s.taiNs) } } else s
  sequenceDone (releasePd s d)

/-- RELEASE_STEP: one gap has passed and the next domain leaves reset (R647, R648, R651, R662, R669). -/
def execReleaseStep (s : State) : Out :=
  if s.bit Reg.PWR_PFAIL_LOW then .next s
  else match nextRelease s with
    | some d => .next (if waitsForScan s d then s else releaseStep s d)
    | none =>
      match (bitList 24 s.rst.on).find? (fun d => !heldDomain s d) with
      | some d => .next (releasePd { s with rst := { s.rst with on := scopeLess s.rst.on (2 ^ d) } } d)
      | none => .next s

/-- OWL_DOMAIN_REPOWER: 1 ms after it powered a failed domain off, Owl powers it on again; its release follows (R643). -/
def execOwlDomainRepower (pd : Fin 24) (s : State) : Out :=
  let d := pd.val
  .next (if !s.rst.owlOff.contains d || powered s d || s.rst.trip then s
    else
      let s := raise (showPower s d true) Blk.pwr 0x0101 .info d
      let img := if d = 18 then 2 ^ domImg else 0
      { s.wr Reg.RST_STATUS_BUSY 1 with rst := { s.rst with rel := Nat.lor s.rst.rel (2 ^ d + img), code := 5 } })

/-- DOMAIN_RESTORED: the restore of a domain completes; its blocks resume at the next tick edge (R652, R653). (DEDUCED, log 39) -/
def execDomainRestored (pd : Fin 24) (s : State) : Out :=
  let d := pd.val
  .next (if !s.rst.restoring.contains d then s
    else
      let p := replay s d
      let s := { p.1 with rst := { p.1.rst with restoring := p.1.rst.restoring.filter (fun x => x != d), resume := d :: p.1.rst.resume } }
      raise s Blk.rst 0x0103 .info (d + 2 ^ 32 * p.2))

/-! ### Power switching (R662–R664) -/

/-- PWR_OFF_OK of a domain (Table 14.6). -/
def offOk (s : State) (d : Nat) : Bool :=
  match d with
  | 4 => !s.bit Reg.TWC_CTRL_EN
  | 9 => s.rd Reg.MRG_STATUS_STATE == 0
  | 21 => (List.range 12).all (fun c => !s.bit (Reg.FAN_CH_CFG_EN c)) && (List.range 4).all (fun m => !s.bit (Reg.MTR_CH_CFG_EN m))
  | 23 => !s.bit Reg.DBG_CTRL_PORT_EN && !s.bit Reg.DBG_STATUS_ATTACHED
  | _ => false

/-- A write to PWR_CMD with its key by the PF or a MGMT pair, for a permitted domain (R663). (DEDUCED, log 40) -/
def pwrCommand (s : State) (a : Access) (v : Word) (ok : State → Nat → Bool) (k : State → Nat → State) : State :=
  withWrite s a 0x8A0000 Blk.pwr 0 0x8A0008 fun s =>
    let d := fieldOf v 0 5
    if !isPfOrMgmt a.init || fieldOf v 16 16 ≠ 0xC0DE || decide (23 < d) || !ok s d then cfgViol s Blk.pwr a.init 0x8A0008 else k s d

/-- PWR_ON: OP 1 (R662, R663). -/
def execPwrOn (a : Access) (v : Word) (s : State) : Out :=
  let ok := fun (s : State) (d : Nat) => ((imageLive s && bitAt (s.rd Reg.PWR_USED) d) || optionalDomains.contains d) &&
    !bitAt (s.rd Reg.PWR_FAILED) d
  .next (pwrCommand s a v ok fun s d =>
    if powered s d || s.rst.trip || bitAt s.rst.rel d then s
    else raise { showPower s d true with rst := { s.rst with on := Nat.lor s.rst.on (2 ^ d) } } Blk.pwr 0x0101 .info d)

/-- PWR_OFF: OP 2 (R662–R664, Table 14.9). -/
def execPwrOff (a : Access) (v : Word) (s : State) : Out :=
  .next (pwrCommand s a v (fun s d => optionalDomains.contains d && offOk s d) fun s d =>
    if !powered s d then s
    else
      let s := resetPd (2 ^ d) 0 s d
      let s := { s with rst := { s.rst with rel := scopeLess s.rst.rel (2 ^ d), on := scopeLess s.rst.on (2 ^ d) } }
      raise (showPower s d false) Blk.pwr 0x0102 .info (d + 2 ^ 8 * 1))

/-! ### Power failure (R666–R668, Table 14.5) -/

/-- PFAIL_ASSERTED: PFAIL_N is recognised low (R667). -/
def execPfailAsserted (s : State) : Out :=
  .next (if s.bit Reg.PWR_PFAIL_LOW then s
    else
      let s := (s.inc Reg.PWR_PFAIL_COUNT).wr Reg.PWR_PFAIL_LOW 1
      let erase := match s.grn.run with
        | some (.erase ..) => true
        | _ => false
      let s := { s with grn := { s.grn with failHold := erase } }
      let s := if s.rst.porHeld || s.rst.porstLow then s else bbxPowerFail s
      raise s Blk.pwr 0x0104 .warn 0)

/-- PFAIL_CLEARED: PFAIL_N is recognised high while the rails are within their windows (R668). -/
def execPfailCleared (ms : Nat) (s : State) : Out :=
  .next (if !s.bit Reg.PWR_PFAIL_LOW then s
    else raise { s.wr Reg.PWR_PFAIL_LOW 0 with grn := { s.grn with failHold := false } } Blk.pwr 0x0105 .info (ms % 2 ^ 32))

/-! ### Temperature (R671–R682) -/

/-- The neighbours of a sensor in the grid of 4 rows and 8 columns (R671). -/
def neighbours (n : Nat) : List Nat :=
  let near := fun (a b : Nat) => decide (a ≤ b + 1) && decide (b ≤ a + 1)
  (List.range 32).filter (fun m => m != n && near (m / 8) (n / 8) && near (m % 8) (n % 8))

/-- Insert into a rising list of integers. -/
def insertInt (x : Int) : List Int → List Int
  | [] => [x]
  | y :: ys => if x ≤ y then x :: y :: ys else y :: insertInt x ys

/-- Twice the median of a list: the mean of the two middle values for an even count (R672). (DEDUCED, log 41) -/
def median2 (xs : List Int) : Option Int :=
  let l := xs.foldl (fun l x => insertInt x l) []
  let n := l.length
  if n = 0 then none else some (l.getD ((n - 1) / 2) 0 + l.getD (n / 2) 0)

/-- One sample of the sensors, its readings in 0.125 °C, and the sensors that were excluded before it. -/
structure ThmView where
  t : List Int
  excl : Nat

/-- The reading of a sensor. -/
def ThmView.get (x : ThmView) (n : Nat) : Int := x.t.getD n 0

/-- The readings of a sensor's valid neighbours. -/
def ThmView.around (x : ThmView) (n : Nat) : List Int := ((neighbours n).filter (fun m => !bitAt x.excl m)).map x.get

/-- The cross-check of one sensor (R672, R674). -/
def checkSensor (x : ThmView) (s : State) (n : Nat) : State :=
  let ns := x.around n
  let m := (median2 ns).getD 0
  let off := (2 * x.get n - m).natAbs
  let s := s.wrInt (Reg.THM_SENS_READING n) (x.get n)
  if bitAt x.excl n then
    let k := if !ns.isEmpty ∧ off ≤ 80 then Tab.get 0 s.rst.thm.near n + 1 else 0
    if 10000 ≤ k then
      let s := { s with rst := { s.rst with thm := { s.rst.thm with near := Tab.put 0 s.rst.thm.near n 0 } } }
      let s := (s.wr (Reg.THM_SENS_EXCLUDED n) 0).wr Reg.THM_EXCL (scopeLess32 (s.rd Reg.THM_EXCL) n)
      raise s Blk.thm 0x0107 .info n
    else { s with rst := { s.rst with thm := { s.rst.thm with near := Tab.put 0 s.rst.thm.near n k } } }
  else
    let k := if 2 ≤ ns.length ∧ 160 < off then Tab.get 0 s.rst.thm.far n + 1 else 0
    if 200 ≤ k then
      let s := { s with rst := { s.rst with thm := { s.rst.thm with far := Tab.put 0 s.rst.thm.far n 0 } } }
      let s := (s.wr (Reg.THM_SENS_EXCLUDED n) 1).wr Reg.THM_EXCL (setBitAt (s.rd Reg.THM_EXCL) n true)
      raise s Blk.thm 0x0106 .warn (n + 2 ^ 32 * unsignedOf 16 (x.get n) + 2 ^ 48 * unsignedOf 16 (m / 2))
    else { s with rst := { s.rst with thm := { s.rst.thm with far := Tab.put 0 s.rst.thm.far n k } } }
where
  /-- A mask of 32 bits without one. -/
  scopeLess32 (m n : Nat) : Nat := setBitAt m n false

/-- The estimate of an excluded sensor (R673). (DEDUCED, log 41) -/
def ThmView.estimate (x : ThmView) (n : Nat) : Option Int :=
  match median2 (x.around n) with
  | some m => some (m / 2)
  | none => ((List.range 32).filter (fun m => !bitAt x.excl m)).foldl (fun o m => some (max (o.getD (x.get m)) (x.get m))) none

/-- Tj and the sensor that gives it (R676). (DEDUCED, log 41) -/
def ThmView.tj (x : ThmView) : Option (Int × Nat) :=
  (List.range 32).foldl (fun o n =>
    let v := if bitAt x.excl n then x.estimate n else some (x.get n)
    match v, o with
    | some v, some (w, m) => if w < v then some (v, n) else some (w, m)
    | some v, none => some (v, n)
    | none, o => o) none

/-- THM_LIM.WARN and THROTTLE in 0.125 °C; values outside their ranges act as 105 and 112 °C. -/
def thmLimits (s : State) : Int × Int :=
  let w := s.rd Reg.THM_LIM_WARN
  let t := s.rd Reg.THM_LIM_THROTTLE
  ((if 85 ≤ w ∧ w ≤ 105 then w else 105) * 8, (if 90 ≤ t ∧ t ≤ 112 then t else 112) * 8)

/-- The rise over 250 ms (R677). (DEDUCED, log 41) -/
def riseStep (s : State) (tj : Int) : State :=
  let x := s.rst.thm
  let amount := max (s.rd Reg.THM_CFG_RISE) 1
  let d := x.hist[249]?.map (fun h => tj - h)
  let now := d.any (fun d => decide ((amount : Int) ≤ 2 * d))
  let calm := if now then 0 else x.calm + 1
  let s := { s with rst := { s.rst with thm := { x with steep := now, calm := calm, hist := (tj :: x.hist).take 250 } } }
  if now && x.steep && !s.bit Reg.THM_STATUS_RISE then
    raise (s.wr Reg.THM_STATUS_RISE 1) Blk.thm 0x0103 .warn (unsignedOf 16 (d.getD 0))
  else if s.bit Reg.THM_STATUS_RISE && decide (10000 ≤ calm) then s.wr Reg.THM_STATUS_RISE 0
  else s

/-- The throttle reaches a level (R678). -/
def throttleTo (s : State) (level : Nat) (tj : Int) : State :=
  let s := { s with rst := { s.rst with thm := { s.rst.thm with level := level, ms := 0, cool := 0 } } }
  raise s Blk.thm 0x0102 .warn (unsignedOf 16 tj + 2 ^ 16 * level)

/-- The throttle (R678, R680). (DEDUCED, log 41) -/
def throttleStep (s : State) (tj : Int) (twice : Int → Bool) : State :=
  let x := s.rst.thm
  let lim := (thmLimits s).2
  let hyst := 8 * (max (s.rd Reg.THM_CFG_HYST) 1 : Nat)
  let fresh := x.lim != s.rd Reg.THM_LIM
  let cool := if fresh ∨ lim - hyst ≤ tj then 0 else x.cool + 1
  let s := { s with rst := { s.rst with thm := { x with ms := x.ms + 1, cool := cool, lim := s.rd Reg.THM_LIM } } }
  let s :=
    if x.level = 0 ∧ twice lim then throttleTo s 1 tj
    else if x.level = 1 ∧ 1000 * max (s.rd Reg.THM_CFG_STEP) 1 ≤ x.ms + 1 ∧ lim ≤ tj then throttleTo s 2 tj
    else if 0 < x.level ∧ 1000 * max (s.rd Reg.THM_CFG_HOLD) 1 ≤ cool then
      { s with rst := { s.rst with thm := { s.rst.thm with level := x.level - 1, ms := 0, cool := 0 } } }
    else s
  s.setBit Reg.THM_STATUS_THROTTLE (decide (0 < s.rst.thm.level))

/-- The warning (R678, R680). -/
def warnStep (s : State) (tj : Int) (sensor : Nat) (twice : Int → Bool) : State :=
  let lim := (thmLimits s).1
  let hyst := 8 * (max (s.rd Reg.THM_CFG_HYST) 1 : Nat)
  if !s.bit Reg.THM_STATUS_WARN && twice lim then
    raise (s.wr Reg.THM_STATUS_WARN 1) Blk.thm 0x0101 .warn (unsignedOf 16 tj + 2 ^ 16 * sensor)
  else if s.bit Reg.THM_STATUS_WARN && decide (tj < lim - hyst) then s.wr Reg.THM_STATUS_WARN 0
  else s

/-- 120 °C (R678, R682). (DEDUCED, log 41) -/
def critStep (s : State) (tj : Int) (sensor : Nat) (twice : Int → Bool) : State :=
  if !s.bit Reg.THM_STATUS_CRIT && twice 960 then
    enterL4 (raise (s.wr Reg.THM_STATUS_CRIT 1) Blk.thm 0x0104 .safety (unsignedOf 16 tj + 2 ^ 16 * sensor)) 21 true
  else if tj < 960 then s.wr Reg.THM_STATUS_CRIT 0
  else s

/-- What Tj does (R676–R681). -/
def thermalStep (s : State) (tj : Int) (sensor : Nat) : State :=
  let prev := s.rst.thm.hist.head?
  let twice := fun (lim : Int) => decide (lim ≤ tj) && prev.any (fun p => decide (lim ≤ p))
  let s := (s.wr Reg.THM_TJ_SENSOR sensor).wrInt Reg.THM_TJ_TJ tj
  let s := if s.rd Reg.THM_PEAK_TJ = 0 ∨ s.rdInt Reg.THM_PEAK_TJ < tj then s.wrInt Reg.THM_PEAK_TJ tj else s
  let s := critStep (throttleStep (warnStep (riseStep s tj) tj sensor twice) tj twice) tj sensor twice
  let rise := s.rd Reg.THM_STATUS_RISE
  let req := max (max (s.rd Reg.THM_STATUS_DEGRADED) rise) s.rst.thm.level
  let s := (s.wr Reg.THM_STATUS_SHED_REQ req).wr Reg.THM_STATUS_FAN_FULL (max rise (s.rd Reg.THM_STATUS_WARN))
  { s with thr := { s.thr with shedThm := req } }

/-- THM_SAMPLE: the sensors are sampled, cross-checked, and Tj is compared with the limits (R671–R681). -/
def execThmSample (t : List Int) (s : State) : Out :=
  if s.rst.porHeld || s.rst.porstLow then .next s
  else
    let x : ThmView := ⟨t, s.rd Reg.THM_EXCL⟩
    let s := (List.range 32).foldl (checkSensor x) s
    let n := popCount 32 (s.rd Reg.THM_EXCL)
    let was := s.bit Reg.THM_STATUS_DEGRADED
    let s := (s.wr Reg.THM_STATUS_EXCL_COUNT n).setBit Reg.THM_STATUS_DEGRADED (decide (8 < n))
    let s := if 8 < n ∧ !was then raise s Blk.thm 0x0108 .fault n else s
    match x.tj with
    | some (tj, sensor) => .next (thermalStep s tj sensor)
    | none => .next s

/-! ### The hardware thermal trip (R683–R685, R688) -/

/-- A program pulse in progress at the trip completes (R684). -/
def finishProgram (s : State) : State :=
  match s.grn.run with
  | some (.program _ _ cells) => { gCells s cells with grn := { (gCells s cells).grn with run := none } }
  | _ => s

/-- THERMAL_TRIP: a comparator measures 125 °C (R683, R684). -/
def execThermalTrip (mask : Fin 16) (s : State) : Out :=
  if s.rst.trip || s.rst.porHeld || s.rst.porstLow then .next s
  else
    let e := mkEvent Blk.thm 0x0105 .safety mask
    let s := { s with events := e :: s.events }
    let s := if s.rd Reg.BBX_STATUS_STATE = 2 then bbxOffer s e false else freezeRing (writeNow s e)
    let s := recordReset (finishProgram s) 14 scopeWarm 0 0 false s.tick
    let s := assertOrder.foldl (fun s d => showPower (resetPd scopeAll 14 s d) d false) s
    let s := { s with rst := { s.rst with trip := true, rel := 0, on := 0, done := 0, code := 14, imgCode := 14, delayed := [], owlOff := [] } }
    .next (silentPins ((s.wr Reg.RST_STATUS_BUSY 0).wr Reg.RST_STATUS_DELAYED 0) false)

end Sys2Proof.Machine
end

