-- ==== Sys2Proof/Machine/Pnl.lean ====
section
/-! DEFINITION. The panel: key matrix, ladder keys, combinations, key lock, event FIFO and encoders ("Panel and serial ports"). -/

namespace Sys2Proof.Machine

/-! ### The event FIFO -/

/-- PNL_EVT_POP: a read of PNL_EVT (R817); the entry LOST is written as soon as there is room (R818). A read by an initiator whose reads
clear no RC field leaves the FIFO as it is (R14). (DEDUCED, log 47) -/
def execPnlEvtPop (i : Ident) (ms : Nat) (s : State) : Out :=
  let s := panelAt s ms
  let addr := 0xA0000C
  if debugShut s i then .next { cfgViol s.used Blk.pnl i addr with resp := some s.free }
  else if !domainUp s 22 then .next { isoErr s Blk.pnl i addr 22 with resp := some 0xFFFFFFFF }
  else match s.pnl.fifo with
    | [] => .next { s with resp := some 0 }
    | w :: ws =>
      if !clearsOnRead i then .next { s with resp := some w }
      else
        let n := s.pnl.lost
        let s := setFifo s ws
        let s := if n = 0 then s else pushEntry { s with pnl := { s.pnl with lost := 0 } } pnlLost (min n 255)
        .next { s with resp := some w }

/-! ### Keys (R810–R816) -/

/-- Set a key, with its bits of PNL_PRESSED and PNL_MASKED. -/
def setKey (s : State) (k : Nat) (x : Key) : State :=
  let s := { s with pnl := { s.pnl with keys := Tab.put {} s.pnl.keys k x } }
  let p := Reg.PNL_PRESSED (k / 32)
  let m := Reg.PNL_MASKED (k / 32)
  (s.wr p (setBitAt (s.rd p) (k % 32) (x.down && !x.masked))).wr m (setBitAt (s.rd m) (k % 32) x.masked)

/-- One scan of a key that reads `closed`: its debounced level (R810), with the entries of a press, a release and the end of a
mask (R813). -/
def debounceKey (s : State) (k : Nat) (closed : Bool) : State :=
  let x := keyAt s k
  let x := { x with seen := x.seen || !closed }
  if closed == x.down then setKey s k { x with cnt := 0 }
  else if x.cnt + 1 < s.rd Reg.PNL_CFG_DEB then setKey s k { x with cnt := x.cnt + 1 }
  else if closed then
    unlockPress (keyEntry (setKey s k { x with down := true, masked := false, cnt := 0, since := s.pnl.ms, long := false }) pnlPress k) k
  else
    keyEntry (setKey s k { x with down := false, masked := false, cnt := 0 }) (if x.masked then pnlUnstuck else pnlRelease) k

/-- A long press writes one LONG entry (R815). -/
def longKey (s : State) (k : Nat) : State :=
  let x := keyAt s k
  if keyDown s k && !x.long && decide (s.rd Reg.PNL_CFG_LONG * 100 ≤ s.pnl.ms - x.since) then
    keyEntry (setKey s k { x with long := true }) pnlLong k
  else s

/-- A key pressed for STUCK seconds is masked (R813). -/
def stuckKey (s : State) (k : Nat) : State :=
  let x := keyAt s k
  if keyDown s k && decide (s.rd Reg.PNL_CFG_STUCK * 1000 ≤ s.pnl.ms - x.since) then
    keyEntry (setKey s k { x with masked := true }) pnlStuck k
  else s

/-- One scan of a key: R810, R815, R813. (DEDUCED, log 47) -/
def scanKey (s : State) (k : Nat) (closed : Bool) : State := stuckKey (longKey (debounceKey s k closed) k) k

/-! ### Combinations (R820–R823) -/

/-- The key codes of a combination. -/
def comboKeys (s : State) (i : Nat) : List Nat :=
  ((List.range 4).map (fun n => fieldOf (s.reg (Reg.PNL_COMBO_KEYS i).key) (8 * n) 8)).filter (· != 0xFF)

/-- The lowest enabled combination with an action. -/
def comboWith (s : State) (action : Nat) : Option Nat :=
  (List.range 4).find? (fun i => s.bit (Reg.PNL_COMBO_CCFG_EN i) && s.rd (Reg.PNL_COMBO_CCFG_ACTION i) == action)

/-- How long a combination has been held, set. -/
def setHold (s : State) (i : Nat) (h : Option (Nat × Bool)) : State :=
  { s with pnl := { s.pnl with hold := Tab.put none s.pnl.hold i h } }

/-- Combination `i` after a scan: the state, and whether its warm reset is due. (DEDUCED, log 47) -/
def comboStep (s : State) (i : Nat) : State × Bool :=
  let ks := comboKeys s i
  if !s.bit (Reg.PNL_COMBO_CCFG_EN i) || !ks.all (keyDown s) then (setHold s i none, false)
  else
    let h := (Tab.get none s.pnl.hold i).getD (s.pnl.ms, false)
    if h.2 || decide (s.pnl.ms - h.1 < s.rd (Reg.PNL_COMBO_CCFG_HOLD i) * 100) then (setHold s i (some h), false)
    else
      let s := setHold s i (some (h.1, true))
      if !ks.all (fun k => (keyAt s k).seen) || (s.bit Reg.PNL_STATUS_LOCKED && !s.bit (Reg.PNL_COMBO_CCFG_LOCKED_OK i)) then (s, false)
      else
        let s := pnlEntry s pnlCombo i
        if comboWith s 2 = some i then (panelLock s, false) else (s, decide (comboWith s 1 = some i))

/-- The combinations after a scan; the panel combination's reset is requested last (R821). -/
def combos (s : State) (lost : Nat) : State :=
  let p := (List.range 4).foldl (fun p i => let q := comboStep p.1 i; (q.1, if q.2 then some i else p.2)) (s, (none : Option Nat))
  match p.2 with
  | none => p.1
  | some i => resetRequest (raise p.1 Blk.pnl 0x0101 .warn i) 12 scopeWarm 0 lost

/-! ### The matrix (R809–R814) -/

/-- Whether the panel is on. -/
def panelOn (s : State) : Bool := domainUp s 22 && s.bit Reg.PNL_CTRL_EN

/-- Whether a column holds a masked key. -/
def maskedColumn (s : State) (c : Nat) : Bool := (List.range 8).any (fun r => (keyAt s (8 * r + c)).masked)

/-- Whether the matrix drives a column low in idle: every column that holds no masked key (R809, R814). Off, it drives every column
high (R862). -/
def idleColumnLow (s : State) (c : Nat) : Bool := panelOn s && !s.bit Reg.PNL_STATUS_SCANNING && !maskedColumn s c

/-- KEY_WAKE: in idle a row goes low. Every key of a row that was high, in a column that idle drives, has been seen released. -/
def execKeyWake (high : BitVec 8) (ms : Nat) (s : State) : Out :=
  let s := panelAt s ms
  if !panelOn s || s.bit Reg.PNL_STATUS_SCANNING then .next s
  else
    let ks := (List.range 64).filter (fun k => bitAt high.toNat (k / 8) && idleColumnLow s (k % 8))
    let s := ks.foldl (fun s k => setKey s k { keyAt s k with seen := true }) s
    .next (s.wr Reg.PNL_STATUS_SCANNING 1)

/-- Whether the key keeps its level in this scan: the other three corners of a rectangle are closed (R811). (DEDUCED, log 47) -/
def ghosted (closed k : Nat) : Bool :=
  let r := k / 8
  let c := k % 8
  (List.range 8).any fun r' => r' != r && bitAt closed (8 * r' + c) &&
    (List.range 8).any fun c' => c' != c && bitAt closed (8 * r + c') && bitAt closed (8 * r' + c')

/-- A key of a scan. -/
def matrixKey (closed : Nat) (s : State) (k : Nat) : State :=
  if !s.bit Reg.PNL_CTRL_DIODES && ghosted closed k then stuckKey (longKey (setKey s k { keyAt s k with cnt := 0 }) k) k
  else scanKey s k (bitAt closed k)

/-- Whether the matrix returns to idle after a scan (R809, R812). (DEDUCED, log 47) -/
def matrixIdle (s : State) (closed : Nat) : Bool :=
  (List.range 64).all fun k => (keyAt s k).masked || (!bitAt closed k && !(keyAt s k).down)

/-- KEY_SCAN: one scan of the matrix. -/
def execKeyScan (closed : BitVec 64) (ms lost : Nat) (s : State) : Out :=
  let s := panelAt s ms
  if !panelOn s || !s.bit Reg.PNL_STATUS_SCANNING then .next s
  else
    let s := (List.range 64).foldl (matrixKey closed.toNat) s
    .next (combos (if matrixIdle s closed.toNat then s.wr Reg.PNL_STATUS_SCANNING 0 else s) lost)

/-- MASKED_COLUMN_SCAN: idle scans a column that holds a masked key; another key of it that reads closed starts scanning (R814). -/
def execMaskedColumnScan (c : Fin 8) (closed : BitVec 8) (ms lost : Nat) (s : State) : Out :=
  let s := panelAt s ms
  if !panelOn s || s.bit Reg.PNL_STATUS_SCANNING || !maskedColumn s c.val then .next s
  else
    let wake := (List.range 8).any fun r => bitAt closed.toNat r && !(keyAt s (8 * r + c.val)).masked
    let s := (List.range 8).foldl (fun s r => scanKey s (8 * r + c.val) (bitAt closed.toNat r)) s
    .next (combos (if wake then s.wr Reg.PNL_STATUS_SCANNING 1 else s) lost)

/-- LADDER_SAMPLE: a sample of a ladder's AUX channel (R816). -/
def execLadderSample (l : Fin 2) (code : Fin 4096) (ms lost : Nat) (s : State) : Out :=
  let s := panelAt s ms
  if !panelOn s || !domainUp s 20 || !s.bit (Reg.PNL_LADDER_CFG_EN l.val) then .next s
  else
    let ix := (List.range 8).find? (fun k => decide (code.val ≤ s.rd (Reg.PNL_LADDER_THR_CODE l.val k)))
    .next (combos ((List.range 8).foldl (fun s k => scanKey s (64 + 8 * l.val + k) (decide (ix = some k))) s) lost)

/-! ### PNL_CTRL -/

/-- PNL_UNLOCK: a write of 1 to UNLOCK. -/
def execPnlUnlock (a : Access) (v : Word) (ms : Nat) (s : State) : Out :=
  .next (withWrite (panelAt s ms) a 0xA00000 Blk.pnl 22 0xA00000 fun s => writePnlCtrl s a.init v)

/-! ### Encoders (R826–R828) -/

/-- A line after one sample: a level is accepted after FILT equal samples in a row (R826). -/
def lineSample (n : Nat) (x : Line) (v : Bool) : Line :=
  if v == x.level then { x with cnt := 0 } else if x.cnt + 1 < n then { x with cnt := x.cnt + 1 } else ⟨v, 0⟩

/-- The samples after which an encoder accepts a level; FILT 0 acts as 1 (Table 18.6). -/
def qepFilt (s : State) (e : Nat) : Nat := max 1 (s.rd (Reg.PNL_QEP_QCFG_FILT e))

/-- An encoder beside its registers. -/
def qepOf (s : State) (e : Nat) : Qep := Tab.get {} s.pnl.qep e

/-- Set an encoder. -/
def setQep (s : State) (e : Nat) (x : Qep) : State := { s with pnl := { s.pnl with qep := Tab.put {} s.pnl.qep e x } }

/-- The position of accepted levels in the cycle of A leading B. -/
def quadrant (a b : Bool) : Nat := if a then (if b then 2 else 1) else if b then 3 else 0

/-- COUNT moves; it wraps. -/
def moveCount (s : State) (e n : Nat) (up : Bool) : State :=
  let f := Reg.PNL_QEP_COUNT e
  s.wr f (if up then s.rd f + n else s.rd f + (2 ^ 32 - n))

/-- One sample of both lines of an encoder (R826, R827). An encoder that is off follows the levels and counts nothing. (DEDUCED, log 47) -/
def qepSample (e : Nat) (s : State) (v : Bool × Bool) : State :=
  let x := qepOf s e
  let y := { x with a := lineSample (qepFilt s e) x.a v.1, b := lineSample (qepFilt s e) x.b v.2 }
  let a := y.a.level != x.a.level
  let b := y.b.level != x.b.level
  if !panelOn s || !s.bit (Reg.PNL_QEP_QCFG_EN e) || !(a || b) then setQep s e y
  else if a && b then
    let s := ((setQep s e y).inc (Reg.PNL_QEP_ERR_QEP_ERR e)).wr (Reg.PNL_QEP_ERR_FLAG e) 1
    match x.dir with
    | none => s
    | some up => if s.bit (Reg.PNL_QEP_QCFG_STEP2 e) then moveCount s e 2 up else s
  else
    let lead := (quadrant y.a.level y.b.level + 4 - quadrant x.a.level x.b.level) % 4 == 1
    let up := lead != s.bit (Reg.PNL_QEP_QCFG_SWAP e)
    moveCount (setQep s e { y with dir := some up }) e 1 up

/-- QEP_EDGE: the samples up to a change of an accepted line. -/
def execQepEdge (e : Fin 4) (qa qb : List Bool) (s : State) : Out :=
  .next (if domainUp s 22 then (qa.zip qb).foldl (qepSample e.val) s else s)

/-- One sample of the index line of an encoder: an accepted rising edge copies COUNT (R828). -/
def indexSample (e : Nat) (s : State) (v : Bool) : State :=
  let x := qepOf s e
  let y := { x with index := lineSample (qepFilt s e) x.index v }
  let rise := y.index.level && !x.index.level
  let s := setQep s e y
  if !rise || !panelOn s || !s.bit (Reg.PNL_QEP_QCFG_EN e) || !s.bit (Reg.PNL_QEP_QCFG_IDX_EN e) then s
  else
    let s := s.wr (Reg.PNL_QEP_IDX_LATCH e) (s.rd (Reg.PNL_QEP_COUNT e))
    if s.bit (Reg.PNL_QEP_QCFG_IDX_CLR e) then s.wr (Reg.PNL_QEP_COUNT e) 0 else s

/-- QEP_INDEX: the samples up to an accepted rising edge of the index line. -/
def execQepIndex (x : QepIndexIn) (s : State) : Out :=
  .next (if domainUp s 22 then x.samples.foldl (indexSample x.qep.val) s else s)

end Sys2Proof.Machine
end

