-- ==== Sys2Proof/Machine/Saf.lean ====
section
/-! DEFINITION. Owl, the service levels, the config sentinel's checks, the Gleaner, fault injection and the debug port ("Safety,
degradation and guarantees"). -/

namespace Sys2Proof.Machine

/-! ### The minimum service set and SAF_STATUS (R556, R563, R584) -/

/-- Whether every input that feeds a class P channel yields samples, itself or by its twin. -/
def pInputsOk (s : State) : Bool := (List.range 48).all (fun i => !inputOn s i || !feedsP s i || !inputDead s i)

/-- The external ports with an enabled publication. -/
def pubPorts (s : State) : Nat :=
  let m := (List.range 64).foldl (fun m n => if s.bit (Reg.MPR_SV_CFG_EN n) then Nat.lor m (s.rd (Reg.MPR_SV_CFG_PORTS n)) else m) 0
  let m := (List.range 128).foldl (fun m g => if s.bit (Reg.MPR_GOOSE_CFG_EN g) then Nat.lor m (s.rd (Reg.MPR_GOOSE_CFG_PORTS g)) else m) m
  (List.range 32).foldl (fun m n => if s.bit (Reg.MPR_C37_CFG_EN n) then Nat.lor m (templateMask s (192 + n)) else m) m

/-- Whether at least one output path is in service. -/
def pathLeft (s : State) : Bool :=
  let p := s.rd Reg.SAF_PATHS_OK
  Nat.land (Nat.land p 0x3F) (pubPorts s) != 0 || (bitAt p 6 && domainUp s 13 && s.bit Reg.HIF_STATUS_LINK_UP)

/-- The rows of Table 12.5 that are in service. -/
def minSet (s : State) : Nat :=
  let quads := ((List.range 80).filter (inService s)).map (· / 20)
  (domainUp s 0 && domainUp s 1).toNat + 2 * (domainUp s 2).toNat + 4 * (domainUp s 3 && pInputsOk s).toNat +
    8 * (quads.any (fun q => q != quads.headD 0)).toNat + 16 * (domainUp s 18).toNat + 32 * (pathLeft s).toNat

/-- Whether the parameter record applies to another image (R563). (DEDUCED, log 35) -/
def recordMismatch (s : State) : Bool := s.saf.record.any (fun r => r.imageId != s.rd Reg.IMG_ACTIVE_ID)

/-- The state with the registers that follow others set: what a read of `addr` shows (R556, R563, R584, R664, R861). -/
def viewOf (s : State) (addr : Nat) : State :=
  if addr = Reg.SAF_STATUS.key ∨ addr = Reg.SAF_MIN_SET.key then
    let m := minSet s
    let s := ((s.wr Reg.SAF_MIN_SET_OK m).setBit Reg.SAF_STATUS_MIN_SET_OK (m == 63)).setBit Reg.SAF_STATUS_SAFE_OP (safeOp s)
    if s.saf.record.isSome then s.wr Reg.SAF_STATUS_PARAM (if recordMismatch s then 2 else 0) else s
  else if addr = Reg.PWR_OFF_OK.key then s.wr Reg.PWR_OFF_OK (scopeOf ((List.range 24).filter (offOk s)))
  else match (List.range 6).find? (fun p => addr == (Reg.IIC_SFP p).key) with
    | some p => s.setBit (Reg.IIC_SFP_TXDIS p) (!s.bit (Reg.PKT_PORT_PCFG_EN p) || s.bit (Reg.IIC_SFP_TXDIS_FORCE p))
    | none => s

/-! ### Shed requests (R581, R589) -/

/-- The request of SAF follows the two that it holds. -/
def setShed (s : State) : State :=
  let r := max s.saf.adoptShed s.saf.diagShed.toNat
  { s.wr Reg.SAF_STATUS_SHED_REQ r with thr := { s.thr with shedSaf := r } }

/-- Whether a core of a class is without adopter (R324). -/
def withoutAdopter (s : State) (cls : Nat → Bool) : Bool :=
  s.thr.orphans.any (fun c => s.thr.reported.contains c && cls (coreClass s c))

/-- The shed level that cores without adopter call for. -/
def adoptNeed (s : State) : Nat := if withoutAdopter s (· == 0) then 2 else if withoutAdopter s (fun _ => true) then 1 else 0

/-! ### Service levels (R580–R584) -/

/-- Whether an image is RUNNING. -/
def runningImage (s : State) : Bool :=
  let st := s.rd Reg.TIK_STATUS_STATE
  imageLive s && (st == 2 || st == 3 && s.tik.stateBefore == 2)

/-- The level of Table 12.4 while an image is RUNNING and no L4 is latched. (DEDUCED, log 32) -/
def levelFor (s : State) : Nat :=
  let shed := s.rd Reg.THR_STATUS_SHED
  if 2 ≤ shed ∨ withoutAdopter s (· == 0) then 3
  else if shed = 1 ∨ withoutAdopter s (fun _ => true) then 2
  else if s.rd Reg.THR_STATUS_SPARES_FREE < 4 then 1
  else 0

/-- The failure ID of an element that is missing from the minimum service set: two cores in different quadrants ID 5, the inputs ID 14,
the output paths ID 18; of the others the spec gives none, so it is a free value. (DEDUCED, log 32) -/
def minSetId (s : State) (m : Nat) : Nat :=
  if m % 4 = 3 ∧ bitAt m 2 = false ∧ domainUp s 3 then 14
  else if m % 8 = 7 ∧ bitAt m 3 = false then 5
  else if m % 32 = 31 then 18
  else s.free.toNat % 256

/-- The safe state when the minimum service set fails (R584). -/
def minSetStep (s : State) : State :=
  let m := minSet s
  if m = 63 || s.bit Reg.SAF_STATUS_LATCHED then s else safeState s.used (minSetId s m)

/-- Phase 4: the shed request, the minimum service set and the level (R580–R584). (DEDUCED, log 32) -/
def levelStep (s : State) : State :=
  let need := adoptNeed s
  let s := setShed { s with saf := { s.saf with adoptShed := if s.saf.restore then need else max s.saf.adoptShed need, restore := false } }
  if !runningImage s then enterL4 s 0 false
  else
    let s := minSetStep s
    if s.bit Reg.SAF_STATUS_LATCHED then s
    else
      let old := s.rd Reg.SAF_STATUS_LEVEL
      let new := levelFor s
      if new = old then s
      else raise (s.wr Reg.SAF_STATUS_LEVEL new) Blk.saf 0x0101 (if new < old then .info else .warn) (old + 2 ^ 8 * new)

/-! ### Pins (R563, R568–R570) -/

/-- Whether ALM output `n` is energised. -/
def almOn (s : State) (n : Nat) : Bool :=
  let p := s.rd (Reg.SAF_ALM_CFG_SLOT n)
  let v := s.reg (prodValue p).key
  let lim := s.reg (Reg.SAF_ALM_LIMIT n).key
  s.bit (Reg.SAF_ALM_CFG_EN n) && s.rd Reg.SAF_STATUS_LEVEL != 4 && !recordMismatch s && !s.saf.owlLatch && !s.rst.trip &&
    validityOf (s.rd (prodQual p)) == 0 && (if s.bit (Reg.SAF_ALM_CFG_POL n) then fpLe lim v else fpLt v lim)

/-- Slot 500: the ALM outputs follow their product slots (R570). (DEDUCED, log 34) -/
def almUpdate (s : State) : State :=
  if !domainUp s 1 then s
  else { s with saf := { s.saf with alm := ((List.range 8).filter (almOn s)).foldl (fun m n => m + 2 ^ n) 0 } }

/-- Slot 508: HEALTHY is inverted in every even tick whose handshake passed (R569). (DEDUCED, log 34) -/
def healthyStep (s : State) (passed : Bool) : State :=
  if passed && s.rd Reg.SAF_STATUS_LEVEL != 4 && s.tick % 2 == 0 && !s.saf.owlLatch && !s.rst.trip then
    { s with saf := { s.saf with healthy := !s.saf.healthy } }
  else s

/-! ### Injection (R591, Table 12.10) -/

/-- Whether an injection is in force in this tick. -/
def injecting (s : State) (kind target : Nat) : Bool :=
  s.saf.inject.contains (kind, target) || s.saf.inject.contains (kind + 16, target)

/-- Whether an injection without target is in force. -/
def injectingAny (s : State) (kind : Nat) : Bool := s.saf.inject.any (fun p => p.1 == kind || p.1 == kind + 16)

/-- One bit of a covered word of a chunk is flipped; which one is open. (DEDUCED, log 33) -/
def flipBit (s : State) (c : Nat) : State :=
  let ws := (chunkWords (c % 64)).filter (fun w => !skippedPd s (keyPd w.2.1))
  let r := s.free.toNat
  match ws[r % 65536 % ws.length]? with
  | none => s
  | some (_, k, m) =>
    let bs := bitList 32 m.toNat
    let mask := BitVec.ofNat 32 (2 ^ bs.getD (r / 65536 % bs.length) 0)
    let s := s.used.setReg k (s.reg k ^^^ mask)
    { s with saf := { s.saf with flips := (k, mask, s.reg k) :: s.saf.flips } }

/-! ### Rails (Table 12.2, IDs 10 to 13) -/

/-- The domain that a rail of SAF_RAIL supplies, for PD02–PD23. -/
def railPd (r : Nat) : Option Nat := if 5 ≤ r ∧ r ≤ 26 then some (r - 3) else none

/-- The nominal voltage of a rail in mV: VDD_CORE, VDD_SRAM, VDD_AON, VDDA_SDS, VDDA_ADC, then each domain's (Table 14.4). -/
def railNominal (r : Nat) : Nat :=
  if r < 5 then [750, 800, 800, 850, 1800].getD r 0
  else match r - 3 with
    | 12 | 18 => 800
    | 14 | 15 | 16 => 850
    | _ => 750

/-- Whether a sample lies outside a rail's window: of the parameter record, or ±6%. -/
def railOut (s : State) (r mv : Nat) : Bool :=
  let w := (s.saf.record.bind (fun x => x.rails[r]?)).getD (0, 0)
  if w = (0, 0) then decide (100 * mv < 94 * railNominal r) || decide (106 * railNominal r < 100 * mv)
  else decide (mv < w.1) || decide (w.2 < mv)

/-- The reaction of Table 12.3 to a rail outside its window; it names none for VDDA_SDS and VDDA_ADC. Owl ignores the rail of a domain
that it powers off. (DEDUCED, log 35) -/
def railReaction (s : State) (r lost : Nat) : State :=
  match railPd r with
  | none => if r < 3 then safeState s 10 else s
  | some d =>
    if d = 2 ∨ d = 3 ∨ d = 18 then safeState s 11
    else if 5 ≤ d ∧ d ≤ 8 then loseQuadrant s (d - 5) 2
    else resetRequest (s.wr (Reg.SAF_RAIL_FAULT r) 0) 5 (2 ^ d) 0 (if d = 17 then lost else 0)

/-- Four consecutive samples of a rail (R564, R665). (DEDUCED, log 35) -/
def railSample (s : State) (r mv lost : Nat) : State :=
  if !domainUp s 1 || (railPd r).any (fun d => !powered s d) then s
  else
    let was := s.bit (Reg.SAF_RAIL_FAULT r)
    let out := railOut s r mv
    let s := (s.wr (Reg.SAF_RAIL_MV r) mv).setBit (Reg.SAF_RAIL_FAULT r) out
    if !out || was then s else railReaction (raise s Blk.saf 0x0105 .safety (r + 2 ^ 32 * mv)) r lost

/-- SUPPLY_FAULT. -/
def execSupplyFault (rail : Fin 27) (mv : BitVec 16) (lost : Nat) (s : State) : Out := .next (railSample s rail mv.toNat lost)

/-- An injected rail fault is reported outside its window; the mV that it reports are open (Table 12.10, kind 6). (DEDUCED, log 33) -/
def injectRail (s : State) (d : Nat) : State :=
  let r := if d = 0 then 2 else d + 3
  if !domainUp s 1 || decide (23 < d) || d == 1 || (railPd r).any (fun d => !powered s d) then s
  else
    let s := s.wr (Reg.SAF_RAIL_FAULT r) 1
    railReaction (raise s.used Blk.saf 0x0105 .safety (r + 2 ^ 32 * (s.free.toNat % 65536))) r 0

/-- At a tick edge the injections of the tick before come into force; a vote summary and a readback stay wrong for the two ticks that
their detection takes. (DEDUCED, log 33) -/
def injectEdge (s : State) : State :=
  let again := (s.saf.inject.filter (fun p => p.1 == 5 || p.1 == 7)).map (fun p => (p.1 + 16, p.2))
  let new := s.saf.injectNext
  let s := { s with saf := { s.saf with inject := again ++ new, injectNext := [] } }
  new.foldl (fun s p => if p.1 = 4 then flipBit s p.2 else if p.1 = 6 then injectRail s p.2 else s) s

/-- SAF_INJECT (R591). A KIND that Table 12.10 does not list names no fault. (DEDUCED, log 33) -/
def execSafInject (a : Access) (v : Word) (s : State) : Out :=
  .next (withWrite s a 0x800000 Blk.saf 1 0x800040 fun s =>
    let kind := fieldOf v 0 4
    let target := fieldOf v 4 12
    if fieldOf v 16 16 ≠ 0xC0DE || !s.bit Reg.SAF_CTRL_INJ_EN then cfgViol s Blk.saf a.init 0x800040
    else if kind = 0 ∨ 7 < kind then s
    else
      let s := { s with saf := { s.saf with injectNext := s.saf.injectNext ++ [(kind, target)] } }
      raise s Blk.saf 0x0110 .info (kind + 2 ^ 8 * target))

/-! ### The handshake and the vote summary (R565–R567) -/

/-- HANDSHAKE_FAULT and the safe state (ID 7). -/
def handshakeFault (s : State) (reason : Nat) : State :=
  let s := if reason = 1 then { s with saf := { s.saf with handshake := none } } else s
  safeState (raise s Blk.saf 0x0103 .safety reason) 7

/-- HANDSHAKE_FAULT: Owl finds the handshake missing, early or miscounting. -/
def execHandshakeFault (reason : Fin 3) (s : State) : Out :=
  .next (if !domainUp s 1 || s.saf.handshake.isNone then s else handshakeFault s (reason + 1))

/-- What is wrong with a vote summary: 0 nothing, 1 count, 2 item CRC, 3 outcome sum (R566). -/
def summaryFault (s : State) (x : Summary) : Nat :=
  if x.count ≠ s.saf.voteExp then 1
  else if x.idCrc ≠ s.saf.voteRef then 2
  else if x.paired + x.retried + x.voted + x.unpaired + x.other ≠ x.count then 3
  else 0

/-- A vote summary with one bit flipped (Table 12.10, kind 5). -/
def flipSummary (x : Summary) (r : Nat) : Summary :=
  if r % 3 = 0 then { x with count := Nat.xor x.count (2 ^ (r / 3 % 11)) }
  else if r % 3 = 1 then { x with idCrc := Nat.xor x.idCrc (2 ^ (r / 3 % 32)) }
  else { x with paired := Nat.xor x.paired (2 ^ (r / 3 % 11)) }

/-- Owl checks the vote summary of a tick in which the pool ran: wrong in two consecutive ticks is ID 16, and wrong once a transient
(Table 12.7); then Owl receives the values in force (R567). (DEDUCED, log 34) -/
def voteStep (s : State) : State :=
  let flip := injectingAny s 5
  let x := if flip then flipSummary s.saf.summary s.free.toNat else s.saf.summary
  let s := if flip then s.used else s
  let s :=
    if s.thr.idle then s
    else
      let why := summaryFault s x
      let bad := s.saf.summaryBad
      let put := fun (n : Nat) (s : State) => { s with saf := { s.saf with summaryBad := n } }
      if why = 0 then put 0 (if bad = 0 then s else transientOpen s Blk.saf)
      else if bad = 0 then put 1 s
      else safeState (raise (put 0 s) Blk.saf 0x0107 .safety (x.count % 65536 + 2 ^ 16 * s.saf.voteExp + 2 ^ 32 * why)) 16
  { s with saf := { s.saf with voteExp := s.rd Reg.SAF_VOTE_EXP_COUNT, voteRef := s.rd Reg.SAF_VOTE_REF } }

/-- The handshake of phase 4 (R68, R565): the state, and whether the tick's handshake passed. An injection drops it. -/
def handshakeStep (s : State) : State × Bool :=
  if injectingAny s 3 then (s, false)
  else
    let ok := s.saf.handshake.all (fun n => n + 1 == s.tick)
    let s := if ok then s else handshakeFault s 3
    (voteStep { s with saf := { s.saf with handshake := some s.tick } }, ok)

/-! ### The config sentinel (R66, R573–R576) -/

/-- One chunk is compared with both references. (DEDUCED, log 19) -/
def checkChunk (again : List Nat) (s : State) (c : Nat) : State :=
  let s := setReference s c
  let v := chunkValue s c
  let ok := v == s.rd (Reg.SAF_SENT_REF c) && v == (Tab.get 0 s.saf.owlRef c).toNat
  if again.contains c then
    if ok then transient s Blk.saf 2 c else safeState (raise s Blk.saf 0x0106 .safety (c + 2 ^ 32 * v)) 17
  else if ok then s
  else
    let s := s.inc Reg.SAF_SENT_MISMATCH
    { s with saf := { s.saf with recheck := s.saf.recheck ++ [c] } }

/-- The chunks of this tick, with the rechecks of the tick before. Nothing is checked before the first activation has set the
references (R575). -/
def sentinelStep (s : State) : State :=
  if s.saf.owlRef.isEmpty then s
  else
    let again := s.saf.recheck
    let c := s.tick % 64
    (again ++ (if again.contains c then [] else [c])).foldl (checkChunk again) { s with saf := { s.saf with recheck := [] } }

/-! ### Overruns, paths, readback (IDs 6, 18, 19) -/

/-- The eighth overrun of an item (R77): OVERRUN_REPEAT, and the item's reaction (ID 6, R579). (DEDUCED, log 34) -/
def repeatStep (s : State) (n : Nat) : State :=
  let s := raise (s.inc Reg.TIK_OVR_REPEAT) Blk.tik 0x0102 .safety (n + 2 ^ 16 * 8)
  let s := (s.wr (Reg.TIK_ITEM_OVR_WINDOW n) 0)
  let s := { s with tik := { s.tik with hist := Tab.put [] s.tik.hist n [] } }
  match itemOf s n with
  | none => s
  | some it =>
    if it.cls = 0 then safeState s 6
    else raise { s with saf := { s.saf with quarantine := n :: s.saf.quarantine.filter (· != n) } } Blk.saf 0x0109 .fault
      (n + 2 ^ 16 * it.cls)

/-- Phase 4: the items whose eighth overrun fell in this tick. -/
def repeatsStep (s : State) : State :=
  s.tik.repeats.foldl repeatStep { s with tik := { s.tik with repeats := [] } }

/-- The hand-off acknowledgements of a path in this tick: none in two consecutive ticks marks it failed (ID 18). (DEDUCED, log 34) -/
def pathStep (missing : List Nat) (s : State) (p : Nat) : State :=
  let n := if missing.contains p then Tab.get 0 s.saf.pathMiss p + 1 else 0
  let s := { s with saf := { s.saf with pathMiss := Tab.put 0 s.saf.pathMiss p (min n 2) } }
  if n < 2 || !bitAt (s.rd Reg.SAF_PATHS_OK) p then s
  else raise (s.wr Reg.SAF_PATHS_OK (setBitAt (s.rd Reg.SAF_PATHS_OK) p false)) Blk.saf 0x010D .fault p

/-- The acknowledgements of phase 2, in a tick in which the pool runs. -/
def pathsStep (s : State) (missing : List Nat) : State :=
  if s.thr.idle || !domainUp s 1 then s else (List.range 7).foldl (pathStep missing) s

/-- The readback of a pin at slot 508: a difference in two consecutive ticks is ID 19. -/
def readbackPin (wrong : List Nat) (s : State) (p : Nat) : State :=
  let bad := wrong.contains p != (decide (p < 8) && injecting s 7 p)
  let n := if bad then Tab.get 0 s.saf.readMiss p + 1 else 0
  let s := { s with saf := { s.saf with readMiss := Tab.put 0 s.saf.readMiss p (min n 3) } }
  if n = 2 then safeState (raise s Blk.saf 0x0108 .safety p) 19 else s

/-! ### The parameter record (R561–R563) -/

/-- Bytes of a record. -/
def recLe (b : List Byte) (o n : Nat) : Nat := leNat ((b.drop o).take n)

/-- Whether a range of a record is 0. -/
def recZero (b : List Byte) (o n : Nat) : Bool := ((b.drop o).take n).all (· == 0)

/-- Whether a copy of the parameter record verifies (R562). (DEDUCED, log 35) -/
def recordOk (s : State) (b : List Byte) : Bool :=
  let slot := recLe b 6 1
  let f := s.img.fuses
  let pub := (b.drop 0x100).take 97
  b.take 4 == [0x46, 0x56, 0x4F, 0x50] && recLe b 4 2 == 1 && decide (slot ≤ 3) && recZero b 7 1 && recZero b 0x14 12 &&
    recZero b 0xE0 32 && recZero b 0x161 7 && decide (10 ≤ recLe b 0x10 2) && decide (recLe b 0x10 2 ≤ 10000) &&
    decide (recLe b 0x12 1 ≤ 1) && decide (10 ≤ recLe b 0x13 1) &&
    (List.range 8).all (fun n => bitsAt (recLe b (0xA0 + 8 * n) 4) 14 16 == 0) &&
    bitAt f.programmed slot && !bitAt f.revoked slot && Config.sha384 pub == Tab.get [] f.hash slot && Config.p384OnCurve pub &&
    Config.p384Verify pub (b.take 0x100) ((b.drop 0x168).take 96)

/-- The copy that Owl selects: the higher generation among those that verify. (DEDUCED, log 35) -/
def chosenRecord (s : State) : Option (List Byte) :=
  if !blockUp s 0x900000 19 then none
  else
    let a := gBytes s 0x2000 0x1C8
    let b := gBytes s 0x3000 0x1C8
    match recordOk s a, recordOk s b with
    | true, true => some (if recLe a 8 4 < recLe b 8 4 then b else a)
    | true, false => some a
    | false, true => some b
    | false, false => none

/-- PARAM_MISMATCH, once for each activation (R563). -/
def paramCheck (s : State) : State :=
  match s.saf.record with
  | none => s
  | some r =>
    if !imageLive s || !recordMismatch s || s.saf.mismatchSaid then s
    else raise { s with saf := { s.saf with mismatchSaid := true } } Blk.saf 0x010F .warn (r.imageId + 2 ^ 32 * s.rd Reg.IMG_ACTIVE_ID)

/-- The registers that a record sets (R562). -/
def loadRecord (s : State) (b : List Byte) : State :=
  let s := ((s.wr Reg.SAF_HB_CFG_TIMEOUT (recLe b 0x10 2)).wr Reg.SAF_CFG_L4_ACTION (recLe b 0x12 1)).wr Reg.SAF_CFG_L4_DELAY (recLe b 0x13 1)
  let s := (List.range 8).foldl (fun s n =>
    (s.wr (Reg.SAF_ALM_CFG n) (recLe b (0xA0 + 8 * n) 4)).wr (Reg.SAF_ALM_LIMIT n) (recLe b (0xA4 + 8 * n) 4)) s
  let rails := (List.range 32).map (fun r => (recLe b (0x20 + 4 * r) 2, recLe b (0x22 + 4 * r) 2))
  { s.wr Reg.SAF_STATUS_PARAM 0 with saf := { s.saf with record := some ⟨recLe b 0x0C 4, rails⟩ } }

/-- The ROM defaults (R561): the reset values of Table 12.13. -/
def romDefaults (s : State) : State :=
  let s := ((s.wr Reg.SAF_HB_CFG_TIMEOUT 100).wr Reg.SAF_CFG_L4_ACTION 0).wr Reg.SAF_CFG_L4_DELAY 100
  let s := (List.range 8).foldl (fun s n => (s.wr (Reg.SAF_ALM_CFG n) 0).wr (Reg.SAF_ALM_LIMIT n) 0) s
  raise { s.wr Reg.SAF_STATUS_PARAM 1 with saf := { s.saf with record := none } } Blk.saf 0x010E .warn 0

/-- OWL_PARAM_LOAD: after the Granary power-up scan (R561). -/
def execOwlParamLoad (s : State) : Out :=
  .next (if !domainUp s 1 || s.bit Reg.GRN_STATUS_SCAN then s
    else match chosenRecord s with
      | some b => paramCheck (loadRecord s b)
      | none => romDefaults s)

/-! ### Clocks, lockstep, heartbeat (R564, R568) -/

/-- CLOCK_CHECK (IDs 8 and 9). (DEDUCED, log 35) -/
def execClockCheck (clock : OwlClock) (ppm : Int) (s : State) : Out :=
  if !domainUp s 1 || decide (ppm.natAbs ≤ 80000) then .next s
  else
    let p := 2 ^ 32 * unsignedOf 32 ppm
    match clock with
    | .fclk => .next (safeState (raise s Blk.saf 0x0104 .safety (1 + p)) 8)
    | .refclk =>
      if !domainUp s 2 || s.bit Reg.TIM_STATUS_BACKUP then .next s
      else
        let s := raise s Blk.saf 0x0104 .fault (2 + p)
        .next (stateAfter s (execRefclkLost s))

/-- OWL_LOCKSTEP_MISMATCH (R568, ID 20). -/
def execOwlLockstepMismatch (s : State) : Out :=
  if !domainUp s 1 || s.saf.owlLatch then .next s
  else
    let s := { s.wr Reg.SAF_STATUS_OWL_FAULT 1 with saf := { s.saf with owlLatch := true } }
    .next (safeState (silentPins s true) 20)

/-- HEARTBEAT: any write to SAF_HB restarts the time that MGMT_HB_LOST measures. -/
def execHeartbeat (a : Access) (_v : Word) (s : State) : Out := .next (withWrite s a 0x800000 Blk.saf 1 0x800010 id)

/-- MGMT_HB_LOST: no heartbeat for TIMEOUT ms; the MGMT watchdog reset (ID 23). (DEDUCED, log 35) -/
def execMgmtHbLost (ms lost : Nat) (s : State) : Out :=
  if !domainUp s 1 || decide (ms < s.rd Reg.SAF_HB_CFG_TIMEOUT) then .next s
  else .next (resetRequest (raise s Blk.saf 0x010C .warn (ms % 2 ^ 32)) 6 (2 ^ 17) 0 lost)

/-! ### Commands and the reaction at L4 (R581, R582, R585) -/

/-- A write to SAF_CMD with its key. (DEDUCED, log 33) -/
def safCommand (s : State) (a : Access) (v : Word) (k : State → State) : State :=
  withWrite s a 0x800000 Blk.saf 1 0x800008 fun s => if fieldOf v 16 16 = 0xC0DE then k s else s

/-- SAF_RESTORE: CMD 1. -/
def execSafRestore (a : Access) (v : Word) (s : State) : Out :=
  .next (safCommand s a v fun s => { s with saf := { s.saf with restore := true } })

/-- ENTER_L4: CMD 2. (DEDUCED, log 32) -/
def execEnterL4 (a : Access) (v : Word) (s : State) : Out := .next (safCommand s a v fun s => enterL4 s 0 true)

/-- L4_ACTION: once the snapshot is written and L4_DELAY has passed (R585). (DEDUCED, log 32) -/
def execL4Action (ms lost : Nat) (s : State) : Out :=
  let due := s.bit Reg.SAF_STATUS_LATCHED && s.rd Reg.BBX_STATUS_STATE == 2 && s.bbx.done && decide (s.rd Reg.SAF_CFG_L4_DELAY ≤ ms)
  .next (if domainUp s 1 && due && s.rd Reg.SAF_CFG_L4_ACTION == 1 then resetRequest s 4 scopeWarm 0 lost else s)

/-! ### The Gleaner (R586–R589) -/

/-- The BIST of a spare starts (R587): two at a time, in different quadrants, on spares that neither adopt nor arbitrate. -/
def bistStart (s : State) (c : Nat) : State :=
  let ok := domainUp s 18 && role s c == 2 && !chosen s c && (arbitratedBy s c).isNone && decide (s.thr.bist.length < 2) &&
    s.thr.bist.all (fun b => b / 20 != c / 20)
  if ok then { s with thr := { s.thr with bist := s.thr.bist ++ [c] } } else s

/-- GLEANER_PASS_COMPLETE (R586); the request of R589 ends. -/
def execGleanerPassComplete (ms : Nat) (next : List (Fin 80)) (s : State) : Out :=
  if !domainUp s 1 then .next s
  else
    let s := (s.inc Reg.SAF_GLEAN_PASS).wr Reg.SAF_GLEAN_LAST (min ms 0xFFFFFFFF)
    let s := setShed { s.setBit Reg.SAF_STATUS_DIAG_OK (decide (ms ≤ 1000)) with saf := { s.saf with diagShed := false } }
    .next ((next.map Fin.val).foldl bistStart s)

/-- BIST_COMPLETE: a failed test retires the spare (R587). -/
def execBistComplete (core : Option (Fin 80)) (ok : Bool) (next : List (Fin 80)) (s : State) : Out :=
  let s := match core with
    | none => s
    | some c =>
      if s.thr.bist.contains c.val then
        let s := { s with thr := { s.thr with bist := s.thr.bist.filter (· != c.val) } }
        if ok then s else retireCore s c 5 0xFFFF
      else s
  .next ((next.map Fin.val).foldl bistStart s)

/-- DIAG_OVERDUE (R589, ID 22). -/
def execDiagOverdue (ms : Nat) (s : State) : Out :=
  if !domainUp s 1 || decide (ms < 1500) then .next s
  else
    let s := if s.saf.diagShed then s
      else raise (setShed { s with saf := { s.saf with diagShed := true } }) Blk.saf 0x010A .fault (ms % 2 ^ 32)
    .next (if 3000 ≤ ms then safeState s 22 else s)

/-- GLEAN_CHECK: the check after a VOTE_SPLIT (R588). (DEDUCED, log 35) -/
def execGleanCheck (item : Fin 1024) (finding : Fin 4) (s : State) : Out :=
  match s.thr.glean.find? (fun g => g.1 == item.val) with
  | none => .next s
  | some g =>
    let s := { s with thr := { s.thr with glean := s.thr.glean.erase g } }
    let s := raise s Blk.saf 0x010B (if finding.val = 0 then .info else .fault) (item + 2 ^ 16 * finding)
    .next (if finding.val = 1 then charge s g.2.1 item else if finding.val = 2 then charge s g.2.2 item else s)

/-- An uncorrectable error makes a slot's output INVALID for the tick, if it has been written already (ID 15). -/
def spoilSlot (s : State) (p : Nat) : State :=
  let q := s.rd (prodQual p)
  if q / 65536 = s.tick % 65536 then s.wr (prodQual p) (qualWord 2 0 (flagsOf q) (timeqOf q) + 2 ^ 16 * (q / 65536)) else s

/-- SRAM_UNCORR (ID 15). -/
def execSramUncorr (word : Nat) (slots : List (Fin 16384)) (s : State) : Out :=
  if !domainUp s 18 then .next s
  else
    let last := Tab.get 0 s.saf.sramLog word
    let again := decide (0 < last) && decide (s.taiNs < last - 1 + 1000000000)
    let ps := slots.map Fin.val
    let s := { s with saf := { s.saf with sramLog := Tab.put 0 s.saf.sramLog word (s.taiNs + 1), sramBad := s.saf.sramBad ++ ps } }
    let s := ps.foldl spoilSlot s
    .next (if again then safeState s 15 else s)

/-! ### The debug port (R595) -/

/-- DBG_ATTACHED: the debug port is clocked. -/
def execDbgAttached (s : State) : Out :=
  .next (if !domainUp s 23 || s.bit Reg.DBG_STATUS_ATTACHED then s
    else raise (s.wr Reg.DBG_STATUS_ATTACHED 1) Blk.dbg 0x0101 .warn 0)

/-- DBG_DETACHED: the debug port stops being clocked. -/
def execDbgDetached (s : State) : Out := .next (if domainUp s 23 then s.wr Reg.DBG_STATUS_ATTACHED 0 else s)

end Sys2Proof.Machine
end

