-- ==== Sys2Proof/Machine/Sps.lean ====
section
/-! DEFINITION. The SPI slave and the BMC view ("Panel and serial ports"). -/

namespace Sys2Proof.Machine

/-- The BMC's identity (Table 00.4). -/
abbrev bmcIdent : Ident := 0x102

/-- ERR of BV_SUMMARY is set. -/
def spsErr (s : State) : State := { s with sps := { s.sps with err := true } }

/-! ### The BMC view (Table 18.1) -/

/-- BV_SUMMARY. -/
def bvSummary (s : State) : Word :=
  let notes := bitList 64 s.mbx.bmc
  BitVec.ofNat 32 (2 ^ 16 * s.rd Reg.BBX_HEAD_SEQ + 2 ^ 14 * (!notes.isEmpty).toNat + 2 ^ 8 * notes.headD 0 + 2 ^ 7 * s.sps.err.toNat +
    2 ^ 6 * s.saf.faultN.toNat + 2 ^ 5 * s.rd Reg.SAF_STATUS_LATCHED + 2 ^ 2 * s.rd Reg.SAF_STATUS_LEVEL +
    2 * (decide (s.rd Reg.BBX_STATUS_STATE = 2)).toNat + (!notes.isEmpty).toNat)

/-- The BAR0 addresses of the copies at 0x0000, 0x0004 and 0x0018–0x0040. -/
def bvCopy (va : Nat) : Option Nat :=
  if va = 0x00 then some Reg.GLB_ID.key
  else if va = 0x04 then some Reg.GLB_REV.key
  else if 0x18 ≤ va ∧ va ≤ 0x40 then
    [Reg.BBX_BMC_PAGE.key, Reg.BBX_STATUS.key, Reg.BBX_HEAD.key, Reg.BBX_TRIG_SEQ.key, Reg.SAF_STATUS.key, Reg.SAF_FIRST_CAUSE.key,
      Reg.THM_TJ.key, Reg.RST_CAUSE.key, Reg.GRN_BOOT_STATUS.key, Reg.TIM_STATUS.key, Reg.PWR_STATUS.key][(va - 0x18) / 4]?
  else none

/-- A read of a register that the view copies: all ones and ISO_ERR in a domain that is down (R44, R238). -/
def bmcCopy (s : State) (va addr : Nat) : State :=
  match regAt addr with
  | none => { s with resp := some 0 }
  | some (b, r) =>
    let s := match downField s b r with
      | some f => isoErr s b.id bmcIdent va (fieldPd b r f)
      | none => s
    { s with resp := some (readWord (viewOf s addr) bmcIdent addr) }

/-- The ring index of the entry at an address of the black-box page (R631). -/
def pageIndex (s : State) (va : Nat) : Fin 2048 := Fin.ofNat 2048 (128 * s.rd Reg.BBX_BMC_PAGE_PAGE + (va - 0x1000) / 32)

/-- A 32-bit read of a word of the view by the BMC. -/
def bmcRead (s : State) (va : Nat) : State :=
  if va = 0x08 then { s with resp := some (bvSummary s) }
  else if va = 0x0C then { s with resp := some (BitVec.ofNat 32 s.mbx.bmc) }
  else if va = 0x10 then { s with resp := some (BitVec.ofNat 32 (s.mbx.bmc / 2 ^ 32)) }
  else if va = 0x14 then { s with resp := some (BitVec.ofNat 32 s.sps.sel) }
  else if 0x1000 ≤ va ∧ va < 0x2000 then readEntryWord s bmcIdent (pageIndex s va) (va % 32 / 4)
  else if 0x2000 ≤ va ∧ va < 0x2100 then chanRead s bmcIdent (Fin.ofNat 64 s.sps.sel) (va - 0x2000) false
  else match bvCopy va with
    | some addr => bmcCopy s va addr
    | none => { s with resp := some 0 }

/-- A 32-bit write of a word of the view by the BMC (R848). (DEDUCED, log 50) -/
def bmcWrite (s : State) (va : Nat) (v : Word) : State :=
  if va = 0x0C ∨ va = 0x10 then
    let m := v.toNat * (if va = 0x0C then 1 else 2 ^ 32)
    { s with mbx := { s.mbx with bmc := (bitList 64 m).foldl (fun n c => setBitAt n c false) s.mbx.bmc } }
  else if va = 0x14 then { s with sps := { s.sps with sel := fieldOf v 0 6 } }
  else if va = 0x18 then plainWrite s bmcIdent Reg.BBX_BMC_PAGE.key v
  else if 0x2000 ≤ va ∧ va < 0x2100 then chanWrite s ⟨bmcIdent, 15⟩ (Fin.ofNat 64 s.sps.sel) (va - 0x2000) v false
  else if va = 0x08 ∨ (bvCopy va).isSome ∨ (0x1000 ≤ va ∧ va < 0x2000) then cfgViol s Blk.sps bmcIdent va
  else s

/-! ### Transactions (R841–R847) -/

/-- The address after `n` data bytes. -/
def spsAddr (addr n : Nat) : Nat := (addr + n) % 0x4000

/-- A transaction ends: it is counted, and counted again when it set ERR. -/
def spsEnd (s : State) (err : Bool) : State :=
  let s := s.inc Reg.SPS_XACT
  if err then (spsErr s).inc Reg.SPS_ERR else s

/-- The data bytes of a READ from data byte `k` on; `w` is the latched word (R843). -/
def readBytes (addr : Nat) (late : List Nat) : Nat → Nat → Option Word → State → List Byte → State × List Byte
  | 0, _, _, s, out => (s, out.reverse)
  | n + 1, k, w, s, out =>
    let a := spsAddr addr k
    let fresh := k == 0 || a % 4 == 0
    let s := if fresh then bmcRead s (a - a % 4) else s
    let w := if fresh then s.resp else w
    let b := BitVec.ofNat 8 (fieldOf (w.getD 0) (8 * (a % 4)) 8)
    readBytes addr late n (k + 1) w s ((if late.contains k then 0xFF else b) :: out)

/-- Whether a data byte of a transaction was not ready in time (R846). -/
def anyLate (n : Nat) (late : List Nat) : Bool := late.any (fun k => decide (k < n))

/-- SPIS_READ (R842, R843). (DEDUCED, log 50) -/
def execSpisRead (addr : Fin 16384) (n : Nat) (late : List Nat) (s : State) : Out :=
  if !domainUp s 22 then .next s
  else
    let p := readBytes addr.val late n 0 none s []
    .next (emit (spsEnd { p.1 with resp := s.resp } (anyLate n late)) (.miso p.2))

/-- The words of a WRITE: the view address of each, and its bytes in order with their places. -/
def spsWords (addr : Nat) : Nat → List Byte → List (Nat × List (Nat × Byte))
  | _, [] => []
  | k, b :: bs =>
    let a := spsAddr addr k
    match spsWords addr (k + 1) bs with
    | (w, ps) :: rest => if w = a - a % 4 ∧ a % 4 ≠ 3 then (w, (a % 4, b) :: ps) :: rest else (a - a % 4, [(a % 4, b)]) :: (w, ps) :: rest
    | [] => [(a - a % 4, [(a % 4, b)])]

/-- SPIS_WRITE (R844, R847): whole words are written in order; at CS_N rise the incomplete words are dropped. (DEDUCED, log 50) -/
def execSpisWrite (addr : Fin 16384) (data : List Byte) (s : State) : Out :=
  if !domainUp s 22 then .next s
  else if !s.bit Reg.SPS_CFG_WR_EN then .next (spsEnd s true)
  else
    let ws := spsWords addr.val 0 data
    let t := ws.foldl (fun s w => if w.2.length = 4 then bmcWrite s w.1 (BitVec.ofNat 32 (leNat (w.2.map Prod.snd))) else s) s
    let bad := ws.filter (fun w => w.2.length != 4)
    let t := bad.foldl (fun s w => accSize s Blk.sps bmcIdent w.1) t
    .next (spsEnd { t with resp := s.resp } (!bad.isEmpty))

/-- SPIS_STATUS (R842): ERR is cleared after the last byte. (DEDUCED, log 50) -/
def execSpisStatus (n : Nat) (late : List Nat) (s : State) : Out :=
  if !domainUp s 22 then .next s
  else
    let v := toLe 4 (bvSummary s).toNat
    let out := (List.range n).map (fun k => if late.contains k then 0xFF else v.getD k 0)
    let s := spsEnd s (anyLate n late)
    .next (emit { s with sps := { s.sps with err := false } } (.miso out))

/-- SPIS_WARM_RESET: a COMMAND transaction (R845, R847). (DEDUCED, log 50) -/
def execSpisWarmReset (code : Fin 16384) (data : List Byte) (lost : Nat) (s : State) : Out :=
  if !domainUp s 22 then .next s
  else if !s.bit Reg.SPS_CFG_WR_EN then .next (spsEnd s true)
  else if code.val ≠ 1 ∨ data.length ≠ 4 ∨ data.take 2 ≠ [0xC0, 0xDE] then
    .next (spsEnd (cfgViol s Blk.sps bmcIdent code.val) true)
  else
    let s := spsEnd s false
    if !s.bit Reg.SPS_CFG_RESET_EN then .next s
    else .next (resetRequest (raise s Blk.sps 0x0101 .warn 0) 13 scopeWarm 0 lost)

end Sys2Proof.Machine
end

