-- ==== Sys2Proof/Machine/Tick.lean ====
section
/-! DEFINITION. The tick edge and the four seam phases, which every block takes part in, and the arming of a device-wide commit ("The tick,
slots and the seam"). A phase is taken in its order: SLOT shows the first slot of the last phase begun. -/

namespace Sys2Proof.Machine

/-- Whether the tick generator runs and the seam may go on from the slot `after` (R64): the last phase begun. (DEDUCED, log 10) -/
def phaseOpen (s : State) (after : Nat → Bool) : Bool :=
  domainUp s 2 && s.rd Reg.TIK_STATUS_STATE != 0 && after (s.rd Reg.TIK_STATUS_SLOT)

/-! ### The tick edge -/

/-- The TAI second and in-second number of the next edge (R54, R55, R87, R98). -/
def nextPlace (s : State) : Nat × Nat :=
  match s.tik.next with
  | some p => p
  | none => let n := s.rd Reg.TIK_INSEC + 1; if n < s.rate then (s.tik.sec, n) else (s.tik.sec + 1, 0)

/-- The history of overruns at a new tick: it covers the last 64 ticks (R77), and TIK_ITEM_OVR shows what is left of it. -/
def ageHistory (s : State) : State :=
  let old := s.tik.hist
  let new := old.filterMap (fun p =>
    let l := p.2.filter (fun t => decide (s.tick ≤ t + 63))
    if l.isEmpty then none else some (p.1, l))
  if new = old then s
  else old.foldl (fun s p => s.wr (Reg.TIK_ITEM_OVR_WINDOW p.1) (min 7 (Tab.get [] new p.1).length)) { s with tik := { s.tik with hist := new } }

/-- The counters of a new tick (R58, R97, R98): TIK_COUNT is 0 in the first tick since the release of PD02 and advances by 1 at every
other edge, saturating (R102). (DEDUCED, log 9, 11, 12) -/
def countTick (s : State) : State :=
  let p := nextPlace s
  let s := s.wr64 Reg.TIK_COUNT_LO Reg.TIK_COUNT_HI (if s.tik.ran then min (s.tick + 1) (2 ^ 64 - 1) else 0)
  let s := ((s.wr Reg.TIK_INSEC p.2).wr Reg.TIK_SEC p.1).wr Reg.TIK_STATUS_SLOT 0
  let s := s.sub Reg.TIK_STATUS_INVAL_LEFT 1
  { s with
    tik := { s.tik with
      sec := p.1, next := none, ran := true, starts := false, overran := [], stretched := false
      edges := ((s.tick, edgeInstant s.rate p.1 p.2) :: s.tik.edges).take 20 }
    tim := { s.tim with now := edgeInstant s.rate p.1 p.2 }
    pend := s.pend.filterMap (fun x => (x.2.keep 0xFFFFFFFF).map (fun q => (x.1, { q with late := 0 }))) }

/-- The state of the tick generator in a new tick (R98, R99, R190, Table 01.9). (DEDUCED, log 12) -/
def tickState (s : State) (started : Bool) : State :=
  let s := if started then s.wr Reg.TIK_STATUS_STATE 1
    else if s.rd Reg.TIK_STATUS_STATE = 3 then s.wr Reg.TIK_STATUS_STATE s.tik.stateBefore
    else s
  let s := if s.rd Reg.TIK_STATUS_STATE = 2 ∧ (s.img.sched.isNone ∨ s.tik.activate = 1) then s.wr Reg.TIK_STATUS_STATE 1 else s
  match s.tik.activate with
  | 1 => { s with tik := { s.tik with activate := 2 } }
  | 3 => { s.wr Reg.TIK_STATUS_STATE 2 with tik := { s.tik with activate := 0 } }
  | _ => s

/-- What begins at the edge of the first RUNNING tick after an activation (R188, R293, R428, R770, ID 18). -/
def firstRunning (s : State) : State :=
  let s := imageActive s
  let s := if domainUp s 3 then { s.wr Reg.ACQ_STATUS_STATE 1 with acq := { s.acq with first := s.tick } } else s
  let s := if domainUp s 10 then { s.wr Reg.PKT_STATUS_STATE 1 with pkt := { s.pkt with gate0 := s.tick } } else s
  let s := if s.clm.starts then clmStart s else s
  if domainUp s 1 then { s.wr Reg.SAF_PATHS_OK 0x7F with saf := { s.saf with pathMiss := [] } } else s

/-- Acquisition is RUNNING one span of profile M after its first tick (R293). -/
def fillEdge (s : State) : State :=
  if s.rd Reg.ACQ_STATUS_STATE = 1 ∧ s.acq.first + 11 ≤ s.tick then s.wr Reg.ACQ_STATUS_STATE 2 else s

/-- The schedule of an applied amendment governs from this edge (R219, R225–R229, R428). -/
def switchEdge (s : State) : State :=
  match s.img.next, s.img.sched with
  | some d, some old =>
    let s := poolSwitch s old d s.thr.copyLost
    { s with img := { s.img with sched := some d, next := none }, pkt := { s.pkt with gate0 := s.tick } }
  | _, _ => s

/-- The preload goes on in every tick while an amendment waits (R211). -/
def preloadEdge (s : State) : State := if amdWaiting s then s.sub Reg.IMG_AMD_LEAD_TICKS 1 else s

/-- The blocks at a tick edge. -/
def blockEdges (s : State) : State :=
  let st := s.rd Reg.TIK_STATUS_STATE
  let runs := (st == 2 || st == 3 && s.tik.stateBefore == 2) && imageLive s
  let s := acqEdge { s with twc := { s.twc with input := s.twc.queue, queue := [] } }
  let s := stageEdge (switchEdge (poolEdge s runs))
  let s := { s with thr := { s.thr with copyLost := [] } }
  let s := if s.thr.idle then ringForward s else s
  let s := hifEdge (ringEdge (showGates (recorderEdge (preloadEdge (fillEdge s))) 0))
  resumeEdge (moversUpdate (clmEdge (trialCountdown (mbxEdge s))))

/-- TICK_EDGE: a tick begins on its grid instant (R54–R58, R97–R101). (DEDUCED, log 10) -/
def execTickEdge (slewed : Nat) (s : State) : Out :=
  .next (if !domainUp s 2 || !(s.tik.starts || phaseOpen s (· == 508)) then s
    else
      let started := s.tik.starts
      let first := s.tik.activate == 3
      let s := tickState (ageHistory (countTick (slewBy s s.rate slewed))) started
      let s := markStretch (wantedStep s)
      let s := injectEdge { s with bbx := { s.bbx with level := s.rd Reg.SAF_STATUS_LEVEL }, saf := { s.saf with sramBad := [] } }
      blockEdges (if first then firstRunning s else s))

/-! ### Phase 1: the final votes -/

/-- FINAL_VOTE: slot 496 (R39, R94, R152, R303, R390). (DEDUCED, log 10) -/
def execFinalVote (s : State) : Out :=
  .next (if !phaseOpen s (fun j => decide (j < 496)) then s
    else
      let s := s.wr Reg.TIK_STATUS_SLOT 496
      let s := { s with tik := { s.tik with qual496 := s.rd Reg.TIM_STATUS_QUALITY } }
      closeResult (finalVotes (showGates (frontQuality (if s.tim.refBack then takeRefclk s else s)) 496)))

/-! ### Phase 2: the hand-off -/

/-- The state copies of an apply seam (R225, R229): one that fails is repeated, one that fails twice leaves its new member zeroed. (DEDUCED, log 18) -/
def stateCopies (s : State) (fails : List (Fin 1024 × Fin 80 × Bool)) : State :=
  match (if amdDue s then s.img.amd else none) with
  | none => s
  | some x =>
    (moves s x.sched).foldl (fun s m =>
      let mine := fails.filter (fun f => f.1.val == m.1 && f.2.1.val == m.2.2.1)
      if mine.any (fun f => f.2.2) then
        let s := { s with thr := { s.thr with copyLost := (m.1, m.2.2.1) :: s.thr.copyLost } }
        raise s Blk.img 0x010D .fault (m.1 + 2 ^ 16 * m.2.2.1)
      else if mine.isEmpty then s
      else transientOpen s Blk.img) s

/-- HAND_OFF: slot 500 (R225, R319–R322, R348, R570, Table 12.3 ID 18). (DEDUCED, log 10) -/
def execHandOff (adoptFails : List (Fin 80 × Bool)) (stateFails : List (Fin 1024 × Fin 80 × Bool)) (noAck : List (Fin 7)) (s : State) : Out :=
  .next (if !phaseOpen s (· == 496) then s
    else
      let s := almUpdate (showGates (s.wr Reg.TIK_STATUS_SLOT 500) 500)
      let s := stateCopies (adoptCopy s adoptFails) stateFails
      pathsStep (ringHandOff (publisherHandOff s)) (noAck.map Fin.val))

/-! ### Phase 3: the commit -/

/-- What follows a commit, from the state before it: meters and static entries (Table 09.7, R425), channels withdrawn (R634), resources
changed (R535), publications and loops that start or change (R357, R364, R748), and the sentinel's references (R67). -/
def afterCommit (old s : State) : State :=
  followCommit old (loopsChanged old (publicationsChanged old (noteResources old (noteMbx old (pruneStatic (settleMeters old s))))))

/-- Whether an armed commit is due in this tick (R79, R80). -/
def commitDue (s : State) : Bool :=
  s.bit Reg.TIK_COMMIT_ARM &&
    (match s.tik.target with
     | some k => k == s.tick
     | none => decide (s.tik.armFrom ≤ s.tick))

/-- The device-wide commit (R20, R82, R83). -/
def seamCommit (s : State) : State :=
  let s := (commitWhere s (fun _ => true)).wr64 Reg.TIK_COMMIT_LAST_LO Reg.TIK_COMMIT_LAST_HI s.tick
  if s.bit Reg.TIK_COMMIT_STICKY ∧ s.tik.target = none then s
  else { s.wr Reg.TIK_COMMIT_ARM 0 with tik := { s.tik with target := none } }

/-- The armed amendment in the seam of its tick: applied, or refused (R216–R221). -/
def seamAmend (s : State) : State :=
  match (if amdDue s then s.img.amd else none) with
  | none => s
  | some x =>
    match seamRefusal s x with
    | some p => amdRefuse s p.1 p.2
    | none => amdApply s x

/-- SEAM_COMMIT: slot 504 (R20, R65, R67, R79–R83, R99, R216–R221). (DEDUCED, log 10) -/
def execSeamCommit (s : State) : Out :=
  .next (if !phaseOpen s (· == 500) then s
    else
      let old := s
      let s := seamAmend s
      let s := if commitDue s then seamCommit s else s
      let s := afterCommit old (showGates (s.wr Reg.TIK_STATUS_SLOT 504) 504)
      if s.tik.activate = 2 then { s with tik := { s.tik with activate := 3 } } else s)

/-! ### Phase 4: the sentinel, Owl and the reports -/

/-- The step of the time scale at slot 508 of a stretch tick (R87, R88, R92, R93): the step in whole ns is rounded toward zero, the length of
the tick in ns down. (DEDUCED, log 12) -/
def stretchStep (s : State) : State :=
  if s.tik.stepTick ≠ some s.tick then s
  else
    let step := s.tim.phaseRem
    let start := s.tim.now
    let s := stepScale s step
    let p := nextGrid s.rate (s.tim.now + periodUnits s.rate)
    let len := (((edgeInstant s.rate p.1 p.2 : Nat) : Int) - (start : Int) - step) / 65536
    let ns := step.tdiv 65536
    let s := ((s.inc Reg.TIK_REALIGN_CNT).wrInt Reg.TIK_REALIGN_STEP ns).wr Reg.TIK_STATUS_INVAL_LEFT 13
    let s := { s with tik := { s.tik with next := some p, stepTick := none, lastStretch := some s.tick, stretched := true } }
    raise s Blk.tik 0x0104 .warn (unsignedOf 32 ns + 2 ^ 32 * (len.toNat % 2 ^ 32))

/-- The block COMMIT writes that waited for the end of slot 507 (R84). (DEDUCED, log 13) -/
def deferredCommits (s : State) : State :=
  let ps := s.tik.deferredGo
  if ps.isEmpty then s
  else afterCommit s (ps.foldl commitBlock { s with tik := { s.tik with deferredGo := [] } })

/-- SENTINEL_CHECK: slot 508 (R66–R68, R77, R84, R87, R93, R190, R220, R319, R535, R563–R570, R576, R580). `wrong` are the pins that
read back different from their level: 0–7 ALM, 8 HEALTHY. (DEDUCED, log 10) -/
def execSentinelCheck (wrong : List (Fin 9)) (s : State) : Out :=
  .next (if !phaseOpen s (· == 504) then s
    else
      let s := adoptAll (deferredCommits s)
      let s := sentinelStep (stretchStep (showGates (s.wr Reg.TIK_STATUS_SLOT 508) 508))
      let (s, passed) := handshakeStep s
      let s := (List.range 9).foldl (readbackPin (wrong.map Fin.val)) (repeatsStep s)
      let s := levelStep (paramCheck (tellApplied (tellResources s)))
      let s := healthyStep s passed
      if s.img.deact.any (fun k => decide (k ≤ s.tick)) then imageDeactivated s else s)

/-! ### Arming a commit (R79–R81) -/

/-- An ARM with AT = 1 (R80, R81). -/
def armAt (s : State) : State :=
  let t := s.rd64 Reg.TIK_COMMIT_AT_LO Reg.TIK_COMMIT_AT_HI
  if t ≤ s.tick then
    let s := (s.wr Reg.TIK_COMMIT_ARM 0).wr Reg.TIK_COMMIT_LATE 1
    raise { s with tik := { s.tik with target := none } } Blk.tik 0x0103 .warn t
  else { s.wr Reg.TIK_COMMIT_ARM 1 with tik := { s.tik with target := some t } }

/-- An ARM with AT = 0 (R79). -/
def armNow (s : State) : State :=
  let k := s.tick + if 504 ≤ s.rd Reg.TIK_STATUS_SLOT then 1 else 0
  { s.wr Reg.TIK_COMMIT_ARM 1 with tik := { s.tik with target := none, armFrom := k } }

/-- What a write of TIK_COMMIT does (Table 01.11). -/
def writeTikCommit (v : Word) (s : State) : State :=
  let s := (s.wr Reg.TIK_COMMIT_STICKY (fieldOf v 2 1)).wr Reg.TIK_COMMIT_AT (fieldOf v 1 1)
  let s := if bitAt v.toNat 8 then s.wr Reg.TIK_COMMIT_LATE 0 else s
  if bitAt v.toNat 0 then (if s.bit Reg.TIK_COMMIT_AT then armAt s else armNow s) else s

/-- TIK_COMMIT_ARM: a write of TIK_COMMIT (R79–R81). -/
def execTikCommitArm (a : Access) (v : Word) (s : State) : Out :=
  .next (withWrite s a 0x10000 Blk.tik 2 0x10020 (writeTikCommit v))

end Sys2Proof.Machine
end

