-- ==== Sys2Proof/Machine/Access.lean ====
section
/-! DEFINITION. Register accesses: which address reaches what, the writes and reads that act beyond their fields, and the block commits
("Scope and conventions", "Changing a running device", Table 11.2). -/

namespace Sys2Proof.Machine

/-! ### Addresses (R1, R3, R510, R511) -/

/-- The place in the model of an address that an initiator uses: BAR0 as it is, the PF's own window at 0x180_0000 as window 0, and the
window of an instance for that instance; none where no such access exists. (DEDUCED, log 20) -/
def reach (i : Ident) (addr : Nat) : Option Nat :=
  let win := fun (t : Nat) => decide (0x4000000 + t * 0x40000 ≤ addr) && decide (addr < 0x4000000 + (t + 1) * 0x40000)
  match instanceOf i with
  | some 0 =>
    if 0x1800000 ≤ addr ∧ addr < 0x1840000 then some (addr - 0x1800000 + 0x4000000)
    else if addr < 0x4000000 ∨ win 0 then some addr else none
  | some t => if win t then some addr else none
  | none => if addr < 0x4000000 ∧ ¬ (0x1800000 ≤ addr ∧ addr < 0x1840000) then some addr else none

/-- The blocks that the confined debug port may read (R594). -/
def debugReads (addr : Nat) : Bool :=
  match findBlock blocks addr with
  | some b => b.id == Blk.glb || b.id == Blk.saf || b.id == Blk.bbx
  | none => false

/-- The block ID that an access to an address reports. -/
def blockId (addr : Nat) : Nat :=
  match findBlock blocks addr with
  | some b => b.id
  | none => if addr < 0x1800000 then Blk.img else Blk.grn

/-- The fields of a register that an access by a tenant names by its view address. -/
def isWindow (addr : Nat) : Bool := decide (0x4000000 ≤ addr)

/-! ### Writes with a row of their own -/

/-- A write that reaches a register whose write is another row's, which that row answers; where the row takes more from outside than
the write, nothing goes wrong there: no store is lost, no pulse fails, no core fails its self-test, the pins are high, no time has passed. (DEDUCED, log 20, 40) -/
def commandRow (a : Access) (addr : Nat) (v : Word) (s : State) : Option Out :=
  let cmd := fieldOf v 0 4
  match addr with
  | 0x10004 => some (execRealignGo a v s)
  | 0x10020 => some (execTikCommitArm a v s)
  | 0x40004 =>
    match cmd with
    | 1 => some (execImgLoad a v s)
    | 2 => some (execImgActivate (some (a, v)) ⟨[], 0⟩ s)
    | 3 => some (execImgAbort a v s)
    | 4 => some (execImgDeactivate a v s)
    | _ => none
  | 0x40400 =>
    match cmd with
    | 1 => some (execAmdArm a v s)
    | 2 => some (execAmdDisarm a v s)
    | 3 => some (execAmdDiscard a v s)
    | _ => none
  | 0x800008 =>
    match cmd with
    | 1 => some (execSafRestore a v s)
    | 2 => some (execEnterL4 a v s)
    | _ => none
  | 0x800010 => some (execHeartbeat a v s)
  | 0x800040 => some (execSafInject a v s)
  | 0x880004 =>
    match fieldOf v 0 2 with
    | 1 => some (execRstCmdWarm a v 0 s)
    | 2 => some (execRstCmdDomain a v 0 s)
    | _ => some (.next (rstCommand s a v id))
  | 0x8A0008 =>
    match fieldOf v 8 2 with
    | 1 => some (execPwrOn a v s)
    | 2 => some (execPwrOff a v s)
    | _ => some (.next (pwrCommand s a v (fun _ _ => false) (fun s _ => s)))
  | 0x900004 =>
    match cmd with
    | 1 => some (execGrnProgram a v s)
    | 2 => some (execGrnErase a v s)
    | 3 => some (execGrnSuspend a v s)
    | 4 => some (execGrnResume a v s)
    | _ => some (.next (grnUnknownOp a s))
  | 0x900014 => some (execProtWrite a v true s)
  | 0x900034 =>
    match cmd with
    | 1 => some (execFwTrial a v 0 s)
    | 2 => some (execFwCommit a v 0 s)
    | 3 => some (execFailTrial a v false s)
    | 4 => some (execImgSlotSelect a v 0 s)
    | _ => none
  | 0xB80008 =>
    match cmd with
    | 1 => some (execBbxUnfreeze a v s)
    | 2 => some (execBbxSnapshotCmd a v s)
    | 3 => some (execBbxEraseSlot a v s)
    | _ => some (.next (bbxCommand s a v (fun _ => false) id))
  | 0xB10100 => some (execBindLock a v s)
  | _ => blockRow a addr v s

/-- The same for the registers of arrays. (DEDUCED, log 20) -/
def arrayRow (a : Access) (addr : Nat) (v : Word) (s : State) : Option Out :=
  if 0xB20000 ≤ addr ∧ addr < 0xB20200 ∧ addr % 4 = 0 then
    some (execManagerDoorbellWrite a (Fin.ofNat 128 ((addr - 0xB20000) / 4)) v s)
  else if 0xB00000 ≤ addr ∧ addr < 0xB04000 ∧ addr % 4 = 0 then
    some (.next (chanWrite s a (Fin.ofNat 64 ((addr - 0xB00000) / 0x100)) (addr % 0x100) v false))
  else blockArrayRow a addr v s

/-! ### Writes (R9, R18, R22, R41, R44, R47) -/

/-- GO: the commit of a block, or its wait for the end of slot 507. (DEDUCED, log 13) -/
def commitGo (s : State) (page : Nat) : State :=
  let slot := s.rd Reg.TIK_STATUS_SLOT
  if s.rd Reg.TIK_STATUS_STATE ≠ 0 ∧ 504 ≤ slot ∧ slot < 508 then
    { s with tik := { s.tik with deferredGo := s.tik.deferredGo.filter (· != page) ++ [page] } }
  else afterCommit s (commitBlock s page)

/-- What a word written to the COMMIT register of a block or tenant window does (R236): GO in bit 0, DISCARD in bit 1. -/
def commitWord (s : State) (i : Ident) (page : Nat) (v : Word) : State :=
  match bitAt v.toNat 0, bitAt v.toNat 1 with
  | true, true => cfgViol s (blockId page) i (viewAddr (page + 0x7FFC))
  | true, false => commitGo s page
  | false, true => discardBlock s page
  | false, false => s

/-- A write to a register of a block that has no row of its own. A write through the confined debug port raises CFG_VIOL, one to a
domain that is down ISO_ERR, one with a byte enable missing ACC_SIZE: the first that applies, alone. (DEDUCED, log 9) -/
def blockWrite (s : State) (a : Access) (b : BlockD) (addr : Nat) (v : Word) : State :=
  let o := addr - b.base
  if debugShut s a.init then cfgViol s b.id a.init addr
  else match b.findReg (activeOff o) with
    | none =>
      if !blockUp s b.base b.pd then isoErr s b.id a.init addr b.pd
      else if isCommon b addr 0x7FFC then
        (if a.be ≠ 15 then accSize s b.id a.init addr else commitWord s a.init b.base v)
      else s
    | some r =>
      if !regUp s b r then isoIfDown s b r a.init addr
      else if 0x8000 ≤ o % 0x10000 then s
      else if a.be ≠ 15 then accSize s b.id a.init addr
      else match refusedWrite s a.init addr v with
        | some true => cfgViol s b.id a.init addr
        | some false => s
        | none => fieldsWritten s a.init addr v

/-- A write to a memory window of BAR0 (R179, R695): dropped with CFG_VIOL. -/
def memoryWrite (s : State) (a : Access) (addr : Nat) : State :=
  if 0x1000000 ≤ addr ∧ addr < 0x1800000 then withWrite s a 0x40000 Blk.img 18 addr (fun s => cfgViol s Blk.img a.init addr)
  else if 0x2000000 ≤ addr ∧ addr < 0x2100000 then withWrite s a 0x900000 Blk.grn 19 addr (fun s => cfgViol s Blk.grn a.init addr)
  else s

/-- The TUN_EP register that an address of the endpoint view names (R512); none beyond the instance's range. -/
def endpointReg (s : State) (t off : Nat) : Option Nat :=
  let i := 2048 * s.rd (Reg.TW_EP_PAGE t) + off % 0x8000 / 16
  let n := s.rd (Reg.TUN_TEN_BASE t) + i
  if i < s.rd (Reg.TUN_TEN_COUNT t) ∧ n < 8192 then some (0x490000 + n / 2048 * 0x10000 + n % 2048 * 16 + off % 16) else none

/-- A write of a register of page 0 of a tenant window: a tail at or above the ring's size is an error of the queue (Table 11.10).
(DEDUCED, log 30) -/
def windowReg (s : State) (t off : Nat) (v : Word) : State :=
  let was := s.bit (Reg.EVQ_CFG_EN t)
  let s := plainWrite s (identOf t) (winAddr t off) v
  let q := (off - 0x1000) / 0x40
  if 0x1000 ≤ off ∧ off < 0x2000 ∧ (off % 0x40 = 0x18 ∨ off % 0x40 = 0x1C) ∧ s.rd (Reg.QSTATUS_STATE t q) = 1 ∧ ringSize s t q ≤ v.toNat then
    queueError s t q 5 (s.rd (if off % 0x40 = 0x18 then Reg.TX_HEAD t q else Reg.RX_HEAD t q))
  else if off = 0x38 ∧ s.bit (Reg.EVQ_CFG_EN t) && !was then { s with hif := { s.hif with evq := Tab.put 0 s.hif.evq t 0 } } else s

/-- A write in the window of an instance (Table 11.2). -/
def tenantWrite (s : State) (be : BitVec 4) (t : Fin 128) (off : Nat) (v : Word) : State :=
  let i := identOf t
  let none_ := windowWrite s t 15 off 13 id
  if off = 0x10 then stateAfter s (execHandleRelease t be v s)
  else if 0x1000 ≤ off ∧ off < 0x2000 ∧ off % 0x40 = 0 then
    stateAfter s (execQueueEnable t (Fin.ofNat 64 ((off - 0x1000) / 0x40)) be v s)
  else if 0x2000 ≤ off ∧ off < 0x2200 ∧ off % 0x20 = 0 then
    stateAfter s (execRecordRingEnable t (Fin.ofNat 16 ((off - 0x2000) / 0x20)) be v s)
  else if off = 0x7FFC then windowWrite s t be off 13 (fun s => commitWord s i (winAddr t 0) v)
  else if off < 0x8000 then
    match regAt (winAddr t off) with
    | some _ => windowWrite s t be off 13 (fun s => windowReg s t off v)
    | none => none_
  else if 0x10000 ≤ off ∧ off < 0x18000 then
    windowWrite s t be off 11 fun s =>
      match endpointReg s t off with
      | some addr => plainWrite s i addr v
      | none => cfgViol s Blk.tun i off
  else if 0x20010 ≤ off ∧ off < 0x200C0 then
    let addr := off - 0x20000 + 0x500000
    match regAt addr with
    | some _ => windowWrite s t be off 11 fun s =>
      match commandRow ⟨i, be⟩ addr v s with
      | some o => stateAfter s o
      | none => fieldsWritten s i addr v
    | none => windowWrite s t 15 off 11 id
  else if 0x30000 ≤ off ∧ off < 0x34000 ∧ off % 4 = 0 then
    chanWrite s ⟨i, be⟩ (Fin.ofNat 64 ((off - 0x30000) / 0x100)) (off % 0x100) v true
  else if off = 0x34000 then stateAfter s (execInstanceDoorbellWrite t be v s)
  else if off = 0x34004 then windowWrite s t be off 13 (fun s => plainWrite s i (winAddr t off) v)
  else if 0x36000 ≤ off ∧ off < 0x36400 then
    windowWrite s t be off 13 (fun s => unmasked (plainWrite s i (winAddr t off) v) t ((off - 0x36000) / 16))
  else none_

/-- A write that reaches a place. (DEDUCED, log 20) -/
def writeAt (s : State) (a : Access) (addr : Nat) (v : Word) : State :=
  if isWindow addr then tenantWrite s a.be (Fin.ofNat 128 ((addr - 0x4000000) / 0x40000)) ((addr - 0x4000000) % 0x40000) v
  else match (commandRow a addr v s).or (arrayRow a addr v s) with
    | some o => stateAfter s o
    | none =>
      match findBlock blocks addr with
      | some b => blockWrite s a b addr v
      | none => memoryWrite s a addr

/-- Whether an access of 64 bits to this address is one to an aligned register pair (R43). (DEDUCED, log 20) -/
def wideOk (addr : Nat) : Bool :=
  addr % 8 == 0 && (match regAt addr with
    | some (_, r) => r.pair == .low
    | none => false)

/-- REGISTER_WRITE: a write of 32 bits (R22), or of 64 bits to an aligned pair, its low word before its high word (R43). -/
def execRegisterWrite (a : Access) (addr : Nat) (v : WData) (s : State) : Out :=
  match reach a.init addr, v.high with
  | some p, none => .next (writeAt s a p v.word)
  | some p, some h => .next (if wideOk p then writeAt (writeAt s a p v.word) a (p + 4) h else s)
  | none, _ => .fault (.outsideBar addr)

/-! ### Reads (R9, R10, R14, R17, R44) -/

/-- A read answers a word. -/
def answer (s : State) (w : Word) : State := { s with resp := some w }

/-- A read of a register of a block: a low word latches the high word for its reader, a high word comes from the reader's snapshot and
consumes it (R10). -/
def registerRead (s : State) (i : Ident) (b : BlockD) (addr : Nat) : State :=
  let o := addr - b.base
  let get := fun (addr : Nat) => readWord (viewOf s addr) i addr
  match b.findReg (activeOff o) with
  | none => answer (if blockUp s b.base b.pd then s else isoErr s b.id i (viewAddr addr) b.pd) (get addr)
  | some r =>
    if (downField s b r).isSome then answer (isoIfDown s b r i addr) (get addr)
    else if 0x8000 ≤ o % 0x10000 then answer s (get addr)
    else match r.pair with
      | .low => answer { s with snaps := Tab.put none s.snaps (initKey i addr) (some (get (addr + 4))) } (get addr)
      | .high =>
        match Tab.get none s.snaps (initKey i (addr - 4)) with
        | some w => answer { s with snaps := Tab.put none s.snaps (initKey i (addr - 4)) none } w
        | none => answer s (get addr)
      | .single => answer s (get addr)

/-- A read of TIM_FRAC: the snapshot that the read of TIM_NS_LO left, else the live fraction (R104). -/
def fracRead (s : State) (i : Ident) : State :=
  match Tab.get none s.snaps (initKey i 0x20018) with
  | some w => answer { s with snaps := Tab.put none s.snaps (initKey i 0x20018) none } w
  | none => answer s (BitVec.ofNat 32 (s.tim.now % 65536))

/-- A read of a word of structure memory: bytes beyond TOTAL_LEN read as 0 (R179). -/
def structRead (s : State) (i : Ident) (addr : Nat) : State :=
  if !blockUp s 0x40000 18 then answer (isoErr s Blk.img i addr 18) 0xFFFFFFFF
  else
    let o := addr - 0x1000000
    let byte := fun (k : Nat) => if o + k < s.img.fullLen then Tab.get 0 s.img.mem (o + k) else 0
    answer s (BitVec.ofNat 32 (leNat ((List.range 4).map byte)))

/-- A read of a register of BAR0. -/
def blockRead (s : State) (i : Ident) (addr : Nat) : State :=
  let time := domainUp s 2
  if addr = 0x20010 then stateAfter s (execTimeRead i s)
  else if addr = 0x20014 ∧ time ∧ (Tab.get none s.snaps (initKey i 0x20010)).isNone then
    answer s (BitVec.ofNat 32 (s.taiNs / 2 ^ 32))
  else if addr = 0x20018 ∧ time then fracRead s i
  else if addr = 0xA0000C then stateAfter s (execPnlEvtPop i 0 s)
  else if 0xA60000 ≤ addr ∧ addr < 0xA60400 ∧ addr % 0x100 = 0x0C then
    stateAfter s (execUartDataRead i (Fin.ofNat 4 ((addr - 0xA60000) / 0x100)) s)
  else if 0xB00000 ≤ addr ∧ addr < 0xB04000 ∧ addr % 4 = 0 then
    chanRead s i (Fin.ofNat 64 ((addr - 0xB00000) / 0x100)) (addr % 0x100) false
  else if 0xB90000 ≤ addr ∧ addr < 0xBB0000 ∧ addr % 0x10000 < 0x8000 ∧ addr % 4 = 0 then
    readEntryWord s i (Fin.ofNat 2048 ((addr - 0xB90000) / 0x10000 * 1024 + addr % 0x10000 / 0x20)) (addr % 0x20 / 4)
  else if 0x984000 ≤ addr ∧ addr < 0x984600 ∧ domainUp s 20 ∧ !isMgmt i then answer (cfgViol s.used Blk.clm i addr) s.free
  else if 0x1000000 ≤ addr ∧ addr < 0x1800000 then structRead s i addr
  else if 0x2000000 ≤ addr ∧ addr < 0x2100000 then stateAfter s (execGranaryRead i (Fin.ofNat 262144 ((addr - 0x2000000) / 4)) 0 s)
  else match findBlock blocks addr with
    | some b => registerRead s i b addr
    | none => answer s 0

/-- What a read of page 0 of a window answers beside its registers: TW_ID, and TW_STATUS and TW_LIMITS, whose layout is open. (DEDUCED, log 20) -/
def windowRead (s : State) (t off : Nat) : State :=
  if off = 0 then answer s (BitVec.ofNat 32 t)
  else if off = 4 ∨ off = 8 then answer s.used s.free
  else match findBlock blocks (winAddr t off) with
    | some b => registerRead s (identOf t) b (winAddr t off)
    | none => answer s 0

/-- A read in the window of an instance (Table 11.2). -/
def tenantRead (s : State) (t : Fin 128) (off : Nat) : State :=
  let i := identOf t
  if !domainUp s 13 || s.bit (Reg.HIF_TEN_STATUS_FLR_ACTIVE t) then answer (isoErr s Blk.hif i off 13) 0xFFFFFFFF
  else if 0x10000 ≤ off ∧ off < 0x20000 then
    match endpointReg s t off with
    | some addr => blockRead s i (addr + (if off < 0x18000 then 0 else 0x8000))
    | none => answer s 0
  else if 0x20010 ≤ off ∧ off < 0x200C0 then blockRead s i (off - 0x20000 + 0x500000)
  else if 0x30000 ≤ off ∧ off < 0x34000 ∧ off % 4 = 0 then
    chanRead s i (Fin.ofNat 64 ((off - 0x30000) / 0x100)) (off % 0x100) true
  else if off = 0x34000 then blockRead s i (Reg.MBX_DB t).key
  else windowRead s t off

/-- A read that reaches a place. (DEDUCED, log 20) -/
def readAt (s : State) (i : Ident) (addr : Nat) : State :=
  if debugShut s i && !debugReads addr then answer (cfgViol s.used (blockId addr) i addr) s.free
  else if isWindow addr then tenantRead s (Fin.ofNat 128 ((addr - 0x4000000) / 0x40000)) ((addr - 0x4000000) % 0x40000)
  else blockRead s i addr

/-- The bytes of a word that a read asks for, in their places; the others are 0 (R42). (DEDUCED, log 20) -/
def askedBytes (be : BitVec 4) (w : Word) : Word :=
  w &&& ((List.range 4).foldl (fun m k => if be.getLsbD k then m ||| maskOf (8 * k) 8 else m) 0)

/-- A read of 32 bits or of some of its bytes (R42): the whole register is read, with what its read does, and the bytes asked for are
answered. -/
def narrowRead (s : State) (r : RAccess) (addr : Nat) : State :=
  let s := readAt s r.init addr
  { s with resp := s.resp.map (askedBytes r.be), respHigh := none }

/-- A read of 64 bits of an aligned pair: its low word, then its high word (R43). -/
def wideRead (s : State) (i : Ident) (addr : Nat) : State :=
  let u := readAt s i addr
  let t := readAt u i (addr + 4)
  { t with resp := u.resp, respHigh := t.resp }

/-- A read access. -/
def readAccess (r : RAccess) (addr : Nat) (s : State) : Out :=
  match reach r.init addr with
  | some p => .next (if r.wide then (if wideOk p then wideRead s r.init p else s) else narrowRead s r p)
  | none => .fault (.outsideBar addr)

/-- LOW_WORD_READ: a read of the low word of a pair latches the high word for its reader; of any other word, a plain read (R10, R17). -/
def execLowWordRead (r : RAccess) (addr : Nat) (s : State) : Out := readAccess r addr s

/-- RC_READ: a read of a register with RC fields (R14): the UART's DATA and the panel's FIFO. -/
def execRcRead (r : RAccess) (addr : Nat) (s : State) : Out := readAccess r addr s

/-! ### Block commits (R20, R84, R235, R236) -/


/-- A write of the COMMIT register of the block, or of the window, at a base. (DEDUCED, log 54) -/
def commitWrite (s : State) (a : Access) (page : Nat) (k : State → Nat → State) : Out :=
  match reach a.init page with
  | none => .fault (.outsideBar page)
  | some p =>
    match findBlock blocks p with
    | none => .next s
    | some b =>
      if b.base = 0x4000000 then
        if (p - b.base) % 0x40000 = 0 then .next (windowWrite s ((p - b.base) / 0x40000) a.be 0x7FFC 13 (fun s => k s p)) else .next s
      else if p = b.base ∧ hasCommit b then .next (withWrite s a b.base b.id b.pd (p + 0x7FFC) (fun s => k s p))
      else .next s

/-- BLOCK_COMMIT_GO: a write of 1 to COMMIT.GO; with DISCARD in the same write it is ignored (R236). -/
def execBlockCommitGo (a : Access) (page : Nat) (discard : Bool) (s : State) : Out :=
  commitWrite s a page fun s p => if discard then cfgViol s (blockId p) a.init (viewAddr (p + 0x7FFC)) else commitGo s p

/-- BLOCK_COMMIT_DISCARD: a write of 1 to COMMIT.DISCARD (R236). -/
def execBlockCommitDiscard (a : Access) (page : Nat) (s : State) : Out := commitWrite s a page fun s p => discardBlock s p

end Sys2Proof.Machine
end

