-- ==== Sys2Proof/Machine/Dispatch.lean ====
section
/-! DEFINITION. One arm per command: a direct call of its meaning, or a rejection by name. -/

namespace Sys2Proof.Machine

def exec (i : Instr) (s : State) : Host.Outcome State Fault Refusal :=
  match i with
  | .registerWrite a addr v => Sys2Proof.Machine.execRegisterWrite a addr v s
  | .lowWordRead r addr => Sys2Proof.Machine.execLowWordRead r addr s
  | .rcRead r addr => Sys2Proof.Machine.execRcRead r addr s
  | .blockCommitGo a page discard => Sys2Proof.Machine.execBlockCommitGo a page discard s
  | .blockCommitDiscard a page => Sys2Proof.Machine.execBlockCommitDiscard a page s
  | .tickEdge slewed => Sys2Proof.Machine.execTickEdge slewed s
  | .slotDeadline run item core slot second => Sys2Proof.Machine.execSlotDeadline run item core slot second s
  | .finalVote => Sys2Proof.Machine.execFinalVote s
  | .handOff adoptFails stateFails noAck => Sys2Proof.Machine.execHandOff adoptFails stateFails noAck s
  | .seamCommit => Sys2Proof.Machine.execSeamCommit s
  | .sentinelCheck wrong => Sys2Proof.Machine.execSentinelCheck wrong s
  | .tikCommitArm a v => Sys2Proof.Machine.execTikCommitArm a v s
  | .realignGo a v => Sys2Proof.Machine.execRealignGo a v s
  | .realignWithdrawn => Sys2Proof.Machine.execRealignWithdrawn s
  | .timeRead ini => Sys2Proof.Machine.execTimeRead ini s
  | .sourceQualified src since now => Sys2Proof.Machine.execSourceQualified src since now s
  | .sourceRevert => Sys2Proof.Machine.execSourceRevert s
  | .phaseCrossCheck x y diff => Sys2Proof.Machine.execPhaseCrossCheck x y diff s
  | .servoUpdate a v => Sys2Proof.Machine.execServoUpdate a v s
  | .servoTimeout ms => Sys2Proof.Machine.execServoTimeout ms s
  | .freqAdjWrite a v => Sys2Proof.Machine.execFreqAdjWrite a v s
  | .phaseAdjWrite a v => Sys2Proof.Machine.execPhaseAdjWrite a v s
  | .irigFrame f => Sys2Proof.Machine.execIrigFrame f s
  | .ppsInEdge e widthNs => Sys2Proof.Machine.execPpsInEdge e widthNs s
  | .ppsOutPulse rise => Sys2Proof.Machine.execPpsOutPulse rise s
  | .todLoad a v => Sys2Proof.Machine.execTodLoad a v s
  | .ptpEventTimestamp port transmit stamp queueFull => Sys2Proof.Machine.execPtpEventTimestamp port transmit stamp queueFull s
  | .ptpMasterTx port kind => Sys2Proof.Machine.execPtpMasterTx port kind s
  | .holdoverEstimate => Sys2Proof.Machine.execHoldoverEstimate s
  | .leapApplied => Sys2Proof.Machine.execLeapApplied s
  | .sourceLoss src reason => Sys2Proof.Machine.execSourceLoss src reason s
  | .refclkLost => Sys2Proof.Machine.execRefclkLost s
  | .refclkRestored mhz25 => Sys2Proof.Machine.execRefclkRestored mhz25 s
  | .refclkDetect d => Sys2Proof.Machine.execRefclkDetect d s
  | .imgLoad a v => Sys2Proof.Machine.execImgLoad a v s
  | .fetchComplete data retried failAt us => Sys2Proof.Machine.execFetchComplete data retried failAt us s
  | .verifyComplete us => Sys2Proof.Machine.execVerifyComplete us s
  | .guardComplete us => Sys2Proof.Machine.execGuardComplete us s
  | .imgActivate cmd test => Sys2Proof.Machine.execImgActivate cmd test s
  | .autoload => Sys2Proof.Machine.execAutoload s
  | .imgAbort a v => Sys2Proof.Machine.execImgAbort a v s
  | .imgDeactivate a v => Sys2Proof.Machine.execImgDeactivate a v s
  | .structMemUncorr ofs overlay => Sys2Proof.Machine.execStructMemUncorr ofs overlay s
  | .preloadComplete => Sys2Proof.Machine.execPreloadComplete s
  | .amdArm a v => Sys2Proof.Machine.execAmdArm a v s
  | .amdDisarm a v => Sys2Proof.Machine.execAmdDisarm a v s
  | .amdDiscard a v => Sys2Proof.Machine.execAmdDiscard a v s
  | .sampleRelease c x => Sys2Proof.Machine.execSampleRelease c x s
  | .linkLost input why => Sys2Proof.Machine.execLinkLost input why s
  | .linkLostClear a high v => Sys2Proof.Machine.execLinkLostClear a high v s
  | .linkRestored input => Sys2Proof.Machine.execLinkRestored input s
  | .svFrameReceive f => Sys2Proof.Machine.execSvFrameReceive f s
  | .svLost stream unusable => Sys2Proof.Machine.execSvLost stream unusable s
  | .svRestored stream => Sys2Proof.Machine.execSvRestored stream s
  | .jesdDown lanes => Sys2Proof.Machine.execJesdDown lanes s
  | .jesdUp x => Sys2Proof.Machine.execJesdUp x s
  | .jesdCrcError first count => Sys2Proof.Machine.execJesdCrcError first count s
  | .sysrefEdge stamp x => Sys2Proof.Machine.execSysrefEdge stamp x s
  | .sysrefMissing => Sys2Proof.Machine.execSysrefMissing s
  | .wavefrontTrigger ch ini xs x => Sys2Proof.Machine.execWavefrontTrigger ch ini xs x s
  | .wavefrontRecord ch xs => Sys2Proof.Machine.execWavefrontRecord ch xs s
  | .comparePoint item ra rb => Sys2Proof.Machine.execComparePoint item ra rb s
  | .retryCompare item ra rb cyc => Sys2Proof.Machine.execRetryCompare item ra rb cyc s
  | .arbitrationVote item r cyc => Sys2Proof.Machine.execArbitrationVote item r cyc s
  | .thrRetireCmd a v => Sys2Proof.Machine.execThrRetireCmd a v s
  | .coreMemoryError core kstore uncorrectable => Sys2Proof.Machine.execCoreMemoryError core kstore uncorrectable s
  | .gooseRetransmit g slot => Sys2Proof.Machine.execGooseRetransmit g slot s
  | .manTrig a v => Sys2Proof.Machine.execManTrig a v s
  | .drClose => Sys2Proof.Machine.execDrClose s
  | .flocResult line => Sys2Proof.Machine.execFlocResult line s
  | .sweepLaunch => Sys2Proof.Machine.execSweepLaunch s
  | .sweepFrameReceive link f inTime => Sys2Proof.Machine.execSweepFrameReceive link f inTime s
  | .timingFrameSend link stamp => Sys2Proof.Machine.execTimingFrameSend link stamp s
  | .timingFrameReceive link f stamp => Sys2Proof.Machine.execTimingFrameReceive link f stamp s
  | .nakReceive link west sec insec inTime => Sys2Proof.Machine.execNakReceive link west sec insec inTime s
  | .ringLinkLost link => Sys2Proof.Machine.execRingLinkLost link s
  | .frameReceive port f fcsOk => Sys2Proof.Machine.execFrameReceive port f fcsOk s
  | .frameTransmit port cyc stamp => Sys2Proof.Machine.execFrameTransmit port cyc stamp s
  | .fdbAgeOut mac fid => Sys2Proof.Machine.execFdbAgeOut mac fid s
  | .fdbFlushPort a v => Sys2Proof.Machine.execFdbFlushPort a v s
  | .fdbFlushVlan a v => Sys2Proof.Machine.execFdbFlushVlan a v s
  | .fdbFlushAll a v => Sys2Proof.Machine.execFdbFlushAll a v s
  | .handleRelease t be v => Sys2Proof.Machine.execHandleRelease t be v s
  | .holdAged cell => Sys2Proof.Machine.execHoldAged cell s
  | .pauseHoldExpired port => Sys2Proof.Machine.execPauseHoldExpired port s
  | .portLinkDown port => Sys2Proof.Machine.execPortLinkDown port s
  | .portLinkUp port => Sys2Proof.Machine.execPortLinkUp port s
  | .cellUncorr cell client => Sys2Proof.Machine.execCellUncorr cell client s
  | .keyLoad a v => Sys2Proof.Machine.execKeyLoad a v s
  | .keyZeroise a v => Sys2Proof.Machine.execKeyZeroise a v s
  | .saRead a => Sys2Proof.Machine.execSaRead a s
  | .saWrite a => Sys2Proof.Machine.execSaWrite a s
  | .nsConnect n => Sys2Proof.Machine.execNsConnect n s
  | .nsReady n lba size mdts => Sys2Proof.Machine.execNsReady n lba size mdts s
  | .keepAlive n => Sys2Proof.Machine.execKeepAlive n s
  | .recShip n => Sys2Proof.Machine.execRecShip n s
  | .recShipped n => Sys2Proof.Machine.execRecShipped n s
  | .nvmeCommandTimeout n e => Sys2Proof.Machine.execNvmeCommandTimeout n e s
  | .nsRetry n reason status => Sys2Proof.Machine.execNsRetry n reason status s
  | .queueEnable t q be v => Sys2Proof.Machine.execQueueEnable t q be v s
  | .queueDisable t q be v => Sys2Proof.Machine.execQueueDisable t q be v s
  | .txDescriptor t q d => Sys2Proof.Machine.execTxDescriptor t q d s
  | .rxDeliver t q ds => Sys2Proof.Machine.execRxDeliver t q ds s
  | .rxWaitExpired t q => Sys2Proof.Machine.execRxWaitExpired t q s
  | .recordRingEnable t r be v => Sys2Proof.Machine.execRecordRingEnable t r be v s
  | .hostStall ms => Sys2Proof.Machine.execHostStall ms s
  | .quiesce a t v => Sys2Proof.Machine.execQuiesce a t v s
  | .quiesceComplete t => Sys2Proof.Machine.execQuiesceComplete t s
  | .quiesceResume a t v => Sys2Proof.Machine.execQuiesceResume a t v s
  | .vfFlr t => Sys2Proof.Machine.execVfFlr t s
  | .vfEnableClear => Sys2Proof.Machine.execVfEnableClear s
  | .pcieLinkUp speed width => Sys2Proof.Machine.execPcieLinkUp speed width s
  | .pcieLinkDown => Sys2Proof.Machine.execPcieLinkDown s
  | .handshakeFault reason => Sys2Proof.Machine.execHandshakeFault reason s
  | .clockCheck clock ppm => Sys2Proof.Machine.execClockCheck clock ppm s
  | .supplyFault rail mv lost => Sys2Proof.Machine.execSupplyFault rail mv lost s
  | .owlLockstepMismatch => Sys2Proof.Machine.execOwlLockstepMismatch s
  | .l4Action ms lost => Sys2Proof.Machine.execL4Action ms lost s
  | .safRestore a v => Sys2Proof.Machine.execSafRestore a v s
  | .enterL4 a v => Sys2Proof.Machine.execEnterL4 a v s
  | .safInject a v => Sys2Proof.Machine.execSafInject a v s
  | .heartbeat a v => Sys2Proof.Machine.execHeartbeat a v s
  | .mgmtHbLost ms lost => Sys2Proof.Machine.execMgmtHbLost ms lost s
  | .gleanerPassComplete ms next => Sys2Proof.Machine.execGleanerPassComplete ms next s
  | .bistComplete core ok next => Sys2Proof.Machine.execBistComplete core ok next s
  | .diagOverdue ms => Sys2Proof.Machine.execDiagOverdue ms s
  | .gleanCheck item finding => Sys2Proof.Machine.execGleanCheck item finding s
  | .owlParamLoad => Sys2Proof.Machine.execOwlParamLoad s
  | .sramUncorr word slots => Sys2Proof.Machine.execSramUncorr word slots s
  | .dbgAttached => Sys2Proof.Machine.execDbgAttached s
  | .mbxLockRead ini ch view => Sys2Proof.Machine.execMbxLockRead ini ch view s
  | .mbxLockRelease a ch v view => Sys2Proof.Machine.execMbxLockRelease a ch v view s
  | .mbxMsgWrite a ch n v view => Sys2Proof.Machine.execMbxMsgWrite a ch n v view s
  | .mbxSend a ch v view => Sys2Proof.Machine.execMbxSend a ch v view s
  | .mbxAck a ch v view => Sys2Proof.Machine.execMbxAck a ch v view s
  | .mbxPop ini ch view => Sys2Proof.Machine.execMbxPop ini ch view s
  | .lockExpired ch => Sys2Proof.Machine.execLockExpired ch s
  | .bindLock a v => Sys2Proof.Machine.execBindLock a v s
  | .managerDoorbellWrite a t v => Sys2Proof.Machine.execManagerDoorbellWrite a t v s
  | .instanceDoorbellWrite t be v => Sys2Proof.Machine.execInstanceDoorbellWrite t be v s
  | .bbxEntryWrite => Sys2Proof.Machine.execBbxEntryWrite s
  | .postTimeout => Sys2Proof.Machine.execPostTimeout s
  | .bbxSnapshot => Sys2Proof.Machine.execBbxSnapshot s
  | .bbxUnfreeze a v => Sys2Proof.Machine.execBbxUnfreeze a v s
  | .bbxSnapshotCmd a v => Sys2Proof.Machine.execBbxSnapshotCmd a v s
  | .bbxEraseSlot a v => Sys2Proof.Machine.execBbxEraseSlot a v s
  | .slotEraseDone => Sys2Proof.Machine.execSlotEraseDone s
  | .bbxEntryRead ini index => Sys2Proof.Machine.execBbxEntryRead ini index s
  | .internalPor => Sys2Proof.Machine.execInternalPor s
  | .porstNAssert => Sys2Proof.Machine.execPorstNAssert s
  | .porstNRelease bootSel aonKept cool => Sys2Proof.Machine.execPorstNRelease bootSel aonKept cool s
  | .releaseStep => Sys2Proof.Machine.execReleaseStep s
  | .warmRstN lost => Sys2Proof.Machine.execWarmRstN lost s
  | .owlDomainRepower pd => Sys2Proof.Machine.execOwlDomainRepower pd s
  | .rstCmdWarm a v lost => Sys2Proof.Machine.execRstCmdWarm a v lost s
  | .rstCmdDomain a v lost => Sys2Proof.Machine.execRstCmdDomain a v lost s
  | .perstN => Sys2Proof.Machine.execPerstN s
  | .hotReset => Sys2Proof.Machine.execHotReset s
  | .delayedResetAssert us => Sys2Proof.Machine.execDelayedResetAssert us s
  | .domainRestored pd => Sys2Proof.Machine.execDomainRestored pd s
  | .pwrOn a v => Sys2Proof.Machine.execPwrOn a v s
  | .pwrOff a v => Sys2Proof.Machine.execPwrOff a v s
  | .pfailAsserted => Sys2Proof.Machine.execPfailAsserted s
  | .pfailCleared ms => Sys2Proof.Machine.execPfailCleared ms s
  | .thmSample t => Sys2Proof.Machine.execThmSample t s
  | .thermalTrip mask => Sys2Proof.Machine.execThermalTrip mask s
  | .grnProgram a v => Sys2Proof.Machine.execGrnProgram a v s
  | .programDone first second => Sys2Proof.Machine.execProgramDone first second s
  | .grnErase a v => Sys2Proof.Machine.execGrnErase a v s
  | .eraseDone first second => Sys2Proof.Machine.execEraseDone first second s
  | .grnSuspend a v => Sys2Proof.Machine.execGrnSuspend a v s
  | .grnResume a v => Sys2Proof.Machine.execGrnResume a v s
  | .granaryRead ini word margin => Sys2Proof.Machine.execGranaryRead ini word margin s
  | .journalErase ring => Sys2Proof.Machine.execJournalErase ring s
  | .protWrite a v wpn => Sys2Proof.Machine.execProtWrite a v wpn s
  | .protStored => Sys2Proof.Machine.execProtStored s
  | .scanDone us retried failed => Sys2Proof.Machine.execScanDone us retried failed s
  | .firmwareBoot => Sys2Proof.Machine.execFirmwareBoot s
  | .fwBootComplete => Sys2Proof.Machine.execFwBootComplete s
  | .fwTrial a v fail => Sys2Proof.Machine.execFwTrial a v fail s
  | .fwCommit a v fail => Sys2Proof.Machine.execFwCommit a v fail s
  | .failTrial a v fail => Sys2Proof.Machine.execFailTrial a v fail s
  | .imgSlotSelect a v fail => Sys2Proof.Machine.execImgSlotSelect a v fail s
  | .trialExpired => Sys2Proof.Machine.execTrialExpired s
  | .fuseProgram fail => Sys2Proof.Machine.execFuseProgram fail s
  | .fuseRevoke => Sys2Proof.Machine.execFuseRevoke s
  | .sensorReadCycle adc i2c => Sys2Proof.Machine.execSensorReadCycle adc i2c s
  | .presenceChange ini active => Sys2Proof.Machine.execPresenceChange ini active s
  | .h2Alarm => Sys2Proof.Machine.execH2Alarm s
  | .h2Clear => Sys2Proof.Machine.execH2Clear s
  | .h2HoldEnd => Sys2Proof.Machine.execH2HoldEnd s
  | .scheduleEvaluation => Sys2Proof.Machine.execScheduleEvaluation s
  | .loopRun l aux => Sys2Proof.Machine.execLoopRun l aux s
  | .damperStall d => Sys2Proof.Machine.execDamperStall d s
  | .damperSync d valve => Sys2Proof.Machine.execDamperSync d valve s
  | .mstpFrameReceive good typ dst src data => Sys2Proof.Machine.execMstpFrameReceive good typ dst src data s
  | .replyPostponed => Sys2Proof.Machine.execReplyPostponed s
  | .mstpRxPop a v => Sys2Proof.Machine.execMstpRxPop a v s
  | .mstpTxPush a v => Sys2Proof.Machine.execMstpTxPush a v s
  | .mstpHeartbeat a v => Sys2Proof.Machine.execMstpHeartbeat a v s
  | .mstpAbsent => Sys2Proof.Machine.execMstpAbsent s
  | .mstpLeft => Sys2Proof.Machine.execMstpLeft s
  | .fanKick a v ms => Sys2Proof.Machine.execFanKick a v ms s
  | .fanWdtExpired => Sys2Proof.Machine.execFanWdtExpired s
  | .rpmUpdate t => Sys2Proof.Machine.execRpmUpdate t s
  | .fanFaultClear a c v => Sys2Proof.Machine.execFanFaultClear a c v s
  | .motorSet a m v => Sys2Proof.Machine.execMotorSet a m v s
  | .alignEnd m sums => Sys2Proof.Machine.execAlignEnd m sums s
  | .handover m vbus aux periods => Sys2Proof.Machine.execHandover m vbus aux periods s
  | .startRetry m => Sys2Proof.Machine.execStartRetry m s
  | .retryDelayEnd m => Sys2Proof.Machine.execRetryDelayEnd m s
  | .speedLoopStep m x => Sys2Proof.Machine.execSpeedLoopStep m x s
  | .motorStopped m => Sys2Proof.Machine.execMotorStopped m s
  | .lockedRotor m => Sys2Proof.Machine.execLockedRotor m s
  | .keEvaluation m periods => Sys2Proof.Machine.execKeEvaluation m periods s
  | .overcurrentTrip m again => Sys2Proof.Machine.execOvercurrentTrip m again s
  | .driverFault m => Sys2Proof.Machine.execDriverFault m s
  | .adcFault m => Sys2Proof.Machine.execAdcFault m s
  | .motorFaultClear a m v high => Sys2Proof.Machine.execMotorFaultClear a m v high s
  | .motorAutoRestart m => Sys2Proof.Machine.execMotorAutoRestart m s
  | .keyWake high ms => Sys2Proof.Machine.execKeyWake high ms s
  | .keyScan closed ms lost => Sys2Proof.Machine.execKeyScan closed ms lost s
  | .ladderSample l code ms lost => Sys2Proof.Machine.execLadderSample l code ms lost s
  | .pnlEvtPop ini ms => Sys2Proof.Machine.execPnlEvtPop ini ms s
  | .pnlLock a v ms => Sys2Proof.Machine.execPnlLock a v ms s
  | .pnlUnlock a v ms => Sys2Proof.Machine.execPnlUnlock a v ms s
  | .qepEdge e qa qb => Sys2Proof.Machine.execQepEdge e qa qb s
  | .qepIndex x => Sys2Proof.Machine.execQepIndex x s
  | .spim0Init sig => Sys2Proof.Machine.execSpim0Init sig s
  | .flashRead a v => Sys2Proof.Machine.execFlashRead a v s
  | .flashProgram a v => Sys2Proof.Machine.execFlashProgram a v s
  | .flashErase4k a v => Sys2Proof.Machine.execFlashErase4k a v s
  | .flashErase64k a v => Sys2Proof.Machine.execFlashErase64k a v s
  | .flashOpComplete => Sys2Proof.Machine.execFlashOpComplete s
  | .flashTimeout => Sys2Proof.Machine.execFlashTimeout s
  | .spim1Go a v => Sys2Proof.Machine.execSpim1Go a v s
  | .spim1Done data => Sys2Proof.Machine.execSpim1Done data s
  | .rdyTimeout x => Sys2Proof.Machine.execRdyTimeout x s
  | .spisRead addr n late => Sys2Proof.Machine.execSpisRead addr n late s
  | .spisWrite addr data => Sys2Proof.Machine.execSpisWrite addr data s
  | .spisStatus n late => Sys2Proof.Machine.execSpisStatus n late s
  | .spisWarmReset code data lost => Sys2Proof.Machine.execSpisWarmReset code data lost s
  | .uartFrameReceive u f => Sys2Proof.Machine.execUartFrameReceive u f s
  | .uartDataRead ini u => Sys2Proof.Machine.execUartDataRead ini u s
  | .uartDataWrite a u v => Sys2Proof.Machine.execUartDataWrite a u v s
  | .modbusEom x => Sys2Proof.Machine.execModbusEom x s
  | .i2cGo a c v sda => Sys2Proof.Machine.execI2cGo a c v sda s
  | .i2cComplete c e => Sys2Proof.Machine.execI2cComplete c e s
  | .sfpPresenceChange p present los => Sys2Proof.Machine.execSfpPresenceChange p present los s
  | .warmRstNRelease => Sys2Proof.Machine.execWarmRstNRelease s
  | .perstNRelease => Sys2Proof.Machine.execPerstNRelease s
  | .porRelease bootSel => Sys2Proof.Machine.execPorRelease bootSel s
  | .hostCreditReturn => Sys2Proof.Machine.execHostCreditReturn s
  | .tcpRetransmitTimeout n admin => Sys2Proof.Machine.execTcpRetransmitTimeout n admin s
  | .frerResetTimeout r => Sys2Proof.Machine.execFrerResetTimeout r s
  | .pauseQuantaExpired port => Sys2Proof.Machine.execPauseQuantaExpired port s
  | .mstpTimerExpiry t => Sys2Proof.Machine.execMstpTimerExpiry t s
  | .uartTxComplete u => Sys2Proof.Machine.execUartTxComplete u s
  | .dbgDetached => Sys2Proof.Machine.execDbgDetached s
  | .ringLinkLock link => Sys2Proof.Machine.execRingLinkLock link s
  | .itrExpired t q => Sys2Proof.Machine.execItrExpired t q s
  | .maskedColumnScan c closed ms lost => Sys2Proof.Machine.execMaskedColumnScan c closed ms lost s
  | .heaterMinTimeEnd h => Sys2Proof.Machine.execHeaterMinTimeEnd h s
  | .readSuspendEnd us => Sys2Proof.Machine.execReadSuspendEnd us s

end Sys2Proof.Machine
end

