-- ==== Sys2Proof/Safety.lean ====
section
/-! DEFINITION. What counts as a safe state, and when the block takes a command: the terms in which the claims are stated. -/

namespace Sys2Proof.Machine

/-! ### When a command is taken -/

/-- A write to a register of the block at `base` in domain `pd` is taken: the initiator is not the confined debug port (R594), the
block is accessible (R44), and every byte is enabled (R41). -/
abbrev Accepts (s : State) (a : Access) (base pd : Nat) : Prop :=
  debugShut s a.init = false ∧ blockUp s base pd = true ∧ a.be = 15

/-- A write in the window of instance `t` to a register whose effect lies in domain `pd` is taken (R41, R44, R546). -/
abbrev AcceptsView (s : State) (t : Nat) (be : BitVec 4) (pd : Nat) : Prop :=
  domainUp s 13 = true ∧ s.bit (Reg.HIF_TEN_STATUS_FLR_ACTIVE t) = false ∧ domainUp s pd = true ∧ be = 15

/-- An access to a mailbox channel reaches it (R44, R594, R600). -/
abbrev ReachesChannel (s : State) (i : Ident) (c : Nat) (view : Bool) : Prop :=
  debugShut s i = false ∧ windowShut s i view = false ∧ reaches s i c = true

/-- A word of a command register holds the key (R13). -/
abbrev Keyed (v : Word) : Prop := fieldOf v 16 16 = 0xC0DE

/-- A Granary command is taken; `any`: also while the Granary is busy (R699, R705). -/
abbrev GranaryTakes (s : State) (a : Access) (any : Bool) : Prop :=
  Accepts s a 0x900000 19 ∧ isPfOrMgmt a.init = true ∧ s.bit Reg.GRN_STATUS_SCAN = false ∧ s.bit Reg.PWR_PFAIL_LOW = false ∧
    (any || !grnBusy s) = true

/-- A firmware command is taken as far as who and when go (R721). -/
abbrev FirmwareTakes (s : State) (a : Access) : Prop :=
  Accepts s a 0x900000 19 ∧ s.bit Reg.GRN_STATUS_SCAN = false ∧ grnBusy s = false

/-- The initiator and the address of a command that is an access to an address of its own: the register accesses and block commits. -/
def addressOf : Instr → Option (Ident × Nat)
  | .registerWrite a addr _ => some (a.init, addr)
  | .lowWordRead r addr => some (r.init, addr)
  | .rcRead r addr => some (r.init, addr)
  | .blockCommitGo a page _ => some (a.init, page)
  | .blockCommitDiscard a page => some (a.init, page)
  | _ => none

/-! ### Safe states -/

/-- The register file and the pending values are in their canonical form. -/
abbrev State.Canonical (s : State) : Prop :=
  Tab.wf resetOf s.regs ∧ Tab.wf (fun _ => ({} : Pend)) s.pend

/-- The events that wait for the black box fit its queue of 64 (R617). -/
abbrev State.QueueBounded (s : State) : Prop := s.bbx.queue.length ≤ 64

/-- The register file and the pending values are canonical, and the event queue is within its bound. -/
abbrev State.Sound (s : State) : Prop := s.Canonical ∧ s.QueueBounded

/-- At service level L4 every ALM output is de-energised and HEALTHY is withdrawn (R583). -/
abbrev State.SilentAtL4 (s : State) : Prop :=
  s.rd Reg.SAF_STATUS_LEVEL = 4 → s.saf.alm = 0 ∧ s.saf.healthy = false

/-- No channel of the mailboxes holds a waiting message and an ended one at once (Table 13.1). -/
abbrev State.ChannelsLegal (s : State) : Prop :=
  ∀ c : Fin 64, s.bit (Reg.MBX_STATUS_FULL c.val) = true → s.bit (Reg.MBX_STATUS_ACKED c.val) = false

/-- The FIFOs of every UART hold 64 bytes at most, and the counts and flags of its STATUS show them (R852, Table 18.10). -/
abbrev State.UartsLegal (s : State) : Prop :=
  ∀ u : Fin 4, (uart s u.val).rx.length ≤ 64 ∧ (uart s u.val).tx.length ≤ 64 ∧
    s.rd (Reg.UAR_STATUS_RX_CNT u.val) = (uart s u.val).rx.length ∧ s.rd (Reg.UAR_STATUS_TX_CNT u.val) = (uart s u.val).tx.length ∧
    s.bit (Reg.UAR_STATUS_TX_EMPTY u.val) = (uart s u.val).tx.isEmpty

/-- The commands of the mailboxes and doorbells. -/
def mailboxCommand : Instr → Bool
  | .mbxLockRead .. | .mbxLockRelease .. | .mbxMsgWrite .. | .mbxSend .. | .mbxAck .. | .mbxPop .. | .lockExpired .. | .bindLock ..
  | .managerDoorbellWrite .. | .instanceDoorbellWrite .. => true
  | _ => false

/-- The commands of the UARTs. -/
def uartCommand : Instr → Bool
  | .uartFrameReceive .. | .uartDataRead .. | .uartDataWrite .. | .uartTxComplete .. | .modbusEom .. => true
  | _ => false

/-- What the mailbox commands keep, with only mailbox commands waiting. -/
abbrev State.MailboxInv (s : State) : Prop :=
  (∀ c ∈ s.pending, mailboxCommand c = true) ∧ s.Sound ∧ s.ChannelsLegal

/-- What the UART commands keep, with only UART commands waiting. -/
abbrev State.UartInv (s : State) : Prop :=
  (∀ c ∈ s.pending, uartCommand c = true) ∧ s.Sound ∧ s.UartsLegal

/-- The memories, buffers, pending values and waiting commands are those of another state. -/
abbrev State.SameMemories (s t : State) : Prop :=
  t.grn = s.grn ∧ t.flash = s.flash ∧ t.img = s.img ∧ t.acq = s.acq ∧ t.thr = s.thr ∧ t.mpr = s.mpr ∧ t.slo = s.slo ∧ t.pkt = s.pkt ∧
    t.cry = s.cry ∧ t.ns = s.ns ∧ t.pend = s.pend ∧ t.pending = s.pending

end Sys2Proof.Machine
end

