-- ==== Sys2Proof/Certificates/Slice0/Obligations.lean ====
section
/-! DEFINITION. The statements about the model, for the provers. Each names the rules of the spec that it formalises or rests on. -/

open Sys2Proof Sys2Proof.Machine

/-- One step runs the command that has waited longest, on the state without it. For every state whose queue is c :: rest, step
answers what exec answers for c on the state whose queue is rest. The queue is the model's own (log 1): the first in is the
first out. (00_scope.md, INDEX.md) -/
def Obligations.StepRunsTheFrontCommand : Prop :=
  ∀ (c : Instr) (rest : List Instr) (s : State), s.pending = c :: rest → step s = exec c { s with pending := rest }

/-- With no command waiting the block idles (the model's choice, log 1). A step on an empty queue answers the state as it is: every
instant of the spec is a command of the table, so nothing happens between commands. This is the model's choice (DESIGN CHOICE,
log 1). (00_scope.md) -/
def Obligations.EmptyQueueIdles : Prop :=
  ∀ s : State, s.pending = [] → step s = .next s

/-- At reset every register holds its reset value and nothing is pending. In State.reset every register key reads the reset value of
its register row, no value is pending, held or latched, no event waits and no command waits; GLB_ID reads 0x00F77720 and the
tick generator is STOPPED with time quality FREERUN. (R48, R8, R637, 00_scope.md, 01_the_tick.md, 02_time_base.md,
13_black_box.md, 14_power_clock_reset.md) -/
def Obligations.ResetLeavesResetValues : Prop :=
  (∀ k : Nat, State.reset.reg k = resetOf k) ∧ State.reset.pend = [] ∧ State.reset.held = [] ∧ State.reset.snaps = [] ∧
    State.reset.pending = [] ∧ State.reset.bbx.queue = [] ∧ State.reset.reg Reg.GLB_ID.key = 0x00F77720#32 ∧
    State.reset.rd Reg.TIK_STATUS_STATE = 0 ∧ State.reset.rd Reg.TIM_STATUS_QUALITY = 2

/-- The reset state is canonical, its event queue is within bounds and its outputs are silent. State.reset meets the three
invariants of Safety.lean: the register file and the pending values are in canonical form, at most 64 events wait for the black
box, and the ALM outputs and HEALTHY are as R583 wants them at L4. (R48, R16, R617) -/
def Obligations.ResetIsCanonical : Prop :=
  State.reset.Canonical ∧ State.reset.QueueBounded ∧ State.reset.SilentAtL4

/-- A field reads the value written to it in its own width, and every other field keeps its value. For every state, every field f
within a 32-bit word and every value v: after the write of f the field reads v modulo 2^w; every field of another register, and
every field of the same register that shares no bit with f, reads as before; every pending value, event, memory byte and queued
command is unchanged. (R6, R8, 00_scope.md) -/
def Obligations.FieldReadsBackWhatIsWritten : Prop :=
  ∀ (s : State) (f : Fld) (v : Nat), f.lo + f.w ≤ 32 →
    (s.wr f v).rd f = v % 2 ^ f.w ∧
    (∀ g : Fld, (g.key ≠ f.key ∨ g.lo + g.w ≤ f.lo ∨ f.lo + f.w ≤ g.lo) → (s.wr f v).rd g = s.rd g) ∧
    (s.wr f v).pend = s.pend ∧ (s.wr f v).events = s.events ∧ (s.wr f v).img = s.img ∧ (s.wr f v).grn = s.grn ∧
    (s.wr f v).flash = s.flash ∧ (s.wr f v).pending = s.pending

/-- What a write does to one field: live, write-one-to-clear, write-one-to-set, tick-latched, quiet-only, structure-owned. For every
state, register key and value, writing one field f whose bits fit the word: a live RW field takes its bits of the value; in a
W1C field the ones written are cleared; in a W1S field they are set; a read-only, write-only or read-to-clear field keeps its
value; a tick-latched field keeps its active value and its pending value takes the written bits; a quiet-only RW field takes the
value only in the Quiet state and refuses a change outside it; a structure-owned field never changes and refuses a different
value. In every case all other bits of the register keep their active value. (R12, R16, R19, R22, R23) -/
def Obligations.FieldsFollowTheirAccessCodeAndClass : Prop :=
  ∀ (s : State) (k : Nat) (quiet : Bool) (v : Word) (f : FieldD), f.lo + f.w ≤ 32 →
    let t := writeField s k quiet v f
    let new := fieldOf v f.lo f.w
    let old := fieldOf (s.reg k) f.lo f.w
    let now := fieldOf (t.1.reg k) f.lo f.w
    (∀ i, i < 32 → (i < f.lo ∨ f.lo + f.w ≤ i) → (t.1.reg k).getLsbD i = (s.reg k).getLsbD i) ∧
    (∀ l, l ≠ k → t.1.reg l = s.reg l) ∧
    (f.cls = .live → f.acc = .rw → now = new ∧ t.2 = false) ∧
    (f.cls = .live → f.acc = .w1c → now = Nat.land old (2 ^ f.w - 1 - new) ∧ t.2 = false) ∧
    (f.cls = .live → f.acc = .w1s → now = Nat.lor old new ∧ t.2 = false) ∧
    (f.cls = .live → (f.acc = .ro ∨ f.acc = .wo ∨ f.acc = .rc) → t = (s, false)) ∧
    ((f.cls = .tick ∨ f.cls = .tickSafe) → t.1.regs = s.regs ∧ t.2 = false ∧
      fieldOf (Tab.get {} t.1.pend k).val f.lo f.w = new ∧ fieldOf (Tab.get {} t.1.pend k).mask f.lo f.w = 2 ^ f.w - 1) ∧
    (f.cls = .quiet → f.acc = .rw → quiet = true → now = new ∧ t.2 = false) ∧
    (f.cls = .quiet → f.acc = .rw → quiet = false → t.1 = s ∧ (t.2 = true ↔ new ≠ old)) ∧
    (f.cls = .struc → t.1 = s ∧ (t.2 = true ↔ new ≠ old))

/-- A commit copies every dirty bit of the picked registers to its active value and leaves every other register alone. For every
state whose pending values are in canonical form, and every choice of registers: after the commit a picked register holds its
pending value in the dirty bits and its old active value in the others, and has no pending value; a register that is not picked
keeps both its active and its pending value. (R20, R84, R236) -/
def Obligations.CommitMovesPendingToActive : Prop :=
  ∀ (s : State) (sel : Nat → Bool), Tab.wf (fun _ => ({} : Pend)) s.pend → ∀ k : Nat,
    (commitWhere s sel).reg k = (if sel k then mergeBits (s.reg k) (Tab.get {} s.pend k).mask (Tab.get {} s.pend k).val else s.reg k) ∧
    Tab.get {} (commitWhere s sel).pend k = (if sel k then {} else Tab.get {} s.pend k)

/-- A discard before slot 504 drops the block's pending values, and changes nothing else. For every state in which slot 504 has not
begun and whose pending values are in canonical form: after the discard of a page no register of the page has a pending value,
every register outside it keeps its own, and every active value is unchanged. (R236) -/
def Obligations.DiscardDropsOnlyTheBlocksPendingValues : Prop :=
  ∀ (s : State) (page : Nat), afterSlot504 s = false → Tab.wf (fun _ => ({} : Pend)) s.pend → ∀ k : Nat,
    (discardBlock s page).reg k = s.reg k ∧
    Tab.get {} (discardBlock s page).pend k = (if inPages s page k then {} else Tab.get {} s.pend k)

/-- A raised event is logged once, reaches the black box's queue of 64 or its loss counters, and changes nothing else. For every
state and event: the event is the newest of the log; the queue towards the black box either keeps its events, or has the event
added at its end where fewer than 64 waited; no register changes but the black box's FROZEN_DROP, LOST and STATUS; no pending
value, memory byte, output or queued command changes. (R30, R615, R617, R619) -/
def Obligations.RaisedEventIsLogged : Prop :=
  ∀ (s : State) (block code : Nat) (sev : Sev) (p : Nat),
    let t := raise s block code sev p
    t.events = mkEvent block code sev p :: s.events ∧
    (t.bbx.queue = s.bbx.queue ∨ (s.bbx.queue.length < 64 ∧ t.bbx.queue = s.bbx.queue ++ [mkEvent block code sev p])) ∧
    (∀ k, k ≠ Reg.BBX_FROZEN_DROP.key → k ≠ Reg.BBX_STATUS_MISSED_SAFETY.key → k ≠ Reg.BBX_LOST.key → t.reg k = s.reg k) ∧
    t.pend = s.pend ∧ t.img = s.img ∧ t.grn = s.grn ∧ t.flash = s.flash ∧ t.outputs = s.outputs ∧ t.pending = s.pending

/-- A write that is not taken is dropped with the event of its cause. For every state and every write to a command register of a
block: through the confined debug port it raises CFG_VIOL; otherwise to a block whose domain is down it raises ISO_ERR;
otherwise with a byte enable missing it raises ACC_SIZE; otherwise the command is carried out. In the three refused cases every
register but the black box's counters keeps its value. (R41, R44, R594) -/
def Obligations.GateRefusesByCause : Prop :=
  ∀ (s : State) (a : Access) (base block pd addr : Nat) (k : State → State),
    let t := withWrite s a base block pd addr k
    (debugShut s a.init = true → t = cfgViol s block a.init (viewAddr addr)) ∧
    (debugShut s a.init = false → blockUp s base pd = false → t = isoErr s block a.init (viewAddr addr) pd) ∧
    (debugShut s a.init = false → blockUp s base pd = true → a.be ≠ 15 → t = accSize s block a.init (viewAddr addr)) ∧
    (Accepts s a base pd → t = k s) ∧
    (¬ Accepts s a base pd → ∀ l, l ≠ Reg.BBX_FROZEN_DROP.key → l ≠ Reg.BBX_STATUS_MISSED_SAFETY.key → l ≠ Reg.BBX_LOST.key →
      t.reg l = s.reg l ∧ t.pend = s.pend ∧ t.img = s.img ∧ t.grn = s.grn ∧ t.flash = s.flash ∧ t.outputs = s.outputs)

/-- Every command answers a next state in every state, but for an access whose address does not exist for its initiator, which
faults. For every command and every state: unless the command is a register access or a block commit, exec answers a next state.
So does a register access or a block commit whose address its initiator reaches. One whose address the initiator does not reach
faults with outsideBar and that address (the model's name for it, log 20). No command is refused, in no state. (R3, R22, R42,
R44, 00_scope.md, INDEX.md) -/
def Obligations.EveryCommandAnswers : Prop :=
  (∀ (c : Instr) (s : State), addressOf c = none → ∃ t, exec c s = .next t) ∧
  (∀ (c : Instr) (s : State) (i : Ident) (addr p : Nat), addressOf c = some (i, addr) → reach i addr = some p → ∃ t, exec c s = .next t) ∧
  (∀ (c : Instr) (s : State) (i : Ident) (addr : Nat), addressOf c = some (i, addr) → reach i addr = none →
    exec c s = .fault (.outsideBar addr))

/-- REGISTER_WRITE, LOW_WORD_READ, RC_READ, BLOCK_COMMIT_GO and BLOCK_COMMIT_DISCARD complete where the address is reached, and
fault elsewhere. A write of 32 bits that reaches a place acts as the write of that place, and one of 64 bits to an aligned pair
as the write of its low word and then of its high word (R43). A read answers the bytes asked for of the word that the read of
that place answers, the others 0, and of an aligned pair both words (R42, R43). An access to an address that does not exist for
its initiator faults. GLB_SCRATCH takes the word written to it by a reached and accepted write (R22). A full read of
TIK_COUNT_LO that the confined debug port does not make, with PD02 up, gives the low word and latches the high word for its
reader (R10). A full read of DATA of UART 0 by its owner, with PD20 up, removes the oldest word of a non-empty RX FIFO and
answers it (R14). A commit or discard of a block with a COMMIT register, and of a tenant window, acts on that block or window
where the write is accepted (R236). (R3, R9, R10, R14, R22, R42, R43, R236) -/
def Obligations.AccessCommandsComplete : Prop :=
  (∀ (a : Access) (addr p : Nat) (v : Word) (s : State), reach a.init addr = some p →
    exec (.registerWrite a addr ⟨v, none⟩) s = .next (writeAt s a p v)) ∧
  (∀ (a : Access) (addr p : Nat) (v h : Word) (s : State), reach a.init addr = some p → wideOk p = true →
    exec (.registerWrite a addr ⟨v, some h⟩) s = .next (writeAt (writeAt s a p v) a (p + 4) h)) ∧
  (∀ (a : Access) (addr : Nat) (v : WData) (s : State), reach a.init addr = none →
    exec (.registerWrite a addr v) s = .fault (.outsideBar addr)) ∧
  (∀ (a : Access) (v : Word) (s : State), reach a.init 8 = some 8 → Accepts s a 0 0 →
    exec (.registerWrite a 8 ⟨v, none⟩) s = .next (s.setReg 8 v)) ∧
  (∀ (r : RAccess) (addr p : Nat) (s : State), reach r.init addr = some p → r.wide = false →
    exec (.lowWordRead r addr) s = .next (narrowRead s r p) ∧ exec (.rcRead r addr) s = .next (narrowRead s r p) ∧
    (narrowRead s r p).resp = (readAt s r.init p).resp.map (askedBytes r.be)) ∧
  (∀ (r : RAccess) (addr p : Nat) (s : State), reach r.init addr = some p → r.wide = true → wideOk p = true →
    exec (.lowWordRead r addr) s = .next (wideRead s r.init p) ∧ exec (.rcRead r addr) s = .next (wideRead s r.init p) ∧
    (wideRead s r.init p).resp = (readAt s r.init p).resp ∧
    (wideRead s r.init p).respHigh = (readAt (readAt s r.init p) r.init (p + 4)).resp) ∧
  (∀ (r : RAccess) (addr : Nat) (s : State), reach r.init addr = none →
    exec (.lowWordRead r addr) s = .fault (.outsideBar addr) ∧ exec (.rcRead r addr) s = .fault (.outsideBar addr)) ∧
  (∀ (i : Ident) (s : State), reach i 0x10010 = some 0x10010 → debugShut s i = false → blockUp s 0x10000 2 = true →
    exec (.lowWordRead ⟨i, 15, false⟩ 0x10010) s = .next { s with
      snaps := Tab.put none s.snaps (initKey i 0x10010) (some (s.reg 0x10014)), resp := some (s.reg 0x10010), respHigh := none }) ∧
  (∀ (i : Ident) (s : State) (w : Word) (ws : List Word), reach i 0xA6000C = some 0xA6000C → debugShut s i = false →
    domainUp s 20 = true → ownsUart s 0 i = true → (uart s 0).rx = w :: ws →
    exec (.rcRead ⟨i, 15, false⟩ 0xA6000C) s =
      .next { setUart s 0 { uart s 0 with rx := ws } with resp := some w, respHigh := none }) ∧
  (∀ (a : Access) (s : State) (b : BlockD), b ∈ blocks → hasCommit b = true → b.base ≠ 0x4000000 → reach a.init b.base = some b.base →
    Accepts s a b.base b.pd →
    exec (.blockCommitGo a b.base false) s = .next (commitGo s b.base) ∧
    exec (.blockCommitDiscard a b.base) s = .next (discardBlock s b.base)) ∧
  (∀ (t : Fin 128) (a : Access) (s : State), reach a.init (0x4000000 + t.val * 0x40000) = some (0x4000000 + t.val * 0x40000) →
    AcceptsView s t.val a.be 13 →
    exec (.blockCommitGo a (0x4000000 + t.val * 0x40000) false) s = .next (commitGo s (0x4000000 + t.val * 0x40000)) ∧
    exec (.blockCommitDiscard a (0x4000000 + t.val * 0x40000)) s = .next (discardBlock s (0x4000000 + t.val * 0x40000)))

/-- TICK_EDGE, FINAL_VOTE, HAND_OFF, SEAM_COMMIT, SENTINEL_CHECK and TIK_COMMIT_ARM complete when their slot is due. With PD02 up
and the tick generator running, the last phase begun is the one that SLOT shows. An edge is due after slot 508, or when the
generator starts; the final vote before slot 496, the hand-off after it, the seam commit after slot 500 and the sentinel check
after slot 504. Each command that is due answers a next state, the one that its parts give in the order that the model takes
them (DEDUCED, log 10), and SLOT shows 0, 496, 500, 504 and 508 there where its parts begin. A write of TIK_COMMIT that is taken
answers what writeTikCommit gives. (R20, R58, R64, R66, R79, R94, R348, 01_the_tick.md, 95_what_each_step_holds.md) -/
def Obligations.TickPhasesComplete : Prop :=
  (∀ (n : Nat) (s : State), domainUp s 2 = true → (s.tik.starts || phaseOpen s (· == 508)) = true →
    exec (.tickEdge n) s = .next (
      let c := countTick (slewBy s s.rate n)
      let u := markStretch (wantedStep (tickState (ageHistory c) s.tik.starts))
      let u := injectEdge { u with bbx := { u.bbx with level := u.rd Reg.SAF_STATUS_LEVEL }, saf := { u.saf with sramBad := [] } }
      blockEdges (if s.tik.activate == 3 then firstRunning u else u)) ∧
    (countTick (slewBy s s.rate n)).rd Reg.TIK_STATUS_SLOT = 0) ∧
  (∀ s : State, phaseOpen s (fun j => decide (j < 496)) = true →
    exec .finalVote s = .next (
      let u := s.wr Reg.TIK_STATUS_SLOT 496
      let u := { u with tik := { u.tik with qual496 := u.rd Reg.TIM_STATUS_QUALITY } }
      closeResult (finalVotes (showGates (frontQuality (if u.tim.refBack then takeRefclk u else u)) 496)))) ∧
  (∀ (fa : List (Fin 80 × Bool)) (fs : List (Fin 1024 × Fin 80 × Bool)) (na : List (Fin 7)) (s : State),
    phaseOpen s (· == 496) = true →
    exec (.handOff fa fs na) s = .next (
      pathsStep (ringHandOff (publisherHandOff (stateCopies (adoptCopy (almUpdate (showGates (s.wr Reg.TIK_STATUS_SLOT 500) 500)) fa) fs)))
        (na.map Fin.val))) ∧
  (∀ s : State, phaseOpen s (· == 500) = true →
    exec .seamCommit s = .next (
      let u := seamAmend s
      let u := if commitDue u then seamCommit u else u
      let u := afterCommit s (showGates (u.wr Reg.TIK_STATUS_SLOT 504) 504)
      if u.tik.activate = 2 then { u with tik := { u.tik with activate := 3 } } else u)) ∧
  (∀ (wrong : List (Fin 9)) (s : State), phaseOpen s (· == 504) = true →
    exec (.sentinelCheck wrong) s = .next (
      let p := handshakeStep (sentinelStep (stretchStep (showGates ((adoptAll (deferredCommits s)).wr Reg.TIK_STATUS_SLOT 508) 508)))
      let u := (List.range 9).foldl (readbackPin (wrong.map Fin.val)) (repeatsStep p.1)
      let u := healthyStep (levelStep (paramCheck (tellApplied (tellResources u)))) p.2
      if u.img.deact.any (fun k => decide (k ≤ u.tick)) then imageDeactivated u else u)) ∧
  (∀ (a : Access) (v : Word) (s : State), Accepts s a 0x10000 2 →
    exec (.tikCommitArm a v) s = .next (writeTikCommit v s))

/-- TIK_COUNT increases by exactly 1 at every tick edge, also when the time scale is stepped, up to its maximum (R102). For every
state in which the tick generator has run, the 64-bit tick count after the count of a new tick is the old one plus 1 while it is
below its maximum, and stays at the maximum (R102): it never decreases. In the first tick since the release of PD02 it is 0. A
step that waits (a next place set by the realignment) makes no difference. (R58) -/
def Obligations.TickCountRisesByOne : Prop :=
  ∀ s : State,
    (s.tik.ran = true → s.tick + 1 < 2 ^ 64 → (countTick s).tick = s.tick + 1) ∧
    (s.tik.ran = true → s.tick + 1 = 2 ^ 64 → (countTick s).tick = s.tick) ∧
    (s.tik.ran = false → (countTick s).tick = 0)

/-- An armed commit is due in the tick it was armed for, a target that is not in the future is refused as late. For every state:
arming without AT arms this tick, or the next one from slot 504 on; arming with AT for a tick after the current one sets ARM
with that target; a target at or before the current tick leaves ARM clear, sets LATE and raises the event with the target. (R79,
R80, R81, R83) -/
def Obligations.ArmedCommitIsDueInItsTick : Prop :=
  (∀ s : State, (armNow s).bit Reg.TIK_COMMIT_ARM = true ∧ (armNow s).tik.target = none ∧
    (armNow s).tik.armFrom = s.tick + (if 504 ≤ s.rd Reg.TIK_STATUS_SLOT then 1 else 0)) ∧
  (∀ s : State, let k := s.rd64 Reg.TIK_COMMIT_AT_LO Reg.TIK_COMMIT_AT_HI
    (s.tick < k → (armAt s).bit Reg.TIK_COMMIT_ARM = true ∧ (armAt s).tik.target = some k) ∧
    (k ≤ s.tick → (armAt s).bit Reg.TIK_COMMIT_ARM = false ∧ (armAt s).bit Reg.TIK_COMMIT_LATE = true ∧
      (armAt s).tik.target = none ∧ (armAt s).events = mkEvent Blk.tik 0x0103 .warn k :: s.events))

/-- TIME_READ, PPS_IN_EDGE, PPS_OUT_PULSE, TOD_LOAD, PTP_EVENT_TIMESTAMP and PTP_MASTER_TX complete. With PD02 up: a time read
answers the low word and latches the high word and the fraction for its reader. An edge of the selected polarity, at least 100
ns wide, stamped to 125 ps and within its window makes 1PPS valid where it may be; it feeds the hardware loop where 1PPS steers,
and otherwise moves a loaded time of day on; outside its window it is counted in TIM_PPS_REJ. A rise of PPS_OUT that OUT_MODE
allows sets the output and takes its stamp; one that it does not allow, and the end of the pulse, leave it low. A write of
TIM_TOD_HI that is taken loads both words. A stamp with room joins the queue, corrected by its port's latency; without room it
is counted and raises OVERLOAD. An enabled port of a role and kind that sends Sync, Follow_Up or Announce sends with the
announced class and the forwarded inaccuracy, and a Pdelay message without them; two-step by TWO_STEP or MACsec. (R104, R110,
R111, R121, R126, R128, R137, R138, R139, R153, 02_time_base.md) -/
def Obligations.TimeReadsAndStampsComplete : Prop :=
  (∀ (i : Ident) (s : State), domainUp s 2 = true → exec (.timeRead i) s = .next { s with
    snaps := Tab.put none (Tab.put none s.snaps (initKey i 0x20010) (some (BitVec.ofNat 32 (s.taiNs / 2 ^ 32))))
      (initKey i 0x20018) (some (BitVec.ofNat 32 (s.tim.now % 65536)))
    resp := some (BitVec.ofNat 32 s.taiNs) }) ∧
  (∀ (rising : Bool) (stamp w : Nat) (s : State), domainUp s 2 = true → rising = (!s.bit Reg.TIM_PPS_CFG_IN_INV) → 100 ≤ w →
    absNat ((tdc stamp : Int) - (ppsExpected s (tdc stamp) * secUnits : Nat)) ≤ s.rd Reg.TIM_PPS_CFG_WIN * 65536 →
    exec (.ppsInEdge ⟨rising, stamp⟩ w) s = .next (
      let u := becomeValid s .pps
      if loopOn u .pps then
        hardwareLoop (if todCounts u then { u with tim := { u.tim with tod := none } } else u) (offsetNs (tdc stamp) (ppsSecond u (tdc stamp)))
      else { u with tim := { u.tim with tod := u.tim.tod.map (fun x => todNext x (tdc stamp)) } })) ∧
  (∀ (rising : Bool) (stamp w : Nat) (s : State), domainUp s 2 = true → rising = (!s.bit Reg.TIM_PPS_CFG_IN_INV) → 100 ≤ w →
    s.rd Reg.TIM_PPS_CFG_WIN * 65536 < absNat ((tdc stamp : Int) - (ppsExpected s (tdc stamp) * secUnits : Nat)) →
    exec (.ppsInEdge ⟨rising, stamp⟩ w) s = .next (s.inc Reg.TIM_PPS_REJ)) ∧
  (∀ (stamp : Nat) (s : State), domainUp s 2 = true →
    (ppsAllowed (secondPassed s) = true → exec (.ppsOutPulse (some stamp)) s =
      .next { secondPassed s with tim := { (secondPassed s).tim with ppsOut := true, ppsStamp := some (tdc stamp) } }) ∧
    (ppsAllowed (secondPassed s) = false → exec (.ppsOutPulse (some stamp)) s =
      .next { secondPassed s with tim := { (secondPassed s).tim with ppsOut := false } }) ∧
    exec (.ppsOutPulse none) s = .next { s with tim := { s.tim with ppsOut := false } }) ∧
  (∀ (a : Access) (v : Word) (s : State), Accepts s a 0x20000 2 → exec (.todLoad a v) s = .next (
    let k := initKey a.init 0x200A0
    let lo := (Tab.get none s.held k).getD (s.reg 0x200A0)
    let u := ({ s with held := Tab.put none s.held k none }.wr Reg.TIM_TOD_LO lo.toNat).wr Reg.TIM_TOD_HI v.toNat
    { u with tim := { u.tim with tod := some ⟨lo.toNat + 2 ^ 32 * v.toNat, s.tim.now, false⟩, todKnown := true } })) ∧
  (∀ (p : Fin 8) (tx : Bool) (stamp : Nat) (s : State), domainUp s 2 = true →
    exec (.ptpEventTimestamp p tx stamp false) s = .next { s with tim := { s.tim with
      stamps := s.tim.stamps ++ [(p.val, tx, correctedStamp s p tx stamp)] } } ∧
    exec (.ptpEventTimestamp p tx stamp true) s = .next (overload (s.inc (Reg.TIM_PORT_TS_DROP p)) Blk.tim p)) ∧
  (∀ (p : Fin 6) (k : Fin 5) (s : State), domainUp s 2 = true → s.bit (Reg.TIM_PORT_PCFG_EN p) = true → ptpSends s k.val = true →
    overLimit s = false →
    (k.val < 3 → exec (.ptpMasterTx p k) s = .next (emit s (.ptp p k (announcedClass s) (s.tim.inacc + s.rd Reg.TIM_PTP_CFG_OWN_INACC)
      (s.bit (Reg.TIM_PORT_PCFG_TWO_STEP p) || s.bit (Reg.CRY_MS_PCFG_EN p))))) ∧
    (3 ≤ k.val → exec (.ptpMasterTx p k) s = .next (emit s (.ptp p k 0 0
      (s.bit (Reg.TIM_PORT_PCFG_TWO_STEP p) || s.bit (Reg.CRY_MS_PCFG_EN p))))))

/-- SOURCE_QUALIFIED, SOURCE_REVERT, SOURCE_LOSS, PHASE_CROSS_CHECK, SERVO_UPDATE, SERVO_TIMEOUT and IRIG_FRAME complete. With PD02
up a source valid for QUAL_TIME becomes qualified and takes part in the selection. A revert that waits, with REVERT set and some
source qualified, makes the first qualified source active. A valid source whose loss condition holds stops being valid and
qualified, and where it was active SRC_LOST is raised and the first qualified source takes over. Two valid sources are compared:
a difference within THR clears the count of disagreements, one above it adds to the count, and the tenth in a row raises its
event and clears the count. A servo update that is taken sets TIM_SERVO_OFS, and while PTP is active and the servo was not lost,
it is one offset of Table 02.4. A servo that is silent while PTP is active and WDT is not 0 raises its event and loses PTP. A
valid IRIG frame is stored with its quality, control functions and coded expression; where the loop does not run on IRIG-B and
its time quality is within TQ_MAX, that is the next state, with IRIG-B valid where it may be. A first invalid frame in a row is
counted in TIM_IRIG_ERR. (R106, R107, R108, R112, R113, R114, R130, R132, R142, R148, 02_time_base.md) -/
def Obligations.SourceCommandsComplete : Prop :=
  (∀ (x : Source) (since now : Nat) (s : State), domainUp s 2 = true → (srcOf s.tim x).valid = true →
    since + s.rd Reg.TIM_SRC_PRIO_QUAL_TIME * secUnits ≤ now →
    exec (.sourceQualified x since now) s = .next (selectAfterQualified (setSrc s x ⟨true, true⟩))) ∧
  (∀ s : State, s.tim.revertPending = true → s.bit Reg.TIM_SRC_PRIO_REVERT = true → firstQualified s ≠ 0 →
    exec .sourceRevert s = .next (setActive { s with tim := { s.tim with revertPending := false } } (firstQualified s))) ∧
  (∀ (x : Source) (r : LossReason) (s : State), lossCondition s x r = true → (srcOf s.tim x).valid = true →
    ∃ t, exec (.sourceLoss x r) s = .next t ∧ srcOf t.tim x = {} ∧
      (s.rd Reg.TIM_STATUS_ACTIVE_SRC ≠ srcCode x → t.events = s.events) ∧
      (s.rd Reg.TIM_STATUS_ACTIVE_SRC = srcCode x →
        mkEvent Blk.tim 0x0102 .warn (srcCode x + 2 ^ 8 * lossCode r) ∈ t.events)) ∧
  (∀ (x y : Source) (d : Int) (s : State), (srcOf s.tim x).valid = true → (srcOf s.tim y).valid = true →
    (let k := srcCode x * 4 + srcCode y
     let n := Tab.get 0 s.tim.disagree k + 1
     (absNat d ≤ s.rd Reg.TIM_XCHK_THR → exec (.phaseCrossCheck x y d) s =
        .next { s with tim := { s.tim with disagree := Tab.put 0 s.tim.disagree k 0 } }) ∧
     (s.rd Reg.TIM_XCHK_THR < absNat d → n < 10 → exec (.phaseCrossCheck x y d) s =
        .next { s with tim := { s.tim with disagree := Tab.put 0 s.tim.disagree k n } }) ∧
     (s.rd Reg.TIM_XCHK_THR < absNat d → 10 ≤ n → exec (.phaseCrossCheck x y d) s =
        .next (raise { s with tim := { s.tim with disagree := Tab.put 0 s.tim.disagree k 0 } } Blk.tim 0x0108 .warn
          (srcCode x + 2 ^ 8 * srcCode y + 2 ^ 32 * unsignedOf 32 d))))) ∧
  (∀ (a : Access) (v : Word) (s : State), Accepts s a 0x20000 2 → s.tim.servoLost = false →
    (s.rd Reg.TIM_STATUS_ACTIVE_SRC = 1 →
      exec (.servoUpdate a v) s = .next (takeOffset (s.wr Reg.TIM_SERVO_OFS v.toNat) (signedOf 32 v.toNat))) ∧
    (s.rd Reg.TIM_STATUS_ACTIVE_SRC ≠ 1 → exec (.servoUpdate a v) s = .next
      { s.wr Reg.TIM_SERVO_OFS v.toNat with tim := { s.tim with lastOfs := signedOf 32 v.toNat } })) ∧
  (∀ (ms : Nat) (s : State), s.rd Reg.TIM_STATUS_ACTIVE_SRC = 1 → s.rd Reg.TIM_SERVO_CFG_WDT ≠ 0 →
    exec (.servoTimeout ms) s = .next (
      let u := raise s Blk.tim 0x0106 .warn (ms % 2 ^ 32)
      loseSource { u with tim := { u.tim with servoLost := true } } .ptp .servoWatchdog)) ∧
  (∀ (f : IrigFrame) (s : State), domainUp s 2 = true → irigValid s f = true → loopOn s .irig = false →
    irigTq s f ≤ s.rd Reg.TIM_IRIG_CFG_TQ_MAX → exec (.irigFrame f) s = .next (
      let tai := (irigUtc s f + ofsAtStamp s f.stamp).toNat
      let u := ((s.wr Reg.TIM_IRIG_STATUS_TQ (irigTq s f)).wr Reg.TIM_IRIG_STATUS_CF (irigCf f)).wr Reg.TIM_IRIG_STATUS_EXPR f.expr.val
      let good := if s.tim.irigLast = some (tai - 1) ∧ 1 ≤ tai then s.tim.irigGood + 1 else 1
      becomeValid { u with tim := { u.tim with irigGood := good, irigBad := 0, irigLast := some tai, irigTq := irigTq s f } } .irig)) ∧
  (∀ (f : IrigFrame) (s : State), domainUp s 2 = true → irigValid s f = false → s.tim.irigBad = 0 → exec (.irigFrame f) s = .next (
    let u := s.inc Reg.TIM_IRIG_ERR
    { u with tim := { u.tim with irigGood := 0, irigBad := 1, irigLast := none } }))

/-- PHASE_ADJ_WRITE, FREQ_ADJ_WRITE, REALIGN_GO, REALIGN_WITHDRAWN, HOLDOVER_ESTIMATE, LEAP_APPLIED, REFCLK_LOST, REFCLK_RESTORED
and REFCLK_DETECT complete. A write of TIM_PHASE_ADJ that is taken answers what adjustPhase gives for its signed value, one of
TIM_FREQ_ADJ stores it and steers the oscillator. A REALIGN_GO with a step waiting ends the wait and sets the step for this
tick, or for the next one from slot 508 on. A waiting step whose phase error is below the step threshold is withdrawn. In
holdover the estimate of the next whole second is stored, and the time quality goes to FREERUN above the limit. With a leap flag
set the UTC offset changes by one second, both flags clear and the event is raised. With PD02 up: a loss of REFCLK takes the
backup oscillator, raises its event and goes to FREERUN; its return waits for slot 496, or is taken at once while the tick
generator is STOPPED; the detection takes a reference of 10 or 25 MHz, and changes nothing where it finds none. (R90, R91, R116,
R122, R144, R146, R150, R152, R155, 02_time_base.md) -/
def Obligations.TimeScaleCommandsComplete : Prop :=
  (∀ (a : Access) (v : Word) (s : State), Accepts s a 0x20000 2 →
    exec (.phaseAdjWrite a v) s = .next (adjustPhase s (signedOf 32 v.toNat)) ∧
    exec (.freqAdjWrite a v) s = .next (steer (s.wr Reg.TIM_FREQ_ADJ v.toNat))) ∧
  (∀ (a : Access) (v : Word) (s : State), Accepts s a 0x10000 2 → fieldOf v 8 1 = 1 → s.bit Reg.TIK_STATUS_REALIGN_PEND = true →
    exec (.realignGo a v) s = .next (
      let u := (s.wr Reg.TIK_CTRL_REALIGN_MODE (fieldOf v 0 2)).wr Reg.TIK_STATUS_REALIGN_PEND 0
      markStretch { u with tik := { u.tik with stepTick := some (if s.rd Reg.TIK_STATUS_SLOT < 508 then s.tick else s.tick + 1) } })) ∧
  (∀ s : State, s.bit Reg.TIK_STATUS_REALIGN_PEND = true → absNat s.tim.phaseRem < stepThr s * 65536 →
    exec .realignWithdrawn s = .next (s.wr Reg.TIK_STATUS_REALIGN_PEND 0)) ∧
  (∀ s : State, s.rd Reg.TIM_STATUS_QUALITY = 1 →
    (let t := min (s.rd Reg.TIM_HO_TIME + 1) 0xFFFFFFFF
     let e := holdoverUnits (s.rd Reg.TIM_HO_E0) (s.rd Reg.TIM_HO_FREQ) (s.rd Reg.TIM_HO_DRIFT) t
     let u := (s.wr Reg.TIM_HO_TIME t).wr Reg.TIM_HO_EST (min (e / 2000000) 0xFFFFFFFF)
     let u := { u with tim := { u.tim with est := e } }
     exec .holdoverEstimate s = .next (if s.rd Reg.TIM_HO_CFG * 2000000 < e then toFreerun u else u))) ∧
  (∀ s : State, (s.bit Reg.TIM_UTC_OFS_LEAP61 || s.bit Reg.TIM_UTC_OFS_LEAP59) = true →
    (let ofs := s.rdInt Reg.TIM_UTC_OFS_OFS
     let new := unsignedOf 16 (if s.bit Reg.TIM_UTC_OFS_LEAP61 then ofs + 1 else ofs - 1)
     let u := ((s.wr Reg.TIM_UTC_OFS_OFS new).wr Reg.TIM_UTC_OFS_LEAP61 0).wr Reg.TIM_UTC_OFS_LEAP59 0
     exec .leapApplied s = .next (raise { u with tim := { u.tim with
         leap59 := !s.bit Reg.TIM_UTC_OFS_LEAP61, ofsWas := ofs, ofsAt := s.rd64 Reg.TIM_LEAP_AT_LO Reg.TIM_LEAP_AT_HI * secUnits } }
       Blk.tim 0x0109 .info new))) ∧
  (∀ s : State, domainUp s 2 = true → s.bit Reg.TIM_STATUS_BACKUP = false → exec .refclkLost s = .next (
    let u := { s with tim := { s.tim with refBack := false } }
    toFreerun (raise ((u.wr Reg.TIM_STATUS_BACKUP 1).wr Reg.TIM_STATUS_REFCLK_OK 0) Blk.tim 0x0104 .fault s.taiNs))) ∧
  (∀ (b : Bool) (s : State), domainUp s 2 = true → s.bit Reg.TIM_STATUS_BACKUP = true → exec (.refclkRestored b) s = .next (
    let u := s.wr Reg.TIM_STATUS_REFCLK b.toNat
    if u.rd Reg.TIK_STATUS_STATE = 0 then takeRefclk u
    else { u with tim := { u.tim with refBack := true } })) ∧
  (∀ s : State, domainUp s 2 = true → s.bit Reg.TIM_STATUS_BACKUP = true →
    exec (.refclkDetect .mhz10) s =
      .next (((s.wr Reg.TIM_STATUS_REFCLK 0).wr Reg.TIM_STATUS_REFCLK_OK 1).wr Reg.TIM_STATUS_BACKUP 0) ∧
    exec (.refclkDetect .mhz25) s =
      .next (((s.wr Reg.TIM_STATUS_REFCLK 1).wr Reg.TIM_STATUS_REFCLK_OK 1).wr Reg.TIM_STATUS_BACKUP 0) ∧
    exec (.refclkDetect .none) s = .next s)

/-- IMG_LOAD, AUTOLOAD, FETCH_COMPLETE, VERIFY_COMPLETE, GUARD_COMPLETE and IMG_ABORT complete. A LOAD that is taken outside BUSY
and with no amendment armed drops a staged or refused amendment and starts the fetch from the source of IMG_CTRL. AUTOLOAD, when
it waits and IMG is released with PD18 up, starts the fetch of the slot that the boot record names, or slot A. A fetch whose
reads succeed and whose header has no failure copies a full image while no image is in force, and makes an amendment that fits
LOADING and copies it. A verification without failures goes on to the guard, one with failures ends the load with them; a guard
without failures makes a full image READY or an amendment STAGED, one with failures ends the load with them. An ABORT that is
taken ends a load: the state is ACTIVE with an image in force and EMPTY without one. (R174, R175, R177, R183, R189, R204,
03_structure_image.md, 04_tick_seam_changes.md) -/
def Obligations.ImageLoadCommandsComplete : Prop :=
  (∀ (a : Access) (v : Word) (s : State), Accepts s a 0x40000 18 → s.bit Reg.IMG_STATUS_BUSY = false →
    s.rd Reg.IMG_AMD_STATUS_ASTATE ≠ amdArmed → exec (.imgLoad a v) s = .next (
      let st := s.rd Reg.IMG_AMD_STATUS_ASTATE
      let u := if st = amdStaged ∨ st = amdRefused then dropAmend s else s
      startLoad { u with img := { u.img with auto := none } } (min (u.rd Reg.IMG_CTRL_SRC) 2) false)) ∧
  (∀ s : State, s.img.autoWait = true → s.rst.imgReset = false → domainUp s 18 = true → exec .autoload s = .next (
    let slot := if (bootRec s).img = 1 then 1 else 0
    startLoad { s with img := { s.img with autoWait := false, auto := some (slot, none) } } slot true)) ∧
  (∀ (data : List Byte) (us : Nat) (l : LoadRec) (s : State), s.img.load = some l → imgState s = imgFetch → s.spm.fetchWait = false →
    (let at_ := if l.src = 0 then s.rd Reg.IMG_FLASH_A else s.rd Reg.IMG_FLASH_B
     let get := fun n => if l.src < 2 then flashBytes s at_ n else padTo n data
     let u := if l.src < 2 then fetchEnd s else s
     let d := (dropAmend u).wr Reg.IMG_AMD_STATUS_ASTATE amdLoading
     hdrFailures (get 256) (fieldOf (u.reg 4) 0 16) (if l.src < 2 then none else some (u.rd Reg.IMG_HOST_LEN)) = [] →
     (isAmend (hdrOf (get 256)) = false → imageLive u = false →
       exec (.fetchComplete data false none us) s =
         .next (copyImage u { l with amend := false } (get (hdrOf (get 256)).total) none us)) ∧
     (isAmend (hdrOf (get 256)) = true → (hdrOf (get 256)).total ≤ 0x800000 - amdBase d →
       exec (.fetchComplete data false none us) s =
         .next (copyImage d { l with amend := true } (get (hdrOf (get 256)).total) none us)))) ∧
  (∀ (us : Nat) (l : LoadRec) (s : State), s.img.load = some l → imgState s = imgVerify →
    (let u := s.wr Reg.IMG_LOAD_TIME_FETCH_US (min (us / 4) 65535)
     let c := copyAt s (loadBase s l)
     let fs := if (sigFailures u c).isEmpty then kernFailures u c else sigFailures u c
     exec (.verifyComplete us) s =
       .next (if fs.isEmpty then toImg { u with img := { u.img with guardPool := none } } imgGuard else loadFails u l fs))) ∧
  (∀ (us : Nat) (l : LoadRec) (s : State), s.img.load = some l → imgState s = imgGuard →
    exec (.guardComplete us) s = .next (
      let fs := guardFailures s (loadBase s l)
      let u := s.wr Reg.IMG_LOAD_TIME_GUARD_US (min (us / 4) 65535)
      if fs.isEmpty then (if l.amend then amendStaged (showFailures u []) l else imageReady (showFailures u []) l)
      else loadFails u l fs)) ∧
  (∀ (a : Access) (v : Word) (l : LoadRec) (s : State), Accepts s a 0x40000 18 → s.img.load = some l →
    exec (.imgAbort a v) s = .next (
      let u := if l.src < 2 ∧ imgState s = imgFetch then fetchEnd s else s
      let u := if l.amend then u.wr Reg.IMG_AMD_STATUS_ASTATE amdNone else u
      showStaged (toImg { u with img := { u.img with load := none, auto := none } }
        (if imageLive u then imgActive else imgEmpty)) 0 0))

/-- IMG_ACTIVATE, IMG_DEACTIVATE, STRUCT_MEM_UNCORR, PRELOAD_COMPLETE, AMD_ARM, AMD_DISARM and AMD_DISCARD complete. A keyed
ACTIVATE of a READY image that is taken, and an activation that waits, answer what activate gives. A keyed DEACTIVATE that is
taken of an ACTIVE image sets the last tick of its schedule. With no load and an image in force, an uncorrectable error of
structure memory or of the overlay sets COPY_DAMAGED and raises its event, and one in a waiting amendment refuses it.
PRELOAD_COMPLETE with an amendment waiting sets IMG_AMD_LEAD to 0. A keyed ARM of a STAGED amendment with enough lead, confirmed
where class P changes, makes it ARMED for IMG_AMD_AT with its event. A DISARM before slot 504 of that tick returns it to STAGED
with its event; DISCARD drops a staged, refused or applied one. (R184, R185, R190, R196, R211, R213, R215, R222,
04_tick_seam_changes.md) -/
def Obligations.ImageStateCommandsComplete : Prop :=
  (∀ (a : Access) (v : Word) (failed : List (Fin 80)) (since : Nat) (s : State), Accepts s a 0x40000 18 → Keyed v → imgState s = imgReady →
    exec (.imgActivate (some (a, v)) ⟨failed, since⟩) s = .next (activate s (failed.map Fin.val) since)) ∧
  (∀ (failed : List (Fin 80)) (since : Nat) (s : State), s.img.actWait = true → imgState s = imgReady →
    exec (.imgActivate none ⟨failed, since⟩) s = .next (activate s (failed.map Fin.val) since)) ∧
  (∀ (a : Access) (v : Word) (s : State), Accepts s a 0x40000 18 → Keyed v → imgState s = imgActive → s.img.deact = none →
    exec (.imgDeactivate a v) s = .next (
      let u := if amdWaiting s then dropAmend s else s
      { u with img := { u.img with deact := some (s.tick + if 508 ≤ s.rd Reg.TIK_STATUS_SLOT then 1 else 0) } })) ∧
  (∀ (ofs : Fin 8388608) (s : State), s.rst.imgReset = false → s.img.load = none → imageLive s = true →
    exec (.structMemUncorr ofs false) s = .next (
      let u := raise (s.wr Reg.IMG_STATUS_COPY_DAMAGED 1) Blk.img 0x0108 .fault ofs
      if amdWaiting u ∧ amdBase u ≤ ofs then amdRefuse u 0x0401 0 else u) ∧
    exec (.structMemUncorr ofs true) s = .next (raise (s.wr Reg.IMG_STATUS_COPY_DAMAGED 1) Blk.img 0x0108 .fault ofs)) ∧
  (∀ s : State, amdWaiting s = true → exec .preloadComplete s = .next (s.wr Reg.IMG_AMD_LEAD_TICKS 0)) ∧
  (∀ (a : Access) (v : Word) (x : Amend) (s : State), Accepts s a 0x40000 18 → Keyed v → s.img.amd = some x →
    s.rd Reg.IMG_AMD_STATUS_ASTATE = amdStaged → s.tick + s.rd Reg.IMG_AMD_LEAD_TICKS + 2 ≤ amdAt s →
    (s.bit Reg.IMG_AMD_STATUS_P_CHANGE = true → bitAt v.toNat 4 = true) →
    ∃ u : State, exec (.amdArm a v) s = .next (raise (u.wr Reg.IMG_AMD_STATUS_ASTATE amdArmed) Blk.img 0x010A .info (amdAt s)) ∧
      u.img = { s.img with armAt := amdAt s } ∧ u.regs = s.regs ∧ u.pend = s.pend ∧ u.events = s.events) ∧
  (∀ (a : Access) (v : Word) (s : State), Accepts s a 0x40000 18 → s.rd Reg.IMG_AMD_STATUS_ASTATE = amdArmed →
    (s.tick < s.img.armAt ∨ (s.tick = s.img.armAt ∧ afterSlot504 s = false)) →
    exec (.amdDisarm a v) s = .next (
      let u := { s with mpr := { s.mpr with c37Change := s.mpr.c37Change.filter (fun p => p.2 != 1) } }
      raise (u.wr Reg.IMG_AMD_STATUS_ASTATE amdStaged) Blk.img 0x010E .info (amdAt s))) ∧
  (∀ (a : Access) (v : Word) (s : State), Accepts s a 0x40000 18 →
    (s.rd Reg.IMG_AMD_STATUS_ASTATE = amdStaged ∨ s.rd Reg.IMG_AMD_STATUS_ASTATE = amdRefused ∨
      s.rd Reg.IMG_AMD_STATUS_ASTATE = amdApplied) →
    exec (.amdDiscard a v) s = .next (dropAmend s))

/-- SAMPLE_RELEASE, LINK_LOST, LINK_LOST_CLEAR, LINK_RESTORED, SV_FRAME_RECEIVE, SV_LOST and SV_RESTORED complete. With PD03 up. A
sample of an enabled channel that has none yet for the next tick is released by the kind of its source, after the bits that come
with it have reached their detectors. An enabled input in service that meets a condition is lost, for a clock without edges
after the FAULT of its clock is set. The ones of a write to ACQ_LINK_LOST that is taken clear their bits and start the return
checks of the inputs that were retired. An input that has passed its checks ends them, frees its twin and raises its event. A
frame that one stream subscribes to is taken ASDU by ASDU, or counted as bad where the number of ASDUs is not its kind's. An
enabled stream in state OK with a run of HOLD + 1 missing or unusable instants becomes LOST with its event; one that is not OK
and has 8 good instants becomes OK, with its event where it was LOST. (R250, R266, R280, R286, R287, 05_acquisition.md) -/
def Obligations.AcquisitionCommandsComplete : Prop :=
  (∀ (c : Fin 256) (x : Sample) (s : State), domainUp s 3 = true →
    (let u := x.runs.foldl takeRun s
     let v := setChan u c { chanOf u c with given := some (inputTick u) }
     channelOn u c = true → (chanOf u c).given ≠ some (inputTick u) →
     (u.rd (Reg.ACQ_CHAN_CFG_SRC c) = 1 → exec (.sampleRelease c x) s = .next (releaseSingle v c x)) ∧
     (u.rd (Reg.ACQ_CHAN_CFG_SRC c) = 2 → exec (.sampleRelease c x) s = .next (releasePair v c x)) ∧
     (u.rd (Reg.ACQ_CHAN_CFG_SRC c) = 3 → exec (.sampleRelease c x) s = .next (releaseStream v c)))) ∧
  (∀ (i : Fin 48) (s : State), domainUp s 3 = true → inputOn s i = true → s.bit (Reg.ACQ_IN_STATUS_RETIRED i) = false →
    exec (.linkLost i .ones) s = .next (loseInput s i .ones) ∧
    exec (.linkLost i .zeros) s = .next (loseInput s i .zeros) ∧
    exec (.linkLost i .clock) s = .next (loseInput (clockFault s (s.rd (Reg.ACQ_IN_CFG_CLK i))) i .clock)) ∧
  (∀ (a : Access) (high : Bool) (v : Word) (s : State), Accepts s a 0x80000 3 →
    exec (.linkLostClear a high v) s = .next (
      (if high then (bitList 16 v.toNat).map (· + 32) else bitList 32 v.toNat).foldl
        (fun s i => clearLink (s.wr (linkLostBit i) 0) i) s)) ∧
  (∀ (i : Fin 48) (s : State), domainUp s 3 = true → i.val ∈ s.acq.returning → exec (.linkRestored i) s = .next (
    let u := { s with acq := { s.acq with returning := s.acq.returning.filter (· != i.val) } }
    let u := match adoptedTwin s i with
      | some t => (u.wr (Reg.ACQ_IN_STATUS_ADOPTED t) 0).sub Reg.ACQ_STATUS_ADOPTED 1
      | none => u
    raise u Blk.acq 0x0102 .info i)) ∧
  (∀ (f : SvFrame) (n : Nat) (s : State), domainUp s 3 = true → (List.range 64).filter (frameOf s f) = [n] →
    (f.asdus.length = svPerFrame (s.rd (Reg.ACQ_SV_CFG_KIND n)) →
      exec (.svFrameReceive f) s = .next (f.asdus.foldl (fun s d => takeAsdu s n f d) s)) ∧
    (f.asdus.length ≠ svPerFrame (s.rd (Reg.ACQ_SV_CFG_KIND n)) →
      exec (.svFrameReceive f) s = .next ((s.add (Reg.ACQ_SV_RX n) f.asdus.length).add (Reg.ACQ_SV_BAD n) f.asdus.length))) ∧
  (∀ (n : Fin 64) (b : Bool) (s : State), domainUp s 3 = true → s.bit (Reg.ACQ_SV_CFG_EN n) = true →
    s.rd (Reg.ACQ_SV_STATUS_STATE n) = 1 →
    s.rd (Reg.ACQ_SV_CFG_HOLD n) + 1 ≤ (if b then (streamOf s n).badRun else (streamOf s n).missRun) →
    exec (.svLost n b) s = .next (raise (s.wr (Reg.ACQ_SV_STATUS_STATE n) 2) Blk.acq 0x0105 .warn
      (n.val + 2 ^ 8 * (if b then 2 else 1)))) ∧
  (∀ (n : Fin 64) (s : State), domainUp s 3 = true → s.bit (Reg.ACQ_SV_CFG_EN n) = true → 8 ≤ (streamOf s n).goodRun →
    (s.rd (Reg.ACQ_SV_STATUS_STATE n) = 2 →
      exec (.svRestored n) s = .next (raise (s.wr (Reg.ACQ_SV_STATUS_STATE n) 1) Blk.acq 0x0106 .info n)) ∧
    (s.rd (Reg.ACQ_SV_STATUS_STATE n) = 0 → exec (.svRestored n) s = .next (s.wr (Reg.ACQ_SV_STATUS_STATE n) 1)))

/-- JESD_DOWN, JESD_UP, JESD_CRC_ERROR, SYSREF_EDGE, SYSREF_MISSING, WAVEFRONT_TRIGGER and WAVEFRONT_RECORD complete. With PD04 up.
A link that is not DOWN goes DOWN with its event where a lane that it has lost its sync headers. A link goes on by one state
where the conditions of R272 hold for it (linkNext), with its event in DATA. A CRC error in DATA is counted and marks the
multiblock's samples. A SYSREF edge after two others is kept, with the samples up to it captured, and its deviation judged:
outside the tolerance it is a fault of reason 2, within it the first good one is counted. A missing edge is a fault of reason 1,
with a deviation that the spec does not state (a free value, log 22). A step of at least THR outside the dead time between two
captured samples of a searched channel sets the trigger and the dead time. A pending trigger in DATA with x[i−9] to x[i+7] in
the ring ends, and its record joins a queue with room, with its channel, polarity, index and sequence number. (R272, R276, R277,
R278, R288, R289, 05_acquisition.md) -/
def Obligations.TravellingWaveCommandsComplete : Prop :=
  (∀ (l : Fin 4) (s : State), domainUp s 4 = true → s.rd Reg.TWC_STATUS_LINK ≠ 0 → l.val % 2 ^ jesdLanes s ≠ 0 →
    exec (.jesdDown l) s = .next (
    let u := (s.wr Reg.TWC_STATUS_LINK 0).inc Reg.TWC_RESYNC
    raise (showCapture { u with twc := { u.twc with trigger := [] } }) Blk.twc 0x0101 .fault
      (l.val % 2 ^ jesdLanes s + 2 ^ 8 * s.rd Reg.TWC_STATUS_LINK))) ∧
  (∀ (x : LinkStep) (n : Nat) (s : State), domainUp s 4 = true → linkNext s x = some n →
    (n ≠ 4 → exec (.jesdUp x) s = .next (showCapture (s.wr Reg.TWC_STATUS_LINK n))) ∧
    (n = 4 → exec (.jesdUp x) s = .next (raise (showCapture (s.wr Reg.TWC_STATUS_LINK 4)) Blk.twc 0x0102 .info (2 ^ jesdLanes s - 1)))) ∧
  (∀ (a n : Nat) (s : State), domainUp s 4 = true → s.rd Reg.TWC_STATUS_LINK = 4 → exec (.jesdCrcError a n) s = .next (
    { s.inc Reg.TWC_CRC_ERR with
      twc := { s.twc with invalid := (a, n) :: s.twc.invalid.filter (fun p => decide (a ≤ p.1 + p.2 + ringLen)) } })) ∧
  (∀ (stamp ix l p : Nat) (xs : List (Fin 12 × List (BitVec 14))) (s : State), domainUp s 4 = true → s.twc.last = some l →
    s.twc.prev = some p →
    (let c := xs.foldl (fun s x => capture s x.1 (ix + 1 - x.2.length) x.2) s
     let dev := sysrefDev s l p (tdc stamp) ix
     let u := (keepSysref c (tdc stamp) ix).wrInt Reg.TWC_SYSREF_DEV dev
     (u.rd Reg.TWC_SYSREF_TOL_PS < absNat dev →
       exec (.sysrefEdge stamp ⟨ix, xs⟩) s = .next (sysrefFault u (unsignedOf 32 dev) 2)) ∧
     (absNat dev ≤ u.rd Reg.TWC_SYSREF_TOL_PS → u.twc.good = 0 →
       exec (.sysrefEdge stamp ⟨ix, xs⟩) s = .next { u with twc := { u.twc with good := 1 } }))) ∧
  (∀ s : State, domainUp s 4 = true → exec .sysrefMissing s = .next (sysrefFault s.used s.free.toNat 1)) ∧
  (∀ (ch : Fin 12) (i : Nat) (xs : List (BitVec 14)) (x : BitVec 14) (s : State),
    (let u := capture s ch (i - xs.length) (xs ++ [x])
     ∀ a b : Int, sampleAt u ch (i - 1) = some a → sampleAt u ch i = some b → searched u ch = true → 1 ≤ i →
      u.rd (Reg.TWC_CH_CFG_THR ch) ≤ absNat (b - a) → Tab.get 0 u.twc.dead ch ≤ i →
      exec (.wavefrontTrigger ch i xs x) s = .next { u with twc := { u.twc with
        dead := Tab.put 0 u.twc.dead ch (i + max 8 (u.rd (Reg.TWC_CH_CFG_DEAD ch)))
        trigger := Tab.put none u.twc.trigger ch (some i) } })) ∧
  (∀ (ch : Fin 12) (xs : List (BitVec 14)) (i : Nat) (ys : List Int) (s : State), Tab.get none s.twc.trigger ch = some i →
    domainUp s 4 = true → s.rd Reg.TWC_STATUS_LINK = 4 → frontSamples (capture s ch (i + 1) xs) ch i = some ys →
    s.twc.queue.length < 1024 →
    ∃ t f, exec (.wavefrontRecord ch xs) s = .next t ∧ t.twc.queue = s.twc.queue ++ [f] ∧ f.ch = ch.val ∧ f.seq = s.twc.seq ∧
      f.index = i % 2 ^ 32 ∧ f.negative = (frontShape ys).2.2.2.1 ∧ t.twc.seq = (s.twc.seq + 1) % 65536 ∧
      Tab.get none t.twc.trigger ch = none)

/-- COMPARE_POINT, RETRY_COMPARE, ARBITRATION_VOTE, SLOT_DEADLINE, THR_RETIRE_CMD and CORE_MEMORY_ERROR complete. The pool first
reaches the instant of the command: the retries due by then have started. At the compare point of an item that runs and is open
(not one that waits for two adopters), two first-run results that agree are delivered as PAIRED, two that differ start a retry,
and the result of a single working member is delivered as UNPAIRED. Two retry results that agree are delivered as RETRIED and
charge the members whose first run differed; two that differ go to arbitration. The arbiter's result decides the item, and the
spare serves the next request. A first-run deadline of one working member marks its miss and counts the overrun; one of a retry
that it has started counts in TIK_RETRY_OVR and marks its miss; one of an arbitration counts there and fails the arbitration. A
keyed RETIRE that is taken waits for slot 496 before it and retires the core at once from there on. An uncorrectable core memory
error retires a core in service, a corrected one is counted. (R72, R73, R76, R302, R304, R306, R308, R309, R316, R334, R338,
06_thresher_pool.md) -/
def Obligations.PoolCommandsComplete : Prop :=
  (∀ (n : Fin 1024) (ra rb : Option RunOut) (it : ItemE) (s : State), itemOf s n = some it →
    (let u := reachCyc s (it.compare * slotCyc s.rate)
     let r := runOf u n
     let a := memA u n
     let b := memB u n
     let xa := injected u n a 1 true (runResult u it a a ra)
     let xb := injected u n b 2 true (runResult u it b b rb)
     itemRuns u it = true → r.phase = .open → u.thr.broken.contains it.item = false →
     (∀ x y, working u a = true → working u b = true → r.missA = false → r.missB = false → xa = some x → xb = some y →
       (agrees x y = true → exec (.comparePoint n ra rb) s =
         .next (deliver (setRun u n { r with firstA := some x, firstB := some y }) it .paired x)) ∧
       (agrees x y = false → exec (.comparePoint n ra rb) s =
         .next (mismatch (setRun u n { r with firstA := some x, firstB := some y }) it.item))) ∧
     (∀ x, working u a = true → working u b = false → r.missA = false → xa = some x →
       exec (.comparePoint n ra rb) s = .next (deliver (setRun u n { r with firstA := some x, firstB := none }) it .unpaired x)))) ∧
  (∀ (n : Fin 1024) (ra rb : Option RunOut) (cyc : Nat) (it : ItemE) (s : State), itemOf s n = some it →
    (let u := reachCyc s cyc
     let r := runOf u n
     let a := memA u n
     let b := memB u n
     ∀ x y, r.phase = .retrying → r.startA.isSome = true → r.startB.isSome = true → r.retryMissA = false → r.retryMissB = false →
       injected u n a 1 false (runResult u it a a ra) = some x → injected u n b 2 false (runResult u it b b rb) = some y →
       exec (.retryCompare n ra rb cyc) s =
         .next (compareRetry (setRun (retriesEnd u [a, b] cyc) n { r with retryA := some x, retryB := some y }) it cyc))) ∧
  (∀ (cyc : Nat) (it : ItemE) (s : State) (x y : Res), (runOf s it.item).retryA = some x → (runOf s it.item).retryB = some y →
    (agrees x y = true → compareRetry s it cyc = chargeAll (deliver s it .retried x)
      ((if (runOf s it.item).firstA.any (fun z => agrees z x) then [] else [memA s it.item]) ++
       (if (runOf s it.item).firstB.any (fun z => agrees z x) then [] else [memB s it.item])) it.item) ∧
    (agrees x y = false → compareRetry s it cyc = requestArb s it cyc)) ∧
  (∀ (n : Fin 1024) (ro : Option RunOut) (bad : Bool) (cyc sp : Nat) (it : ItemE) (x : Res) (s : State), itemOf s n = some it →
    (let u := (reachCyc s cyc).wr (Reg.THR_CORE_CSTATE_BUSY sp) (chosen (reachCyc s cyc) sp).toNat
     (runOf (reachCyc s cyc) n).phase = .arbitrating sp →
     injected u n sp 4 false (runResult u it sp (if bad then memB (reachCyc s cyc) n else memA (reachCyc s cyc) n) ro) = some x →
     exec (.arbitrationVote n ⟨ro, bad⟩ cyc) s = .next (serveQueue (voteOutcome u it sp x) cyc))) ∧
  (∀ (n : Fin 1024) (c : Fin 80) (slot : Fin 512) (it : ItemE) (s : State), itemOf s n = some it →
    (let u := reachCyc s (slot * slotCyc s.rate)
     itemRuns u it = true →
     ((runOf u n).phase = .open → missedOf u n c none = [c.val] →
       exec (.slotDeadline .first n c slot none) s = .next (overrun (markMiss u n c false) n c slot none)) ∧
     ((runOf u n).phase = .retrying → missedOf u n c none = [c.val] →
       (if memA u n = c then (runOf u n).startA.isSome && !(runOf u n).retryMissA else (runOf u n).startB.isSome && !(runOf u n).retryMissB) = true →
       exec (.slotDeadline .retry n c slot none) s = .next (markMiss (u.inc Reg.TIK_RETRY_OVR) n c true)) ∧
     ((runOf u n).phase = .arbitrating c → exec (.slotDeadline .arbitration n c slot none) s =
       .next (serveQueue (arbFail ((u.inc Reg.TIK_RETRY_OVR).wr (Reg.THR_CORE_CSTATE_BUSY c) (chosen u c).toNat) it 2) u.thr.clock)))) ∧
  (∀ (a : Access) (v : Word) (s : State), Accepts s a 0x100000 18 → fieldOf v 0 4 = 1 → Keyed v →
    ((s.rd Reg.TIK_STATUS_STATE ≠ 0 ∧ s.rd Reg.TIK_STATUS_SLOT < 496) → exec (.thrRetireCmd a v) s =
      .next { s with thr := { s.thr with commands := s.thr.commands ++ [fieldOf v 8 7] } }) ∧
    (¬ (s.rd Reg.TIK_STATUS_STATE ≠ 0 ∧ s.rd Reg.TIK_STATUS_SLOT < 496) →
      exec (.thrRetireCmd a v) s = .next (retireCore s (fieldOf v 8 7) 8 0xFFFF))) ∧
  (∀ (c : Fin 80) (k : Bool) (s : State), domainUp s 18 = true → inService s c = true →
    exec (.coreMemoryError c k true) s = .next (retireCore s c (if k then 4 else 3) 0xFFFF) ∧
    exec (.coreMemoryError c k false) s =
      .next (s.inc (if k then Reg.THR_CORE_CECC_KSTORE c else Reg.THR_CORE_CECC_DATA c)))

/-- GOOSE_RETRANSMIT, MAN_TRIG, DR_CLOSE and FLOC_RESULT complete. While the bridge and the pool run, a retransmission of an enabled
dataset that is due and has not begun in this tick starts on the ports whose windows contain the slot, with the next sqNum, the
doubled interval up to T_MAX and the values sent last. A write of MPR_CTRL that is taken while the recorder is on is a manual
trigger of this tick. A record whose end has been reached closes. An open fault location gives the first VALID distance in the
order D, A, Z, or none when its window has passed. (R356, R369, R370, R375, R376, 07_measurement_products.md) -/
def Obligations.ProductCommandsComplete : Prop :=
  (∀ (g : Fin 128) (slot : Fin 512) (l : List (Word × Nat)) (s : State), pktRuns s = true → s.thr.idle = false → s.bit (Reg.MPR_GOOSE_CFG_EN g) = true →
    (gdsOf s g).last = some l → (∀ p, (gdsOf s g).rtx = some p → p.1 ≠ s.tick) → windowPorts s g slot ≠ 0 → (gdsOf s g).due ≤ s.tick →
    (gdsOf s g).sent ≠ some s.tick →
    exec (.gooseRetransmit g slot) s = .next (
      let x := gdsOf s g
      let m := windowPorts s g slot
      let ival := min (2 * x.ival) (s.rd (Reg.MPR_GOOSE_TIMING_T_MAX g))
      let u := s.wr (Reg.MPR_GOOSE_SQNUM g) (nextNum (s.rd (Reg.MPR_GOOSE_SQNUM g)))
      let u := setGds u g { x with ival := ival, due := u.tick + msTicks u ival, sent := some u.tick, rtx := some (u.tick, m) }
      sendGoose (u.inc (Reg.MPR_GOOSE_TX g)) g m ival l)) ∧
  (∀ (a : Access) (v : Word) (s : State), Accepts s a 0x200000 10 → s.mpr.armed = true → exec (.manTrig a v) s = .next (
    let u := plainWrite s a.init 0x200000 v
    { u with mpr := { u.mpr with man := true } })) ∧
  (∀ (r : DrRec) (s : State), s.mpr.record = some r → recordEnd s r ≤ recordTick s →
    exec .drClose s = .next (closeRecord s r false)) ∧
  (∀ (l : Fin 4) (x : FlocOpen) (s : State), Tab.get none s.mpr.floc l = some x →
    (let seq := x.front.map Prod.snd
     let d := flocValue s (s.rd (Reg.MPR_FLOC_ITEMS_DA_D_ITEM l)) seq true
     let a := flocValue s (s.rd (Reg.MPR_FLOC_ITEMS_DA_A_ITEM l)) seq true
     let z := flocValue s (s.rd (Reg.MPR_FLOC_ITEM_Z_Z_ITEM l)) seq false
     (∀ v, d = some v → exec (.flocResult l) s = .next (giveFloc s l x 2 v)) ∧
     (∀ v, d = none → a = some v → exec (.flocResult l) s = .next (giveFloc s l x 1 v)) ∧
     (∀ v, d = none → a = none → z = some v → exec (.flocResult l) s = .next (giveFloc s l x 3 v)) ∧
     (d = none → a = none → z = none → x.start + msTicks s (s.rd (Reg.MPR_FLOC_ITEM_Z_WINDOW_MS l)) ≤ s.tick →
       exec (.flocResult l) s = .next (giveFloc s l x 0 (nanWord, 0, 0)))))

/-- SWEEP_LAUNCH, SWEEP_FRAME_RECEIVE, TIMING_FRAME_SEND, TIMING_FRAME_RECEIVE, NAK_RECEIVE, RING_LINK_LOST and RING_LINK_LOCK
complete. At slot 501, once in a tick that is handed off, the master of a RUNNING ring launches a sweep east and west with its
own contribution. On a link that is up, a sweep frame with a wrong HCRC whose resend can arrive in time is asked for again,
once; a frame of this ring whose master is a member and whose contributions are right is taken (the model's order, log 26) and,
where another node launched it, forwarded with the node's own contribution. On a locked link a TIMING frame leaves with the
stamps of the link, and the first one received is kept for the next exchange. The last sweep frame is sent again, once, when a
NAK names it in time. A locked link that loses lock is counted and goes from SYNC to DOWN, or breaks where it was up. A link
that gains lock in DOWN goes to SYNC. (R385, R386, R396, R397, R403, R408, R411, 08_measurement_ring.md) -/
def Obligations.RingCommandsComplete : Prop :=
  (∀ (c : Coll) (s : State), (mrgState s = mrgRunning ∨ mrgState s = mrgForwarding) → s.rd Reg.TIK_STATUS_SLOT = 500 →
    s.mrg.slot501 ≠ some s.tick →
    (let u := elect (endWraps (startWraps { s with mrg := { s.mrg with slot501 := some s.tick } }))
     mrgState u = mrgRunning → u.bit Reg.MRG_STATUS_MASTER = true → u.mrg.colls.find? (fun c => c.tick == u.tick) = some c →
     exec .sweepLaunch s = .next (
       let w := judgePhase (u.wr Reg.MRG_RING_OFS 0)
       let own := { c.own with ofs := 0, suspect := w.bit Reg.MRG_STATUS_TIME_SUSPECT }
       let w := setColl w { c with own := own }
       let f : SweepFrame := { west := false, wrapped := false, ret := false, master := own.node, hops := 0
                               ringId := w.rd Reg.MRG_CFG_RING_ID, present := 2 ^ ownId w, sec := c.sec, insec := c.insec
                               accOfs := 0, hcrcOk := true, resent := false, contribs := [own] }
       routeSweep (routeSweep w 0 f) 1 { f with west := true }))) ∧
  (∀ (l : Fin 2) (f : SweepFrame) (s : State), (mrgState s = mrgRunning ∨ mrgState s = mrgForwarding) → linkUp s l = true →
    (f.hcrcOk = false → f.resent = false → (f.west, f.sec, f.insec) ∉ (linkOf s l).nak →
      exec (.sweepFrameReceive l f true) s = .next (emit (setLink s l { linkOf s l with
        nak := ((f.west, f.sec, f.insec) :: (linkOf s l).nak).take 8 }) (.nak l f.west f.sec f.insec))) ∧
    (f.hcrcOk = true → f.ringId = s.rd Reg.MRG_CFG_RING_ID → isMember s f.master = true → f.resent = false →
      f.contribs.all Contrib.crcOk = true →
      (let u := { s with mrg := { s.mrg with masters := (s.tick, f.master.val) :: s.mrg.masters } }
       let w := f.contribs.foldl (fun s c => takeContrib s f c) u
       f.master.val ≤ u.rd Reg.MRG_STATUS_MASTER_ID → f.master.val ≠ ownId w →
       exec (.sweepFrameReceive l f true) s = .next (routeSweep (appendOwn w l f).1 (otherLink l)
         { (appendOwn w l f).2 with hops := (f.hops + 1) % 256, resent := false })))) ∧
  (∀ (l : Fin 2) (stamp : Nat) (s : State), mrgState s ≠ mrgStopped → (linkOf s l).locked = true →
    ∃ f, exec (.timingFrameSend l stamp) s = .next (emit (setLink s l { linkOf s l with
        seq := ((linkOf s l).seq + 1) % 256, sent := (((linkOf s l).seq, tdc stamp) :: (linkOf s l).sent).take 16 }) (.timing l f)) ∧
      f.node = ownId s ∧ f.seq = (linkOf s l).seq ∧ f.ringId = s.rd Reg.MRG_CFG_RING_ID ∧ f.link = l.val ∧ f.crcOk = true ∧
      f.txPrev = ((linkOf s l).sent.head?.map Prod.snd).getD 0 ∧ f.rxStamp = ((linkOf s l).got.map Prod.snd).getD 0) ∧
  (∀ (l : Fin 2) (f : TimingFrame) (stamp : Nat) (s : State), mrgState s ≠ mrgStopped → (linkOf s l).locked = true →
    f.crcOk = true → miswired s l f = false → (linkOf s l).got = none → f.unwrap = false →
    exec (.timingFrameReceive l f stamp) s = .next (setLink (s.wr (Reg.MRG_LINK_LSTATUS_NBR_ID l) f.node) l
      { linkOf s l with got := some (f.seq, tdc stamp), cancelled := none })) ∧
  (∀ (l : Fin 2) (f : SweepFrame) (s : State), mrgState s ≠ mrgStopped → (linkOf s l).last = some f → linkUp s l = true → f.resent = false →
    exec (.nakReceive l f.west f.sec f.insec true) s = .next (sendSweep s l { f with resent := true })) ∧
  (∀ (l : Fin 2) (s : State), domainUp s 9 = true → (linkOf s l).locked = true →
    (let nbr := if (linkOf s l).got.isSome then some (s.rd (Reg.MRG_LINK_LSTATUS_NBR_ID l)) else none
     let u := setLink (s.inc (Reg.MRG_LINK_LOSS_CNT l)) l { linkOf s l with locked := false, held := false, run := 0, got := none }
     (s.rd (Reg.MRG_LINK_LSTATUS_STATE l) = 0 → exec (.ringLinkLost l) s = .next u) ∧
     (s.rd (Reg.MRG_LINK_LSTATUS_STATE l) = 1 → exec (.ringLinkLost l) s = .next (u.wr (Reg.MRG_LINK_LSTATUS_STATE l) 0)) ∧
     (2 ≤ s.rd (Reg.MRG_LINK_LSTATUS_STATE l) → exec (.ringLinkLost l) s = .next (breakLink u l 1 nbr)))) ∧
  (∀ (l : Fin 2) (s : State), s.rd (Reg.MRG_LINK_LSTATUS_STATE l) = 0 → mrgState s ≠ mrgStopped →
    exec (.ringLinkLock l) s = .next ((setLink s l { linkOf s l with locked := true }).wr (Reg.MRG_LINK_LSTATUS_STATE l) 1))

/-- FRAME_RECEIVE, FRAME_TRANSMIT, FDB_AGE_OUT, the FDB flushes, the ends of a pause, PORT_LINK_DOWN, PORT_LINK_UP and
FRER_RESET_TIMEOUT complete. A good frame of an external port that is up reaches the PTP ports, is counted and, where it is no
pause, passes MACsec and is no tagged frame of a redundant port, is admitted without its SecTAG; a frame of an internal port is
admitted; the frame that the gates choose on an unpaused port, without MACsec and with no descriptor waiting for its stamp,
leaves its port and its queue; a learned entry that has aged goes; a flush removes the entries of the port, of the VLAN's FID,
or all; a pause ends at the maximum hold with its counter and event, or at its quanta where these come first; a port that loses
or gains its link shows it and raises its event; a recovery function that passed no frame for its reset timeout resets and
counts. Free cells, buckets and the order of these steps are the model's readings (log 27). (R424, R425, R427, R430, R437, R458,
R459, R466, 09_packet_engine.md) -/
def Obligations.BridgeCommandsComplete : Prop :=
  (∀ (p : Fin 10) (f : Frame) (s : State), pktRuns s = true → 6 ≤ p.val → ∀ ok : Bool,
    exec (.frameReceive p f ok) s =
      .next (takeFrame (portCount s p 0) p { f with ptp := f.ptp.map (fun m => { m with port := p.val }) })) ∧
  (∀ (p : Fin 10) (f g : Frame) (s u : State), p.val < 6 → portUp s p = true →
    g = { f with ptp := f.ptp.map (fun m => { m with port := p.val }) } →
    u = (match g.ptp with
      | some m => ptpReceive s p m
      | none => s) →
    pktRuns u = true → portUp u p = true → 64 ≤ f.len → f.len ≤ min 9216 (u.rd Reg.PKT_MAX_FRAME_BYTES) →
    (∀ q, f.pause = some q → exec (.frameReceive p f true) s = .next (takePause (portCount u p 0) p q f.arrival)) ∧
    (f.pause = none →
      let x := msReceive (portCount u p 0) p g
      x.2 = true → (f.red = none ∨ lreOf x.1 p = none) → exec (.frameReceive p f true) s = .next (takeFrame x.1 p
        { g with sec := none, len := if f.sec.isSome then f.len - msBytes x.1 p false else f.len }))) ∧
  (∀ (p : Fin 6) (cyc stamp : Nat) (q : QFrame) (rest : List QFrame) (tc : Nat) (s w : State), pktRuns s = true → portUp s p = true →
    (pausedPort s p).isSome = false → macsecHeld s p = false →
    w = (List.range 8).foldl (fun s tc => dropOversize s p tc (queueOf s p tc).length) (showGates s (slotAt s cyc)) →
    pickClass w p cyc = some tc → queueOf w p tc = q :: rest → (w.bit (Reg.CRY_MS_PCFG_EN p) = false ∨ q.eapol = true) →
    q.ts = none →
    exec (.frameTransmit p cyc stamp) s = .next (
      let x := setQueue w p tc rest
      let x := portCount { x with pkt := { x.pkt with owes := Tab.put 0 x.pkt.owes p (Tab.get 0 x.pkt.owes p - q.len) } } p 1
      let x := match q.body with
        | .bridged f vid => emit x (.frame p { f with ptp := f.ptp.map (ptpTransmit x p f.arrival stamp) } vid none)
        | .pub f => emit x (.pubFrame p f q.red none)
      endUse (dropRef x q.chain) q.chain)) ∧
  (∀ (mac : BitVec 48) (fid : Fin 4096) (s : State),
    (let old := fun (e : FdbE) => e.mac == mac.toNat && e.fid == fid.val && decide (e.seen + s.rd Reg.PKT_FDB_AGE_SEC ≤ s.taiSec)
     s.pkt.fdb.any old = true → exec (.fdbAgeOut mac fid) s = .next (setFdb s (s.pkt.fdb.filter (fun e => !old e))))) ∧
  (∀ (a : Access) (v : Word) (s : State), Accepts s a 0x300000 10 →
    exec (.fdbFlushPort a v) s = .next (setFdb s (s.pkt.fdb.filter (fun e => e.port != fieldOf v 8 4))) ∧
    exec (.fdbFlushVlan a v) s =
      .next (setFdb s (s.pkt.fdb.filter (fun e => e.fid != s.rd (Reg.PKT_VLAN_W1_FID (fieldOf v 16 12))))) ∧
    exec (.fdbFlushAll a v) s = .next (setFdb s [])) ∧
  (∀ (p : Fin 6) (s : State), (pausedPort s p).any (tooLong s) = true → exec (.pauseHoldExpired p) s = .next (
    let u := setPaused s p none
    let u := { u with pkt := { u.pkt with owes := Tab.put 0 u.pkt.owes p (min 9216 (u.rd Reg.PKT_MAX_FRAME_BYTES)) } }
    raiseLimited (portCount u p 6) Blk.pkt 0x0105 .warn p p)) ∧
  (∀ (p : Fin 6) (s : State), (pausedPort s p).any (tooLong s) = false →
    exec (.pauseQuantaExpired p) s = .next (setPaused s p none)) ∧
  (∀ (p : Fin 6) (s : State), domainUp s 10 = true → s.bit (Reg.PKT_PORT_PSTATUS_LINK p) = true →
    (let u := flushPort (showLink s p false) p
     let w := raise (setFdb u (u.pkt.fdb.filter (fun e => e.port != p.val))) Blk.pkt 0x0102 .warn p
     exec (.portLinkDown p) s = .next (match lreOf w p with
       | some r => raise w Blk.pkt 0x0103 .warn (r + 2 ^ 8 * p)
       | none => w))) ∧
  (∀ (p : Fin 6) (s : State), domainUp s 10 = true → domainUp s (serdesOf p) = true → s.bit (Reg.PKT_PORT_PCFG_EN p) = true →
    s.bit (Reg.PKT_PORT_PSTATUS_LINK p) = false →
    exec (.portLinkUp p) s = .next (raise (showLink s p true) Blk.pkt 0x0101 .info (p + 2 ^ 8 * s.rd (Reg.PKT_PORT_PCFG_SPEED p)))) ∧
  (∀ (r : Fin 512) (s : State), s.bit (Reg.PKT_FRER_REC_CFG_EN r) = true → (frerOf s r).takeAny = false →
    (frerOf s r).at_ + s.rd (Reg.PKT_FRER_REC_CFG_RESET_MS r) * 1000000 ≤ s.taiNs →
    exec (.frerResetTimeout r) s = .next ((setFrer s r {}).inc (Reg.PKT_FRER_REC_RESETS r)))

/-- HANDLE_RELEASE, HOLD_AGED and CELL_UNCORR complete. A valid handle written to a RELEASE doorbell of a tenant that may write it
is counted and its chain let go, an invalid one is rejected with its reason; a chain held past SLO_HOLD_AGE, with no release
pending, is let go, counted and told to its holder; an uncorrectable cell error frees the chain of the cell, retires the cell
for good and raises the event. (R450, R451, R452, R461, 09_packet_engine.md) -/
def Obligations.SiloCommandsComplete : Prop :=
  (∀ (t : Fin 128) (be : BitVec 4) (v : Word) (s : State), AcceptsView s t be 12 →
    (∀ c, checkHandle s t v = .inr c → exec (.handleRelease t be v) s = .next (letGo (s.inc (Reg.SLO_TEN_REL_OK t)) c)) ∧
    (∀ r, checkHandle s t v = .inl r → exec (.handleRelease t be v) s = .next (rejectRelease s t v r))) ∧
  (∀ (cell : Fin 131072) (c : Chain) (s : State), s.rd Reg.SLO_HOLD_AGE_MS ≠ 0 →
    s.slo.chains.find? (fun c => c.cells.headD siloCells == cell.val && c.holder.isSome && !c.dying) = some c →
    c.since + s.rd Reg.SLO_HOLD_AGE_MS * 1000000 ≤ s.taiNs →
    exec (.holdAged cell) s = .next (tenantEvent ((letGo s c).inc (Reg.SLO_TEN_AGED (c.holder.getD 0))) (c.holder.getD 0)
      Blk.slo 0x0111 .info (handleOf s (c.holder.getD 0) c))) ∧
  (∀ (cell : Fin 131072) (client : Fin 16) (s : State), domainUp s 12 = true → s.slo.retired.contains cell.val = false →
    exec (.cellUncorr cell client) s = .next (
      let u := match s.slo.chains.find? (fun c => c.cells.contains cell.val) with
        | none => s
        | some c => forgetChain (freeChain s c) c.id
      let u := (u.inc Reg.SLO_RETIRED_CELLS).sub Reg.SLO_STATUS_FREE 1
      raise { u with slo := { u.slo with retired := cell.val :: u.slo.retired } } Blk.slo 0x0101 .fault
        (cell.val + 2 ^ 32 * client.val)))

/-- KEY_LOAD, KEY_ZEROISE, SA_READ and SA_WRITE complete. A LOAD that no check refuses stores the staged bytes in the slot with its
type and loader and answers the key check value; a LOAD that one refuses answers its code. A ZEROISE of a slot that the
initiator may name, and loaded itself where it is loaded, erases it and answers 0. An SA within reach is read into the
initiator's window, and written from it where the key is within its range too. (R480, R481, R482, R483, R490,
10_tunnels_keys_records.md) -/
def Obligations.KeyCommandsComplete : Prop :=
  (∀ (a : Access) (v : Word) (s : State), Accepts s a 0x500000 11 →
    (let slot := fieldOf v 0 14
     let typ := fieldOf v 24 4
     (loadCode s a.init slot typ = 0 → exec (.keyLoad a v) s = .next (
        let u := setMeta (if keyLoaded s slot then s else s.inc Reg.CRY_STATUS_LOADED) slot 1 typ a.init.toNat
        keyResult { u with cry := { u.cry with key := Tab.put [] u.cry.key slot (staged s a.init) } } a.init 0
          (Config.keyCheck typ (staged s a.init)).toNat)) ∧
     (loadCode s a.init slot typ ≠ 0 → exec (.keyLoad a v) s =
        .next (keyResult s a.init (loadCode s a.init slot typ) 0)))) ∧
  (∀ (a : Access) (v : Word) (s : State), Accepts s a 0x500000 11 → mayName s a.init (fieldOf v 0 14) = true →
    (keyLoaded s (fieldOf v 0 14) = true → keyLoader s (fieldOf v 0 14) = a.init.toNat) →
    exec (.keyZeroise a v) s = .next (keyResult (eraseKey s (fieldOf v 0 14)) a.init 0 0)) ∧
  (∀ (a : Access) (s : State), Accepts s a 0x500000 11 → mayReach s a.init (selectedSa s a.init) = true →
    exec (.saRead a) s = .next ((List.range 12).foldl
      (fun u w => u.wr (ownReg a.init (0x500080 + 4 * w)) (saWord u (selectedSa s a.init) w).toNat) s)) ∧
  (∀ (a : Access) (s : State), Accepts s a 0x500000 11 → mayReach s a.init (selectedSa s a.init) = true →
    (∀ t, instanceOf a.init = some t → 0 < t → inRange (s.rd (Reg.CRY_TEN_KEY_BASE t)) (s.rd (Reg.CRY_TEN_KEY_CNT t))
      (fieldOf (s.reg (initKey a.init 0x500080)) 0 14) = true) →
    exec (.saWrite a) s = .next (
      let i := selectedSa s a.init
      let u := if !saOn s i && bitAt (s.reg (initKey a.init 0x500080)).toNat 31 then freshSa s i else s
      [0, 1, 2, 3, 4, 5, 7].foldl (fun u w => setSa u i w (u.reg (initKey a.init (0x500080 + 4 * w)))) u))

/-- NS_CONNECT, NS_READY, KEEP_ALIVE, REC_SHIP, REC_SHIPPED, NVME_COMMAND_TIMEOUT, NS_RETRY and TCP_RETRANSMIT_TIMEOUT complete. An
enabled namespace that is not connected begins to connect, a FAILED one staying so; one whose format fits becomes READY with its
event, one whose format does not fit goes down with reason 4; a connected one sends its keep-alive; the next waiting record is
written or, where the namespace is full or failed, redirected; a shipped record advances NEXT and LAST_SEQ, is counted, leaves a
Flush, the superblock and a Flush, is forgotten and told; a command whose repetition succeeds is transient, one whose repetition
fails makes a connected namespace reconnect and counts as a failed attempt of another; a failed attempt counts, and the last of
MAX_TRY (0 acts as 1) makes the namespace FAILED; a segment is sent again, and after 8 times the connection is reset. Units and
the order of the writes are the model's readings (log 29). (R499, R500, R502, R504, 10_tunnels_keys_records.md) -/
def Obligations.RecordShippingCompletes : Prop :=
  (∀ (n : Fin 16) (s : State), nsOn s n = true → nsState s n ≠ nsReady → nsState s n ≠ nsFull →
    exec (.nsConnect n) s = .next (emit (if nsState s n = nsFailed then s else setNsState s n nsConnecting 0) (.nvme n 1 0))) ∧
  (∀ (n : Fin 16) (lba size mdts : Nat) (s : State), nsOn s n = true → (nsState s n = nsConnecting ∨ nsState s n = nsFailed) →
    (let first := s.rd64 (Reg.REC_NS_START_LBA_LO n) (Reg.REC_NS_START_LBA_HI n)
     let count := s.rd64 (Reg.REC_NS_LBA_COUNT_LO n) (Reg.REC_NS_LBA_COUNT_HI n)
     ((lba = 512 ∨ lba = 4096) → first + count ≤ size → exec (.nsReady n lba size mdts) s = .next (
        let u := setNs s n { nsOf s n with tries := 0, mdts := mdts, lba := lba, rtxAdmin := 0, rtxIo := 0 }
        raise (setNsState u n nsReady 0) Blk.recb 0x0101 .info n)) ∧
     (((lba ≠ 512 ∧ lba ≠ 4096) ∨ size < first + count) → exec (.nsReady n lba size mdts) s = .next (nsDown s n 4 0)))) ∧
  (∀ (n : Fin 16) (s : State), nsOn s n = true → (nsState s n = nsReady ∨ nsState s n = nsFull) →
    exec (.keepAlive n) s = .next (emit s (.nvme n 2 0))) ∧
  (∀ (n : Fin 16) (r : DrRec) (s : State), nsOn s n = true → s.rd Reg.MPR_DR_CHAN_DEST = 0x100 + n.val →
    s.mpr.waiting.find? (fun r => !inProgress s r) = some r →
    (nsState s n = nsReady → (nsOf s n).now = none →
      exec (.recShip n) s = .next (if (beginShip s n r).2 then (beginShip s n r).1 else redirect (beginShip s n r).1 n r)) ∧
    ((nsState s n = nsFull ∨ nsState s n = nsFailed) → exec (.recShip n) s = .next (redirect s n r))) ∧
  (∀ (n : Fin 16) (r : DrRec) (s : State), (nsOf s n).now = some r → exec (.recShipped n) s = .next (
    let x := nsOf s n
    let u := s.wr64 (Reg.REC_NS_NEXT_LO n) (Reg.REC_NS_NEXT_HI n) (x.unit + recordUnits r)
    let u := u.wr64 (Reg.REC_NS_LAST_SEQ_LO n) (Reg.REC_NS_LAST_SEQ_HI n) r.seq
    let y := { x with now := none, wrapCount := x.wrapCount + x.wraps.toNat, superCount := x.superCount + 1 }
    let u := setNs (u.inc (Reg.REC_NS_RECORDS n)) n y
    let b := superblock u n (x.unit + recordUnits r) r.seq y.wrapCount y.superCount
    let u := emit (emit (emit u (.nvme n 3 0)) (.nvmeWrite n (y.superCount % 2) 1 b)) (.nvme n 3 0)
    raise (forgetRecord u r) Blk.recb 0x0103 .info
      (n.val + 2 ^ 8 * r.kind + 2 ^ 16 * (r.seq % 65536) + 2 ^ 32 * (x.unit % 2 ^ 32)))) ∧
  (∀ (n : Fin 16) (st : Option (BitVec 16)) (s : State), nsOn s n = true → nsState s n ≠ nsDisabled →
    exec (.nvmeCommandTimeout n ⟨st, true⟩) s = .next (transient s Blk.recb 1 n) ∧
    (nsUp s n = true → exec (.nvmeCommandTimeout n ⟨st, false⟩) s = .next (nsReconnect s n)) ∧
    (nsUp s n = false → exec (.nvmeCommandTimeout n ⟨st, false⟩) s =
      .next (attemptFails s n (if st.isSome then 2 else 3) ((st.map BitVec.toNat).getD 0)))) ∧
  (∀ (n : Fin 16) (reason : Fin 5) (st : BitVec 16) (s : State), nsOn s n = true →
    (nsState s n = nsConnecting ∨ nsState s n = nsFailed) →
    exec (.nsRetry n reason st) s = .next (attemptFails s n reason st.toNat)) ∧
  (∀ (n reason status : Nat) (s : State),
    let k := (nsOf s n).tries + 1
    let u := setNs (s.inc (Reg.REC_NS_FAILS n)) n { nsOf s n with tries := k, rtxAdmin := 0, rtxIo := 0 }
    attemptFails s n reason status =
      if nsState u n = nsConnecting ∧ max 1 (u.rd Reg.REC_CFG_MAX_TRY) ≤ k then nsDown u n reason status else u) ∧
  (∀ (n : Fin 16) (admin : Bool) (s : State), nsOn s n = true → nsState s n ≠ nsDisabled →
    (let x := nsOf s n
     let k := (if admin then x.rtxAdmin else x.rtxIo) + 1
     (k ≤ 8 → exec (.tcpRetransmitTimeout n admin) s =
       .next (setNs s n (if admin then { x with rtxAdmin := k } else { x with rtxIo := k }))) ∧
     (8 < k → exec (.tcpRetransmitTimeout n admin) s =
       .next (if nsUp s n then nsReconnect s n else attemptFails s n 1 0))))

/-- QUEUE_ENABLE, QUEUE_DISABLE, TX_DESCRIPTOR, RX_DELIVER, RX_WAIT_EXPIRED, RECORD_RING_ENABLE and ITR_EXPIRED complete. A write of
QCFG that sets EN enables the queue, one that clears it disables a queue that is on; a write of RCFG with EN enables the ring. A
descriptor of the queue whose turn it is, on a host with credit and a running packet engine, that passes the checks is sent or
held; one that fails one is the queue error of its code, one whose fetch failed the DMA error, and one whose repeated fetch
succeeded is first told as transient. A frame that waits on a running queue is delivered into the descriptors; one that waits
too long is dropped, counted in HOST_DROP and told. A held message of a queue is sent at the end of its interval. The turn
counts descriptors and the order of the checks is the model's (log 30). (R513, R514, R517, R522, R524, R531, R537,
11_host_and_tenants.md) -/
def Obligations.HostQueueCommandsComplete : Prop :=
  (∀ (t : Fin 128) (q : Fin 64) (be : BitVec 4) (v : Word) (s : State), AcceptsView s t be 13 →
    (let u := plainWrite s (identOf t) (winAddr t (0x1000 + q.val * 0x40)) v
     (bitAt v.toNat 31 = true → exec (.queueEnable t q be v) s = .next (enableQueue u t q)) ∧
     (bitAt v.toNat 31 = false → u.rd (Reg.QSTATUS_STATE t q) ≠ 0 → exec (.queueDisable t q be v) s = .next (disableQueue u t q)))) ∧
  (∀ (t : Fin 128) (r : Fin 16) (be : BitVec 4) (v : Word) (s : State), AcceptsView s t be 13 → bitAt v.toNat 31 = true →
    exec (.recordRingEnable t r be v) s =
      .next (enableRing (plainWrite s (identOf t) (winAddr t (0x2000 + r.val * 0x20)) v) t r)) ∧
  (∀ (t : Fin 128) (q : Fin 64) (d : TxDesc) (s u : State) (ix : Nat), txTurn s = some (t.val, q.val) → s.hif.stalled = false →
    pktRuns s = true → ix = txIndex s t q →
    u = (if d.retried && d.dmaErr.isNone then transient (txServed s t q) Blk.hif 1 t else txServed s t q) →
    (∀ e, d.dmaErr = some e → exec (.txDescriptor t q d) s = .next (dmaError u t q ix e)) ∧
    (d.dmaErr = none →
      ((d.len = 0 ∨ 16384 < d.len) → exec (.txDescriptor t q d) s = .next (queueError u t q 1 ix)) ∧
      (1 ≤ d.len → d.len ≤ 16384 →
        ((2 < d.op ∨ (d.op ≠ 0 ∧ d.eop = false)) → exec (.txDescriptor t q d) s = .next (queueError u t q 2 ix)) ∧
        (d.op ≤ 2 → (d.op ≠ 0 → d.eop = true) →
          (d.clean = false → exec (.txDescriptor t q d) s = .next (queueError u t q 3 ix)) ∧
          (d.clean = true → d.op = 0 → exec (.txDescriptor t q d) s = .next (txSend u t q ix d)) ∧
          (d.clean = true → d.op ≠ 0 → exec (.txDescriptor t q d) s = .next (txHeld u t q ix d)))))) ∧
  (∀ (t : Fin 128) (q : Fin 64) (ds : List RxDesc) (ch : Nat) (f : Frame) (port tc : Nat) (ep : Option Nat) (rest : List HostItem)
    (s : State), queueRuns s t q = true → s.hif.stalled = false → waiting s t q = .frame ch f port tc ep :: rest →
    exec (.rxDeliver t q ds) s = .next (deliverFrame s t q ds ch f port tc ep)) ∧
  (∀ (t : Fin 128) (q : Fin 64) (ch : Nat) (f : Frame) (port tc : Nat) (ep : Option Nat) (rest : List HostItem) (s : State),
    waiting s t q = .frame ch f port tc ep :: rest → exec (.rxWaitExpired t q) s = .next (
      let u := dropRef (popWait s t q) ch
      let k := t.val * 64 + q.val
      let gap := if u.hif.gap.contains k then u.hif.gap else k :: u.hif.gap
      tenantCounted { u.inc (Reg.HOST_DROP t q) with hif := { u.hif with gap := gap } } t Blk.hif 0x0111 .warn k q)) ∧
  (∀ (t : Fin 128) (q : Fin 64) (s : State), s.hif.itrDue.contains (t.val * 64 + q.val) = true →
    exec (.itrExpired t q) s = .next (msix { s with hif := { s.hif with
      itrDue := s.hif.itrDue.filter (fun x => x != t.val * 64 + q.val)
      itrAt := Tab.put 0 s.hif.itrAt (t.val * 64 + q.val) s.taiNs } } t (s.rd (Reg.QCFG_VEC t q))))

/-- HOST_STALL, HOST_CREDIT_RETURN, QUIESCE, QUIESCE_COMPLETE, QUIESCE_RESUME, VF_FLR, VF_ENABLE_CLEAR, PCIE_LINK_UP and
PCIE_LINK_DOWN complete. With no credit for 1 ms the host-bound frames that wait are dropped and counted and the stall raises
its event, and a returning credit ends the stall; a full write of HIF_TEN_CTRL, of whose two domains one is up, drains the
instance or resumes it by its QUIESCE; when everything is issued QUIESCED is set and due messages are set pending; an FLR resets
the instance, one of the PF every VF too; a clear of VF Enable resets every VF in use; the link shows its speed and width when
it comes up, and its loss. (R538, R541, R542, R544, R547, R554, 11_host_and_tenants.md) -/
def Obligations.HostLinkCommandsComplete : Prop :=
  (∀ (ms : Nat) (s : State), s.hif.stalled = false → domainUp s 13 = true → exec (.hostStall ms) s =
    .next (raise (dropStalled { s with hif := { s.hif with stalled := true } }) Blk.hif 0x0103 .fault (ms % 2 ^ 32))) ∧
  (∀ s : State, exec .hostCreditReturn s = .next { s with hif := { s.hif with stalled := false } }) ∧
  (∀ (a : Access) (t : Fin 128) (v : Word) (s : State), debugShut s a.init = false → (domainUp s 13 = true ∨ domainUp s 18 = true) → a.be = 15 →
    (let u := plainWrite s a.init (tenCtrl t) v
     exec (.quiesce a t v) s = .next (quiesceChanged u t (quiesced s t) (quiesced u t)) ∧
     exec (.quiesceResume a t v) s = .next (quiesceChanged u t (quiesced s t) (quiesced u t)))) ∧
  (∀ (t : Fin 128) (s : State), quiesced s t = true → exec (.quiesceComplete t) s = .next (
    let u := (s.hif.itrDue.filter (fun k => k / 64 == t.val)).foldl (fun s k => setPba s t (s.rd (Reg.QCFG_VEC t (k % 64)))) s
    let u := { u with hif := { u.hif with
      itrDue := u.hif.itrDue.filter (fun k => k / 64 != t.val), part := u.hif.part.filter (fun p => p.1 / 64 != t.val) } }
    u.wr (Reg.HIF_TEN_STATUS_QUIESCED t) 1)) ∧
  (∀ (t : Fin 128) (s : State), domainUp s 13 = true → t.val ≠ 0 →
    exec (.vfFlr t) s = .next (mbxReset (resetInstance s t) (fun i => i == t.val + 1))) ∧
  (∀ s : State, domainUp s 13 = true →
    (let one := fun (s : State) (t : Nat) => mbxReset (resetInstance s t) (fun i => i == t + 1)
     let pf := one s 0
     exec (.vfFlr 0) s = .next ((((List.range 128).drop 1).filter (instanceInUse pf)).foldl one
       ((pf.wr Reg.HIF_STATUS_VF_EN 0).wr Reg.HIF_STATUS_NUM_VFS 0)) ∧
     exec .vfEnableClear s = .next ((((List.range 128).drop 1).filter (instanceInUse s)).foldl one
       ((s.wr Reg.HIF_STATUS_VF_EN 0).wr Reg.HIF_STATUS_NUM_VFS 0)))) ∧
  (∀ (sp : Fin 3) (w : Fin 4) (s : State), domainUp s 13 = true → exec (.pcieLinkUp sp w) s = .next (
    raise (((s.wr Reg.HIF_STATUS_LINK_UP 1).wr Reg.HIF_STATUS_SPEED sp).wr Reg.HIF_STATUS_WIDTH w) Blk.hif 0x0101 .info
      (sp.val + 2 ^ 8 * w.val))) ∧
  (∀ s : State, s.bit Reg.HIF_STATUS_LINK_UP = true →
    exec .pcieLinkDown s = .next (raise (s.wr Reg.HIF_STATUS_LINK_UP 0) Blk.hif 0x0102 .warn 0))

/-- HANDSHAKE_FAULT, CLOCK_CHECK, SUPPLY_FAULT, OWL_LOCKSTEP_MISMATCH, L4_ACTION, OWL_PARAM_LOAD, SAF_INJECT, HEARTBEAT and
MGMT_HB_LOST complete. A handshake that fails is the safe-state reaction of ID 7; FCLK out of its window is that of ID 8, REFCLK
out of it takes the backup oscillator; a rail outside its window shows it and reacts; Owl's own mismatch silences the pins and
is ID 20; after a latched L4, its snapshot and its delay, the configured warm reset is requested; Owl loads its newest valid
record or the ROM defaults; an injection of a listed kind, keyed and enabled, is told and waits for the next tick; a heartbeat
changes nothing else; a lost one requests the reset of the MGMT pairs. (R561, R564, R565, R568, R583, R585, R591,
12_safety_concept.md) -/
def Obligations.OwlCommandsComplete : Prop :=
  (∀ (r : Fin 3) (s : State), domainUp s 1 = true → s.saf.handshake.isSome = true →
    exec (.handshakeFault r) s = .next (handshakeFault s (r + 1))) ∧
  (∀ (ppm : Int) (s : State), domainUp s 1 = true → 80000 < ppm.natAbs →
    exec (.clockCheck .fclk ppm) s = .next (safeState (raise s Blk.saf 0x0104 .safety (1 + 2 ^ 32 * unsignedOf 32 ppm)) 8) ∧
    (domainUp s 2 = true → s.bit Reg.TIM_STATUS_BACKUP = false → exec (.clockCheck .refclk ppm) s = .next (
      let u := raise s Blk.saf 0x0104 .fault (2 + 2 ^ 32 * unsignedOf 32 ppm)
      stateAfter u (execRefclkLost u)))) ∧
  (∀ (r : Fin 27) (mv : BitVec 16) (lost : Nat) (s : State), domainUp s 1 = true → (railPd r).all (powered s) = true →
    (let u := (s.wr (Reg.SAF_RAIL_MV r) mv.toNat).setBit (Reg.SAF_RAIL_FAULT r) (railOut s r mv.toNat)
     (railOut s r mv.toNat = true → s.bit (Reg.SAF_RAIL_FAULT r) = false → exec (.supplyFault r mv lost) s =
       .next (railReaction (raise u Blk.saf 0x0105 .safety (r.val + 2 ^ 32 * mv.toNat)) r lost)) ∧
     (railOut s r mv.toNat = false → exec (.supplyFault r mv lost) s = .next u))) ∧
  (∀ s : State, domainUp s 1 = true → s.saf.owlLatch = false → exec .owlLockstepMismatch s = .next (
    safeState (silentPins { s.wr Reg.SAF_STATUS_OWL_FAULT 1 with saf := { s.saf with owlLatch := true } } true) 20)) ∧
  (∀ (ms lost : Nat) (s : State), domainUp s 1 = true → s.bit Reg.SAF_STATUS_LATCHED = true → s.rd Reg.BBX_STATUS_STATE = 2 →
    s.bbx.done = true → s.rd Reg.SAF_CFG_L4_DELAY ≤ ms →
    (s.rd Reg.SAF_CFG_L4_ACTION = 1 → exec (.l4Action ms lost) s = .next (resetRequest s 4 scopeWarm 0 lost)) ∧
    (s.rd Reg.SAF_CFG_L4_ACTION ≠ 1 → exec (.l4Action ms lost) s = .next s)) ∧
  (∀ s : State, domainUp s 1 = true → s.bit Reg.GRN_STATUS_SCAN = false →
    exec .owlParamLoad s = .next (match chosenRecord s with
      | some b => paramCheck (loadRecord s b)
      | none => romDefaults s)) ∧
  (∀ (a : Access) (v : Word) (s : State), Accepts s a 0x800000 1 → Keyed v → s.bit Reg.SAF_CTRL_INJ_EN = true →
    1 ≤ fieldOf v 0 4 → fieldOf v 0 4 ≤ 7 → exec (.safInject a v) s = .next (
      raise { s with saf := { s.saf with injectNext := s.saf.injectNext ++ [(fieldOf v 0 4, fieldOf v 4 12)] } }
        Blk.saf 0x0110 .info (fieldOf v 0 4 + 2 ^ 8 * fieldOf v 4 12))) ∧
  (∀ (a : Access) (v : Word) (s : State), Accepts s a 0x800000 1 → exec (.heartbeat a v) s = .next s) ∧
  (∀ (ms lost : Nat) (s : State), domainUp s 1 = true → s.rd Reg.SAF_HB_CFG_TIMEOUT ≤ ms →
    exec (.mgmtHbLost ms lost) s = .next (resetRequest (raise s Blk.saf 0x010C .warn (ms % 2 ^ 32)) 6 (2 ^ 17) 0 lost))

/-- SAF_RESTORE, ENTER_L4, GLEANER_PASS_COMPLETE, BIST_COMPLETE, DIAG_OVERDUE, GLEAN_CHECK, SRAM_UNCORR, DBG_ATTACHED and
DBG_DETACHED complete. A keyed RESTORE lets SAF recompute its shed request, a keyed ENTER_L4 enters a latched L4; a complete
pass is counted, timed and answers DIAG_OK; a spare that fails its test is retired; a pass overdue by 0.5 s is told once and
sheds, one overdue by 2 s is ID 22; a Gleaner check tells its finding and charges the member it names; an SRAM error spoils its
slots, and is ID 15 on a repeat within a second; the debug port shows whether it is clocked. (R577, R581, R583, R586, R587,
R588, R589, R595, R664, 12_safety_concept.md) -/
def Obligations.DiagnosticCommandsComplete : Prop :=
  (∀ (a : Access) (v : Word) (s : State), Accepts s a 0x800000 1 → Keyed v →
    exec (.safRestore a v) s = .next { s with saf := { s.saf with restore := true } } ∧
    exec (.enterL4 a v) s = .next (enterL4 s 0 true)) ∧
  (∀ (ms : Nat) (next : List (Fin 80)) (s : State), domainUp s 1 = true → exec (.gleanerPassComplete ms next) s = .next (
    let u := (s.inc Reg.SAF_GLEAN_PASS).wr Reg.SAF_GLEAN_LAST (min ms 0xFFFFFFFF)
    (next.map Fin.val).foldl bistStart
      (setShed { u.setBit Reg.SAF_STATUS_DIAG_OK (decide (ms ≤ 1000)) with saf := { u.saf with diagShed := false } }))) ∧
  (∀ (c : Fin 80) (next : List (Fin 80)) (s : State), s.thr.bist.contains c.val = true →
    (let u := { s with thr := { s.thr with bist := s.thr.bist.filter (· != c.val) } }
     exec (.bistComplete (some c) true next) s = .next ((next.map Fin.val).foldl bistStart u) ∧
     exec (.bistComplete (some c) false next) s = .next ((next.map Fin.val).foldl bistStart (retireCore u c 5 0xFFFF)))) ∧
  (∀ (ms : Nat) (s : State), domainUp s 1 = true → 1500 ≤ ms → exec (.diagOverdue ms) s = .next (
    let u := if s.saf.diagShed then s
      else raise (setShed { s with saf := { s.saf with diagShed := true } }) Blk.saf 0x010A .fault (ms % 2 ^ 32)
    if 3000 ≤ ms then safeState u 22 else u)) ∧
  (∀ (n : Fin 1024) (k : Fin 4) (g : Nat × Nat × Nat) (s : State), s.thr.glean.find? (fun g => g.1 == n.val) = some g →
    (let sev : Sev := if k.val = 0 then .info else .fault
     let u := raise { s with thr := { s.thr with glean := s.thr.glean.erase g } } Blk.saf 0x010B sev (n.val + 2 ^ 16 * k.val)
     exec (.gleanCheck n k) s =
       .next (if k.val = 1 then charge u g.2.1 n else if k.val = 2 then charge u g.2.2 n else u))) ∧
  (∀ (word : Nat) (slots : List (Fin 16384)) (s : State), domainUp s 18 = true →
    (let last := Tab.get 0 s.saf.sramLog word
     let u := (slots.map Fin.val).foldl spoilSlot { s with saf := { s.saf with
       sramLog := Tab.put 0 s.saf.sramLog word (s.taiNs + 1), sramBad := s.saf.sramBad ++ slots.map Fin.val } }
     ((0 < last ∧ s.taiNs < last - 1 + 1000000000) → exec (.sramUncorr word slots) s = .next (safeState u 15)) ∧
     (last = 0 → exec (.sramUncorr word slots) s = .next u))) ∧
  (∀ s : State, domainUp s 23 = true →
    (s.bit Reg.DBG_STATUS_ATTACHED = false →
      exec .dbgAttached s = .next (raise (s.wr Reg.DBG_STATUS_ATTACHED 1) Blk.dbg 0x0101 .warn 0)) ∧
    exec .dbgDetached s = .next (s.wr Reg.DBG_STATUS_ATTACHED 0))

/-- MBX_LOCK_READ, MBX_LOCK_RELEASE, LOCK_EXPIRED, BIND_LOCK, MANAGER_DOORBELL_WRITE and INSTANCE_DOORBELL_WRITE complete. A
permitted sender that reads a free lock takes it and reads 0, one that reads a taken lock reads its owner; the owner that writes
its identity frees the lock; a lock past LOCK_TMO with FULL 0 is freed and told; a management pair locks the bindings; the
manager sets DOWN bits and clears UP bits, and the instance the other way round. (R598, R601, R602, R603, R605, R613,
13_mailboxes_black_box.md) -/
def Obligations.MailboxLockCommandsComplete : Prop :=
  (∀ (i : Ident) (ch : Fin 64) (view : Bool) (s : State), ReachesChannel s i ch view → i.toNat ≠ 0x104 → permitted s ch i = true →
    (s.rd (Reg.MBX_LOCK_OWNER ch) = 0 → exec (.mbxLockRead i ch view) s =
      .next { s.wr (Reg.MBX_LOCK_OWNER ch) i.toNat with resp := some 0 }) ∧
    (s.rd (Reg.MBX_LOCK_OWNER ch) ≠ 0 → exec (.mbxLockRead i ch view) s =
      .next { s with resp := some (BitVec.ofNat 32 (s.rd (Reg.MBX_LOCK_OWNER ch))) })) ∧
  (∀ (a : Access) (ch : Fin 64) (v : Word) (view : Bool) (s : State), ReachesChannel s a.init ch view → a.be = 15 →
    s.rd (Reg.MBX_LOCK_OWNER ch) = a.init.toNat → v.toNat = a.init.toNat →
    exec (.mbxLockRelease a ch v view) s = .next (s.wr (Reg.MBX_LOCK_OWNER ch) 0)) ∧
  (∀ (ch : Fin 64) (s : State), s.rd Reg.MBX_CFG_LOCK_TMO ≠ 0 → s.rd (Reg.MBX_LOCK_OWNER ch) ≠ 0 →
    s.bit (Reg.MBX_STATUS_FULL ch) = false → exec (.lockExpired ch) s =
      .next (raise (s.wr (Reg.MBX_LOCK_OWNER ch) 0) Blk.mbx 0x0101 .warn (ch.val + 2 ^ 16 * s.rd (Reg.MBX_LOCK_OWNER ch)))) ∧
  (∀ (a : Access) (v : Word) (s : State), Accepts s a 0xB00000 0 → isMgmt a.init = true → fieldOf v 0 1 = 1 →
    exec (.bindLock a v) s = .next (s.wr Reg.MBX_BIND_LOCK_LOCK 1)) ∧
  (∀ (a : Access) (t : Fin 128) (v : Word) (s : State), Accepts s a 0xB00000 0 → manages s a.init t = true →
    (let old := s.reg (Reg.MBX_DB t).key
     let u := s.setReg (Reg.MBX_DB t).key ((old ||| (v &&& 0xF)) &&& ~~~(v &&& 0xF0))
     (u.bit (Reg.TW_DB_CFG_EN t) = false → exec (.managerDoorbellWrite a t v) s = .next u) ∧
     (u.bit (Reg.TW_DB_CFG_EN t) = true → exec (.managerDoorbellWrite a t v) s =
       .next ((bitList 4 (fieldOf (v &&& ~~~old) 0 4)).foldl (fun s _ => msix s t (s.rd (Reg.TW_DB_CFG_VEC t))) u)))) ∧
  (∀ (t : Fin 128) (be : BitVec 4) (v : Word) (s : State), AcceptsView s t be 0 →
    (let old := s.reg (Reg.MBX_DB t).key
     exec (.instanceDoorbellWrite t be v) s = .next ((bitList 4 (fieldOf (v &&& ~~~old) 4 4)).foldl (fun s _ =>
       if t.val = 0 ∨ s.bit Reg.MBX_DB_ROUTE_MGR then emit s (.mgmtIrq Blk.mbx) else msix s 0 (s.rd Reg.MBX_DB_ROUTE_PF_VEC))
       (s.setReg (Reg.MBX_DB t).key ((old ||| (v &&& 0xF0)) &&& ~~~(v &&& 0xF))))))

/-- MBX_MSG_WRITE, MBX_SEND, MBX_ACK and MBX_POP complete. The owner of a channel that is not FULL writes its message words; its
SEND stamps its identity, sets FULL, clears ACKED and tells the receiver; any other write of the message sets ERR_WR and any
other SEND sets ERR_SEND. In ACK mode the receiver's return code ends a FULL message; in READ-CLEAR mode its read of MBX_POP
returns the first word and ends it. (R606, R607, R608, R609, R610, 13_mailboxes_black_box.md) -/
def Obligations.MailboxMessageCommandsComplete : Prop :=
  (∀ (a : Access) (ch : Fin 64) (n : Fin 16) (v : Word) (view : Bool) (s : State), ReachesChannel s a.init ch view → a.be = 15 →
    ((owns s ch a.init && !s.bit (Reg.MBX_STATUS_FULL ch)) = true →
      exec (.mbxMsgWrite a ch n v view) s = .next (s.setReg (Reg.MBX_MSG ch n).key v)) ∧
    ((owns s ch a.init && !s.bit (Reg.MBX_STATUS_FULL ch)) = false →
      exec (.mbxMsgWrite a ch n v view) s = .next (s.wr (Reg.MBX_STATUS_ERR_WR ch) 1))) ∧
  (∀ (a : Access) (ch : Fin 64) (v : Word) (view : Bool) (s : State), ReachesChannel s a.init ch view → a.be = 15 → fieldOf v 0 1 = 1 →
    ((owns s ch a.init && !s.bit (Reg.MBX_STATUS_FULL ch)) = true → exec (.mbxSend a ch v view) s = .next (
      let k := (Reg.MBX_MSG ch 0).key
      let u := s.setReg k (withField (s.reg k) 16 10 a.init.toNat)
      let u := (u.wr (Reg.MBX_STATUS_FULL ch) 1).wr (Reg.MBX_STATUS_ACKED ch) 0
      notifyReceiver (u.used.wr (Reg.MBX_ACK_CODE ch) u.free.toNat) ch)) ∧
    ((owns s ch a.init && !s.bit (Reg.MBX_STATUS_FULL ch)) = false →
      exec (.mbxSend a ch v view) s = .next (s.wr (Reg.MBX_STATUS_ERR_SEND ch) 1))) ∧
  (∀ (a : Access) (ch : Fin 64) (v : Word) (view : Bool) (s : State), ReachesChannel s a.init ch view → a.be = 15 →
    s.rd (Reg.MBX_BIND_RECEIVER ch) = a.init.toNat → fieldOf v 0 16 < 0xFFFE → s.bit (Reg.MBX_BIND_MODE ch) = false →
    s.bit (Reg.MBX_STATUS_FULL ch) = true → exec (.mbxAck a ch v view) s = .next (
      notifySender (((s.wr (Reg.MBX_STATUS_FULL ch) 0).wr (Reg.MBX_STATUS_ACKED ch) 1).wr (Reg.MBX_ACK_CODE ch) (fieldOf v 0 16)) ch)) ∧
  (∀ (i : Ident) (ch : Fin 64) (view : Bool) (s : State), ReachesChannel s i ch view → s.bit (Reg.MBX_BIND_MODE ch) = true →
    s.rd (Reg.MBX_BIND_RECEIVER ch) = i.toNat → s.bit (Reg.MBX_STATUS_FULL ch) = true → exec (.mbxPop i ch view) s = .next
      { notifySender ((s.wr (Reg.MBX_STATUS_FULL ch) 0).wr (Reg.MBX_STATUS_ACKED ch) 1) ch with
        resp := some (s.reg (Reg.MBX_MSG ch 0).key) })

/-- BBX_ENTRY_WRITE, POST_TIMEOUT, BBX_SNAPSHOT, BBX_UNFREEZE, BBX_SNAPSHOT_CMD, BBX_ERASE_SLOT, SLOT_ERASE_DONE and BBX_ENTRY_READ
complete. The event at the front of the queue becomes an entry; a TRIGGERED ring freezes at the end of POST_MS; the entries of a
snapshot are programmed with its record and its event; a keyed UNFREEZE of a FROZEN ring whose snapshot is done returns it to
RECORDING; a keyed SNAPSHOT starts one, a keyed ERASE_SLOT erases its slot; a completed slot erase erases its four sectors; a
read of an entry's first word latches the others. (R615, R618, R620, R626, R627, R628, R630, 13_mailboxes_black_box.md) -/
def Obligations.BlackBoxCommandsComplete : Prop :=
  (∀ (e : Event) (rest : List Event) (s : State), s.bbx.queue = e :: rest →
    exec .bbxEntryWrite s = .next (recordEvent (popEvent s) e)) ∧
  (∀ s : State, s.rd Reg.BBX_STATUS_STATE = 1 → exec .postTimeout s = .next (freezeAfter s)) ∧
  (∀ (x : Snap) (s : State), s.bbx.snap = some x →
    (let u := appendDir (gProgram s (slotBase x.slot) x.data) dirSnapshot x.slot x.cause x.seq x.time x.first x.after
     let u := (u.wr Reg.BBX_STATUS_SNAP 2).wr Reg.BBX_STATUS_LAST_SLOT x.slot
     let u := showGrn { u with bbx := { u.bbx with snap := none, done := u.bbx.done || x.cause != 3 } }
     let u := tidyDir (raise u Blk.bbx 0x0102 .info (x.slot + 2 ^ 8 * x.cause + 2 ^ 16 * x.first + 2 ^ 32 * (nextCount u - 1)))
     u.bit Reg.BBX_CFG_OVERWRITE = false →
     ((u.rd Reg.BBX_STATUS_STATE ≠ 2 ∨ u.bbx.done = true) → exec .bbxSnapshot s = .next u) ∧
     (u.rd Reg.BBX_STATUS_STATE = 2 → u.bbx.done = false →
       exec .bbxSnapshot s = .next (startSnapshot u (if u.bbx.byFail then 2 else 1))))) ∧
  (∀ (a : Access) (v : Word) (s : State), Accepts s a 0xB80000 0 → Keyed v → s.bbx.snap = none →
    (s.rd Reg.BBX_STATUS_STATE = 2 → s.bbx.done = true → exec (.bbxUnfreeze a v) s =
      .next (raise (unfreeze s) Blk.bbx 0x0105 .info (s.rd Reg.BBX_FROZEN_DROP))) ∧
    (s.rd Reg.BBX_STATUS_STATE ≠ 2 → grnAway s = false → exec (.bbxSnapshotCmd a v) s = .next (startSnapshot s 3)) ∧
    (grnAway s = false → slotProtected s (fieldOf v 8 4) = false → exec (.bbxEraseSlot a v) s =
      .next (tidyDir (startErase s (fieldOf v 8 4))))) ∧
  (∀ (n : Nat) (rest : List Nat) (s : State), s.bbx.erasing = n :: rest → exec .slotEraseDone s = .next (
    let u := (List.range 4).foldl (fun s i => markDone (gErase s (slotBase n + 4096 * i) 4096) (slotBase n + 4096 * i)) s
    showSlots (showGrn { u with bbx := { u.bbx with erasing := rest } }))) ∧
  (∀ (i : Ident) (ix : Fin 2048) (s : State), exec (.bbxEntryRead i ix) s = .next { s with
    resp := some ((ringWords s ix).getD 0 0)
    bbx := { s.bbx with latch := Tab.put none s.bbx.latch i.toNat (some (ix.val, (ringWords s ix).drop 1)) } })

/-- INTERNAL_POR, POR_RELEASE, the reset pins and their releases, HOT_RESET, RST_CMD_WARM, RST_CMD_DOMAIN and DELAYED_RESET_ASSERT
complete. The internal POR leaves the power-on state with cause 1; a POR or a PORST_N that ends starts the cold release with the
pins of BOOT_SEL; a reset pin recognised low, a hot reset and a keyed RST_CMD of the PF or the management pairs request the
reset of their scope with their cause; resets that wait for a Granary pulse are asserted when it has ended. (R637, R640, R641,
R642, R643, R648, R660, R687, 14_reset_power_thermal.md) -/
def Obligations.ResetCommandsComplete : Prop :=
  (∀ s : State, exec .internalPor s = .next (
    let u := recordReset (powerOnState { s with rst := { s.rst with porHeld := true, trip := false } } false) 1 scopeAll 0 0 false s.tick
    { u with rst := { u.rst with code := 1, imgCode := 1 } })) ∧
  (∀ (b : Fin 4) (s : State), s.rst.porHeld = true → exec (.porRelease b) s =
    .next (startCold ({ s with rst := { s.rst with porHeld := false } }.wr Reg.RST_BOOT_BOOT_SEL b))) ∧
  (∀ (us : Nat) (s : State), s.rst.delayed ≠ [] → pulseKind s = none → exec (.delayedResetAssert us) s =
    .next (s.rst.delayed.foldl (assertDelayed us) { s.wr Reg.RST_STATUS_DELAYED 0 with rst := { s.rst with delayed := [] } })) ∧
  (∀ s : State, s.rst.porstLow = false → s.rst.porHeld = false →
    exec .porstNAssert s = .next (resetRequest { s with rst := { s.rst with porstLow := true } } 2 scopeAll 0 0)) ∧
  (∀ (b : Fin 4) (cool : Bool) (s : State), s.rst.porstLow = true → s.rst.porHeld = false →
    s.rst.delayed.any (fun x => x.code == 2) = false → exec (.porstNRelease b true cool) s =
      .next (startCold ({ s with rst := { s.rst with porstLow := false, trip := s.rst.trip && !cool } }.wr Reg.RST_BOOT_BOOT_SEL b))) ∧
  (∀ (lost : Nat) (s : State), s.rst.warmLow = false → s.rst.porHeld = false → s.rst.porstLow = false →
    exec (.warmRstN lost) s = .next (resetRequest { s with rst := { s.rst with warmLow := true } } 3 scopeWarm 0 lost)) ∧
  (∀ s : State, (s.rst.rel ≠ 0 → s.rst.porHeld = false → s.rst.porstLow = false → exec .warmRstNRelease s =
      .next ({ s with rst := { s.rst with warmLow := false } }.wr Reg.RST_STATUS_BUSY 1)) ∧
    (s.rst.rel = 0 → exec .warmRstNRelease s = .next { s with rst := { s.rst with warmLow := false } })) ∧
  (∀ s : State, s.rst.perstLow = false → s.rst.porHeld = false → s.rst.porstLow = false →
    exec .perstN s = .next (resetRequest { s with rst := { s.rst with perstLow := true } } 9 (2 ^ 13) 0 0)) ∧
  (∀ s : State, (let u := { s with rst := { s.rst with perstLow := false } }
    (bitAt s.rst.rel 13 = true → heldDomain u 13 = false → exec .perstNRelease s = .next (u.wr Reg.RST_STATUS_BUSY 1)) ∧
    (bitAt s.rst.rel 13 = false → exec .perstNRelease s = .next u))) ∧
  (∀ s : State, s.rst.porHeld = false → s.rst.porstLow = false →
    exec .hotReset s = .next (resetRequest s 10 (2 ^ 13) 0 0)) ∧
  (∀ (a : Access) (v : Word) (lost : Nat) (s : State), Accepts s a 0x880000 0 → isPfOrMgmt a.init = true → Keyed v →
    exec (.rstCmdWarm a v lost) s = .next (resetRequest s 7 scopeWarm a.init.toNat lost) ∧
    (let scope := s.rd Reg.RST_MASK % 2 ^ 25
     scope ≠ 0 → (safeOp s = true → [2, 3, 18, domImg].any (bitAt scope) = false) →
     exec (.rstCmdDomain a v lost) s = .next (resetRequest s 8 scope a.init.toNat (if bitAt scope 17 then lost else 0))))

/-- RELEASE_STEP, OWL_DOMAIN_REPOWER, DOMAIN_RESTORED, PWR_ON, PWR_OFF, PFAIL_ASSERTED and PFAIL_CLEARED complete. With PFAIL_N high
the next domain of the release order is released, unless it waits for the Granary's scan; a domain that Owl powered off is
powered on again and waits for its release; a restored domain resumes with its event; a keyed ON of a permitted domain that is
off powers it on, a keyed OFF of one that may go powers it off; PFAIL_N low is counted, shown and told after the black box has
frozen; its end is told. (R643, R647, R651, R653, R662, R663, R667, R668, 14_reset_power_thermal.md) -/
def Obligations.ReleaseAndPowerCommandsComplete : Prop :=
  (∀ (d : Nat) (s : State), s.bit Reg.PWR_PFAIL_LOW = false → nextRelease s = some d → waitsForScan s d = false →
    exec .releaseStep s = .next (releaseStep s d)) ∧
  (∀ (d : Nat) (s : State), s.bit Reg.PWR_PFAIL_LOW = false → nextRelease s = none →
    (bitList 24 s.rst.on).find? (fun d => !heldDomain s d) = some d →
    exec .releaseStep s = .next (releasePd { s with rst := { s.rst with on := scopeLess s.rst.on (2 ^ d) } } d)) ∧
  (∀ (pd : Fin 24) (s : State), s.rst.owlOff.contains pd.val = true → powered s pd = false → s.rst.trip = false →
    exec (.owlDomainRepower pd) s = .next (
      let u := raise (showPower s pd true) Blk.pwr 0x0101 .info pd
      { u.wr Reg.RST_STATUS_BUSY 1 with rst := { u.rst with
        rel := Nat.lor u.rst.rel (2 ^ pd.val + (if pd.val = 18 then 2 ^ domImg else 0)), code := 5 } })) ∧
  (∀ (pd : Fin 24) (s : State), s.rst.restoring.contains pd.val = true → exec (.domainRestored pd) s = .next (
    let p := replay s pd
    raise { p.1 with rst := { p.1.rst with
      restoring := p.1.rst.restoring.filter (fun x => x != pd.val), resume := pd.val :: p.1.rst.resume } }
      Blk.rst 0x0103 .info (pd.val + 2 ^ 32 * p.2))) ∧
  (∀ (a : Access) (v : Word) (s : State), Accepts s a 0x8A0000 0 → isPfOrMgmt a.init = true → Keyed v → fieldOf v 0 5 ≤ 23 →
    (let d := fieldOf v 0 5
     ((imageLive s && bitAt (s.rd Reg.PWR_USED) d) = true ∨ optionalDomains.contains d = true) → bitAt (s.rd Reg.PWR_FAILED) d = false →
     powered s d = false → s.rst.trip = false → bitAt s.rst.rel d = false →
     exec (.pwrOn a v) s = .next (
       let u := showPower s d true
       raise { u with rst := { u.rst with on := Nat.lor u.rst.on (2 ^ d) } } Blk.pwr 0x0101 .info d))) ∧
  (∀ (a : Access) (v : Word) (s : State), Accepts s a 0x8A0000 0 → isPfOrMgmt a.init = true → Keyed v → fieldOf v 0 5 ≤ 23 →
    (let d := fieldOf v 0 5
     optionalDomains.contains d = true → offOk s d = true → powered s d = true → exec (.pwrOff a v) s = .next (
       let u := resetPd (2 ^ d) 0 s d
       let u := { u with rst := { u.rst with rel := scopeLess u.rst.rel (2 ^ d), on := scopeLess u.rst.on (2 ^ d) } }
       raise (showPower u d false) Blk.pwr 0x0102 .info (d + 2 ^ 8 * 1)))) ∧
  (∀ s : State, s.bit Reg.PWR_PFAIL_LOW = false → exec .pfailAsserted s = .next (
    let u := (s.inc Reg.PWR_PFAIL_COUNT).wr Reg.PWR_PFAIL_LOW 1
    let u := { u with grn := { u.grn with failHold := match s.grn.run with
      | some (.erase ..) => true
      | _ => false } }
    raise (if s.rst.porHeld || s.rst.porstLow then u else bbxPowerFail u) Blk.pwr 0x0104 .warn 0)) ∧
  (∀ (ms : Nat) (s : State), s.bit Reg.PWR_PFAIL_LOW = true → exec (.pfailCleared ms) s = .next (
    raise { s.wr Reg.PWR_PFAIL_LOW 0 with grn := { s.grn with failHold := false } } Blk.pwr 0x0105 .info (ms % 2 ^ 32)))

/-- THM_SAMPLE and THERMAL_TRIP complete. Out of POR a sample cross-checks the 32 sensors, shows how many are excluded, raises the
event of a monitor that becomes degraded, and compares Tj with its limits; a trip that no trip is in force for writes its entry
at once, records the reset, powers down every domain except PD00 and PD01, and silences the outputs. (R671, R676, R683, R684,
14_reset_power_thermal.md) -/
def Obligations.ThermalCommandsComplete : Prop :=
  (∀ (t : List Int) (s : State), s.rst.porHeld = false → s.rst.porstLow = false → exec (.thmSample t) s = .next (
    let x : ThmView := ⟨t, s.rd Reg.THM_EXCL⟩
    let u := (List.range 32).foldl (checkSensor x) s
    let n := popCount 32 (u.rd Reg.THM_EXCL)
    let w := (u.wr Reg.THM_STATUS_EXCL_COUNT n).setBit Reg.THM_STATUS_DEGRADED (decide (8 < n))
    let w := if 8 < n ∧ !u.bit Reg.THM_STATUS_DEGRADED then raise w Blk.thm 0x0108 .fault n else w
    match x.tj with
    | some (tj, sensor) => thermalStep w tj sensor
    | none => w)) ∧
  (∀ (mask : Fin 16) (s : State), s.rst.trip = false → s.rst.porHeld = false → s.rst.porstLow = false →
    ∃ u : State, exec (.thermalTrip mask) s = .next (silentPins ((u.wr Reg.RST_STATUS_BUSY 0).wr Reg.RST_STATUS_DELAYED 0) false) ∧
      u.rst.trip = true ∧ u.rst.rel = 0 ∧ u.rst.on = 0 ∧ u.rst.code = 14 ∧ u.rst.delayed = [] ∧ u.rst.owlOff = [])

/-- GRN_PROGRAM, PROGRAM_DONE, GRN_ERASE, ERASE_DONE, GRN_SUSPEND, GRN_RESUME, GRANARY_READ, READ_SUSPEND_END, JOURNAL_ERASE,
PROT_WRITE and PROT_STORED complete. A PROGRAM in range, in region and unprotected starts its pulse with the buffered bytes; a
pulse that verifies leaves the cells with bits cleared and answers 0, one that fails on both answers 5 with its event. A keyed
ERASE journals its intents and starts; its end erases the sector and marks the intents, a failure answers 6. SUSPEND holds a
running erase, RESUME continues it. A read of a bank that runs nothing is served, one of a programming bank waits, one of an
erasing bank suspends it. A left journal sector is erased; a protect write is stored. (R695, R696, R697, R699, R701, R702, R704,
R705, R707, 15_granary_settings_firmware.md) -/
def Obligations.GranaryCommandsComplete : Prop :=
  (∀ (a : Access) (v : Word) (s : State), GranaryTakes s a false →
    (let u := grnResult s a.init false 0
     let addr := u.rd Reg.GRN_ADDR_ADDR
     let len := u.rd Reg.GRN_LEN_LEN
     let page := addr - addr % 256
     1 ≤ len → len ≤ 256 → inRegion a.init page 256 = true → gProtected u page 256 = false →
     (∀ n sec q, u.grn.susp = some (.erase n sec q) → sec ≠ sectorOf addr) →
     exec (.grnProgram a v) s = .next (showGrn { u with grn := { u.grn with run := some (.program a.init.toNat addr
       ((List.range len).map (fun i => (page + (addr + i) % 256, (grnBuf u a.init len).getD i 0)))) } }))) ∧
  (∀ (init addr : Nat) (cells : List (Nat × Byte)) (s : State), s.grn.run = some (.program init addr cells) →
    (let u := { s with grn := { s.grn with run := none } }
     let w := gCells u cells
     (∀ b : Bool, exec (.programDone true b) s = .next (serveWaiting (showGrn (grnResult
       (if 256 < addr % 256 + cells.length then w.inc Reg.GRN_WRAP_CNT else w) (BitVec.ofNat 10 init) true 0)))) ∧
     exec (.programDone false false) s = .next (serveWaiting (showGrn
       (raise (grnResult (gMix u cells) (BitVec.ofNat 10 init) true 5) Blk.grn 0x0103 .fault addr))))) ∧
  (∀ (a : Access) (v : Word) (s w : State), GranaryTakes s a false → Keyed v →
    (let u := grnResult s a.init false 0
     let sec := sectorOf (u.rd Reg.GRN_ADDR_ADDR)
     inRegion a.init sec 4096 = true → eraseProtected u sec 4096 = false → u.grn.susp = none →
     putIntents u sec (nextSeq u) = some w → exec (.grnErase a v) s = .next (showGrn { w with grn := { w.grn with
       run := some (.erase a.init.toNat sec (nextSeq u)), readHold := false, heldUs := 0 } }))) ∧
  (∀ (init sec seq : Nat) (s : State), s.grn.run = some (.erase init sec seq) → s.grn.readHold = false → s.grn.failHold = false →
    s.bbx.snap = none →
    (let u := { s with grn := { s.grn with run := none } }
     exec (.eraseDone true false) s = .next (
       let w := markDone (gErase u sec 4096) sec
       serveWaiting (showGrn (grnResult { w with grn := { w.grn with held := w.grn.held.filter (fun x => x != sec) } }
         (BitVec.ofNat 10 init) true 0))) ∧
     exec (.eraseDone false false) s = .next (serveWaiting (showGrn
       (raise (grnResult (gHalfErased u sec) (BitVec.ofNat 10 init) true 6) Blk.grn 0x0104 .fault sec))))) ∧
  (∀ (a : Access) (v : Word) (init sec seq : Nat) (s : State), GranaryTakes s a true →
    (let u := grnResult s a.init false 0
     u.grn.run = some (.erase init sec seq) → bbxWorks u = false → u.grn.prot = none → exec (.grnSuspend a v) s = .next (
       grnResult (showGrn { u with grn := { u.grn with run := none, susp := some (.erase init sec seq), readHold := false } })
         a.init true 0))) ∧
  (∀ (a : Access) (v : Word) (op : GrnOp) (s : State), GranaryTakes s a false →
    (let u := grnResult s a.init false 0
     u.grn.susp = some op → exec (.grnResume a v) s = .next (
       grnResult (showGrn { u with grn := { u.grn with run := some op, susp := none } }) a.init true 0))) ∧
  (∀ (i : Ident) (w : Fin 262144) (m : Fin 3) (s : State), blockUp s 0x900000 19 = true →
    (deadSectors s).contains (sectorOf (4 * w.val)) = false →
    (s.grn.run = none → exec (.granaryRead i w m) s = .next (serveRead s ⟨i.toNat, 4 * w.val, m.val⟩)) ∧
    (∀ n addr cs, s.grn.run = some (.program n addr cs) → bankOf addr = bankOf (4 * w.val) →
      exec (.granaryRead i w m) s =
        .next { s with grn := { s.grn with waiting := s.grn.waiting ++ [⟨i.toNat, 4 * w.val, m.val⟩] } }) ∧
    (∀ n sec q, s.grn.run = some (.erase n sec q) → bankOf sec = bankOf (4 * w.val) → s.grn.readHold = false → s.grn.failHold = false →
      s.bbx.snap = none → s.grn.heldUs < 1000 → exec (.granaryRead i w m) s =
        .next (serveRead { s with grn := { s.grn with readHold := true } } ⟨i.toNat, 4 * w.val, m.val⟩))) ∧
  (∀ (us : Nat) (s : State), s.grn.readHold = true → exec (.readSuspendEnd us) s =
    .next { s with grn := { s.grn with readHold := false, heldUs := s.grn.heldUs + us } }) ∧
  (∀ (ring : Fin 2) (s : State), blockUp s 0x900000 19 = true → s.bit Reg.GRN_STATUS_SCAN = false → grnBusy s = false →
    s.bit Reg.PWR_PFAIL_LOW = false → gProtected s 0x4000 0x4000 = false → entriesIn s (otherSector s ring) ≠ [] →
    (entriesIn s (otherSector s ring)).all (fun e => e.2.2.2) = true →
    exec (.journalErase ring) s = .next (gErase s (otherSector s ring) 4096)) ∧
  (∀ (a : Access) (v : Word) (s : State), Accepts s a 0x900000 19 → isPfOrMgmt a.init = true →
    (let u := s.setBit Reg.GRN_STATUS_WPN true
     u.bit Reg.GRN_STATUS_SCAN = false → grnBusy u = false → exec (.protWrite a v true) s =
       .next (showGrn { u with grn := { u.grn with prot := some (a.init.toNat, fieldOf v 0 4) } }))) ∧
  (∀ (i v : Nat) (s : State), s.grn.prot = some (i, v) → exec .protStored s = .next (
    let u := s.wr Reg.GRN_PROT v
    let u := showGrn { u with grn := { u.grn with row := v, prot := none } }
    if s.grn.row = v then u else raise u Blk.grn 0x010A .info (v % 4 + 2 ^ 8 * (v / 4) + 2 ^ 32 * i)))

/-- SCAN_DONE, FIRMWARE_BOOT, FW_BOOT_COMPLETE, FW_TRIAL, FW_COMMIT, FAIL_TRIAL, IMG_SLOT_SELECT, TRIAL_EXPIRED, FUSE_PROGRAM and
FUSE_REVOKE complete. The power-up scan ends with its event and the black box's own scan; the boot ROM tries the slot that
BOOT_SEL and the boot record name; a forced boot starts its slot with the settings schemas it supports where that authenticates,
and runs no firmware where it does not; a trial slot that does not authenticate is marked FAILED in a new record and the active
slot is tried; TRIAL writes a record with the other slot on trial, COMMIT one with the trial slot active, and advances the
anti-rollback count; FAIL_TRIAL programs its mark; IMG_SLOT writes the slot of the next autoload; a trial window that ends
programs its mark; a fuse message programs or revokes its key slot. (R708, R715, R716, R721, R722, R723, R725, R727, R728,
15_granary_settings_firmware.md) -/
def Obligations.FirmwareCommandsComplete : Prop :=
  (∀ (us : Nat) (s : State), s.bit Reg.GRN_STATUS_SCAN = true → blockUp s 0x900000 19 = true → ∀ retried failed : List (Fin 256),
    exec (.scanDone us retried failed) s = .next (
      let bad := failed.map Fin.val
      let erased := ((openIntents s).filter (fun p => !bad.contains (p.1 / 4096))).length
      let u := (openIntents s).foldl (scanErase (retried.map Fin.val) bad) s
      let stale := staleJournal u
      let u := stale.foldl (fun s a => gErase s a 4096) u
      let u := ((ringEntries u 0 ++ ringEntries u 1).filter (fun e => e.2.2.2)).foldl (fun s e => markSeq s (e.2.1, e.2.2.1)) u
      let u := (u.wr Reg.GRN_SCAN_INFO_US_DIV4 (min (us / 4) 65535)).wr Reg.GRN_SCAN_INFO_JREPAIR (min stale.length 15)
      let u := (u.wr Reg.GRN_SCAN_INFO_ERASED (min erased 15)).wr Reg.GRN_STATUS_SCAN 0
      bbxScanned (raise (showGrn u) Blk.grn 0x0101 .info (erased % 256 + 2 ^ 8 * (stale.length % 256) + 2 ^ 32 * (us % 2 ^ 32))))) ∧
  (∀ s : State, s.grn.bootWait = true → domainUp s 17 = true → domainUp s 22 = true → domainUp s 19 = true →
    s.bit Reg.GRN_STATUS_SCAN = false → s.rd Reg.IMG_STATUS_STATE ≠ 1 →
    (let r := bootRec s
     let u := { s with grn := { s.grn with bootWait := false } }
     let u := showFw (blowTo u (max (mirrorCount u) (fwSvn u r.active)))
     (u.rd Reg.RST_BOOT_BOOT_SEL = 3 → exec .firmwareBoot s = .next (bootStatus u modeHalt 0 0)) ∧
     (u.rd Reg.RST_BOOT_BOOT_SEL = 1 → exec .firmwareBoot s = .next (tryBoot u { slot := 0, mode := modeForced })) ∧
     (u.rd Reg.RST_BOOT_BOOT_SEL = 2 → exec .firmwareBoot s = .next (tryBoot u { slot := 1, mode := modeForced })) ∧
     (u.rd Reg.RST_BOOT_BOOT_SEL = 0 → r.trial = 0xFF →
       exec .firmwareBoot s = .next (tryBoot u { slot := r.active, mode := modeNormal })) ∧
     (u.rd Reg.RST_BOOT_BOOT_SEL = 0 → r.trial ≠ 0xFF → r.tried = false →
       exec .firmwareBoot s = .next (tryBoot (programMark u 48 0) { slot := r.trial, mode := modeTrial })))) ∧
  (∀ (b : Boot) (s : State), s.grn.boot = some b →
    (b.mode = modeForced → b.second = false → exec .fwBootComplete s = .next (
      if authFault s b.slot = 0 then startFirmware s b
      else noFirmware s (if b.slot = 0 then { b with whyA := authFault s b.slot } else { b with whyB := authFault s b.slot }) false)) ∧
    (authFault s b.slot ≠ 0 → b.mode = modeTrial → exec .fwBootComplete s = .next (
      tryBoot (writeRec s { (bootRec s).setState b.slot 4 with trial := 0xFF, last := authFault s b.slot })
        { (if b.slot = 0 then { b with whyA := authFault s b.slot } else { b with whyB := authFault s b.slot }) with
          slot := (bootRec s).active, mode := modeFallback, left := b.slot, reason := authFault s b.slot }))) ∧
  (∀ (a : Access) (v : Word) (s : State), FirmwareTakes s a → isPfOrMgmt a.init = true → Keyed v →
    (let r := bootRec s
     ringBlocked s 0 = false → ringBlocked s 1 = false → eraseProtected s (0x1000 - r.base) 4096 = false →
     (fwArg v ≤ 1 → r.trial = 0xFF → fwArg v ≠ r.active → exec (.fwTrial a v 0) s =
       .next (fwResult (writeRec s { r.setState (fwArg v) 2 with trial := fwArg v }) 0)) ∧
     ((fwArg v = 0 ∨ fwArg v = 1 ∨ fwArg v = 0xFF) → exec (.imgSlotSelect a v 0) s =
       .next (fwResult (writeRec s { r with img := fwArg v }) 0)) ∧
     (trialRuns s = true → r.expired = false → gProtected s 0x8000 0x1000 = false → exec (.fwCommit a v 0) s = .next (
       let svn := (s.grn.fw.map Prod.snd).getD 0
       let u := fwResult (writeRec s { r with active := r.trial, stA := 1, stB := 1, trial := 0xFF }) 0
       let u := blowTo (setMirror u svn) svn
       let u := { u.wr Reg.GRN_TRIAL_LEFT_SEC 0 with grn := { u.grn with trialEnd := none } }
       raise u Blk.grn 0x0108 .info (r.trial + 2 ^ 8 * svn + 2 ^ 16 * u.rd Reg.GRN_AR_COUNT_COUNT))))) ∧
  (∀ (a : Access) (v : Word) (s : State), FirmwareTakes s a → isMgmt a.init = true → fwArg v ≠ 0 → fwArg v ≠ 0xFF → trialRuns s = true →
    gProtected s (bootRec s).base 64 = false → exec (.failTrial a v false) s =
      .next (fwResult (programMark s 50 (BitVec.ofNat 8 (fwArg v))) 0)) ∧
  (∀ s : State, trialRuns s = true → s.grn.trialEnd.isSome = true → (bootRec s).expired = false → exec .trialExpired s = .next (
    let u := programMark s 49 0
    raise { u.wr Reg.GRN_TRIAL_LEFT_SEC 0 with grn := { u.grn with trialEnd := none } } Blk.grn 0x0107 .warn (bootRec s).trial)) ∧
  (∀ (c : Nat) (s : State), serviceChannel s = some c → s.grn.fw.isSome = true → s.bit (Reg.MBX_STATUS_FULL c) = true →
    fieldOf (s.reg (Reg.MBX_MSG c 0).key) 16 10 = 1 →
    (let w := s.reg (Reg.MBX_MSG c 0).key
     let n := fieldOf w 8 2
     let f := s.img.fuses
     let h := (List.range 12).flatMap (fun j => toLe 4 (s.rd (Reg.MBX_MSG c (j + 1))))
     let answered := fun (s : State) (f : Fuses) (code : Nat) =>
       endMessage ((fun u : State => if blockUp u 0x40000 18 then showFuses u else u) { s with img := { s.img with fuses := f } }) c (some code)
     (fieldOf w 0 8 = 0x21 → (Tab.get [] f.hash n).any (· != 0) = false →
       exec (.fuseProgram false) s =
         .next (answered s { f with hash := Tab.put [] f.hash n h, programmed := setBitAt f.programmed n true } 0) ∧
       exec (.fuseProgram true) s = .next (answered s { f with hash := Tab.put [] f.hash n h } 5)) ∧
     (fieldOf w 0 8 = 0x22 → bitAt f.programmed n = true →
       (List.range 4).any (fun m => m != n && bitAt f.programmed m && !bitAt f.revoked m) = true →
       exec .fuseRevoke s = .next (answered s { f with revoked := setBitAt f.revoked n true } 0))))

/-- SENSOR_READ_CYCLE, PRESENCE_CHANGE, H2_ALARM, H2_CLEAR, H2_HOLD_END, SCHEDULE_EVALUATION, LOOP_RUN, DAMPER_STALL, DAMPER_SYNC
and HEATER_MIN_TIME_END complete. While climate control runs a read cycle reads each humidity sensor's address, then recomputes
sensors, zones and outputs; a recognised presence or hydrogen level is shown and changes the modes, the hydrogen alarm and its
end each with its event and the hold time; the end of the hold releases the outputs; the schedules are recomputed; a loop that
is due in this tick, and has not run in it, runs while the tick generator is not STOPPED; a driving damper with feedback that
does not move stops and is told; an estimated position is synchronised to 0; the end of a minimum time lets a held switch take
place. (R731, R738, R742, R746, R752, R753, R755, R759, 16_enclosure_climate.md) -/
def Obligations.ClimateCommandsComplete : Prop :=
  (∀ (adc : List AuxMean) (i2c : List HumRead) (s : State), clmRuns s = true → exec (.sensorReadCycle adc i2c) s = .next (
    let u := (List.range 32).foldl (sensorCycle adc i2c) ((humInputs s).foldl (humTransact i2c) s)
    outputsUpdate (zoneModes ((List.range 16).foldl zoneCycle u)) adc)) ∧
  (∀ s : State, clmRuns s = true → exec .scheduleEvaluation s = .next (outputsUpdate (scheduleAll s) [])) ∧
  (∀ (i : Fin 8) (b : Bool) (n : Nat) (s : State), clmRuns s = true → inputPin s 9 i = some n → exec (.presenceChange i b) s = .next (
    let u := s.setBit (Reg.CLM_CIO_LEVEL n) b
    outputsUpdate (zoneModes { u with clm := { u.clm with
      pres := setBitAt u.clm.pres i.val b, presAt := Tab.put 0 u.clm.presAt i.val (u.taiSec + 1) } }) [])) ∧
  (∀ (n : Nat) (s : State), clmRuns s = true → inputPin s 10 0 = some n →
    exec .h2Alarm s = .next (
      let u := s.setBit (Reg.CLM_CIO_LEVEL n) true
      raise (outputsUpdate { u.wr Reg.CLM_STATUS_H2 1 with clm := { u.clm with h2 := true, h2Hold := false } } []) Blk.clm 0x0106 .fault 0) ∧
    (s.clm.h2 = true → exec .h2Clear s = .next (
      let u := s.setBit (Reg.CLM_CIO_LEVEL n) false
      raise (outputsUpdate { u.wr Reg.CLM_STATUS_H2 0 with clm := { u.clm with h2 := false, h2Hold := true } } []) Blk.clm 0x0107 .info 0))) ∧
  (∀ s : State, s.clm.h2Hold = true →
    exec .h2HoldEnd s = .next (outputsUpdate { s with clm := { s.clm with h2Hold := false } } [])) ∧
  (∀ (l : Fin 32) (aux : List AuxMean) (s : State), clmRuns s = true → s.bit (Reg.CLM_LOOP_CFG_EN l) = true → loopDue s l = true →
    s.rd Reg.TIK_STATUS_STATE ≠ 0 → exec (.loopRun l aux) s = .next (outputsUpdate (loopRun s l) aux)) ∧
  (∀ (d : Fin 8) (s : State), clmRuns s = true → s.rd (Reg.CLM_DMP_CFG_FB d) ≠ 0 →
    (s.rd (Reg.CLM_DMP_DSTATUS_STATE d) = 1 ∨ s.rd (Reg.CLM_DMP_DSTATUS_STATE d) = 2) → exec (.damperStall d) s = .next (
      let x := Tab.get {} s.clm.dmp d.val
      let y := { x with
        dir := 0, stop := s.taiNs, lastDir := x.dir
        stallAt := demandOf s (Reg.CLM_DMP_OVR_EN d) (Reg.CLM_DMP_OVR_PCT d) (s.rd (Reg.CLM_DMP_CFG_LOOP d)) }
      let u := { s.wr (Reg.CLM_DMP_DSTATUS_STATE d) 3 with clm := { s.clm with dmp := Tab.put {} s.clm.dmp d.val y } }
      pinLevels (raise u Blk.clm 0x0103 .warn (d.val + 2 ^ 32 * u.rd (Reg.CLM_DMP_POS d))))) ∧
  (∀ (d : Fin 8) (s : State), clmRuns s = true →
    ((Tab.get {} s.clm.dmp d.val).sync = true → exec (.damperSync d false) s = .next (
      let y := { Tab.get {} s.clm.dmp d.val with sync := false, seen := s.taiNs }
      outputsUpdate { s.wr (Reg.CLM_DMP_POS d) 0 with clm := { s.clm with dmp := Tab.put {} s.clm.dmp d.val y } } [])) ∧
    ((Tab.get {} s.clm.vlv d.val).sync = true → exec (.damperSync d true) s = .next (
      let y := { Tab.get {} s.clm.vlv d.val with sync := false, seen := s.taiNs }
      outputsUpdate { s.wr (Reg.CLM_VLV_POS d) 0 with clm := { s.clm with vlv := Tab.put {} s.clm.vlv d.val y } } []))) ∧
  (∀ (h : Fin 8) (s : State), clmRuns s = true → exec (.heaterMinTimeEnd h) s =
    .next (outputsUpdate { s with clm := { s.clm with lock := setBitAt s.clm.lock h.val false } } []))

/-- MSTP_FRAME_RECEIVE, MSTP_TIMER_EXPIRY, REPLY_POSTPONED, MSTP_RX_POP, MSTP_TX_PUSH, MSTP_HEARTBEAT, MSTP_ABSENT and MSTP_LEFT
complete. A good frame of another station is taken by the node, a bad one is counted, one with the node's own address is counted
and told; a timer moves the node; a reply that is late is postponed; a management pair pops the receive queue and pushes its
built entry while fewer than 15 wait; a heartbeat makes the firmware present, its loss ABSENT, and five seconds later the link
leaves the ring with its event. (R763, R764, R765, R766, R767, 16_enclosure_climate.md) -/
def Obligations.BuildingBusCommandsComplete : Prop :=
  (∀ (typ dst src : Byte) (data : List Byte) (s : State), mstpUp s = true →
    (typ.toNat ≤ 7 → data.length ≤ 501 → src.toNat ≠ mstpMac s →
      exec (.mstpFrameReceive true typ dst src data) s = .next (mstpFrame s ⟨typ.toNat, dst.toNat, src.toNat, false, data⟩)) ∧
    (typ.toNat ≤ 7 → data.length ≤ 501 → src.toNat = mstpMac s → exec (.mstpFrameReceive true typ dst src data) s =
      .next (raiseMinute (s.inc Reg.CLM_MSTP_DUP_MAC) Blk.clm 0x010A .warn 0 (mstpMac s))) ∧
    exec (.mstpFrameReceive false typ dst src data) s = .next (s.inc Reg.CLM_MSTP_BAD_FRAME)) ∧
  (∀ s : State, mstpUp s = true → linkState s ≠ linkLeft →
    (s.clm.mstp.state = .idle →
      exec (.mstpTimerExpiry .noToken) s = .next (setMstp s { s.clm.mstp with state := .noToken })) ∧
    (s.clm.mstp.state = .noToken → exec (.mstpTimerExpiry .slot) s =
      .next (sendPoll (setMstp s { s.clm.mstp with next := mstpMac s, tokens := 0 }) (mstpSucc s (mstpMac s)))) ∧
    (s.clm.mstp.state = .useToken → exec (.mstpTimerExpiry .slot) s = .next (holdToken s)) ∧
    (s.clm.mstp.state = .waitReply → exec (.mstpTimerExpiry .reply) s =
      .next (doneWithToken (setMstp s { s.clm.mstp with state := .doneWithToken, frames := maxInfo s }))) ∧
    (s.clm.mstp.state = .passToken → s.clm.mstp.retries = 0 → exec (.mstpTimerExpiry .usage) s =
      .next (setMstp (mstpSend s 0 s.clm.mstp.next []) { s.clm.mstp with retries := 1 })) ∧
    (s.clm.mstp.state = .pollForMaster → s.clm.mstp.sole = false → s.clm.mstp.next ≠ mstpMac s →
      exec (.mstpTimerExpiry .usage) s = .next (sendToken s))) ∧
  (∀ s : State, mstpUp s = true → s.clm.mstp.state = .answer → exec .replyPostponed s =
    .next (mstpSend (setMstp s { s.clm.mstp with state := .idle }) 7 s.clm.mstp.asker [])) ∧
  (∀ (a : Access) (v : Word) (s : State), Accepts s a 0x980000 20 →
    exec (.mstpHeartbeat a v) s = .next (mstpPresence (setMstp s { s.clm.mstp with hb := true })) ∧
    (isMgmt a.init = true → fieldOf v 0 1 = 1 → exec (.mstpRxPop a v) s =
      .next (mstpQueues (setMstp s { s.clm.mstp with rx := s.clm.mstp.rx.drop 1 }))) ∧
    (isMgmt a.init = true → fieldOf v 0 1 = 1 → s.clm.mstp.tx.length < 15 → s.clm.mstp.state ≠ .answer →
      ∃ (u : State) (f : MstpFrame), u = mstpQueues (setMstp s { s.clm.mstp with tx := s.clm.mstp.tx ++ [f] }) ∧
        f.typ = fieldOf (s.reg (Reg.CLM_MSTP_TX 0).key) 0 8 ∧ f.dst = fieldOf (s.reg (Reg.CLM_MSTP_TX 0).key) 8 8 ∧
        exec (.mstpTxPush a v) s = .next (if u.clm.mstp.state == .answer then sendReply u else u))) ∧
  (∀ s : State, domainUp s 20 = true → exec .mstpAbsent s = .next (mstpPresence (setMstp s { s.clm.mstp with hb := false }))) ∧
  (∀ s : State, mstpUp s = true → linkState s = linkAbsent → s.clm.mstp.state = .idle → exec .mstpLeft s =
    .next (raise (s.wr Reg.CLM_MSTP_STATUS_LINK linkLeft) Blk.clm 0x0108 .warn (mstpMac s))) ∧
  (∀ s : State, mstpUp s = true → linkState s = linkAbsent → s.clm.mstp.state = .useToken → exec .mstpLeft s = .next (
    raise ((sendToken s).wr Reg.CLM_MSTP_STATUS_LINK linkLeft) Blk.clm 0x0108 .warn (mstpMac (sendToken s))))

/-- FAN_KICK, FAN_WDT_EXPIRED, RPM_UPDATE and FAN_FAULT_CLEAR complete. A kick by the PF or a management pair ends an expired
watchdog with its event and changes nothing while it has not expired; a watchdog that expires while a channel is on shows it and
drives the fans accordingly; every RPM is recomputed; a faulty channel whose CLR is written returns to RUNNING. (R775, R776,
R777, R778, R780, 17_fans_and_motors.md) -/
def Obligations.FanCommandsComplete : Prop :=
  (∀ (a : Access) (v : Word) (ms : Nat) (s : State), Accepts s a 0x9C0000 21 → isPfOrMgmt a.init = true →
    (s.bit Reg.FAN_STATUS_WDT_EXPIRED = true → exec (.fanKick a v ms) s =
      .next (fansUpdate (raise (s.wr Reg.FAN_STATUS_WDT_EXPIRED 0) Blk.fan 0x0104 .info (ms % 2 ^ 32)))) ∧
    (s.bit Reg.FAN_STATUS_WDT_EXPIRED = false → exec (.fanKick a v ms) s = .next s)) ∧
  (∀ s : State, moveUp s = true → s.bit Reg.FAN_STATUS_WDT_EXPIRED = false →
    (∃ c, c < 12 ∧ s.rd (Reg.FAN_CH_CSTATUS_STATE c) ≠ 0) →
    exec .fanWdtExpired s = .next (fansUpdate (raise (s.wr Reg.FAN_STATUS_WDT_EXPIRED 1) Blk.fan 0x0103 .warn 0))) ∧
  (∀ (t : List TachIn) (s : State), moveUp s = true →
    exec (.rpmUpdate t) s = .next (fansUpdate ((List.range 12).foldl (rpmChannel t) s))) ∧
  (∀ (a : Access) (c : Fin 12) (v : Word) (s : State), Accepts s a 0x9C0000 21 → fieldOf v 31 1 = 1 → fanFaulty s c = true →
    exec (.fanFaultClear a c v) s = .next (fansUpdate (fanOk s c)))

/-- MOTOR_SET, ALIGN_END, HANDOVER, START_RETRY, RETRY_DELAY_END, SPEED_LOOP_STEP and MOTOR_STOPPED complete. A SET by the PF or a
management pair stores its RPM and writer and moves the target; the end of an alignment begins the ramp at the alignment angle;
a handover first runs what its millisecond has measured and driven so far, and where it is then due, the observer having agreed
for HO_CONFIRM with a ramp at RAMP_END ÷ 4 at least, makes the motor RUNNING at the open-loop speed with its event; an attempt
without one fails; a waiting channel starts again with one try less; a step stores the two measurements, runs the PWM periods of
its millisecond and then, by the state that these leave, aligns, shows the observer or runs the speed loop, which ramps the
target by one step and raises nothing below the current limit; a ramped stop ends STOPPED. The observer and the rounding of the
speed are the model's readings (log 46). (R792, R793, R794, R797, R798, R799, 17_fans_and_motors.md) -/
def Obligations.MotorStartCommandsComplete : Prop :=
  (∀ (a : Access) (m : Fin 4) (v : Word) (s : State), Accepts s a 0x9E0000 21 → isPfOrMgmt a.init = true → exec (.motorSet a m v) s =
    .next (motorTarget ((s.wr (Reg.MTR_CH_SET_RPM m) (fieldOf v 0 16)).wr (Reg.MTR_CH_SET_WRITER m) a.init.toNat) m)) ∧
  (∀ (m : Fin 4) (sums : List Nat) (s : State), mState s m = mAlign → exec (.alignEnd m sums) s = .next (
    let u := toMState s m mRamp
    let th := u.rd (Reg.MTR_CH_START_ALIGN_ANGLE m) * 256
    let amp := pctWord (u.rd (Reg.MTR_CH_HANDOVER_RAMP_AMP m))
    setMot (u.setReg (Reg.MTR_ST_AMP m).key amp) m
      { motOf u m with iofs := sums, angle := th, duty := phaseDuties u m th amp, ramp := 0, agree := 0 })) ∧
  (∀ (m : Fin 4) (vb ax : Option (Fin 4096)) (ps : List PwmIn) (s : State),
    (let w := motorMs s m vb ax ps
     let ol := rampSpeed w m (motOf w m).ramp
     mState w m = mRamp → handoverDue w m = true → ∃ u : State, exec (.handover m vb ax ps) s =
         .next (raise u Blk.mtr 0x0101 .info (m.val + 2 ^ 8 * attemptNo u m + 2 ^ 16 * (ol.1 / ol.2 % 65536))) ∧
       mState u m = mRunning ∧ (motOf u m).ramped = ((1000 * ol.1 / ol.2 : Nat) : Int) ∧ (motOf u m).keRun = 0)) ∧
  (∀ (m : Fin 4) (s : State), mState s m = mRamp → exec (.startRetry m) s = .next (failAttempt s m 1)) ∧
  (∀ (m : Fin 4) (s : State), mState s m = mWait →
    exec (.retryDelayEnd m) s = .next (startAttempt s m (s.rd (Reg.MTR_ST_MSTATE_TRIES_LEFT m) - 1))) ∧
  (∀ (m : Fin 4) (x : MotorIn) (s w : State),
    w = x.periods.foldl (drivePeriod m) ((s.setReg (Reg.MTR_ST_VBUS m).key
      (Config.fpMul (fpOfNat x.vbus.val) (s.reg (Reg.MTR_CH_FP m 7).key))).setReg (Reg.MTR_ST_AUX m).key
        (Config.fpMul (fpOfNat x.aux.val) (s.reg (Reg.MTR_CH_FP m 8).key))) →
    (mState w m = mAlign → exec (.speedLoopStep m x) s = .next (if (motOf w m).duty.isEmpty then alignDrive w m else w)) ∧
    (mState w m = mRamp → exec (.speedLoopStep m x) s = .next (showMotor w m)) ∧
    ((mState w m = mStopped ∨ mState w m = mWait ∨ mState w m = mFault) → exec (.speedLoopStep m x) s = .next w) ∧
    ((mState w m = mRunning ∨ mState w m = mStopping) →
      let t := speedLoop (showMotor w m) m
      exec (.speedLoopStep m x) s = .next t ∧
      (motOf t m).ramped = rampStep m (motOf w m).ramped
        (if mState w m = mStopping then 1000 * (w.rd (Reg.MTR_CH_SPEED_SPEED_MIN m) : Int) else 1000 * ((motOf w m).target : Int)) ∧
      (fpLt (w.reg (Reg.MTR_CH_FP m 9).key) (motOf w m).imag = false → t.events = w.events))) ∧
  (∀ (m : Fin 4) (s : State), mState s m = mStopping → exec (.motorStopped m) s = .next (toMState s m mStopped))

/-- LOCKED_ROTOR, KE_EVALUATION, OVERCURRENT_TRIP, DRIVER_FAULT, ADC_FAULT, MOTOR_FAULT_CLEAR and MOTOR_AUTO_RESTART complete. A
locked rotor, a back-EMF constant, taken after the PWM periods of its millisecond so far, out of its range for KE_T evaluations
at SPEED_MIN at least and OC_N trips in a row each fault a running motor with their code, and fail an attempt of a starting one;
a driver fault and an ADC fault fault the motor; a CLR with the driver's input high clears a fault, and a restart after a start
or locked fault clears it and starts again. (R790, R801, R802, R803, R804, R805, 17_fans_and_motors.md) -/
def Obligations.MotorFaultCommandsComplete : Prop :=
  (∀ (m : Fin 4) (s : State), exec (.lockedRotor m) s = .next (
    if mState s m = mRunning ∨ mState s m = mStopping then motorFault s m 2
    else if mState s m = mAlign ∨ mState s m = mRamp then failAttempt s m 2 else s)) ∧
  (∀ (m : Fin 4) (ps : List PwmIn) (s z : State), z = ps.foldl (drivePeriod m) s → (mState z m = mRunning ∨ mState z m = mRamp) →
    fpLe (fpOfNat (z.rd (Reg.MTR_CH_SPEED_SPEED_MIN m))) (motOf z m).speed = true →
    exec (.keEvaluation m ps) s = .next (
      let u := z.setReg (Reg.MTR_ST_KE m).key (keOf z m)
      if fpLe (u.reg (Reg.MTR_CH_FP m 4).key) (keOf z m) && fpLe (keOf z m) (u.reg (Reg.MTR_CH_FP m 5).key) then
        setMot u m { motOf u m with keRun := 0 }
      else
        let w := setMot u m { motOf u m with keRun := (motOf u m).keRun + 1 }
        if w.rd (Reg.MTR_CH_FAULT_CFG_KE_T m) ≤ (motOf u m).keRun + 1 then motorTrouble w m 3 else w)) ∧
  (∀ (m : Fin 4) (again : Bool) (s : State), motorDriven s m = true → exec (.overcurrentTrip m again) s = .next (
    let n := if again then (motOf s m).ocRun + 1 else 1
    let u := setMot (s.inc (Reg.MTR_ST_OC_CYCLES m)) m { motOf s m with ocRun := n, blank := true }
    if u.rd (Reg.MTR_CH_FAULT_CFG_OC_N m) ≤ n then motorTrouble u m 4 else u)) ∧
  (∀ (m : Fin 4) (s : State), moveUp s = true → exec (.driverFault m) s = .next (motorFault s m 5)) ∧
  (∀ (m : Fin 4) (s : State), motorDriven s m = true → exec (.adcFault m) s = .next (motorFault s m 6)) ∧
  (∀ (a : Access) (m : Fin 4) (v : Word) (s : State), Accepts s a 0x9E0000 21 → fieldOf v 31 1 = 1 → mState s m = mFault →
    exec (.motorFaultClear a m v true) s = .next (raise (toMState s m mStopped) Blk.mtr 0x0104 .info (m.val + 2 ^ 8 * 1))) ∧
  (∀ (m : Fin 4) (s : State), mState s m = mFault →
    (s.rd (Reg.MTR_ST_MSTATE_FAULT_CODE m) = 1 ∨ s.rd (Reg.MTR_ST_MSTATE_FAULT_CODE m) = 2) →
    s.rd (Reg.MTR_CH_FAULT_CFG_RESTART_S m) ≠ 0 → 0 < (motOf s m).target →
    exec (.motorAutoRestart m) s = .next (startAttempt (clearFault s m 2) m (triesOf s m - 1)))

/-- KEY_WAKE, KEY_SCAN, MASKED_COLUMN_SCAN, LADDER_SAMPLE, PNL_EVT_POP, PNL_LOCK, PNL_UNLOCK, QEP_EDGE and QEP_INDEX complete. With
the panel on, a row going low in idle starts scanning; a scan debounces the 64 keys and their combinations; a masked column is
scanned in idle; a ladder sample selects at most one of its eight keys; a read of PNL_EVT takes the oldest entry and answers it,
and answers 0 from an empty FIFO; a write of PNL_CTRL takes its fields and locks or unlocks; the samples of an encoder are
filtered one by one: a change of one accepted line moves COUNT by one in its direction, and an accepted rising edge of the index
line latches it. Ghosts, empty scans and the pop of a read that clears nothing are the model's readings (log 47). (R809, R810,
R814, R816, R817, R823, R824, R826, R828, 18_panel_and_serial.md) -/
def Obligations.PanelCommandsComplete : Prop :=
  (∀ (high : BitVec 8) (ms : Nat) (s : State),
    (let u := panelAt s ms
     panelOn u = true → u.bit Reg.PNL_STATUS_SCANNING = false → exec (.keyWake high ms) s = .next (
       (((List.range 64).filter (fun k => bitAt high.toNat (k / 8) && idleColumnLow u (k % 8))).foldl
         (fun s k => setKey s k { keyAt s k with seen := true }) u).wr Reg.PNL_STATUS_SCANNING 1))) ∧
  (∀ (closed : BitVec 64) (ms lost : Nat) (s : State), panelOn (panelAt s ms) = true →
    (panelAt s ms).bit Reg.PNL_STATUS_SCANNING = true → exec (.keyScan closed ms lost) s = .next (
      let u := (List.range 64).foldl (matrixKey closed.toNat) (panelAt s ms)
      combos (if matrixIdle u closed.toNat then u.wr Reg.PNL_STATUS_SCANNING 0 else u) lost)) ∧
  (∀ (c : Fin 8) (closed : BitVec 8) (ms lost : Nat) (s : State),
    (let u := panelAt s ms
     panelOn u = true → u.bit Reg.PNL_STATUS_SCANNING = false → maskedColumn u c = true →
     exec (.maskedColumnScan c closed ms lost) s = .next (
       let w := (List.range 8).foldl (fun s r => scanKey s (8 * r + c.val) (bitAt closed.toNat r)) u
       combos (if (List.range 8).any (fun r => bitAt closed.toNat r && !(keyAt u (8 * r + c.val)).masked)
         then w.wr Reg.PNL_STATUS_SCANNING 1 else w) lost))) ∧
  (∀ (l : Fin 2) (code : Fin 4096) (ms lost : Nat) (s : State),
    (let u := panelAt s ms
     panelOn u = true → domainUp u 20 = true → u.bit (Reg.PNL_LADDER_CFG_EN l) = true →
     exec (.ladderSample l code ms lost) s = .next (
       let ix := (List.range 8).find? (fun k => decide (code.val ≤ u.rd (Reg.PNL_LADDER_THR_CODE l k)))
       combos ((List.range 8).foldl (fun s k => scanKey s (64 + 8 * l.val + k) (decide (ix = some k))) u) lost))) ∧
  (∀ (i : Ident) (ms : Nat) (s : State),
    (let u := panelAt s ms
     debugShut u i = false → domainUp u 22 = true →
     (u.pnl.fifo = [] → exec (.pnlEvtPop i ms) s = .next { u with resp := some 0 }) ∧
     (∀ w ws, u.pnl.fifo = w :: ws → clearsOnRead i = true → u.pnl.lost = 0 →
       exec (.pnlEvtPop i ms) s = .next { setFifo u ws with resp := some w }) ∧
     (∀ w ws, u.pnl.fifo = w :: ws → clearsOnRead i = false → exec (.pnlEvtPop i ms) s = .next { u with resp := some w }))) ∧
  (∀ (a : Access) (v : Word) (ms : Nat) (s : State), Accepts (panelAt s ms) a 0xA00000 22 →
    exec (.pnlLock a v ms) s = .next (writePnlCtrl (panelAt s ms) a.init v) ∧
    exec (.pnlUnlock a v ms) s = .next (writePnlCtrl (panelAt s ms) a.init v)) ∧
  (∀ (e : Fin 4) (qa qb is : List Bool) (s : State), domainUp s 22 = true →
    exec (.qepEdge e qa qb) s = .next ((qa.zip qb).foldl (qepSample e) s) ∧ exec (.qepIndex ⟨e, is⟩) s = .next (is.foldl (indexSample e) s)) ∧
  (∀ (e : Fin 4) (v : Bool × Bool) (s : State), panelOn s = true → s.bit (Reg.PNL_QEP_QCFG_EN e) = true →
    (let x := qepOf s e
     let y := { x with a := lineSample (qepFilt s e) x.a v.1, b := lineSample (qepFilt s e) x.b v.2 }
     (y.a.level = x.a.level → y.b.level = x.b.level → qepSample e s v = setQep s e y) ∧
     ((y.a.level ≠ x.a.level ∧ y.b.level = x.b.level ∨ y.a.level = x.a.level ∧ y.b.level ≠ x.b.level) →
       let up := ((quadrant y.a.level y.b.level + 4 - quadrant x.a.level x.b.level) % 4 == 1) != s.bit (Reg.PNL_QEP_QCFG_SWAP e)
       qepSample e s v = moveCount (setQep s e { y with dir := some up }) e 1 up))) ∧
  (∀ (e : Fin 4) (v : Bool) (s : State), panelOn s = true → s.bit (Reg.PNL_QEP_QCFG_EN e) = true →
    s.bit (Reg.PNL_QEP_QCFG_IDX_EN e) = true →
    (let x := qepOf s e
     let y := { x with index := lineSample (qepFilt s e) x.index v }
     let u := setQep s e y
     let w := u.wr (Reg.PNL_QEP_IDX_LATCH e) (u.rd (Reg.PNL_QEP_COUNT e))
     y.index.level = true → x.index.level = false →
     indexSample e s v = (if w.bit (Reg.PNL_QEP_QCFG_IDX_CLR e) then w.wr (Reg.PNL_QEP_COUNT e) 0 else w)))

/-- SPIM0_INIT, the four flash commands, FLASH_OP_COMPLETE, FLASH_TIMEOUT, SPIM1_GO, SPIM1_DONE and RDY_TIMEOUT complete. The init
sends the two entry commands and shows the mode, or the fallback with its event; a command of the PF or a management pair in
range, with its key where it needs one, is queued with its address, length and data; a completed program clears bits and a
completed erase sets bytes to FF, an operation past its PROG_MAX or ERASE_MAX leaves them open and answers TIMEOUT with its
event; a GO of the owner with its ranges starts the transfer; its end stores the bytes received with code 0, or after
SPM1_RDY_TMO (0 acts as 1) with RDY_TIMEOUT. (R831, R832, R833, R834, R835, R838, 18_panel_and_serial.md) -/
def Obligations.FlashCommandsComplete : Prop :=
  (∀ (sig : Word) (s : State), domainUp s 22 = true →
    (let u := emit (emit s (.flash false 0x06 0 [])) (.flash false 0x81 0 [BitVec.ofNat 8 (s.rd Reg.SPM0_CFG_ENTRY_VAL)])
     (sig = sfdpWord → exec (.spim0Init sig) s = .next ((u.setBit Reg.SPM0_CFG_MODE true).setBit Reg.SPM0_STATUS_FALLBACK false)) ∧
     (sig ≠ sfdpWord → exec (.spim0Init sig) s =
       .next (raise ((u.setBit Reg.SPM0_CFG_MODE false).setBit Reg.SPM0_STATUS_FALLBACK true) Blk.spm 0x0101 .fault 0)))) ∧
  (∀ (a : Access) (v : Word) (s : State), Accepts s a 0xA20000 22 → isPfOrMgmt a.init = true →
    s.spm.queue.any (fun c => c.init == a.init.toNat) = false →
    (s.spm.owned && s.spm.run.any (fun c => c.init == a.init.toNat)) = false →
    (let addr := s.rd (Reg.SPM0_ADDR_ADDR a.init)
     let len := s.rd (Reg.SPM0_LEN_LEN a.init)
     let u := flashResult s a.init.toNat false (s.bit Reg.SPM0_STATUS_FETCH || s.spm.run.isSome) 0
     let queued := fun (op base n : Nat) (data : List Byte) =>
       nextFlash { u with spm := { u.spm with queue := u.spm.queue ++ [⟨a.init.toNat, op, base, n, data⟩] } }
     (1 ≤ len → len ≤ 256 → exec (.flashRead a v) s = .next (queued 1 addr len [])) ∧
     (1 ≤ len → Keyed v → addr % 256 + len ≤ 256 → exec (.flashProgram a v) s = .next (queued 2 addr len
       ((List.range len).map (fun j => BitVec.ofNat 8 (s.rd (Reg.SPM0_BUF a.init (j / 4)) / 2 ^ (8 * (j % 4))))))) ∧
     (Keyed v → exec (.flashErase4k a v) s = .next (queued 3 (addr - addr % 4096) 4096 [])) ∧
     (Keyed v → exec (.flashErase64k a v) s = .next (queued 4 (addr - addr % 65536) 65536 [])))) ∧
  (∀ (c : FlashCmd) (s : State), s.spm.run = some c →
    (c.op = 2 → exec .flashOpComplete s =
      .next (flashEnd (((List.range c.len).map (fun j => (c.addr + j, c.data.getD j 0))).foldl xProgram s) 0)) ∧
    (c.op ≠ 2 → exec .flashOpComplete s = .next (flashEnd (xErase s c.addr c.len) 0)) ∧
    exec .flashTimeout s = .next (raise (flashEnd (xOpen s c.addr c.len) 3) Blk.spm 0x0102 .fault (c.op + 2 ^ 32 * c.addr))) ∧
  (∀ (a : Access) (v : Word) (s : State), Accepts s a 0xA20000 22 → isOwner (s.bit Reg.SPM1_CTRL_OWNER) a.init = true →
    s.spm.xfer = none →
    (let u := s.setReg Reg.SPM1_XFER.key (v &&& 0x0F3711FF#32)
     u.bit Reg.SPM1_CTRL_EN = true → ranges1 u v = true → ∃ (sent : List Byte) (w : State),
       w = emit ((result1 u false 0).wr Reg.SPM1_XFER_GO 1) (.spim1 (fieldOf v 24 4) sent
         (if (fieldOf v 12 1 == 1 && !(u.rd (Reg.SPM1_TGT_LANES_DATA (fieldOf v 24 4)) == 0)) ||
             u.rd (Reg.SPM1_TGT_LANES_DATA (fieldOf v 24 4)) == 0 then fieldOf v 0 9 else 0)) ∧
       exec (.spim1Go a v) s = .next { w with spm := { w.spm with xfer := some ⟨fieldOf v 24 4,
         fieldOf v 12 1 == 1 && !(u.rd (Reg.SPM1_TGT_LANES_DATA (fieldOf v 24 4)) == 0),
         u.rd (Reg.SPM1_TGT_LANES_DATA (fieldOf v 24 4)) == 0, fieldOf v 0 9, w.bit (Reg.SPM1_TGT_RDY_EN (fieldOf v 24 4))⟩ } })) ∧
  (∀ (data : List Byte) (x : Xfer1) (s : State), s.spm.xfer = some x →
    exec (.spim1Done data) s = .next (end1 s x data 0) ∧
    (∀ us : Nat, x.rdy = true → max 1 (s.rd Reg.SPM1_RDY_TMO_US) ≤ us → exec (.rdyTimeout ⟨us, data⟩) s = .next (end1 s x data 5)))

/-- SPIS_READ, SPIS_WRITE, SPIS_STATUS, SPIS_WARM_RESET and the five UART commands complete. A READ sends the bytes of the BMC view,
a WRITE writes its whole words and reports the incomplete ones, a STATUS sends the summary and clears ERR, a keyed WARM_RESET
requests the warm reset where it is enabled. The sampled bits of a frame give its byte: a false start is noise; a good byte
outside MODBUS joins the FIFO, without room it is an overrun; the owner's read takes the oldest byte, its write adds one; the
end of a byte sends the next or releases the line; a Modbus line idle for T3.5 is shown and told. The end of a frame at its
first stop bit and the times in half ns are the model's (log 51). (R842, R843, R844, R845, R851, R852, R853, R854, R855,
18_panel_and_serial.md) -/
def Obligations.SerialCommandsComplete : Prop :=
  (∀ (addr : Fin 16384) (n : Nat) (late : List Nat) (s : State), domainUp s 22 = true → exec (.spisRead addr n late) s = .next (
    let p := readBytes addr.val late n 0 none s []
    emit (spsEnd { p.1 with resp := s.resp } (anyLate n late)) (.miso p.2))) ∧
  (∀ (addr : Fin 16384) (data : List Byte) (s : State), domainUp s 22 = true → s.bit Reg.SPS_CFG_WR_EN = true →
    (spsWords addr.val 0 data).all (fun w => w.2.length == 4) = true → exec (.spisWrite addr data) s = .next (
      let t := (spsWords addr.val 0 data).foldl (fun s w => bmcWrite s w.1 (BitVec.ofNat 32 (leNat (w.2.map Prod.snd)))) s
      spsEnd { t with resp := s.resp } false)) ∧
  (∀ (n : Nat) (late : List Nat) (s : State), domainUp s 22 = true → exec (.spisStatus n late) s = .next (
    let u := spsEnd s (anyLate n late)
    emit { u with sps := { u.sps with err := false } } (.miso
      ((List.range n).map (fun k => if late.contains k then 0xFF else (toLe 4 (bvSummary s).toNat).getD k 0))))) ∧
  (∀ (lost : Nat) (x y : Byte) (s : State), domainUp s 22 = true → s.bit Reg.SPS_CFG_WR_EN = true →
    (spsEnd s false).bit Reg.SPS_CFG_RESET_EN = true → exec (.spisWarmReset 1 [0xC0, 0xDE, x, y] lost) s =
      .next (resetRequest (raise (spsEnd s false) Blk.sps 0x0101 .warn 0) 13 scopeWarm 0 lost)) ∧
  (∀ (u : Fin 4) (f : UartFrame) (s : State), domainUp s 20 = true → s.bit (Reg.UAR_CFG_EN u) = true →
    ((uart s u).de = false ∨ s.bit (Reg.UAR_CFG_ECHO u) = true) →
    (let x := uartBits s u f
     (x.start = true → exec (.uartFrameReceive u f) s = .next (s.inc (Reg.UAR_NOISE u))) ∧
     (x.start = false → x.stop = true → s.bit (Reg.UAR_CFG_MODBUS u) = false → parityBad s u x.data x.par = false →
       (uart s u).rx.length < 64 → exec (.uartFrameReceive u f) s = .next (
         let w := (setUart s u { uart s u with quiet := false }).wr (Reg.UAR_STATUS_IDLE u) 0
         uartIrq (setUart w u { uart w u with rx := (uart w u).rx ++ [BitVec.ofNat 32 (2 ^ 31 + x.data)] }) u (Reg.UAR_IRQ_RX u))) ∧
     (x.start = false → x.stop = true → s.bit (Reg.UAR_CFG_MODBUS u) = false → parityBad s u x.data x.par = false →
       64 ≤ (uart s u).rx.length → exec (.uartFrameReceive u f) s =
         .next (uartOverrun ((setUart s u { uart s u with quiet := false }).wr (Reg.UAR_STATUS_IDLE u) 0) u)))) ∧
  (∀ (i : Ident) (u : Fin 4) (w : Word) (ws : List Word) (s : State), debugShut s i = false → domainUp s 20 = true →
    ownsUart s u i = true → (uart s u).rx = w :: ws →
    exec (.uartDataRead i u) s = .next { setUart s u { uart s u with rx := ws } with resp := some w }) ∧
  (∀ (a : Access) (u : Fin 4) (v : Word) (s : State), Accepts s a 0xA60000 20 →
    (u.val = 0 → s.bit Reg.CLM_MSTP_CTRL_EN = false) → ownsUart s u a.init = true →
    ((uart s u).tx.length < 64 → exec (.uartDataWrite a u v) s =
      .next (uartKick (setUart s u { uart s u with tx := (uart s u).tx ++ [v.truncate 8] }) u)) ∧
    (64 ≤ (uart s u).tx.length → exec (.uartDataWrite a u v) s = .next (s.wr (Reg.UAR_STATUS_TX_DROP u) 1))) ∧
  (∀ (u : Fin 4) (x b : Byte) (bs : List Byte) (s : State), (uart s u).shift = some x →
    ((uart s u).tx = [] → exec (.uartTxComplete u) s =
      .next (setUart (if (uart s u).de then emit s (.uartDe u false (s.rd (Reg.UAR_DE_LAG u))) else s) u
        { uart s u with shift := none, de := false, quiet := false })) ∧
    ((uart s u).tx = b :: bs → exec (.uartTxComplete u) s = .next (
      let w := emit (setUart s u { uart s u with shift := some b, tx := bs, quiet := false }) (.uart u b)
      if bs.isEmpty then uartIrq w u (Reg.UAR_IRQ_TXE u) else w))) ∧
  (∀ (u : Fin 4) (idle : Nat) (s : State), domainUp s 20 = true → s.bit (Reg.UAR_CFG_EN u) = true → s.bit (Reg.UAR_CFG_MODBUS u) = true →
    (uart s u).quiet = false → (uart s u).shift = none → t35 s u ≤ 2 * idle → exec (.modbusEom ⟨u, idle⟩) s = .next (
      uartKick (uartIrq ((setUart s u { uart s u with quiet := true }).wr (Reg.UAR_STATUS_IDLE u) 1) u (Reg.UAR_IRQ_EOM u)) u))

/-- I2C_GO, I2C_COMPLETE and SFP_PRESENCE_CHANGE complete. A GO of an initiator without a transaction on the controller, with its
lengths and select in range, stores its fields, clears DONE, sets GO and queues it for its turn; an attempt that ends well
stores the bytes read, answers code 0, tells a repeat that succeeded as transient and serves the next; a first attempt that
fails without a stuck bus is sent again, a second ends with its code, and SDA held low after a timeout or a lost arbitration
raises the stuck bus and ends it with TIMEOUT; a recognised change of SFP_ABS is shown with its event. (R856, R857, R858, R859,
R861, 18_panel_and_serial.md) -/
def Obligations.TwoWireCommandsComplete : Prop :=
  (∀ (a : Access) (c : Fin 2) (v : Word) (sda : Bool) (s : State), Accepts s a 0xA80000 22 → isPfOrMgmt a.init = true →
    ((iic s c).wait.contains a.init.toNat || (iic s c).cur == some a.init.toNat) = false →
    fieldOf v 0 6 ≤ 32 → fieldOf v 8 6 ≤ 32 → (fieldOf v 27 1 = 1 → fieldOf v 24 3 ≤ 5) →
    exec (.i2cGo a c v sda) s = .next (
      let u := setIic (s.setReg (Reg.IIC_XFER a.init c).key (v &&& 0x4F7F3F3F#32)) c
        { iic s c with stuck := (iic s c).stuck && !sda }
      let u := (i2cResult u c a.init.toNat false 0).wr (Reg.IIC_XFER_GO a.init c) 1
      serveI2c 4 c (setIic u c { iic u c with wait := (iic u c).wait ++ [a.init.toNat] }))) ∧
  (∀ (c : Fin 2) (e : I2cEnd) (n : Nat) (s : State), (iic s c).cur = some n →
    (i2cCode s c (idOf n) e = 0 → exec (.i2cComplete c e) s = .next (
      let i := idOf n
      let u := (List.range (s.rd (Reg.IIC_XFER_RLEN i c))).foldl (fun s j =>
        s.wr ⟨(Reg.IIC_RBUF i c (j / 4)).key, 8 * (j % 4), 8⟩ (e.data.getD j 0).toNat) s
      let u := (i2cResult u c n true 0).wr (Reg.IIC_XFER_GO i c) 0
      let u := if (iic s c).again then transient u Blk.iic 1 (c.val + 2 ^ 8 * u.rd (Reg.IIC_XFER_ADDR i c)) else u
      serveI2c 4 c (setIic u c { iic s c with cur := none }))) ∧
    (i2cCode s c (idOf n) e ≠ 0 →
      let stuck := e.sdaLow && (i2cCode s c (idOf n) e == 2 || i2cCode s c (idOf n) e == 3)
      (stuck = true → exec (.i2cComplete c e) s = .next (serveI2c 4 c (failI2c
        (setIic (raise s Blk.iic 0x0104 .fault c) c { iic s c with cur := none, stuck := true }) c n 2))) ∧
      (stuck = false → (iic s c).again = false → exec (.i2cComplete c e) s = .next (
        sendI2c (setIic s c { iic s c with again := true }) c n)) ∧
      (stuck = false → (iic s c).again = true → exec (.i2cComplete c e) s = .next (
        serveI2c 4 c (failI2c (setIic s c { iic s c with cur := none }) c n (i2cCode s c (idOf n) e)))))) ∧
  (∀ (p : Fin 6) (present los : Bool) (s : State), domainUp s 22 = true →
    (let u := (s.setBit (Reg.IIC_SFP_PRESENT p) present).setBit (Reg.IIC_SFP_LOS p) los
     (s.bit (Reg.IIC_SFP_PRESENT p) ≠ present → exec (.sfpPresenceChange p present los) s =
       .next (raise u Blk.iic (if present then 0x0102 else 0x0103) .info p)) ∧
     (s.bit (Reg.IIC_SFP_PRESENT p) = present → exec (.sfpPresenceChange p present los) s = .next u)))

/-- A read of MBX_LOCK takes a free lock for a permitted sender and never for another reader. For every read of MBX_LOCK that
reaches its channel, other than one through the debug port (R602): a permitted sender that finds no owner reads 0 and becomes
the owner, and no other register changes; while an owner exists every reader gets its identity in bits [9:0]; a reader that is
not a permitted sender gets bit 31 with the owner or 0 in bits [9:0], raises CFG_VIOL, and the owner stays as it was. (R601) -/
def Obligations.LockReadFollowsOwnerAndPermission : Prop :=
  ∀ (i : Ident) (ch : Fin 64) (view : Bool) (s : State), ReachesChannel s i ch view → i.toNat ≠ 0x104 →
    let owner := s.rd (Reg.MBX_LOCK_OWNER ch)
    ∃ t w, exec (.mbxLockRead i ch view) s = .next t ∧ t.resp = some w ∧ s.SameMemories t ∧
      (owner ≠ 0 → fieldOf w 0 10 = owner) ∧
      (permitted s ch i = true → t.events = s.events ∧
        (owner = 0 → w = 0 ∧ t.rd (Reg.MBX_LOCK_OWNER ch) = i.toNat ∧ ∀ k, k ≠ (Reg.MBX_LOCK_OWNER ch).key → t.reg k = s.reg k) ∧
        (owner ≠ 0 → t.regs = s.regs)) ∧
      (permitted s ch i = false → w.getLsbD 31 = true ∧ fieldOf w 0 10 = owner ∧ t.rd (Reg.MBX_LOCK_OWNER ch) = owner ∧
        t.events = (cfgViol s Blk.mbx i (mbxAddr i ch 0x40 view)).events)

/-- Only the owner's write of its own identity releases MBX_LOCK; the channel keeps FULL and its message. For every write to
MBX_LOCK that reaches its channel with all byte enables: when the writer owns the lock and writes its own identity, the channel
has no owner and no other register changes; any other write raises CFG_VIOL and does nothing else. FULL, every message word and
every memory stay as they are. (R603) -/
def Obligations.OnlyTheOwnerReleasesTheLock : Prop :=
  ∀ (a : Access) (ch : Fin 64) (v : Word) (view : Bool) (s : State), ReachesChannel s a.init ch view → a.be = 15 →
    let own := s.rd (Reg.MBX_LOCK_OWNER ch) = a.init.toNat ∧ v.toNat = a.init.toNat
    ∃ t, exec (.mbxLockRelease a ch v view) s = .next t ∧ s.SameMemories t ∧
      t.rd (Reg.MBX_STATUS_FULL ch) = s.rd (Reg.MBX_STATUS_FULL ch) ∧ (∀ n : Fin 16, t.rd (Reg.MBX_MSG ch n) = s.rd (Reg.MBX_MSG ch n)) ∧
      (own → t.rd (Reg.MBX_LOCK_OWNER ch) = 0 ∧ t.events = s.events ∧ ∀ k, k ≠ (Reg.MBX_LOCK_OWNER ch).key → t.reg k = s.reg k) ∧
      (¬ own → t = cfgViol s Blk.mbx a.init (mbxAddr a.init ch 0x40 view) ∧ t.rd (Reg.MBX_LOCK_OWNER ch) = s.rd (Reg.MBX_LOCK_OWNER ch))

/-- A message word takes a write only from the owner and only while FULL is 0. For every write to a word of MBX_MSG that reaches its
channel with all byte enables: by the owner while FULL is 0 the word takes the value and no other register changes; by another
initiator, or while FULL is 1, every message word keeps its value, ERR_WR is set, and no other register changes. Memories,
events and outputs stay as they are. (R606) -/
def Obligations.OnlyTheOwnerWritesTheMessage : Prop :=
  ∀ (a : Access) (ch : Fin 64) (n : Fin 16) (v : Word) (view : Bool) (s : State), ReachesChannel s a.init ch view → a.be = 15 →
    let may := owns s ch a.init = true ∧ s.bit (Reg.MBX_STATUS_FULL ch) = false
    ∃ t, exec (.mbxMsgWrite a ch n v view) s = .next t ∧ s.SameMemories t ∧ t.events = s.events ∧ t.outputs = s.outputs ∧
      (may → t.reg (Reg.MBX_MSG ch n).key = v ∧ ∀ k, k ≠ (Reg.MBX_MSG ch n).key → t.reg k = s.reg k) ∧
      (¬ may → (∀ m : Fin 16, t.reg (Reg.MBX_MSG ch m).key = s.reg (Reg.MBX_MSG ch m).key) ∧
        t.bit (Reg.MBX_STATUS_ERR_WR ch) = true ∧ t.bit (Reg.MBX_STATUS_FULL ch) = s.bit (Reg.MBX_STATUS_FULL ch) ∧
        ∀ k, k ≠ (Reg.MBX_STATUS_ERR_WR ch).key → t.reg k = s.reg k)

/-- The manager sets DOWN and clears UP, the instance sets UP and clears DOWN, and any other doorbell write is ignored. For every
write to MBX_DB[t] that is taken: the manager's ones set DOWN bits and clear UP bits, and a write by an initiator that does not
manage the instance does nothing; for every write to TW_DB that is taken: the instance's ones set UP bits and clear DOWN bits.
Bits [31:8] keep their value, no event is raised, and the memories keep their contents. (R613) -/
def Obligations.DoorbellBitsFollowTheirSide : Prop :=
  (∀ (a : Access) (t : Fin 128) (v : Word) (s : State), Accepts s a 0xB00000 0 →
    (manages s a.init t = false → exec (.managerDoorbellWrite a t v) s = .next s) ∧
    (manages s a.init t = true → ∃ u, exec (.managerDoorbellWrite a t v) s = .next u ∧ u.events = s.events ∧ s.SameMemories u ∧
      ∀ i, i < 32 → (u.reg (Reg.MBX_DB t).key).getLsbD i =
        (if i < 4 then (s.reg (Reg.MBX_DB t).key).getLsbD i || v.getLsbD i
         else if i < 8 then (s.reg (Reg.MBX_DB t).key).getLsbD i && !v.getLsbD i
         else (s.reg (Reg.MBX_DB t).key).getLsbD i))) ∧
  (∀ (t : Fin 128) (be : BitVec 4) (v : Word) (s : State), AcceptsView s t be 0 →
    ∃ u, exec (.instanceDoorbellWrite t be v) s = .next u ∧ u.events = s.events ∧ s.SameMemories u ∧
      ∀ i, i < 32 → (u.reg (Reg.MBX_DB t).key).getLsbD i =
        (if i < 4 then (s.reg (Reg.MBX_DB t).key).getLsbD i && !v.getLsbD i
         else if i < 8 then (s.reg (Reg.MBX_DB t).key).getLsbD i || v.getLsbD i
         else (s.reg (Reg.MBX_DB t).key).getLsbD i))

/-- Every command answers a next state, but for an access to an address that its initiator does not have. For every command and
every state, exec answers a next state; or the command is REGISTER_WRITE, LOW_WORD_READ, RC_READ, BLOCK_COMMIT_GO or
BLOCK_COMMIT_DISCARD of an address that does not exist for its initiator, and exec faults with that address. No command is
refused. Which addresses exist is the model's reading of the address maps (DEDUCED, log 20). (00_scope.md,
11_host_and_tenants.md) -/
def Obligations.OnlyAnAbsentAddressStopsTheBlock : Prop :=
  ∀ (c : Instr) (s : State), (∃ t, exec c s = .next t) ∨
    ∃ (i : Ident) (addr : Nat), exec c s = .fault (.outsideBar addr) ∧ reach i addr = none ∧
      ((∃ a v, c = .registerWrite a addr v ∧ a.init = i) ∨ (∃ r, (c = .lowWordRead r addr ∨ c = .rcRead r addr) ∧ r.init = i) ∨
        (∃ a d, c = .blockCommitGo a addr d ∧ a.init = i) ∨ (∃ a, c = .blockCommitDiscard a addr ∧ a.init = i))

/-- A mailbox or doorbell command changes no register outside its block but the counters of the black box and the messages of an
instance. For every mailbox or doorbell command that answers a next state: every register below the tenant windows and outside
the MBX block, but BBX_LOST, BBX_FROZEN_DROP and BBX_STATUS, keeps its value; so do every Granary and flash byte, the loaded
image, every buffer, every pending value and the queue of commands. (R606, R607, R609, R610, R611, 13_mailboxes_black_box.md) -/
def Obligations.MailboxCommandsChangeTheirOwnStateOnly : Prop :=
  ∀ (c : Instr) (s t : State), mailboxCommand c = true → exec c s = .next t →
    s.SameMemories t ∧ t.uar = s.uar ∧ t.iic = s.iic ∧ t.spm = s.spm ∧ t.pnl = s.pnl ∧ t.clm = s.clm ∧ t.mov = s.mov ∧ t.tim = s.tim ∧
    ∀ k, k < 0x4000000 → (k < 0xB00000 ∨ 0xB80000 ≤ k) → k ≠ Reg.BBX_FROZEN_DROP.key → k ≠ Reg.BBX_STATUS_MISSED_SAFETY.key →
      k ≠ Reg.BBX_LOST.key → t.reg k = s.reg k

/-- A UART command changes no register outside the UARTs but the counters of the black box and the messages of the PF. For every
UART command that answers a next state: every register below the tenant windows and outside the UAR block, but BBX_LOST,
BBX_FROZEN_DROP and BBX_STATUS, keeps its value; so do every Granary and flash byte, the loaded image, every buffer, every
pending value and the queue of commands; and the three other UARTs keep their FIFOs and their registers. (R850, R851, R852,
R853, R854, 18_panel_and_serial.md) -/
def Obligations.UartCommandsChangeTheirOwnStateOnly : Prop :=
  ∀ (c : Instr) (s t : State), uartCommand c = true → exec c s = .next t →
    s.SameMemories t ∧ t.mbx = s.mbx ∧ t.iic = s.iic ∧ t.spm = s.spm ∧ t.pnl = s.pnl ∧ t.clm = s.clm ∧ t.mov = s.mov ∧ t.tim = s.tim ∧
    (∀ k, k < 0x4000000 → (k < 0xA60000 ∨ 0xA80000 ≤ k) → k ≠ Reg.BBX_FROZEN_DROP.key → k ≠ Reg.BBX_STATUS_MISSED_SAFETY.key →
      k ≠ Reg.BBX_LOST.key → t.reg k = s.reg k) ∧
    ∃ u : Fin 4, ∀ w : Fin 4, w ≠ u → uart t w = uart s w ∧ ∀ o, o < 64 → t.reg (0xA60000 + w * 0x100 + 4 * o) = s.reg (0xA60000 + w * 0x100 + 4 * o)

/-- No step of a mailbox or doorbell command makes a channel both FULL and ACKED, overfills the event queue or breaks a canonical
form. Inv: only mailbox and doorbell commands wait; the register file and the pending values are in canonical form; at most 64
events wait for the black box; and no channel is FULL and ACKED at once (Table 13.1 has no such row). For every state with Inv,
a step that answers a next state answers one with Inv. (R16, R607, R609, R610, R617, 13_mailboxes_black_box.md) -/
def Obligations.MailboxStepsKeepTheChannelsLegal : Prop :=
  ∀ s t : State, s.MailboxInv → step s = .next t → t.MailboxInv

/-- No step of a UART command overfills a FIFO or lets STATUS differ from it. Inv: only UART commands wait; the register file and
the pending values are in canonical form; at most 64 events wait for the black box; and each UART's FIFOs hold at most 64 bytes,
with RX_CNT, TX_CNT and TX_EMPTY of its STATUS as the FIFOs are. For every state with Inv, a step that answers a next state
answers one with Inv. (R16, R617, R852, 18_panel_and_serial.md) -/
def Obligations.UartStepsKeepTheFifosLegal : Prop :=
  ∀ s t : State, s.UartInv → step s = .next t → t.UartInv

/-- The reset state meets the invariants of the mailboxes and of the UARTs. State.reset meets the two invariants that the steps of
the mailbox commands and of the UART commands keep. (R16, R48, R617, R852, 13_mailboxes_black_box.md, 18_panel_and_serial.md) -/
def Obligations.ResetMeetsTheInvariants : Prop :=
  State.reset.MailboxInv ∧ State.reset.UartInv
end

