-- ==== Sys2Proof/Laws/Accept.lean ====
section
/-! SUPPORT. What the gates of the command registers do when they let a command through, and when they do not. -/

namespace Sys2Proof.Machine

variable {s : State} {a : Access}

theorem withWrite_taken {base block pd addr : Nat} (h : Accepts s a base pd) (k : State → State) :
    withWrite s a base block pd addr k = k s := by
  obtain ⟨h1, h2, h3⟩ := h
  simp [withWrite, h1, h2, h3]

theorem windowWrite_taken {t pd off : Nat} {be : BitVec 4} (h : AcceptsView s t be pd) (k : State → State) :
    windowWrite s t be off pd k = k s := by
  obtain ⟨h1, h2, h3, h4⟩ := h
  simp [windowWrite, h1, h2, h3, h4]

theorem mbxWrite_taken {c off : Nat} {view : Bool} (h : ReachesChannel s a.init c view) (hb : a.be = 15) (k : State → State) :
    mbxWrite s a c off view k = k s := by
  obtain ⟨h1, h2, h3⟩ := h
  simp [mbxWrite, h1, h2, h3, hb]

theorem mbxRead_taken {i : Ident} {c off : Nat} {view : Bool} (h : ReachesChannel s i c view) (k : State → State) :
    mbxRead s i c off view k = k s := by
  obtain ⟨h1, h2, h3⟩ := h
  simp [mbxRead, h1, h2, h3]

theorem imgCommand_taken {addr : Nat} (h : Accepts s a 0x40000 18) (k : State → State) : imgCommand s a addr k = k s :=
  withWrite_taken h k

theorem safCommand_taken {v : Word} (h : Accepts s a 0x800000 1) (hk : Keyed v) (k : State → State) :
    safCommand s a v k = k s := by simp [safCommand, withWrite_taken h, hk]

theorem rstCommand_taken {v : Word} (h : Accepts s a 0x880000 0) (hi : isPfOrMgmt a.init = true) (hk : Keyed v)
    (k : State → State) : rstCommand s a v k = k s := by simp [rstCommand, withWrite_taken h, hi, hk]

theorem bbxCommand_taken {v : Word} {ok : State → Bool} (h : Accepts s a 0xB80000 0) (hk : Keyed v)
    (hs : s.bbx.snap = none) (ho : ok s = true) (k : State → State) : bbxCommand s a v ok k = k s := by
  simp [bbxCommand, withWrite_taken h, hk, hs, ho]

theorem pwrCommand_taken {v : Word} {ok : State → Nat → Bool} (h : Accepts s a 0x8A0000 0) (hi : isPfOrMgmt a.init = true)
    (hk : Keyed v) (hd : fieldOf v 0 5 ≤ 23) (ho : ok s (fieldOf v 0 5) = true) (k : State → Nat → State) :
    pwrCommand s a v ok k = k s (fieldOf v 0 5) := by
  have hd' : ¬ 23 < fieldOf v 0 5 := by omega
  simp [pwrCommand, withWrite_taken h, hi, hk, hd', ho]

theorem grnCommand_taken {any : Bool} (h : GranaryTakes s a any) (k : State → State) :
    grnCommand s a any k = k (grnResult s a.init false 0) := by
  obtain ⟨h1, h2, h3, h4, h5⟩ := h
  cases any <;> simp_all [grnCommand, withWrite_taken h1]

theorem fwCommand_taken {v : Word} {who key range state prot : Bool} (h : FirmwareTakes s a) (hw : who = true)
    (hk : key = true → Keyed v) (hr : range = true) (hs : state = true) (hp : prot = false) (k : State → State) :
    fwCommand s a v who key range state prot k = k s := by
  obtain ⟨h1, h2, h3⟩ := h
  cases key <;> simp_all [fwCommand, withWrite_taken h1]

/-- A write through the confined debug port raises CFG_VIOL and does nothing else (R594). -/
theorem withWrite_debug {base block pd addr : Nat} (h : debugShut s a.init = true) (k : State → State) :
    withWrite s a base block pd addr k = cfgViol s block a.init (viewAddr addr) := by simp [withWrite, h]

/-- A write to a block that is not accessible raises ISO_ERR and does nothing else (R44). -/
theorem withWrite_isolated {base block pd addr : Nat} (h1 : debugShut s a.init = false) (h2 : blockUp s base pd = false)
    (k : State → State) : withWrite s a base block pd addr k = isoErr s block a.init (viewAddr addr) pd := by
  simp [withWrite, h1, h2]

/-- A write with a byte enable missing raises ACC_SIZE and does nothing else (R41). -/
theorem withWrite_narrow {base block pd addr : Nat} (h1 : debugShut s a.init = false) (h2 : blockUp s base pd = true)
    (h3 : a.be ≠ 15) (k : State → State) :
    withWrite s a base block pd addr k = accSize s block a.init (viewAddr addr) := by
  unfold withWrite
  rw [if_neg (by simp [h1]), if_neg (by simp [h2]), if_pos h3]

end Sys2Proof.Machine
end

