-- ==== Sys2Proof/Laws/State.lean ====
section
/-! SUPPORT. What each update of the state leaves unchanged: one lemma per field per update. -/

namespace Sys2Proof.Machine

variable (s : State)

/-! ### setReg -/

@[simp] theorem State.setReg_pending (k : Nat) (v : Word) : (s.setReg k v).pending = s.pending := rfl
@[simp] theorem State.setReg_pend (k : Nat) (v : Word) : (s.setReg k v).pend = s.pend := rfl
@[simp] theorem State.setReg_held (k : Nat) (v : Word) : (s.setReg k v).held = s.held := rfl
@[simp] theorem State.setReg_snaps (k : Nat) (v : Word) : (s.setReg k v).snaps = s.snaps := rfl
@[simp] theorem State.setReg_limits (k : Nat) (v : Word) : (s.setReg k v).limits = s.limits := rfl
@[simp] theorem State.setReg_drops (k : Nat) (v : Word) : (s.setReg k v).drops = s.drops := rfl
@[simp] theorem State.setReg_events (k : Nat) (v : Word) : (s.setReg k v).events = s.events := rfl
@[simp] theorem State.setReg_outputs (k : Nat) (v : Word) : (s.setReg k v).outputs = s.outputs := rfl
@[simp] theorem State.setReg_resp (k : Nat) (v : Word) : (s.setReg k v).resp = s.resp := rfl
@[simp] theorem State.setReg_respHigh (k : Nat) (v : Word) : (s.setReg k v).respHigh = s.respHigh := rfl
@[simp] theorem State.setReg_freeCtr (k : Nat) (v : Word) : (s.setReg k v).freeCtr = s.freeCtr := rfl
@[simp] theorem State.setReg_tik (k : Nat) (v : Word) : (s.setReg k v).tik = s.tik := rfl
@[simp] theorem State.setReg_tim (k : Nat) (v : Word) : (s.setReg k v).tim = s.tim := rfl
@[simp] theorem State.setReg_img (k : Nat) (v : Word) : (s.setReg k v).img = s.img := rfl
@[simp] theorem State.setReg_acq (k : Nat) (v : Word) : (s.setReg k v).acq = s.acq := rfl
@[simp] theorem State.setReg_twc (k : Nat) (v : Word) : (s.setReg k v).twc = s.twc := rfl
@[simp] theorem State.setReg_thr (k : Nat) (v : Word) : (s.setReg k v).thr = s.thr := rfl
@[simp] theorem State.setReg_mpr (k : Nat) (v : Word) : (s.setReg k v).mpr = s.mpr := rfl
@[simp] theorem State.setReg_mrg (k : Nat) (v : Word) : (s.setReg k v).mrg = s.mrg := rfl
@[simp] theorem State.setReg_slo (k : Nat) (v : Word) : (s.setReg k v).slo = s.slo := rfl
@[simp] theorem State.setReg_pkt (k : Nat) (v : Word) : (s.setReg k v).pkt = s.pkt := rfl
@[simp] theorem State.setReg_cry (k : Nat) (v : Word) : (s.setReg k v).cry = s.cry := rfl
@[simp] theorem State.setReg_ns (k : Nat) (v : Word) : (s.setReg k v).ns = s.ns := rfl
@[simp] theorem State.setReg_hif (k : Nat) (v : Word) : (s.setReg k v).hif = s.hif := rfl
@[simp] theorem State.setReg_saf (k : Nat) (v : Word) : (s.setReg k v).saf = s.saf := rfl
@[simp] theorem State.setReg_bbx (k : Nat) (v : Word) : (s.setReg k v).bbx = s.bbx := rfl
@[simp] theorem State.setReg_mbx (k : Nat) (v : Word) : (s.setReg k v).mbx = s.mbx := rfl
@[simp] theorem State.setReg_rst (k : Nat) (v : Word) : (s.setReg k v).rst = s.rst := rfl
@[simp] theorem State.setReg_grn (k : Nat) (v : Word) : (s.setReg k v).grn = s.grn := rfl
@[simp] theorem State.setReg_flash (k : Nat) (v : Word) : (s.setReg k v).flash = s.flash := rfl
@[simp] theorem State.setReg_clm (k : Nat) (v : Word) : (s.setReg k v).clm = s.clm := rfl
@[simp] theorem State.setReg_mov (k : Nat) (v : Word) : (s.setReg k v).mov = s.mov := rfl
@[simp] theorem State.setReg_pnl (k : Nat) (v : Word) : (s.setReg k v).pnl = s.pnl := rfl
@[simp] theorem State.setReg_spm (k : Nat) (v : Word) : (s.setReg k v).spm = s.spm := rfl
@[simp] theorem State.setReg_sps (k : Nat) (v : Word) : (s.setReg k v).sps = s.sps := rfl
@[simp] theorem State.setReg_uar (k : Nat) (v : Word) : (s.setReg k v).uar = s.uar := rfl
@[simp] theorem State.setReg_iic (k : Nat) (v : Word) : (s.setReg k v).iic = s.iic := rfl

/-! ### wr -/

@[simp] theorem State.wr_pending (f : Fld) (v : Nat) : (s.wr f v).pending = s.pending := rfl
@[simp] theorem State.wr_pend (f : Fld) (v : Nat) : (s.wr f v).pend = s.pend := rfl
@[simp] theorem State.wr_held (f : Fld) (v : Nat) : (s.wr f v).held = s.held := rfl
@[simp] theorem State.wr_snaps (f : Fld) (v : Nat) : (s.wr f v).snaps = s.snaps := rfl
@[simp] theorem State.wr_limits (f : Fld) (v : Nat) : (s.wr f v).limits = s.limits := rfl
@[simp] theorem State.wr_drops (f : Fld) (v : Nat) : (s.wr f v).drops = s.drops := rfl
@[simp] theorem State.wr_events (f : Fld) (v : Nat) : (s.wr f v).events = s.events := rfl
@[simp] theorem State.wr_outputs (f : Fld) (v : Nat) : (s.wr f v).outputs = s.outputs := rfl
@[simp] theorem State.wr_resp (f : Fld) (v : Nat) : (s.wr f v).resp = s.resp := rfl
@[simp] theorem State.wr_respHigh (f : Fld) (v : Nat) : (s.wr f v).respHigh = s.respHigh := rfl
@[simp] theorem State.wr_freeCtr (f : Fld) (v : Nat) : (s.wr f v).freeCtr = s.freeCtr := rfl
@[simp] theorem State.wr_tik (f : Fld) (v : Nat) : (s.wr f v).tik = s.tik := rfl
@[simp] theorem State.wr_tim (f : Fld) (v : Nat) : (s.wr f v).tim = s.tim := rfl
@[simp] theorem State.wr_img (f : Fld) (v : Nat) : (s.wr f v).img = s.img := rfl
@[simp] theorem State.wr_acq (f : Fld) (v : Nat) : (s.wr f v).acq = s.acq := rfl
@[simp] theorem State.wr_twc (f : Fld) (v : Nat) : (s.wr f v).twc = s.twc := rfl
@[simp] theorem State.wr_thr (f : Fld) (v : Nat) : (s.wr f v).thr = s.thr := rfl
@[simp] theorem State.wr_mpr (f : Fld) (v : Nat) : (s.wr f v).mpr = s.mpr := rfl
@[simp] theorem State.wr_mrg (f : Fld) (v : Nat) : (s.wr f v).mrg = s.mrg := rfl
@[simp] theorem State.wr_slo (f : Fld) (v : Nat) : (s.wr f v).slo = s.slo := rfl
@[simp] theorem State.wr_pkt (f : Fld) (v : Nat) : (s.wr f v).pkt = s.pkt := rfl
@[simp] theorem State.wr_cry (f : Fld) (v : Nat) : (s.wr f v).cry = s.cry := rfl
@[simp] theorem State.wr_ns (f : Fld) (v : Nat) : (s.wr f v).ns = s.ns := rfl
@[simp] theorem State.wr_hif (f : Fld) (v : Nat) : (s.wr f v).hif = s.hif := rfl
@[simp] theorem State.wr_saf (f : Fld) (v : Nat) : (s.wr f v).saf = s.saf := rfl
@[simp] theorem State.wr_bbx (f : Fld) (v : Nat) : (s.wr f v).bbx = s.bbx := rfl
@[simp] theorem State.wr_mbx (f : Fld) (v : Nat) : (s.wr f v).mbx = s.mbx := rfl
@[simp] theorem State.wr_rst (f : Fld) (v : Nat) : (s.wr f v).rst = s.rst := rfl
@[simp] theorem State.wr_grn (f : Fld) (v : Nat) : (s.wr f v).grn = s.grn := rfl
@[simp] theorem State.wr_flash (f : Fld) (v : Nat) : (s.wr f v).flash = s.flash := rfl
@[simp] theorem State.wr_clm (f : Fld) (v : Nat) : (s.wr f v).clm = s.clm := rfl
@[simp] theorem State.wr_mov (f : Fld) (v : Nat) : (s.wr f v).mov = s.mov := rfl
@[simp] theorem State.wr_pnl (f : Fld) (v : Nat) : (s.wr f v).pnl = s.pnl := rfl
@[simp] theorem State.wr_spm (f : Fld) (v : Nat) : (s.wr f v).spm = s.spm := rfl
@[simp] theorem State.wr_sps (f : Fld) (v : Nat) : (s.wr f v).sps = s.sps := rfl
@[simp] theorem State.wr_uar (f : Fld) (v : Nat) : (s.wr f v).uar = s.uar := rfl
@[simp] theorem State.wr_iic (f : Fld) (v : Nat) : (s.wr f v).iic = s.iic := rfl

/-! ### add -/

@[simp] theorem State.add_pending (f : Fld) (n : Nat) : (s.add f n).pending = s.pending := rfl
@[simp] theorem State.add_pend (f : Fld) (n : Nat) : (s.add f n).pend = s.pend := rfl
@[simp] theorem State.add_held (f : Fld) (n : Nat) : (s.add f n).held = s.held := rfl
@[simp] theorem State.add_snaps (f : Fld) (n : Nat) : (s.add f n).snaps = s.snaps := rfl
@[simp] theorem State.add_limits (f : Fld) (n : Nat) : (s.add f n).limits = s.limits := rfl
@[simp] theorem State.add_drops (f : Fld) (n : Nat) : (s.add f n).drops = s.drops := rfl
@[simp] theorem State.add_events (f : Fld) (n : Nat) : (s.add f n).events = s.events := rfl
@[simp] theorem State.add_outputs (f : Fld) (n : Nat) : (s.add f n).outputs = s.outputs := rfl
@[simp] theorem State.add_resp (f : Fld) (n : Nat) : (s.add f n).resp = s.resp := rfl
@[simp] theorem State.add_respHigh (f : Fld) (n : Nat) : (s.add f n).respHigh = s.respHigh := rfl
@[simp] theorem State.add_freeCtr (f : Fld) (n : Nat) : (s.add f n).freeCtr = s.freeCtr := rfl
@[simp] theorem State.add_tik (f : Fld) (n : Nat) : (s.add f n).tik = s.tik := rfl
@[simp] theorem State.add_tim (f : Fld) (n : Nat) : (s.add f n).tim = s.tim := rfl
@[simp] theorem State.add_img (f : Fld) (n : Nat) : (s.add f n).img = s.img := rfl
@[simp] theorem State.add_acq (f : Fld) (n : Nat) : (s.add f n).acq = s.acq := rfl
@[simp] theorem State.add_twc (f : Fld) (n : Nat) : (s.add f n).twc = s.twc := rfl
@[simp] theorem State.add_thr (f : Fld) (n : Nat) : (s.add f n).thr = s.thr := rfl
@[simp] theorem State.add_mpr (f : Fld) (n : Nat) : (s.add f n).mpr = s.mpr := rfl
@[simp] theorem State.add_mrg (f : Fld) (n : Nat) : (s.add f n).mrg = s.mrg := rfl
@[simp] theorem State.add_slo (f : Fld) (n : Nat) : (s.add f n).slo = s.slo := rfl
@[simp] theorem State.add_pkt (f : Fld) (n : Nat) : (s.add f n).pkt = s.pkt := rfl
@[simp] theorem State.add_cry (f : Fld) (n : Nat) : (s.add f n).cry = s.cry := rfl
@[simp] theorem State.add_ns (f : Fld) (n : Nat) : (s.add f n).ns = s.ns := rfl
@[simp] theorem State.add_hif (f : Fld) (n : Nat) : (s.add f n).hif = s.hif := rfl
@[simp] theorem State.add_saf (f : Fld) (n : Nat) : (s.add f n).saf = s.saf := rfl
@[simp] theorem State.add_bbx (f : Fld) (n : Nat) : (s.add f n).bbx = s.bbx := rfl
@[simp] theorem State.add_mbx (f : Fld) (n : Nat) : (s.add f n).mbx = s.mbx := rfl
@[simp] theorem State.add_rst (f : Fld) (n : Nat) : (s.add f n).rst = s.rst := rfl
@[simp] theorem State.add_grn (f : Fld) (n : Nat) : (s.add f n).grn = s.grn := rfl
@[simp] theorem State.add_flash (f : Fld) (n : Nat) : (s.add f n).flash = s.flash := rfl
@[simp] theorem State.add_clm (f : Fld) (n : Nat) : (s.add f n).clm = s.clm := rfl
@[simp] theorem State.add_mov (f : Fld) (n : Nat) : (s.add f n).mov = s.mov := rfl
@[simp] theorem State.add_pnl (f : Fld) (n : Nat) : (s.add f n).pnl = s.pnl := rfl
@[simp] theorem State.add_spm (f : Fld) (n : Nat) : (s.add f n).spm = s.spm := rfl
@[simp] theorem State.add_sps (f : Fld) (n : Nat) : (s.add f n).sps = s.sps := rfl
@[simp] theorem State.add_uar (f : Fld) (n : Nat) : (s.add f n).uar = s.uar := rfl
@[simp] theorem State.add_iic (f : Fld) (n : Nat) : (s.add f n).iic = s.iic := rfl

/-! ### inc -/

@[simp] theorem State.inc_pending (f : Fld) : (s.inc f).pending = s.pending := rfl
@[simp] theorem State.inc_pend (f : Fld) : (s.inc f).pend = s.pend := rfl
@[simp] theorem State.inc_held (f : Fld) : (s.inc f).held = s.held := rfl
@[simp] theorem State.inc_snaps (f : Fld) : (s.inc f).snaps = s.snaps := rfl
@[simp] theorem State.inc_limits (f : Fld) : (s.inc f).limits = s.limits := rfl
@[simp] theorem State.inc_drops (f : Fld) : (s.inc f).drops = s.drops := rfl
@[simp] theorem State.inc_events (f : Fld) : (s.inc f).events = s.events := rfl
@[simp] theorem State.inc_outputs (f : Fld) : (s.inc f).outputs = s.outputs := rfl
@[simp] theorem State.inc_resp (f : Fld) : (s.inc f).resp = s.resp := rfl
@[simp] theorem State.inc_respHigh (f : Fld) : (s.inc f).respHigh = s.respHigh := rfl
@[simp] theorem State.inc_freeCtr (f : Fld) : (s.inc f).freeCtr = s.freeCtr := rfl
@[simp] theorem State.inc_tik (f : Fld) : (s.inc f).tik = s.tik := rfl
@[simp] theorem State.inc_tim (f : Fld) : (s.inc f).tim = s.tim := rfl
@[simp] theorem State.inc_img (f : Fld) : (s.inc f).img = s.img := rfl
@[simp] theorem State.inc_acq (f : Fld) : (s.inc f).acq = s.acq := rfl
@[simp] theorem State.inc_twc (f : Fld) : (s.inc f).twc = s.twc := rfl
@[simp] theorem State.inc_thr (f : Fld) : (s.inc f).thr = s.thr := rfl
@[simp] theorem State.inc_mpr (f : Fld) : (s.inc f).mpr = s.mpr := rfl
@[simp] theorem State.inc_mrg (f : Fld) : (s.inc f).mrg = s.mrg := rfl
@[simp] theorem State.inc_slo (f : Fld) : (s.inc f).slo = s.slo := rfl
@[simp] theorem State.inc_pkt (f : Fld) : (s.inc f).pkt = s.pkt := rfl
@[simp] theorem State.inc_cry (f : Fld) : (s.inc f).cry = s.cry := rfl
@[simp] theorem State.inc_ns (f : Fld) : (s.inc f).ns = s.ns := rfl
@[simp] theorem State.inc_hif (f : Fld) : (s.inc f).hif = s.hif := rfl
@[simp] theorem State.inc_saf (f : Fld) : (s.inc f).saf = s.saf := rfl
@[simp] theorem State.inc_bbx (f : Fld) : (s.inc f).bbx = s.bbx := rfl
@[simp] theorem State.inc_mbx (f : Fld) : (s.inc f).mbx = s.mbx := rfl
@[simp] theorem State.inc_rst (f : Fld) : (s.inc f).rst = s.rst := rfl
@[simp] theorem State.inc_grn (f : Fld) : (s.inc f).grn = s.grn := rfl
@[simp] theorem State.inc_flash (f : Fld) : (s.inc f).flash = s.flash := rfl
@[simp] theorem State.inc_clm (f : Fld) : (s.inc f).clm = s.clm := rfl
@[simp] theorem State.inc_mov (f : Fld) : (s.inc f).mov = s.mov := rfl
@[simp] theorem State.inc_pnl (f : Fld) : (s.inc f).pnl = s.pnl := rfl
@[simp] theorem State.inc_spm (f : Fld) : (s.inc f).spm = s.spm := rfl
@[simp] theorem State.inc_sps (f : Fld) : (s.inc f).sps = s.sps := rfl
@[simp] theorem State.inc_uar (f : Fld) : (s.inc f).uar = s.uar := rfl
@[simp] theorem State.inc_iic (f : Fld) : (s.inc f).iic = s.iic := rfl

/-! ### sub -/

@[simp] theorem State.sub_pending (f : Fld) (n : Nat) : (s.sub f n).pending = s.pending := rfl
@[simp] theorem State.sub_pend (f : Fld) (n : Nat) : (s.sub f n).pend = s.pend := rfl
@[simp] theorem State.sub_held (f : Fld) (n : Nat) : (s.sub f n).held = s.held := rfl
@[simp] theorem State.sub_snaps (f : Fld) (n : Nat) : (s.sub f n).snaps = s.snaps := rfl
@[simp] theorem State.sub_limits (f : Fld) (n : Nat) : (s.sub f n).limits = s.limits := rfl
@[simp] theorem State.sub_drops (f : Fld) (n : Nat) : (s.sub f n).drops = s.drops := rfl
@[simp] theorem State.sub_events (f : Fld) (n : Nat) : (s.sub f n).events = s.events := rfl
@[simp] theorem State.sub_outputs (f : Fld) (n : Nat) : (s.sub f n).outputs = s.outputs := rfl
@[simp] theorem State.sub_resp (f : Fld) (n : Nat) : (s.sub f n).resp = s.resp := rfl
@[simp] theorem State.sub_respHigh (f : Fld) (n : Nat) : (s.sub f n).respHigh = s.respHigh := rfl
@[simp] theorem State.sub_freeCtr (f : Fld) (n : Nat) : (s.sub f n).freeCtr = s.freeCtr := rfl
@[simp] theorem State.sub_tik (f : Fld) (n : Nat) : (s.sub f n).tik = s.tik := rfl
@[simp] theorem State.sub_tim (f : Fld) (n : Nat) : (s.sub f n).tim = s.tim := rfl
@[simp] theorem State.sub_img (f : Fld) (n : Nat) : (s.sub f n).img = s.img := rfl
@[simp] theorem State.sub_acq (f : Fld) (n : Nat) : (s.sub f n).acq = s.acq := rfl
@[simp] theorem State.sub_twc (f : Fld) (n : Nat) : (s.sub f n).twc = s.twc := rfl
@[simp] theorem State.sub_thr (f : Fld) (n : Nat) : (s.sub f n).thr = s.thr := rfl
@[simp] theorem State.sub_mpr (f : Fld) (n : Nat) : (s.sub f n).mpr = s.mpr := rfl
@[simp] theorem State.sub_mrg (f : Fld) (n : Nat) : (s.sub f n).mrg = s.mrg := rfl
@[simp] theorem State.sub_slo (f : Fld) (n : Nat) : (s.sub f n).slo = s.slo := rfl
@[simp] theorem State.sub_pkt (f : Fld) (n : Nat) : (s.sub f n).pkt = s.pkt := rfl
@[simp] theorem State.sub_cry (f : Fld) (n : Nat) : (s.sub f n).cry = s.cry := rfl
@[simp] theorem State.sub_ns (f : Fld) (n : Nat) : (s.sub f n).ns = s.ns := rfl
@[simp] theorem State.sub_hif (f : Fld) (n : Nat) : (s.sub f n).hif = s.hif := rfl
@[simp] theorem State.sub_saf (f : Fld) (n : Nat) : (s.sub f n).saf = s.saf := rfl
@[simp] theorem State.sub_bbx (f : Fld) (n : Nat) : (s.sub f n).bbx = s.bbx := rfl
@[simp] theorem State.sub_mbx (f : Fld) (n : Nat) : (s.sub f n).mbx = s.mbx := rfl
@[simp] theorem State.sub_rst (f : Fld) (n : Nat) : (s.sub f n).rst = s.rst := rfl
@[simp] theorem State.sub_grn (f : Fld) (n : Nat) : (s.sub f n).grn = s.grn := rfl
@[simp] theorem State.sub_flash (f : Fld) (n : Nat) : (s.sub f n).flash = s.flash := rfl
@[simp] theorem State.sub_clm (f : Fld) (n : Nat) : (s.sub f n).clm = s.clm := rfl
@[simp] theorem State.sub_mov (f : Fld) (n : Nat) : (s.sub f n).mov = s.mov := rfl
@[simp] theorem State.sub_pnl (f : Fld) (n : Nat) : (s.sub f n).pnl = s.pnl := rfl
@[simp] theorem State.sub_spm (f : Fld) (n : Nat) : (s.sub f n).spm = s.spm := rfl
@[simp] theorem State.sub_sps (f : Fld) (n : Nat) : (s.sub f n).sps = s.sps := rfl
@[simp] theorem State.sub_uar (f : Fld) (n : Nat) : (s.sub f n).uar = s.uar := rfl
@[simp] theorem State.sub_iic (f : Fld) (n : Nat) : (s.sub f n).iic = s.iic := rfl

/-! ### setBit -/

@[simp] theorem State.setBit_pending (f : Fld) (b : Bool) : (s.setBit f b).pending = s.pending := rfl
@[simp] theorem State.setBit_pend (f : Fld) (b : Bool) : (s.setBit f b).pend = s.pend := rfl
@[simp] theorem State.setBit_held (f : Fld) (b : Bool) : (s.setBit f b).held = s.held := rfl
@[simp] theorem State.setBit_snaps (f : Fld) (b : Bool) : (s.setBit f b).snaps = s.snaps := rfl
@[simp] theorem State.setBit_limits (f : Fld) (b : Bool) : (s.setBit f b).limits = s.limits := rfl
@[simp] theorem State.setBit_drops (f : Fld) (b : Bool) : (s.setBit f b).drops = s.drops := rfl
@[simp] theorem State.setBit_events (f : Fld) (b : Bool) : (s.setBit f b).events = s.events := rfl
@[simp] theorem State.setBit_outputs (f : Fld) (b : Bool) : (s.setBit f b).outputs = s.outputs := rfl
@[simp] theorem State.setBit_resp (f : Fld) (b : Bool) : (s.setBit f b).resp = s.resp := rfl
@[simp] theorem State.setBit_respHigh (f : Fld) (b : Bool) : (s.setBit f b).respHigh = s.respHigh := rfl
@[simp] theorem State.setBit_freeCtr (f : Fld) (b : Bool) : (s.setBit f b).freeCtr = s.freeCtr := rfl
@[simp] theorem State.setBit_tik (f : Fld) (b : Bool) : (s.setBit f b).tik = s.tik := rfl
@[simp] theorem State.setBit_tim (f : Fld) (b : Bool) : (s.setBit f b).tim = s.tim := rfl
@[simp] theorem State.setBit_img (f : Fld) (b : Bool) : (s.setBit f b).img = s.img := rfl
@[simp] theorem State.setBit_acq (f : Fld) (b : Bool) : (s.setBit f b).acq = s.acq := rfl
@[simp] theorem State.setBit_twc (f : Fld) (b : Bool) : (s.setBit f b).twc = s.twc := rfl
@[simp] theorem State.setBit_thr (f : Fld) (b : Bool) : (s.setBit f b).thr = s.thr := rfl
@[simp] theorem State.setBit_mpr (f : Fld) (b : Bool) : (s.setBit f b).mpr = s.mpr := rfl
@[simp] theorem State.setBit_mrg (f : Fld) (b : Bool) : (s.setBit f b).mrg = s.mrg := rfl
@[simp] theorem State.setBit_slo (f : Fld) (b : Bool) : (s.setBit f b).slo = s.slo := rfl
@[simp] theorem State.setBit_pkt (f : Fld) (b : Bool) : (s.setBit f b).pkt = s.pkt := rfl
@[simp] theorem State.setBit_cry (f : Fld) (b : Bool) : (s.setBit f b).cry = s.cry := rfl
@[simp] theorem State.setBit_ns (f : Fld) (b : Bool) : (s.setBit f b).ns = s.ns := rfl
@[simp] theorem State.setBit_hif (f : Fld) (b : Bool) : (s.setBit f b).hif = s.hif := rfl
@[simp] theorem State.setBit_saf (f : Fld) (b : Bool) : (s.setBit f b).saf = s.saf := rfl
@[simp] theorem State.setBit_bbx (f : Fld) (b : Bool) : (s.setBit f b).bbx = s.bbx := rfl
@[simp] theorem State.setBit_mbx (f : Fld) (b : Bool) : (s.setBit f b).mbx = s.mbx := rfl
@[simp] theorem State.setBit_rst (f : Fld) (b : Bool) : (s.setBit f b).rst = s.rst := rfl
@[simp] theorem State.setBit_grn (f : Fld) (b : Bool) : (s.setBit f b).grn = s.grn := rfl
@[simp] theorem State.setBit_flash (f : Fld) (b : Bool) : (s.setBit f b).flash = s.flash := rfl
@[simp] theorem State.setBit_clm (f : Fld) (b : Bool) : (s.setBit f b).clm = s.clm := rfl
@[simp] theorem State.setBit_mov (f : Fld) (b : Bool) : (s.setBit f b).mov = s.mov := rfl
@[simp] theorem State.setBit_pnl (f : Fld) (b : Bool) : (s.setBit f b).pnl = s.pnl := rfl
@[simp] theorem State.setBit_spm (f : Fld) (b : Bool) : (s.setBit f b).spm = s.spm := rfl
@[simp] theorem State.setBit_sps (f : Fld) (b : Bool) : (s.setBit f b).sps = s.sps := rfl
@[simp] theorem State.setBit_uar (f : Fld) (b : Bool) : (s.setBit f b).uar = s.uar := rfl
@[simp] theorem State.setBit_iic (f : Fld) (b : Bool) : (s.setBit f b).iic = s.iic := rfl

/-! ### wr64 -/

@[simp] theorem State.wr64_pending (lo hi : Fld) (v : Nat) : (s.wr64 lo hi v).pending = s.pending := rfl
@[simp] theorem State.wr64_pend (lo hi : Fld) (v : Nat) : (s.wr64 lo hi v).pend = s.pend := rfl
@[simp] theorem State.wr64_held (lo hi : Fld) (v : Nat) : (s.wr64 lo hi v).held = s.held := rfl
@[simp] theorem State.wr64_snaps (lo hi : Fld) (v : Nat) : (s.wr64 lo hi v).snaps = s.snaps := rfl
@[simp] theorem State.wr64_limits (lo hi : Fld) (v : Nat) : (s.wr64 lo hi v).limits = s.limits := rfl
@[simp] theorem State.wr64_drops (lo hi : Fld) (v : Nat) : (s.wr64 lo hi v).drops = s.drops := rfl
@[simp] theorem State.wr64_events (lo hi : Fld) (v : Nat) : (s.wr64 lo hi v).events = s.events := rfl
@[simp] theorem State.wr64_outputs (lo hi : Fld) (v : Nat) : (s.wr64 lo hi v).outputs = s.outputs := rfl
@[simp] theorem State.wr64_resp (lo hi : Fld) (v : Nat) : (s.wr64 lo hi v).resp = s.resp := rfl
@[simp] theorem State.wr64_respHigh (lo hi : Fld) (v : Nat) : (s.wr64 lo hi v).respHigh = s.respHigh := rfl
@[simp] theorem State.wr64_freeCtr (lo hi : Fld) (v : Nat) : (s.wr64 lo hi v).freeCtr = s.freeCtr := rfl
@[simp] theorem State.wr64_tik (lo hi : Fld) (v : Nat) : (s.wr64 lo hi v).tik = s.tik := rfl
@[simp] theorem State.wr64_tim (lo hi : Fld) (v : Nat) : (s.wr64 lo hi v).tim = s.tim := rfl
@[simp] theorem State.wr64_img (lo hi : Fld) (v : Nat) : (s.wr64 lo hi v).img = s.img := rfl
@[simp] theorem State.wr64_acq (lo hi : Fld) (v : Nat) : (s.wr64 lo hi v).acq = s.acq := rfl
@[simp] theorem State.wr64_twc (lo hi : Fld) (v : Nat) : (s.wr64 lo hi v).twc = s.twc := rfl
@[simp] theorem State.wr64_thr (lo hi : Fld) (v : Nat) : (s.wr64 lo hi v).thr = s.thr := rfl
@[simp] theorem State.wr64_mpr (lo hi : Fld) (v : Nat) : (s.wr64 lo hi v).mpr = s.mpr := rfl
@[simp] theorem State.wr64_mrg (lo hi : Fld) (v : Nat) : (s.wr64 lo hi v).mrg = s.mrg := rfl
@[simp] theorem State.wr64_slo (lo hi : Fld) (v : Nat) : (s.wr64 lo hi v).slo = s.slo := rfl
@[simp] theorem State.wr64_pkt (lo hi : Fld) (v : Nat) : (s.wr64 lo hi v).pkt = s.pkt := rfl
@[simp] theorem State.wr64_cry (lo hi : Fld) (v : Nat) : (s.wr64 lo hi v).cry = s.cry := rfl
@[simp] theorem State.wr64_ns (lo hi : Fld) (v : Nat) : (s.wr64 lo hi v).ns = s.ns := rfl
@[simp] theorem State.wr64_hif (lo hi : Fld) (v : Nat) : (s.wr64 lo hi v).hif = s.hif := rfl
@[simp] theorem State.wr64_saf (lo hi : Fld) (v : Nat) : (s.wr64 lo hi v).saf = s.saf := rfl
@[simp] theorem State.wr64_bbx (lo hi : Fld) (v : Nat) : (s.wr64 lo hi v).bbx = s.bbx := rfl
@[simp] theorem State.wr64_mbx (lo hi : Fld) (v : Nat) : (s.wr64 lo hi v).mbx = s.mbx := rfl
@[simp] theorem State.wr64_rst (lo hi : Fld) (v : Nat) : (s.wr64 lo hi v).rst = s.rst := rfl
@[simp] theorem State.wr64_grn (lo hi : Fld) (v : Nat) : (s.wr64 lo hi v).grn = s.grn := rfl
@[simp] theorem State.wr64_flash (lo hi : Fld) (v : Nat) : (s.wr64 lo hi v).flash = s.flash := rfl
@[simp] theorem State.wr64_clm (lo hi : Fld) (v : Nat) : (s.wr64 lo hi v).clm = s.clm := rfl
@[simp] theorem State.wr64_mov (lo hi : Fld) (v : Nat) : (s.wr64 lo hi v).mov = s.mov := rfl
@[simp] theorem State.wr64_pnl (lo hi : Fld) (v : Nat) : (s.wr64 lo hi v).pnl = s.pnl := rfl
@[simp] theorem State.wr64_spm (lo hi : Fld) (v : Nat) : (s.wr64 lo hi v).spm = s.spm := rfl
@[simp] theorem State.wr64_sps (lo hi : Fld) (v : Nat) : (s.wr64 lo hi v).sps = s.sps := rfl
@[simp] theorem State.wr64_uar (lo hi : Fld) (v : Nat) : (s.wr64 lo hi v).uar = s.uar := rfl
@[simp] theorem State.wr64_iic (lo hi : Fld) (v : Nat) : (s.wr64 lo hi v).iic = s.iic := rfl

/-! ### wrInt -/

@[simp] theorem State.wrInt_pending (f : Fld) (v : Int) : (s.wrInt f v).pending = s.pending := rfl
@[simp] theorem State.wrInt_pend (f : Fld) (v : Int) : (s.wrInt f v).pend = s.pend := rfl
@[simp] theorem State.wrInt_held (f : Fld) (v : Int) : (s.wrInt f v).held = s.held := rfl
@[simp] theorem State.wrInt_snaps (f : Fld) (v : Int) : (s.wrInt f v).snaps = s.snaps := rfl
@[simp] theorem State.wrInt_limits (f : Fld) (v : Int) : (s.wrInt f v).limits = s.limits := rfl
@[simp] theorem State.wrInt_drops (f : Fld) (v : Int) : (s.wrInt f v).drops = s.drops := rfl
@[simp] theorem State.wrInt_events (f : Fld) (v : Int) : (s.wrInt f v).events = s.events := rfl
@[simp] theorem State.wrInt_outputs (f : Fld) (v : Int) : (s.wrInt f v).outputs = s.outputs := rfl
@[simp] theorem State.wrInt_resp (f : Fld) (v : Int) : (s.wrInt f v).resp = s.resp := rfl
@[simp] theorem State.wrInt_respHigh (f : Fld) (v : Int) : (s.wrInt f v).respHigh = s.respHigh := rfl
@[simp] theorem State.wrInt_freeCtr (f : Fld) (v : Int) : (s.wrInt f v).freeCtr = s.freeCtr := rfl
@[simp] theorem State.wrInt_tik (f : Fld) (v : Int) : (s.wrInt f v).tik = s.tik := rfl
@[simp] theorem State.wrInt_tim (f : Fld) (v : Int) : (s.wrInt f v).tim = s.tim := rfl
@[simp] theorem State.wrInt_img (f : Fld) (v : Int) : (s.wrInt f v).img = s.img := rfl
@[simp] theorem State.wrInt_acq (f : Fld) (v : Int) : (s.wrInt f v).acq = s.acq := rfl
@[simp] theorem State.wrInt_twc (f : Fld) (v : Int) : (s.wrInt f v).twc = s.twc := rfl
@[simp] theorem State.wrInt_thr (f : Fld) (v : Int) : (s.wrInt f v).thr = s.thr := rfl
@[simp] theorem State.wrInt_mpr (f : Fld) (v : Int) : (s.wrInt f v).mpr = s.mpr := rfl
@[simp] theorem State.wrInt_mrg (f : Fld) (v : Int) : (s.wrInt f v).mrg = s.mrg := rfl
@[simp] theorem State.wrInt_slo (f : Fld) (v : Int) : (s.wrInt f v).slo = s.slo := rfl
@[simp] theorem State.wrInt_pkt (f : Fld) (v : Int) : (s.wrInt f v).pkt = s.pkt := rfl
@[simp] theorem State.wrInt_cry (f : Fld) (v : Int) : (s.wrInt f v).cry = s.cry := rfl
@[simp] theorem State.wrInt_ns (f : Fld) (v : Int) : (s.wrInt f v).ns = s.ns := rfl
@[simp] theorem State.wrInt_hif (f : Fld) (v : Int) : (s.wrInt f v).hif = s.hif := rfl
@[simp] theorem State.wrInt_saf (f : Fld) (v : Int) : (s.wrInt f v).saf = s.saf := rfl
@[simp] theorem State.wrInt_bbx (f : Fld) (v : Int) : (s.wrInt f v).bbx = s.bbx := rfl
@[simp] theorem State.wrInt_mbx (f : Fld) (v : Int) : (s.wrInt f v).mbx = s.mbx := rfl
@[simp] theorem State.wrInt_rst (f : Fld) (v : Int) : (s.wrInt f v).rst = s.rst := rfl
@[simp] theorem State.wrInt_grn (f : Fld) (v : Int) : (s.wrInt f v).grn = s.grn := rfl
@[simp] theorem State.wrInt_flash (f : Fld) (v : Int) : (s.wrInt f v).flash = s.flash := rfl
@[simp] theorem State.wrInt_clm (f : Fld) (v : Int) : (s.wrInt f v).clm = s.clm := rfl
@[simp] theorem State.wrInt_mov (f : Fld) (v : Int) : (s.wrInt f v).mov = s.mov := rfl
@[simp] theorem State.wrInt_pnl (f : Fld) (v : Int) : (s.wrInt f v).pnl = s.pnl := rfl
@[simp] theorem State.wrInt_spm (f : Fld) (v : Int) : (s.wrInt f v).spm = s.spm := rfl
@[simp] theorem State.wrInt_sps (f : Fld) (v : Int) : (s.wrInt f v).sps = s.sps := rfl
@[simp] theorem State.wrInt_uar (f : Fld) (v : Int) : (s.wrInt f v).uar = s.uar := rfl
@[simp] theorem State.wrInt_iic (f : Fld) (v : Int) : (s.wrInt f v).iic = s.iic := rfl

/-! ### setPend -/

@[simp] theorem State.setPend_pending (k : Nat) (m v : Word) : (s.setPend k m v).pending = s.pending := rfl
@[simp] theorem State.setPend_regs (k : Nat) (m v : Word) : (s.setPend k m v).regs = s.regs := rfl
@[simp] theorem State.setPend_held (k : Nat) (m v : Word) : (s.setPend k m v).held = s.held := rfl
@[simp] theorem State.setPend_snaps (k : Nat) (m v : Word) : (s.setPend k m v).snaps = s.snaps := rfl
@[simp] theorem State.setPend_limits (k : Nat) (m v : Word) : (s.setPend k m v).limits = s.limits := rfl
@[simp] theorem State.setPend_drops (k : Nat) (m v : Word) : (s.setPend k m v).drops = s.drops := rfl
@[simp] theorem State.setPend_events (k : Nat) (m v : Word) : (s.setPend k m v).events = s.events := rfl
@[simp] theorem State.setPend_outputs (k : Nat) (m v : Word) : (s.setPend k m v).outputs = s.outputs := rfl
@[simp] theorem State.setPend_resp (k : Nat) (m v : Word) : (s.setPend k m v).resp = s.resp := rfl
@[simp] theorem State.setPend_respHigh (k : Nat) (m v : Word) : (s.setPend k m v).respHigh = s.respHigh := rfl
@[simp] theorem State.setPend_freeCtr (k : Nat) (m v : Word) : (s.setPend k m v).freeCtr = s.freeCtr := rfl
@[simp] theorem State.setPend_tik (k : Nat) (m v : Word) : (s.setPend k m v).tik = s.tik := rfl
@[simp] theorem State.setPend_tim (k : Nat) (m v : Word) : (s.setPend k m v).tim = s.tim := rfl
@[simp] theorem State.setPend_img (k : Nat) (m v : Word) : (s.setPend k m v).img = s.img := rfl
@[simp] theorem State.setPend_acq (k : Nat) (m v : Word) : (s.setPend k m v).acq = s.acq := rfl
@[simp] theorem State.setPend_twc (k : Nat) (m v : Word) : (s.setPend k m v).twc = s.twc := rfl
@[simp] theorem State.setPend_thr (k : Nat) (m v : Word) : (s.setPend k m v).thr = s.thr := rfl
@[simp] theorem State.setPend_mpr (k : Nat) (m v : Word) : (s.setPend k m v).mpr = s.mpr := rfl
@[simp] theorem State.setPend_mrg (k : Nat) (m v : Word) : (s.setPend k m v).mrg = s.mrg := rfl
@[simp] theorem State.setPend_slo (k : Nat) (m v : Word) : (s.setPend k m v).slo = s.slo := rfl
@[simp] theorem State.setPend_pkt (k : Nat) (m v : Word) : (s.setPend k m v).pkt = s.pkt := rfl
@[simp] theorem State.setPend_cry (k : Nat) (m v : Word) : (s.setPend k m v).cry = s.cry := rfl
@[simp] theorem State.setPend_ns (k : Nat) (m v : Word) : (s.setPend k m v).ns = s.ns := rfl
@[simp] theorem State.setPend_hif (k : Nat) (m v : Word) : (s.setPend k m v).hif = s.hif := rfl
@[simp] theorem State.setPend_saf (k : Nat) (m v : Word) : (s.setPend k m v).saf = s.saf := rfl
@[simp] theorem State.setPend_bbx (k : Nat) (m v : Word) : (s.setPend k m v).bbx = s.bbx := rfl
@[simp] theorem State.setPend_mbx (k : Nat) (m v : Word) : (s.setPend k m v).mbx = s.mbx := rfl
@[simp] theorem State.setPend_rst (k : Nat) (m v : Word) : (s.setPend k m v).rst = s.rst := rfl
@[simp] theorem State.setPend_grn (k : Nat) (m v : Word) : (s.setPend k m v).grn = s.grn := rfl
@[simp] theorem State.setPend_flash (k : Nat) (m v : Word) : (s.setPend k m v).flash = s.flash := rfl
@[simp] theorem State.setPend_clm (k : Nat) (m v : Word) : (s.setPend k m v).clm = s.clm := rfl
@[simp] theorem State.setPend_mov (k : Nat) (m v : Word) : (s.setPend k m v).mov = s.mov := rfl
@[simp] theorem State.setPend_pnl (k : Nat) (m v : Word) : (s.setPend k m v).pnl = s.pnl := rfl
@[simp] theorem State.setPend_spm (k : Nat) (m v : Word) : (s.setPend k m v).spm = s.spm := rfl
@[simp] theorem State.setPend_sps (k : Nat) (m v : Word) : (s.setPend k m v).sps = s.sps := rfl
@[simp] theorem State.setPend_uar (k : Nat) (m v : Word) : (s.setPend k m v).uar = s.uar := rfl
@[simp] theorem State.setPend_iic (k : Nat) (m v : Word) : (s.setPend k m v).iic = s.iic := rfl

/-! ### used -/

@[simp] theorem State.used_pending : (s.used).pending = s.pending := rfl
@[simp] theorem State.used_regs : (s.used).regs = s.regs := rfl
@[simp] theorem State.used_pend : (s.used).pend = s.pend := rfl
@[simp] theorem State.used_held : (s.used).held = s.held := rfl
@[simp] theorem State.used_snaps : (s.used).snaps = s.snaps := rfl
@[simp] theorem State.used_limits : (s.used).limits = s.limits := rfl
@[simp] theorem State.used_drops : (s.used).drops = s.drops := rfl
@[simp] theorem State.used_events : (s.used).events = s.events := rfl
@[simp] theorem State.used_outputs : (s.used).outputs = s.outputs := rfl
@[simp] theorem State.used_resp : (s.used).resp = s.resp := rfl
@[simp] theorem State.used_respHigh : (s.used).respHigh = s.respHigh := rfl
@[simp] theorem State.used_tik : (s.used).tik = s.tik := rfl
@[simp] theorem State.used_tim : (s.used).tim = s.tim := rfl
@[simp] theorem State.used_img : (s.used).img = s.img := rfl
@[simp] theorem State.used_acq : (s.used).acq = s.acq := rfl
@[simp] theorem State.used_twc : (s.used).twc = s.twc := rfl
@[simp] theorem State.used_thr : (s.used).thr = s.thr := rfl
@[simp] theorem State.used_mpr : (s.used).mpr = s.mpr := rfl
@[simp] theorem State.used_mrg : (s.used).mrg = s.mrg := rfl
@[simp] theorem State.used_slo : (s.used).slo = s.slo := rfl
@[simp] theorem State.used_pkt : (s.used).pkt = s.pkt := rfl
@[simp] theorem State.used_cry : (s.used).cry = s.cry := rfl
@[simp] theorem State.used_ns : (s.used).ns = s.ns := rfl
@[simp] theorem State.used_hif : (s.used).hif = s.hif := rfl
@[simp] theorem State.used_saf : (s.used).saf = s.saf := rfl
@[simp] theorem State.used_bbx : (s.used).bbx = s.bbx := rfl
@[simp] theorem State.used_mbx : (s.used).mbx = s.mbx := rfl
@[simp] theorem State.used_rst : (s.used).rst = s.rst := rfl
@[simp] theorem State.used_grn : (s.used).grn = s.grn := rfl
@[simp] theorem State.used_flash : (s.used).flash = s.flash := rfl
@[simp] theorem State.used_clm : (s.used).clm = s.clm := rfl
@[simp] theorem State.used_mov : (s.used).mov = s.mov := rfl
@[simp] theorem State.used_pnl : (s.used).pnl = s.pnl := rfl
@[simp] theorem State.used_spm : (s.used).spm = s.spm := rfl
@[simp] theorem State.used_sps : (s.used).sps = s.sps := rfl
@[simp] theorem State.used_uar : (s.used).uar = s.uar := rfl
@[simp] theorem State.used_iic : (s.used).iic = s.iic := rfl

/-! ### emit -/

@[simp] theorem emit_pending (o : Output) : (emit s o).pending = s.pending := rfl
@[simp] theorem emit_regs (o : Output) : (emit s o).regs = s.regs := rfl
@[simp] theorem emit_pend (o : Output) : (emit s o).pend = s.pend := rfl
@[simp] theorem emit_held (o : Output) : (emit s o).held = s.held := rfl
@[simp] theorem emit_snaps (o : Output) : (emit s o).snaps = s.snaps := rfl
@[simp] theorem emit_limits (o : Output) : (emit s o).limits = s.limits := rfl
@[simp] theorem emit_drops (o : Output) : (emit s o).drops = s.drops := rfl
@[simp] theorem emit_events (o : Output) : (emit s o).events = s.events := rfl
@[simp] theorem emit_outputs (o : Output) : (emit s o).outputs = o :: s.outputs := rfl
@[simp] theorem emit_resp (o : Output) : (emit s o).resp = s.resp := rfl
@[simp] theorem emit_respHigh (o : Output) : (emit s o).respHigh = s.respHigh := rfl
@[simp] theorem emit_freeCtr (o : Output) : (emit s o).freeCtr = s.freeCtr := rfl
@[simp] theorem emit_tik (o : Output) : (emit s o).tik = s.tik := rfl
@[simp] theorem emit_tim (o : Output) : (emit s o).tim = s.tim := rfl
@[simp] theorem emit_img (o : Output) : (emit s o).img = s.img := rfl
@[simp] theorem emit_acq (o : Output) : (emit s o).acq = s.acq := rfl
@[simp] theorem emit_twc (o : Output) : (emit s o).twc = s.twc := rfl
@[simp] theorem emit_thr (o : Output) : (emit s o).thr = s.thr := rfl
@[simp] theorem emit_mpr (o : Output) : (emit s o).mpr = s.mpr := rfl
@[simp] theorem emit_mrg (o : Output) : (emit s o).mrg = s.mrg := rfl
@[simp] theorem emit_slo (o : Output) : (emit s o).slo = s.slo := rfl
@[simp] theorem emit_pkt (o : Output) : (emit s o).pkt = s.pkt := rfl
@[simp] theorem emit_cry (o : Output) : (emit s o).cry = s.cry := rfl
@[simp] theorem emit_ns (o : Output) : (emit s o).ns = s.ns := rfl
@[simp] theorem emit_hif (o : Output) : (emit s o).hif = s.hif := rfl
@[simp] theorem emit_saf (o : Output) : (emit s o).saf = s.saf := rfl
@[simp] theorem emit_bbx (o : Output) : (emit s o).bbx = s.bbx := rfl
@[simp] theorem emit_mbx (o : Output) : (emit s o).mbx = s.mbx := rfl
@[simp] theorem emit_rst (o : Output) : (emit s o).rst = s.rst := rfl
@[simp] theorem emit_grn (o : Output) : (emit s o).grn = s.grn := rfl
@[simp] theorem emit_flash (o : Output) : (emit s o).flash = s.flash := rfl
@[simp] theorem emit_clm (o : Output) : (emit s o).clm = s.clm := rfl
@[simp] theorem emit_mov (o : Output) : (emit s o).mov = s.mov := rfl
@[simp] theorem emit_pnl (o : Output) : (emit s o).pnl = s.pnl := rfl
@[simp] theorem emit_spm (o : Output) : (emit s o).spm = s.spm := rfl
@[simp] theorem emit_sps (o : Output) : (emit s o).sps = s.sps := rfl
@[simp] theorem emit_uar (o : Output) : (emit s o).uar = s.uar := rfl
@[simp] theorem emit_iic (o : Output) : (emit s o).iic = s.iic := rfl
@[simp] theorem State.used_freeCtr : s.used.freeCtr = s.freeCtr + 1 := rfl

end Sys2Proof.Machine
end

