-- ==== Sys2Proof/Laws/Tab.lean ====
section
/-! SUPPORT. The laws of a sparse table: a read after a write, and the canonical form that every write keeps. -/

namespace Sys2Proof.Machine

variable {α : Type}

@[simp] theorem Tab.get_nil (d : α) (a : Nat) : Tab.get d [] a = d := rfl

theorem Tab.get_insert_same (d : α) (m : Tab α) (a : Nat) (v : α) : Tab.get d (Tab.insert m a v) a = v := by
  induction m with
  | nil => simp [Tab.insert, Tab.get]
  | cons p m ih =>
    obtain ⟨k, w⟩ := p
    unfold Tab.insert
    split_ifs with h1 h2
    · simp [Tab.get]
    · simp [Tab.get]
    · simp only [Tab.get, if_neg (fun h => h2 h.symm : ¬ k = a), ih]

theorem Tab.get_insert_other (d : α) (m : Tab α) {a b : Nat} (v : α) (h : b ≠ a) :
    Tab.get d (Tab.insert m a v) b = Tab.get d m b := by
  induction m with
  | nil => simp [Tab.insert, Tab.get, h.symm]
  | cons p m ih =>
    obtain ⟨k, w⟩ := p
    unfold Tab.insert
    split_ifs with h1 h2
    · simp [Tab.get, h.symm]
    · subst h2; simp [Tab.get, h.symm]
    · simp only [Tab.get, ih]

theorem Tab.get_erase_same (d : α) (m : Tab α) (a : Nat) : Tab.get d (Tab.erase m a) a = d := by
  induction m with
  | nil => rfl
  | cons p m ih =>
    obtain ⟨k, w⟩ := p
    by_cases h : k = a
    · subst h; simpa [Tab.erase] using ih
    · have : Tab.erase ((k, w) :: m) a = (k, w) :: Tab.erase m a := by simp [Tab.erase, h]
      rw [this]; simp only [Tab.get, if_neg h, ih]

theorem Tab.get_erase_other (d : α) (m : Tab α) {a b : Nat} (h : b ≠ a) :
    Tab.get d (Tab.erase m a) b = Tab.get d m b := by
  induction m with
  | nil => rfl
  | cons p m ih =>
    obtain ⟨k, w⟩ := p
    by_cases hk : k = a
    · subst hk
      have : Tab.erase ((k, w) :: m) k = Tab.erase m k := by simp [Tab.erase]
      rw [this, ih]; simp [Tab.get, h.symm]
    · have : Tab.erase ((k, w) :: m) a = (k, w) :: Tab.erase m a := by simp [Tab.erase, hk]
      rw [this]; simp only [Tab.get, ih]

@[simp] theorem Tab.get_put_same [DecidableEq α] (d : α) (m : Tab α) (a : Nat) (v : α) :
    Tab.get d (Tab.put d m a v) a = v := by
  unfold Tab.put
  split_ifs with h
  · rw [Tab.get_erase_same, h]
  · rw [Tab.get_insert_same]

theorem Tab.get_put_other [DecidableEq α] (d e : α) (m : Tab α) {a b : Nat} (v : α) (h : b ≠ a) :
    Tab.get e (Tab.put d m a v) b = Tab.get e m b := by
  unfold Tab.put
  split_ifs
  · exact Tab.get_erase_other e m h
  · exact Tab.get_insert_other e m v h

theorem Tab.mem_insert (m : Tab α) (a : Nat) (v : α) (p : Nat × α) (h : p ∈ Tab.insert m a v) :
    p = (a, v) ∨ p ∈ m := by
  induction m with
  | nil => simpa [Tab.insert] using h
  | cons q m ih =>
    obtain ⟨k, w⟩ := q
    unfold Tab.insert at h
    split_ifs at h with h1 h2
    · simpa using h
    · rcases List.mem_cons.mp h with h | h
      · exact .inl h
      · exact .inr (List.mem_cons_of_mem _ h)
    · rcases List.mem_cons.mp h with h | h
      · exact .inr (by simp [h])
      · rcases ih h with h | h
        · exact .inl h
        · exact .inr (List.mem_cons_of_mem _ h)

theorem Tab.insert_rising (m : Tab α) (a : Nat) (v : α) (hm : (m.map Prod.fst).Pairwise (· < ·)) :
    ((Tab.insert m a v).map Prod.fst).Pairwise (· < ·) := by
  induction m with
  | nil => simp [Tab.insert]
  | cons q m ih =>
    obtain ⟨k, w⟩ := q
    simp only [List.map_cons, List.pairwise_cons] at hm
    obtain ⟨hk, hm⟩ := hm
    unfold Tab.insert
    split_ifs with h1 h2
    · simp only [List.map_cons, List.pairwise_cons]
      refine ⟨?_, hk, hm⟩
      intro x hx
      rcases List.mem_cons.mp hx with rfl | hx
      · exact h1
      · exact lt_trans h1 (hk x hx)
    · subst h2; simp only [List.map_cons, List.pairwise_cons]; exact ⟨hk, hm⟩
    · simp only [List.map_cons, List.pairwise_cons]
      refine ⟨?_, ih hm⟩
      intro x hx
      obtain ⟨p, hp, rfl⟩ := List.mem_map.mp hx
      rcases Tab.mem_insert m a v p hp with rfl | hp
      · simp only; omega
      · exact hk _ (List.mem_map_of_mem hp)

/-- Every write keeps the canonical form. -/
theorem Tab.put_wf [DecidableEq α] (d : Nat → α) (m : Tab α) (a : Nat) (v : α) (h : Tab.wf d m) :
    Tab.wf d (Tab.put (d a) m a v) := by
  obtain ⟨h1, h2⟩ := h
  unfold Tab.put
  split_ifs with hv
  · refine ⟨?_, fun p hp => h2 p (List.mem_of_mem_filter hp)⟩
    exact List.Pairwise.sublist (List.filter_sublist.map _) h1
  · refine ⟨Tab.insert_rising m a v h1, fun p hp => ?_⟩
    rcases Tab.mem_insert m a v p hp with rfl | hp
    · exact hv
    · exact h2 p hp

/-- Keeping only some entries keeps the canonical form. -/
theorem Tab.filter_wf (d : Nat → α) (m : Tab α) (f : Nat × α → Bool) (h : Tab.wf d m) : Tab.wf d (m.filter f) :=
  ⟨List.Pairwise.sublist (List.filter_sublist.map _) h.1, fun p hp => h.2 p (List.mem_of_mem_filter hp)⟩

end Sys2Proof.Machine
end

