-- ==== Sys2Proof/Laws/Regs.lean ====
section
/-! SUPPORT. Reading registers and fields after they are written, and what the shared operations over events change. -/

namespace Sys2Proof.Machine

/-! ### Registers -/

@[simp] theorem State.reg_setReg_same (s : State) (k : Nat) (v : Word) : (s.setReg k v).reg k = v := by
  simp [State.reg, State.setReg]

theorem State.reg_setReg_other (s : State) {k l : Nat} (v : Word) (h : l ≠ k) : (s.setReg k v).reg l = s.reg l := by
  simp [State.reg, State.setReg, Tab.get_put_other _ _ _ _ h]

/-! ### Fields of a word -/

theorem fieldOf_eq (w : Word) (lo n : Nat) : fieldOf w lo n = (w.toNat >>> lo) % 2 ^ n := by
  simp [fieldOf, bitsAt, Nat.shiftRight_eq_div_pow]

theorem testBit_fieldOf (w : Word) (lo n i : Nat) :
    (fieldOf w lo n).testBit i = (decide (i < n) && w.getLsbD (lo + i)) := by
  rw [fieldOf_eq, Nat.testBit_mod_two_pow, Nat.testBit_shiftRight]; rfl

theorem getLsbD_maskOf (lo n i : Nat) (h : i < 32) :
    (maskOf lo n).getLsbD i = (decide (lo ≤ i) && decide (i < lo + n)) := by
  simp only [maskOf, BitVec.getLsbD_ofNat, h, decide_true, Bool.true_and]
  rw [Nat.mul_comm, Nat.testBit_two_pow_mul]
  by_cases hl : lo ≤ i
  · simp [hl, Nat.testBit_two_pow_sub_one]; omega
  · simp [hl]

theorem getLsbD_mergeBits (w m v : Word) (i : Nat) (h : i < 32) :
    (mergeBits w m v).getLsbD i = if m.getLsbD i then v.getLsbD i else w.getLsbD i := by
  simp only [mergeBits, BitVec.getLsbD_or, BitVec.getLsbD_and, BitVec.getLsbD_not, h, decide_true, Bool.true_and]
  cases m.getLsbD i <;> simp

theorem getLsbD_withField (w : Word) (lo n v i : Nat) (h : i < 32) :
    (withField w lo n v).getLsbD i =
      if lo ≤ i ∧ i < lo + n then v.testBit (i - lo) else w.getLsbD i := by
  rw [withField, getLsbD_mergeBits _ _ _ _ h, getLsbD_maskOf _ _ _ h]
  by_cases hc : lo ≤ i ∧ i < lo + n
  · obtain ⟨h1, h2⟩ := hc
    simp only [h1, h2, decide_true, Bool.and_self, if_true, and_self, BitVec.getLsbD_ofNat, h, Bool.true_and]
    rw [Nat.mul_comm, Nat.testBit_two_pow_mul, Nat.testBit_mod_two_pow]
    have : i - lo < n := by omega
    simp [h1, this]
  · rw [if_neg hc, if_neg]
    simpa using hc

/-- A field reads the value written to it, in its own width. -/
theorem fieldOf_withField_same (w : Word) (lo n v : Nat) (h : lo + n ≤ 32) :
    fieldOf (withField w lo n v) lo n = v % 2 ^ n := by
  apply Nat.eq_of_testBit_eq; intro i
  rw [testBit_fieldOf, Nat.testBit_mod_two_pow]
  by_cases hi : i < n
  · rw [getLsbD_withField _ _ _ _ _ (by omega)]; simp [hi]
  · simp [hi]

/-- A field that shares no bit with the one written keeps its value. -/
theorem fieldOf_withField_other (w : Word) (lo n v lo' n' : Nat) (h : lo' + n' ≤ lo ∨ lo + n ≤ lo') :
    fieldOf (withField w lo n v) lo' n' = fieldOf w lo' n' := by
  apply Nat.eq_of_testBit_eq; intro i
  rw [testBit_fieldOf, testBit_fieldOf]
  by_cases hi : i < n'
  · by_cases h32 : lo' + i < 32
    · rw [getLsbD_withField _ _ _ _ _ h32, if_neg (by omega)]
    · rw [BitVec.getLsbD_of_ge _ _ (by omega), BitVec.getLsbD_of_ge _ _ (by omega)]
  · simp [hi]

/-! ### Fields of the state -/

@[simp] theorem State.reg_wr_same (s : State) (f : Fld) (v : Nat) :
    (s.wr f v).reg f.key = withField (s.reg f.key) f.lo f.w v := by simp [State.wr]

theorem State.reg_wr_other (s : State) {f : Fld} {k : Nat} (v : Nat) (h : k ≠ f.key) : (s.wr f v).reg k = s.reg k := by
  simp [State.wr, State.reg_setReg_other _ _ h]

/-- A field reads back what is written to it. -/
theorem State.rd_wr_same (s : State) (f : Fld) (v : Nat) (h : f.lo + f.w ≤ 32) : (s.wr f v).rd f = v % 2 ^ f.w := by
  simp [State.rd, fieldOf_withField_same _ _ _ _ h]

/-- A write of a field leaves a field of another register, or of other bits, unchanged. -/
theorem State.rd_wr_other (s : State) {f g : Fld} (v : Nat)
    (h : g.key ≠ f.key ∨ g.lo + g.w ≤ f.lo ∨ f.lo + f.w ≤ g.lo) : (s.wr f v).rd g = s.rd g := by
  by_cases hk : g.key = f.key
  · rcases h with h | h
    · exact absurd hk h
    · simp only [State.rd, hk, State.reg_wr_same, fieldOf_withField_other _ _ _ _ _ _ h]
  · simp only [State.rd, State.reg_wr_other _ _ hk]

theorem State.rd_setReg_other (s : State) {k : Nat} {g : Fld} (v : Word) (h : g.key ≠ k) :
    (s.setReg k v).rd g = s.rd g := by simp only [State.rd, State.reg_setReg_other _ _ h]

@[simp] theorem State.rd_used (s : State) (f : Fld) : s.used.rd f = s.rd f := rfl
@[simp] theorem State.reg_used (s : State) (k : Nat) : s.used.reg k = s.reg k := rfl
@[simp] theorem rd_emit (s : State) (o : Output) (f : Fld) : (emit s o).rd f = s.rd f := rfl
@[simp] theorem reg_emit (s : State) (o : Output) (k : Nat) : (emit s o).reg k = s.reg k := rfl

/-! ### The canonical form of the register file -/

/-- Writing a register keeps the register file in its canonical form. -/
theorem State.setReg_wf (s : State) (k : Nat) (v : Word) (h : Tab.wf resetOf s.regs) : Tab.wf resetOf (s.setReg k v).regs :=
  Tab.put_wf resetOf s.regs k v h

theorem State.wr_wf (s : State) (f : Fld) (v : Nat) (h : Tab.wf resetOf s.regs) : Tab.wf resetOf (s.wr f v).regs :=
  s.setReg_wf _ _ h

theorem State.setPend_wf (s : State) (k : Nat) (m v : Word) (h : Tab.wf (fun _ => ({} : Pend)) s.pend) :
    Tab.wf (fun _ => ({} : Pend)) (s.setPend k m v).pend :=
  Tab.put_wf (fun _ => ({} : Pend)) s.pend k _ h

/-! ### Events -/

/-- Offering an event to the black box changes its queue and its counters only. -/
theorem bbxOffer_cases (s : State) (e : Event) (always : Bool) :
    bbxOffer s e always = s ∨
    bbxOffer s e always = s.inc Reg.BBX_FROZEN_DROP ∨
    bbxOffer s e always = (s.inc Reg.BBX_FROZEN_DROP).wr Reg.BBX_STATUS_MISSED_SAFETY 1 ∨
    (64 ≤ s.bbx.queue.length ∧ bbxOffer s e always =
      { s.inc Reg.BBX_LOST with bbx := { s.bbx with lostRun := s.bbx.lostRun + 1 } }) ∨
    (s.bbx.queue.length < 64 ∧ bbxOffer s e always =
      { s with bbx := { s.bbx with queue := s.bbx.queue ++ [e] } }) := by
  unfold bbxOffer
  dsimp only
  split_ifs with h1 h2 h3 h4
  · exact .inl rfl
  · exact .inr (.inr (.inl rfl))
  · exact .inr (.inl rfl)
  · exact .inr (.inr (.inr (.inl ⟨h4, rfl⟩)))
  · exact .inr (.inr (.inr (.inr ⟨Nat.lt_of_not_le h4, rfl⟩)))

/-- The queue of events towards the black box never grows beyond 64 (R617). -/
theorem bbxOffer_queue (s : State) (e : Event) (always : Bool) (h : s.bbx.queue.length ≤ 64) :
    (bbxOffer s e always).bbx.queue.length ≤ 64 := by
  rcases bbxOffer_cases s e always with h' | h' | h' | ⟨-, h'⟩ | ⟨hq, h'⟩ <;> rw [h']
  · exact h
  · exact h
  · exact h
  · exact h
  · simpa using hq

/-- An event is logged. -/
theorem bbxOffer_events (s : State) (e : Event) (always : Bool) : (bbxOffer s e always).events = s.events := by
  rcases bbxOffer_cases s e always with h | h | h | ⟨-, h⟩ | ⟨-, h⟩ <;> rw [h] <;> simp

@[simp] theorem raise_events (s : State) (block code : Nat) (sev : Sev) (p : Nat) :
    (raise s block code sev p).events = mkEvent block code sev p :: s.events := by
  simp [raise, bbxOffer_events]

/-- Raising an event keeps the queue within 64 entries. -/
theorem raise_queue (s : State) (block code : Nat) (sev : Sev) (p : Nat) (h : s.bbx.queue.length ≤ 64) :
    (raise s block code sev p).bbx.queue.length ≤ 64 := bbxOffer_queue _ _ _ h

/-- The registers that an offered event may change: the black box's own counters and MISSED_SAFETY. -/
theorem bbxOffer_reg (s : State) (e : Event) (always : Bool) {k : Nat} (h1 : k ≠ Reg.BBX_FROZEN_DROP.key)
    (h2 : k ≠ Reg.BBX_STATUS_MISSED_SAFETY.key) (h3 : k ≠ Reg.BBX_LOST.key) :
    (bbxOffer s e always).reg k = s.reg k := by
  have hinc : ∀ (f : Fld), k ≠ f.key → (s.inc f).reg k = s.reg k := fun f h => s.reg_wr_other _ h
  rcases bbxOffer_cases s e always with h | h | h | ⟨-, h⟩ | ⟨-, h⟩ <;> rw [h]
  · exact hinc _ h1
  · rw [State.reg_wr_other _ _ h2]; exact hinc _ h1
  · exact hinc _ h3
  · rfl

theorem raise_reg (s : State) (block code : Nat) (sev : Sev) (p : Nat) {k : Nat} (h1 : k ≠ Reg.BBX_FROZEN_DROP.key)
    (h2 : k ≠ Reg.BBX_STATUS_MISSED_SAFETY.key) (h3 : k ≠ Reg.BBX_LOST.key) :
    (raise s block code sev p).reg k = s.reg k := bbxOffer_reg _ _ _ h1 h2 h3

theorem raise_rd (s : State) (block code : Nat) (sev : Sev) (p : Nat) {f : Fld} (h1 : f.key ≠ Reg.BBX_FROZEN_DROP.key)
    (h2 : f.key ≠ Reg.BBX_STATUS_MISSED_SAFETY.key) (h3 : f.key ≠ Reg.BBX_LOST.key) :
    (raise s block code sev p).rd f = s.rd f := by simp only [State.rd, raise_reg _ _ _ _ _ h1 h2 h3]

end Sys2Proof.Machine
end

