-- ==== Sys2Proof/Laws/Keep.lean ====
section
/-! SUPPORT. The shared operations keep the canonical forms and the bound of the event queue. -/

namespace Sys2Proof.Machine

theorem State.Sound.setReg {s : State} (h : s.Sound) (k : Nat) (v : Word) : (s.setReg k v).Sound :=
  ⟨⟨s.setReg_wf k v h.1.1, h.1.2⟩, h.2⟩

theorem State.Sound.wr {s : State} (h : s.Sound) (f : Fld) (v : Nat) : (s.wr f v).Sound := h.setReg _ _

theorem State.Sound.inc {s : State} (h : s.Sound) (f : Fld) : (s.inc f).Sound := h.wr _ _

theorem State.Sound.sub {s : State} (h : s.Sound) (f : Fld) (n : Nat) : (s.sub f n).Sound := h.wr _ _

theorem State.Sound.setBit {s : State} (h : s.Sound) (f : Fld) (b : Bool) : (s.setBit f b).Sound := h.wr _ _

theorem State.Sound.used {s : State} (h : s.Sound) : s.used.Sound := h

theorem State.Sound.emit {s : State} (h : s.Sound) (o : Output) : (emit s o).Sound := h

theorem State.Sound.setPend {s : State} (h : s.Sound) (k : Nat) (m v : Word) : (s.setPend k m v).Sound :=
  ⟨⟨h.1.1, s.setPend_wf k m v h.1.2⟩, h.2⟩

theorem State.Sound.bbxOffer {s : State} (h : s.Sound) (e : Event) (always : Bool) : (bbxOffer s e always).Sound := by
  rcases bbxOffer_cases s e always with h' | h' | h' | ⟨-, h'⟩ | ⟨hq, h'⟩ <;> rw [h']
  · exact h
  · exact h.inc _
  · exact (h.inc _).wr _ _
  · exact h.inc _
  · exact ⟨h.1, by simpa using hq⟩

theorem State.Sound.raise {s : State} (h : s.Sound) (block code : Nat) (sev : Sev) (p : Nat) :
    (raise s block code sev p).Sound := State.Sound.bbxOffer (s := { s with events := mkEvent block code sev p :: s.events }) h _ _

theorem State.Sound.raiseLimited {s : State} (h : s.Sound) (block code : Nat) (sev : Sev) (i p : Nat) :
    (raiseLimited s block code sev i p).Sound := by
  unfold Machine.raiseLimited
  split
  · apply State.Sound.raise
    exact h
  · exact h

theorem State.Sound.cfgViol {s : State} (h : s.Sound) (block : Nat) (i : Ident) (addr : Nat) : (cfgViol s block i addr).Sound :=
  h.raise _ _ _ _

theorem State.Sound.accSize {s : State} (h : s.Sound) (block : Nat) (i : Ident) (addr : Nat) : (accSize s block i addr).Sound :=
  h.raise _ _ _ _

theorem State.Sound.isoErr {s : State} (h : s.Sound) (block : Nat) (i : Ident) (addr pd : Nat) :
    (isoErr s block i addr pd).Sound := by
  unfold Machine.isoErr
  split
  · apply State.Sound.raise
    exact h
  · exact h

/-- A gated write keeps what its refusals and its action keep. -/
theorem State.Sound.withWrite {s : State} (h : s.Sound) (a : Access) (base block pd addr : Nat) {k : State → State}
    (hk : (k s).Sound) : (withWrite s a base block pd addr k).Sound := by
  unfold Machine.withWrite
  split
  · exact h.cfgViol _ _ _
  split
  · exact h.isoErr _ _ _ _
  split
  · exact h.accSize _ _ _
  · exact hk

theorem State.Sound.windowWrite {s : State} (h : s.Sound) (t : Nat) (be : BitVec 4) (off pd : Nat) {k : State → State}
    (hk : (k s).Sound) : (windowWrite s t be off pd k).Sound := by
  unfold Machine.windowWrite
  split
  · exact h.isoErr _ _ _ _
  split
  · exact h.isoErr _ _ _ _
  split
  · exact h.accSize _ _ _
  · exact hk

theorem State.Sound.mbxWrite {s : State} (h : s.Sound) (a : Access) (c off : Nat) (view : Bool) {k : State → State}
    (hk : (k s).Sound) : (mbxWrite s a c off view k).Sound := by
  unfold Machine.mbxWrite
  dsimp only
  split
  · exact h.cfgViol _ _ _
  split
  · exact h.isoErr _ _ _ _
  split
  · exact h.accSize _ _ _
  split
  · exact hk
  · exact h.cfgViol _ _ _

theorem State.Sound.mbxRead {s : State} (h : s.Sound) (i : Ident) (c off : Nat) (view : Bool) {k : State → State}
    (hk : (k s).Sound) : (mbxRead s i c off view k).Sound := by
  unfold Machine.mbxRead
  dsimp only
  split
  · exact (h.used.cfgViol _ _ _ : (Machine.cfgViol s.used _ _ _).Sound)
  split
  · exact (h.isoErr _ _ _ _ : (Machine.isoErr s _ _ _ _).Sound)
  split
  · exact hk
  · exact (h.used.cfgViol _ _ _ : (Machine.cfgViol s.used _ _ _).Sound)

/-- A fold keeps what each of its steps keeps. -/
theorem State.Sound.foldl {α : Type} {s : State} (h : s.Sound) (f : State → α → State) (l : List α)
    (hf : ∀ s x, s.Sound → (f s x).Sound) : (l.foldl f s).Sound := by
  induction l generalizing s with
  | nil => exact h
  | cons x xs ih => exact ih (hf s x h)

/-! ### Messages -/

theorem State.Sound.msix {s : State} (h : s.Sound) (t vec : Nat) : (msix s t vec).Sound := by
  unfold Machine.msix
  split
  · exact h.inc _
  split
  · exact h.wr _ _
  · exact h.emit _

theorem State.Sound.notify {s : State} (h : s.Sound) (c i en vec : Nat) : (notify s c i en vec).Sound := by
  unfold Machine.notify
  split
  · split
    · exact h.msix _ _
    · exact h
  split
  · exact h.emit _
  split
  · exact h.emit _
  split
  · exact h
  · exact h

theorem State.Sound.endMessage {s : State} (h : s.Sound) (c : Nat) (code : Option Nat) : (endMessage s c code).Sound := by
  unfold Machine.endMessage
  cases code
  · exact ((h.wr _ _).wr _ _).notify _ _ _ _
  · exact (((h.wr _ _).wr _ _).wr _ _).notify _ _ _ _

end Sys2Proof.Machine
end

