-- ==== Sys2Proof/WellFormed.lean ====
section
/-! DEFINITION. Which commands are well formed: what the outside world can send at all. The identities are those that Table 00.4 issues,
an access is aligned to its word (R41), and the word of a command register spells the command of its row. `exec` gives every
command a meaning, well formed or not. -/

namespace Sys2Proof

/-- Whether Table 00.4 issues an identity. -/
def Ident.issued (i : Ident) : Bool :=
  (decide (1 ≤ i.toNat) && decide (i.toNat ≤ 0x80)) || (decide (0x100 ≤ i.toNat) && decide (i.toNat ≤ 0x105))

/-- Whether an access comes from an issued identity. -/
def Access.ok (a : Access) : Bool := Ident.issued a.init

/-- Whether a read access comes from an issued identity. -/
def RAccess.ok (r : RAccess) : Bool := Ident.issued r.init

/-- Whether a word holds `n` in the `w` bits from `lo` on. -/
def Word.spells (v : Word) (lo w n : Nat) : Bool := bitsAt v.toNat lo w == n

/-- Whether the sum of an aux ADC channel's codes can be that of its number of conversions of 12 bits. -/
def AuxMean.ok (m : AuxMean) : Bool := decide (m.sum ≤ 4095 * m.n)

/-- The check of a command's operands. -/
def Instr.wellFormed : Instr → Bool
  | .registerWrite a addr _ => a.ok && decide (addr % 4 = 0)
  | .lowWordRead r addr => r.ok && decide (addr % 4 = 0)
  | .rcRead r addr => r.ok && decide (addr % 4 = 0)
  | .blockCommitGo a page _ => a.ok && decide (page % 0x10000 = 0)
  | .blockCommitDiscard a page => a.ok && decide (page % 0x10000 = 0)
  | .tickEdge _ => true
  | .slotDeadline _ _ core _ second => decide (second ≠ some core)
  | .finalVote => true
  | .handOff _ _ noAck => decide noAck.Nodup
  | .seamCommit => true
  | .sentinelCheck wrong => decide wrong.Nodup
  | .tikCommitArm a v => a.ok && bitAt v.toNat 0
  | .realignGo a v => a.ok && bitAt v.toNat 8
  | .realignWithdrawn => true
  | .timeRead i => Ident.issued i
  | .sourceQualified _ _ _ => true
  | .sourceRevert => true
  | .phaseCrossCheck x y _ => decide (x ≠ y)
  | .servoUpdate a _ => a.ok
  | .servoTimeout _ => true
  | .freqAdjWrite a _ => a.ok
  | .phaseAdjWrite a _ => a.ok
  | .irigFrame _ => true
  | .ppsInEdge _ _ => true
  | .ppsOutPulse _ => true
  | .todLoad a _ => a.ok
  | .ptpEventTimestamp _ _ _ _ => true
  | .ptpMasterTx _ _ => true
  | .holdoverEstimate => true
  | .leapApplied => true
  | .sourceLoss _ _ => true
  | .refclkLost => true
  | .refclkRestored _ => true
  | .refclkDetect _ => true
  | .imgLoad a v => a.ok && Word.spells v 0 4 1
  | .fetchComplete _ _ _ _ => true
  | .verifyComplete _ => true
  | .guardComplete _ => true
  | .imgActivate cmd test => cmd.all (fun p => p.1.ok && Word.spells p.2 0 4 2) && decide test.failed.Nodup
  | .autoload => true
  | .imgAbort a v => a.ok && Word.spells v 0 4 3
  | .imgDeactivate a v => a.ok && Word.spells v 0 4 4
  | .structMemUncorr _ _ => true
  | .preloadComplete => true
  | .amdArm a v => a.ok && Word.spells v 0 4 1
  | .amdDisarm a v => a.ok && Word.spells v 0 4 2
  | .amdDiscard a v => a.ok && Word.spells v 0 4 3
  | .sampleRelease _ _ => true
  | .linkLost _ _ => true
  | .linkLostClear a _ _ => a.ok
  | .linkRestored _ => true
  | .svFrameReceive _ => true
  | .svLost _ _ => true
  | .svRestored _ => true
  | .jesdDown lanes => decide (lanes ≠ 0)
  | .jesdUp _ => true
  | .jesdCrcError _ _ => true
  | .sysrefEdge _ _ => true
  | .sysrefMissing => true
  | .wavefrontTrigger _ _ _ _ => true
  | .wavefrontRecord _ _ => true
  | .comparePoint _ _ _ => true
  | .retryCompare _ _ _ _ => true
  | .arbitrationVote _ _ _ => true
  | .thrRetireCmd a v => a.ok && Word.spells v 0 4 1
  | .coreMemoryError _ _ _ => true
  | .gooseRetransmit _ _ => true
  | .manTrig a v => a.ok && bitAt v.toNat 1
  | .drClose => true
  | .flocResult _ => true
  | .sweepLaunch => true
  | .sweepFrameReceive _ _ _ => true
  | .timingFrameSend _ _ => true
  | .timingFrameReceive _ _ _ => true
  | .nakReceive _ _ _ _ _ => true
  | .ringLinkLost _ => true
  | .frameReceive _ _ _ => true
  | .frameTransmit _ _ _ => true
  | .fdbAgeOut _ _ => true
  | .fdbFlushPort a v => a.ok && Word.spells v 0 4 1
  | .fdbFlushVlan a v => a.ok && Word.spells v 0 4 2
  | .fdbFlushAll a v => a.ok && Word.spells v 0 4 3
  | .handleRelease _ _ _ => true
  | .holdAged _ => true
  | .pauseHoldExpired _ => true
  | .portLinkDown _ => true
  | .portLinkUp _ => true
  | .cellUncorr _ _ => true
  | .keyLoad a v => a.ok && Word.spells v 28 2 1
  | .keyZeroise a v => a.ok && Word.spells v 28 2 2
  | .saRead a => a.ok
  | .saWrite a => a.ok
  | .nsConnect _ => true
  | .nsReady _ lba _ _ => decide (0 < lba)
  | .keepAlive _ => true
  | .recShip _ => true
  | .recShipped _ => true
  | .nvmeCommandTimeout _ _ => true
  | .nsRetry _ _ _ => true
  | .queueEnable _ _ _ v => bitAt v.toNat 31
  | .queueDisable _ _ _ v => !bitAt v.toNat 31
  | .txDescriptor _ _ d => decide (d.addr < 2 ^ 64) && decide (d.len < 2 ^ 16)
  | .rxDeliver _ _ ds => ds.all (fun d => decide (d.addr < 2 ^ 64))
  | .rxWaitExpired _ _ => true
  | .recordRingEnable _ _ _ v => bitAt v.toNat 31
  | .hostStall _ => true
  | .quiesce a _ v => a.ok && bitAt v.toNat 0
  | .quiesceComplete _ => true
  | .quiesceResume a _ v => a.ok && !bitAt v.toNat 0
  | .vfFlr _ => true
  | .vfEnableClear => true
  | .pcieLinkUp _ _ => true
  | .pcieLinkDown => true
  | .handshakeFault _ => true
  | .clockCheck _ _ => true
  | .supplyFault _ _ _ => true
  | .owlLockstepMismatch => true
  | .l4Action _ _ => true
  | .safRestore a v => a.ok && Word.spells v 0 4 1
  | .enterL4 a v => a.ok && Word.spells v 0 4 2
  | .safInject a _ => a.ok
  | .heartbeat a _ => a.ok
  | .mgmtHbLost _ _ => true
  | .gleanerPassComplete _ next => decide next.Nodup
  | .bistComplete _ _ next => decide next.Nodup
  | .diagOverdue _ => true
  | .gleanCheck _ _ => true
  | .owlParamLoad => true
  | .sramUncorr _ slots => decide slots.Nodup
  | .dbgAttached => true
  | .mbxLockRead i _ _ => Ident.issued i
  | .mbxLockRelease a _ _ _ => a.ok
  | .mbxMsgWrite a _ _ _ _ => a.ok
  | .mbxSend a _ v _ => a.ok && bitAt v.toNat 0
  | .mbxAck a _ _ _ => a.ok
  | .mbxPop i _ _ => Ident.issued i
  | .lockExpired _ => true
  | .bindLock a v => a.ok && bitAt v.toNat 0
  | .managerDoorbellWrite a _ _ => a.ok
  | .instanceDoorbellWrite _ _ _ => true
  | .bbxEntryWrite => true
  | .postTimeout => true
  | .bbxSnapshot => true
  | .bbxUnfreeze a v => a.ok && Word.spells v 0 4 1
  | .bbxSnapshotCmd a v => a.ok && Word.spells v 0 4 2
  | .bbxEraseSlot a v => a.ok && Word.spells v 0 4 3
  | .slotEraseDone => true
  | .bbxEntryRead i _ => Ident.issued i
  | .internalPor => true
  | .porstNAssert => true
  | .porstNRelease _ _ _ => true
  | .releaseStep => true
  | .warmRstN _ => true
  | .owlDomainRepower _ => true
  | .rstCmdWarm a v _ => a.ok && Word.spells v 0 2 1
  | .rstCmdDomain a v _ => a.ok && Word.spells v 0 2 2
  | .perstN => true
  | .hotReset => true
  | .delayedResetAssert _ => true
  | .domainRestored _ => true
  | .pwrOn a v => a.ok && Word.spells v 8 2 1
  | .pwrOff a v => a.ok && Word.spells v 8 2 2
  | .pfailAsserted => true
  | .pfailCleared _ => true
  | .thmSample t => decide (t.length = 32)
  | .thermalTrip _ => true
  | .grnProgram a v => a.ok && Word.spells v 0 4 1
  | .programDone _ _ => true
  | .grnErase a v => a.ok && Word.spells v 0 4 2
  | .eraseDone _ _ => true
  | .grnSuspend a v => a.ok && Word.spells v 0 4 3
  | .grnResume a v => a.ok && Word.spells v 0 4 4
  | .granaryRead i _ _ => Ident.issued i
  | .journalErase _ => true
  | .protWrite a _ _ => a.ok
  | .protStored => true
  | .scanDone _ retried failed => decide retried.Nodup && decide failed.Nodup
  | .firmwareBoot => true
  | .fwBootComplete => true
  | .fwTrial a v _ => a.ok && Word.spells v 0 4 1
  | .fwCommit a v _ => a.ok && Word.spells v 0 4 2
  | .failTrial a v _ => a.ok && Word.spells v 0 4 3
  | .imgSlotSelect a v _ => a.ok && Word.spells v 0 4 4
  | .trialExpired => true
  | .fuseProgram _ => true
  | .fuseRevoke => true
  | .sensorReadCycle adc _ => adc.all AuxMean.ok
  | .presenceChange _ _ => true
  | .h2Alarm => true
  | .h2Clear => true
  | .h2HoldEnd => true
  | .scheduleEvaluation => true
  | .loopRun _ aux => aux.all AuxMean.ok
  | .damperStall _ => true
  | .damperSync _ _ => true
  | .mstpFrameReceive _ _ _ _ _ => true
  | .replyPostponed => true
  | .mstpRxPop a v => a.ok && bitAt v.toNat 0
  | .mstpTxPush a v => a.ok && bitAt v.toNat 0
  | .mstpHeartbeat a _ => a.ok
  | .mstpAbsent => true
  | .mstpLeft => true
  | .fanKick a _ _ => a.ok
  | .fanWdtExpired => true
  | .rpmUpdate t => decide (t.length = 12)
  | .fanFaultClear a _ v => a.ok && bitAt v.toNat 31
  | .motorSet a _ _ => a.ok
  | .alignEnd _ sums => decide (sums.length = 2)
  | .handover _ _ _ _ => true
  | .startRetry _ => true
  | .retryDelayEnd _ => true
  | .speedLoopStep _ _ => true
  | .motorStopped _ => true
  | .lockedRotor _ => true
  | .keEvaluation _ _ => true
  | .overcurrentTrip _ _ => true
  | .driverFault _ => true
  | .adcFault _ => true
  | .motorFaultClear a _ v _ => a.ok && bitAt v.toNat 31
  | .motorAutoRestart _ => true
  | .keyWake _ _ => true
  | .keyScan _ _ _ => true
  | .ladderSample _ _ _ _ => true
  | .pnlEvtPop i _ => Ident.issued i
  | .pnlLock a v _ => a.ok && bitAt v.toNat 2
  | .pnlUnlock a v _ => a.ok && bitAt v.toNat 1
  | .qepEdge _ _ _ => true
  | .qepIndex _ => true
  | .spim0Init _ => true
  | .flashRead a v => a.ok && Word.spells v 0 4 1
  | .flashProgram a v => a.ok && Word.spells v 0 4 2
  | .flashErase4k a v => a.ok && Word.spells v 0 4 3
  | .flashErase64k a v => a.ok && Word.spells v 0 4 4
  | .flashOpComplete => true
  | .flashTimeout => true
  | .spim1Go a v => a.ok && bitAt v.toNat 31
  | .spim1Done data => decide (data.length ≤ 256)
  | .rdyTimeout x => decide (x.data.length ≤ 256)
  | .spisRead _ n late => late.all (fun k => decide (k < n))
  | .spisWrite _ _ => true
  | .spisStatus n late => late.all (fun k => decide (k < n))
  | .spisWarmReset _ _ _ => true
  | .uartFrameReceive _ _ => true
  | .uartDataRead i _ => Ident.issued i
  | .uartDataWrite a _ _ => a.ok
  | .modbusEom _ => true
  | .i2cGo a _ v _ => a.ok && bitAt v.toNat 31
  | .i2cComplete _ e => decide (e.data.length ≤ 63)
  | .sfpPresenceChange _ _ _ => true
  | .warmRstNRelease => true
  | .perstNRelease => true
  | .porRelease _ => true
  | .hostCreditReturn => true
  | .tcpRetransmitTimeout _ _ => true
  | .frerResetTimeout _ => true
  | .pauseQuantaExpired _ => true
  | .mstpTimerExpiry _ => true
  | .uartTxComplete _ => true
  | .dbgDetached => true
  | .ringLinkLock _ => true
  | .itrExpired _ _ => true
  | .maskedColumnScan _ _ _ _ => true
  | .heaterMinTimeEnd _ => true
  | .readSuspendEnd _ => true

end Sys2Proof
end

