-- ==== Sys2Proof/Tests/Slice0.lean ====
section
/-! SUPPORT. The model's own tests: commands that are not well formed, single steps whose results the spec gives, and for every
statement with hypotheses a state that meets them. -/

set_option Elab.async false

open Sys2Proof Sys2Proof.Machine

namespace Sys2Proof.Tests

/-- The state after reset with every domain released, and fields set. -/
def up : State :=
  { (State.reset.setReg Reg.PWR_STATUS.key 0xFFFFFFFF).setReg Reg.PWR_RESET.key 0 with rst := { imgReset := false } }
def on (l : List (Fld × Nat)) : State := l.foldl (fun s f => s.wr f.1 f.2) up
def pf : Access := ⟨1, 15⟩
def mg : Access := ⟨0x100, 15⟩
def dbg : Access := ⟨0x104, 15⟩
def key : Word := 0xC0DE0000
def ev0 : Event := mkEvent Blk.glb 0x0101 .info 0
def img (f : Img → Img) (s : State) : State := { s with img := f s.img }
def hdr (amend : Bool) : List Byte :=
  [0x46, 0x56, 0x53, 0x31, 0, 0, 1, 0, 0x20, 0x77, 0xF7, 0, 0, 0, if amend then 1 else 0, 0, 1, 0, 0, 0, 0, 0, 0, 0,
   0, 0, 0, 0, 0, 0, 0, 0, 1, 0, 0, 0, 0, 1, 0, 0, 0, 4, 0, 0, 0, 3, 0, 0]
def host : LoadRec := ⟨2, false, false, 0⟩
def loading (st : Nat) : State := 
  let s := on [(Reg.IMG_STATUS_STATE, st), (Reg.IMG_HOST_LEN, 0x400)]
  { s with regs := (4, 1) :: s.regs, img := { s.img with load := some host } }
def sch : Sched := { rate := 1 }
/-- The pulses of an IRIG-B frame: markers at the reference and at the position identifiers, and the bits set. -/
def pulses (ones : List Nat) : List Nat :=
  (List.range 100).map (fun n => if n = 0 ∨ n % 10 = 9 then 8000 else if ones.contains n then 5000 else 2000)
/-- The first second of day 1. -/
def frame0 : IrigFrame := ⟨0, pulses [30], true, true, 4⟩
def smp : Sample := ⟨[], 0, 0⟩
def sv0 (n : Nat) : SvFrame := ⟨0, 0, [], false, 0, List.replicate n ⟨0, 0, []⟩⟩
def it0 : ItemE := ⟨0, 0, 1, 0, 0, 1, 0, 0, 1, 0, 0, 0, 0, 0⟩
def res0 : Res := ⟨[(0, 0)], []⟩
def pooled (r : Run) (s : State) : State :=
  { s with img := { s.img with sched := some { sch with items := [it0] } }, thr := { s.thr with idle := false, runs := [(0, r)] } }
def cores : List (Fld × Nat) := [(Reg.THR_CORE_CSTATE_ROLE 0, 1), (Reg.THR_CORE_CSTATE_ROLE 1, 1), (Reg.THR_ITEM_ISTATUS_CORE_B 0, 1)]
def gslot : SlotE := ⟨4, false, 0, 0, 511, 64⟩
def rec0 : DrRec := { kind := 1, seq := 0, first := 0, start := 0, last := 0, samples := [], chains := [], trunc := false, names := 0, fileLen := 0, fileCrc := 0 }
def flo (d a z : Nat) : State :=
  { pooled {} (on [(Reg.MPR_FLOC_ITEMS_DA_D_ITEM 0, d), (Reg.MPR_FLOC_ITEMS_DA_A_ITEM 0, a), (Reg.MPR_FLOC_ITEM_Z_Z_ITEM 0, z)]) with
    mpr := { floc := [(0, some { start := 0 })] } }
def con0 : Contrib := ⟨0, false, 0, 0, [], true⟩
def sw0 (m : Fin 16) (ok : Bool) : SweepFrame := ⟨false, false, false, m, 0, 0, 0, 0, 0, 0, ok, false, []⟩
def ring (l : List (Fld × Nat)) : State := on ([(Reg.MRG_STATUS_STATE, 2), (Reg.MRG_MEMBER_MASK, 0xFF), (Reg.MRG_LINK_LSTATUS_STATE 0, 2)] ++ l)
def fr : Frame := { inner := ⟨0, 0, none, 0, []⟩, len := 64, arrival := 0 }
def bridge (l : List (Fld × Nat)) : State :=
  on ([(Reg.PKT_STATUS_STATE, 1), (Reg.PKT_PORT_PCFG_EN 0, 1), (Reg.PKT_PORT_PSTATUS_LINK 0, 1)] ++ l)
def q0 : QFrame := { body := .bridged fr none, len := 64, chain := 0 }
def sending : State :=
  { bridge [(Reg.PKT_GCFG_LEN_LEN 0, 1), (Reg.PKT_GCL_GATES 0 0, 255), (Reg.PKT_GCL_DUR_M1 0 0, 511)] with pkt := { queue := [(7, [q0])] } }
def ns0 (st : Nat) (x : Ns) : State := { on [(Reg.REC_NS_NCFG_EN 0, 1), (Reg.REC_NS_NSTATE_STATE 0, st)] with ns := [(0, x)] }
def ship (st : Nat) : State :=
  { ns0 st {} with mpr := { waiting := [rec0] } }.wr Reg.MPR_DR_CHAN_DEST 0x100
def hq : State := on [(Reg.QSTATUS_STATE 0 0, 1), (Reg.HIF_STATUS_LINK_UP, 1), (Reg.PKT_STATUS_STATE, 1), (Reg.TX_TAIL 0 0, 1), (Reg.QCFG_SZ 0 0, 6)]
def td : TxDesc := ⟨0, 64, 0, true, false, false, false, 0, none, 0, 0, true, [], false, none⟩
def mbx (l : List (Fld × Nat)) : State := on ([(Reg.MBX_BIND_RECEIVER 0, 0x101), (Reg.MBX_BIND_SENDER 0, 0x100)] ++ l)
def snap0 (cause : Nat) : Snap := ⟨0, cause, 0, 0, [], 0, 0⟩
def bx (l : List (Fld × Nat)) (b : Bbx) : State := { on ([(Reg.BBX_CFG_OVERWRITE, 0), (Reg.GRN_STATUS_SCAN, 0)] ++ l) with bbx := b }
def rs (r : Rst) (s : State) : State := { s with rst := r }
def cells (a : Nat) (bs : List Byte) : Tab Byte := (List.range bs.length).zip bs |>.map (fun p => (a + p.1, p.2))
def bootBytes (trial : Byte) : List Byte :=
  let b := [0x46, 0x56, 0x42, 0x52, 1, 0, 0, 0, 0, trial, 0xFF, 0] ++ List.replicate 32 0
  b ++ toLe 4 (crc32c b)
def jent (done : Byte) (seq : Nat) : List Byte :=
  let b := [0x47, 0x4A, 0xFF] ++ toLe 4 0xC0000 ++ toLe 4 seq
  b.take 3 ++ [done] ++ b.drop 3 ++ toLe 4 (crc32c b)
def gr (g : Grn) (l : List (Fld × Nat)) : State :=
  { on ([(Reg.GRN_STATUS_SCAN, 0), (Reg.GRN_ADDR_ADDR, 0xC0000), (Reg.GRN_LEN_LEN, 1)] ++ l) with grn := g }
def trial : State := gr { mem := cells 0 (bootBytes 1), fw := some (1, 0) } [(Reg.GRN_BOOT_STATUS_MODE, modeTrial)]
def clm (l : List (Fld × Nat)) (c : Clm) : State := { on ([(Reg.CLM_STATUS_STATE, 1)] ++ l) with clm := c }
def bus (link : Nat) (m : Mstp) : State := { on [(Reg.CLM_MSTP_CTRL_EN, 1), (Reg.CLM_MSTP_STATUS_LINK, link), (Reg.CLM_MSTP_CFG_MAC, 5)] with clm := { mstp := m } }
def mot (st : Nat) (l : List (Fld × Nat)) : State := on ([(Reg.MTR_ST_MSTATE_STATE 0, st)] ++ l)
def pan (l : List (Fld × Nat)) (p : Pnl) : State := { on ([(Reg.PNL_CTRL_EN, 1)] ++ l) with pnl := p }
def fc0 (op : Nat) : FlashCmd := ⟨1, op, 0, 4, [1, 2, 3, 4]⟩
def x10 : Xfer1 := ⟨0, true, false, 4, true⟩
def ser (l : List (Fld × Nat)) (u : Uart) : State := { on ([(Reg.UAR_CFG_EN 0, 1)] ++ l) with uar := [(0, u)] }
/-- The byte 0x41 on the line: start bit, the bits of the byte from bit 0 on, stop bit. -/
def uf : UartFrame := ⟨[0, 7, 0, 0, 0, 0, 0, 7, 0, 7], 1000⟩
def two (x : Iic) : State := { up with iic := [(0, x)] }
def ie (nack : Bool) : I2cEnd := ⟨nack, false, 0, [], 0, false⟩
def fuse (l : List (Fld × Nat)) : State :=
  { on ([(Reg.MBX_BIND_SENDER 0, 1), (Reg.MBX_BIND_RECEIVER 0, 0x100), (Reg.MBX_STATUS_FULL 0, 1)] ++ l) with
    grn := { fw := some (0, 0) }, img := { fuses := { programmed := 3 } } }
/-- A travelling-wave channel that is captured, with 40 samples of 1 in its ring. -/
def tw (l : List (Nat × Option Nat)) : State :=
  { on [(Reg.TWC_CTRL_EN, 1), (Reg.TWC_CH_CFG_EN 0, 1), (Reg.TWC_STATUS_LINK, 4), (Reg.TWC_CH_CFG_THR 0, 5),
      (Reg.TWC_JESD_CFG_M, 12)] with
    twc := { ring := [(0, (List.range 40).reverse.map (fun n => (n, 1)))], trigger := l } }
/-- A motor after the two measurements of a step: the state is as before, whatever was measured. -/
theorem mState_measured (st : Nat) {v w : Word} (h : mState (mot st []) (0 : Fin 4) = st := by decide +kernel) :
    mState (((mot st []).setReg (Reg.MTR_ST_VBUS (0 : Fin 4)).key v).setReg (Reg.MTR_ST_AUX (0 : Fin 4)).key w) (0 : Fin 4) = st := by
  have e : ∀ s : State, mState ((s.setReg (Reg.MTR_ST_VBUS (0 : Fin 4)).key v).setReg (Reg.MTR_ST_AUX (0 : Fin 4)).key w) (0 : Fin 4) =
      mState s (0 : Fin 4) := fun s => by
    simp only [mState, State.rd]
    rw [State.reg_setReg_other _ _ (by decide), State.reg_setReg_other _ _ (by decide)]
  rw [e, h]
/-- Its current limit and its current, both 0. -/
theorem limit_measured {v w : Word} :
    let s := ((mot mRunning []).setReg (Reg.MTR_ST_VBUS (0 : Fin 4)).key v).setReg (Reg.MTR_ST_AUX (0 : Fin 4)).key w
    fpLt (s.reg (Reg.MTR_CH_FP (0 : Fin 4) 9).key) (motOf s (0 : Fin 4)).imag = false := by
  have e : ∀ s : State, let t := (s.setReg (Reg.MTR_ST_VBUS (0 : Fin 4)).key v).setReg (Reg.MTR_ST_AUX (0 : Fin 4)).key w
      fpLt (t.reg (Reg.MTR_CH_FP (0 : Fin 4) 9).key) (motOf t (0 : Fin 4)).imag =
        fpLt (s.reg (Reg.MTR_CH_FP (0 : Fin 4) 9).key) (motOf s (0 : Fin 4)).imag := fun s => by
    dsimp only
    rw [State.reg_setReg_other _ _ (by decide), State.reg_setReg_other _ _ (by decide)]
    simp only [motOf, State.setReg_mov]
  exact (e _).trans (by decide +kernel)

/-! ### Well-formedness: every check refuses a term, and lets good ones through -/

theorem test_ill_formed_1 :
    Instr.wellFormed (.registerWrite (⟨0, 15⟩) 0 (⟨0, none⟩)) = false ∧
    Instr.wellFormed (.registerWrite (⟨1, 15⟩) 2 (⟨0, none⟩)) = false ∧
    Instr.wellFormed (.blockCommitGo (⟨0, 15⟩) 0 false) = false ∧
    Instr.wellFormed (.blockCommitGo (⟨1, 15⟩) 2 false) = false ∧
    Instr.wellFormed (.blockCommitDiscard (⟨0, 15⟩) 0) = false ∧
    Instr.wellFormed (.blockCommitDiscard (⟨1, 15⟩) 2) = false ∧
    Instr.wellFormed (.handOff [] [] ([1, 1])) = false ∧
    Instr.wellFormed (.sentinelCheck ([1, 1])) = false ∧
    Instr.wellFormed (.tikCommitArm (⟨0, 15⟩) 0x1) = false ∧
    Instr.wellFormed (.tikCommitArm (⟨1, 15⟩) 0) = false ∧
    Instr.wellFormed (.realignGo (⟨0, 15⟩) 0x100) = false ∧
    Instr.wellFormed (.realignGo (⟨1, 15⟩) 0) = false := by
  decide +kernel

theorem test_ill_formed_2 :
    Instr.wellFormed (.timeRead 0x106) = false ∧
    Instr.wellFormed (.servoUpdate (⟨0, 15⟩) 0) = false ∧
    Instr.wellFormed (.freqAdjWrite (⟨0, 15⟩) 0) = false ∧
    Instr.wellFormed (.phaseAdjWrite (⟨0, 15⟩) 0) = false ∧
    Instr.wellFormed (.todLoad (⟨0, 15⟩) 0) = false ∧
    Instr.wellFormed (.imgLoad (⟨0, 15⟩) 0x1) = false ∧
    Instr.wellFormed (.imgLoad (⟨1, 15⟩) 0x2) = false ∧
    Instr.wellFormed (.imgAbort (⟨0, 15⟩) 0x3) = false ∧
    Instr.wellFormed (.imgAbort (⟨1, 15⟩) 0x4) = false ∧
    Instr.wellFormed (.imgDeactivate (⟨0, 15⟩) 0x4) = false ∧
    Instr.wellFormed (.imgDeactivate (⟨1, 15⟩) 0x5) = false ∧
    Instr.wellFormed (.amdArm (⟨0, 15⟩) 0x1) = false := by
  decide +kernel

theorem test_ill_formed_3 :
    Instr.wellFormed (.amdArm (⟨1, 15⟩) 0x2) = false ∧
    Instr.wellFormed (.amdDisarm (⟨0, 15⟩) 0x2) = false ∧
    Instr.wellFormed (.amdDisarm (⟨1, 15⟩) 0x3) = false ∧
    Instr.wellFormed (.amdDiscard (⟨0, 15⟩) 0x3) = false ∧
    Instr.wellFormed (.amdDiscard (⟨1, 15⟩) 0x4) = false ∧
    Instr.wellFormed (.linkLostClear (⟨0, 15⟩) false 0) = false ∧
    Instr.wellFormed (.thrRetireCmd (⟨0, 15⟩) 0x1) = false ∧
    Instr.wellFormed (.thrRetireCmd (⟨1, 15⟩) 0x2) = false ∧
    Instr.wellFormed (.manTrig (⟨0, 15⟩) 0x2) = false ∧
    Instr.wellFormed (.manTrig (⟨1, 15⟩) 0) = false ∧
    Instr.wellFormed (.fdbFlushPort (⟨0, 15⟩) 0x1) = false ∧
    Instr.wellFormed (.fdbFlushPort (⟨1, 15⟩) 0x2) = false := by
  decide +kernel

theorem test_ill_formed_4 :
    Instr.wellFormed (.fdbFlushVlan (⟨0, 15⟩) 0x2) = false ∧
    Instr.wellFormed (.fdbFlushVlan (⟨1, 15⟩) 0x3) = false ∧
    Instr.wellFormed (.fdbFlushAll (⟨0, 15⟩) 0x3) = false ∧
    Instr.wellFormed (.fdbFlushAll (⟨1, 15⟩) 0x4) = false ∧
    Instr.wellFormed (.keyLoad (⟨0, 15⟩) 0x10000000) = false ∧
    Instr.wellFormed (.keyLoad (⟨1, 15⟩) 0x20000000) = false ∧
    Instr.wellFormed (.keyZeroise (⟨0, 15⟩) 0x20000000) = false ∧
    Instr.wellFormed (.keyZeroise (⟨1, 15⟩) 0x30000000) = false ∧
    Instr.wellFormed (.saRead (⟨0, 15⟩)) = false ∧
    Instr.wellFormed (.saWrite (⟨0, 15⟩)) = false ∧
    Instr.wellFormed (.queueEnable 0 0 0 0) = false ∧
    Instr.wellFormed (.queueDisable 0 0 0 0x80000000) = false := by
  decide +kernel

theorem test_ill_formed_5 :
    Instr.wellFormed (.recordRingEnable 0 0 0 0) = false ∧
    Instr.wellFormed (.quiesce (⟨0, 15⟩) 0 0x1) = false ∧
    Instr.wellFormed (.quiesce (⟨1, 15⟩) 0 0) = false ∧
    Instr.wellFormed (.quiesceResume (⟨0, 15⟩) 0 0) = false ∧
    Instr.wellFormed (.quiesceResume (⟨1, 15⟩) 0 0x1) = false ∧
    Instr.wellFormed (.safRestore (⟨0, 15⟩) 0x1) = false ∧
    Instr.wellFormed (.safRestore (⟨1, 15⟩) 0x2) = false ∧
    Instr.wellFormed (.enterL4 (⟨0, 15⟩) 0x2) = false ∧
    Instr.wellFormed (.enterL4 (⟨1, 15⟩) 0x3) = false ∧
    Instr.wellFormed (.safInject (⟨0, 15⟩) 0) = false ∧
    Instr.wellFormed (.heartbeat (⟨0, 15⟩) 0) = false ∧
    Instr.wellFormed (.gleanerPassComplete 0 ([1, 1])) = false := by
  decide +kernel

theorem test_ill_formed_6 :
    Instr.wellFormed (.bistComplete none false ([1, 1])) = false ∧
    Instr.wellFormed (.sramUncorr 0 ([1, 1])) = false ∧
    Instr.wellFormed (.mbxLockRead 0x106 0 false) = false ∧
    Instr.wellFormed (.mbxLockRelease (⟨0, 15⟩) 0 0 false) = false ∧
    Instr.wellFormed (.mbxMsgWrite (⟨0, 15⟩) 0 0 0 false) = false ∧
    Instr.wellFormed (.mbxSend (⟨0, 15⟩) 0 0x1 false) = false ∧
    Instr.wellFormed (.mbxSend (⟨1, 15⟩) 0 0 false) = false ∧
    Instr.wellFormed (.mbxAck (⟨0, 15⟩) 0 0 false) = false ∧
    Instr.wellFormed (.mbxPop 0x106 0 false) = false ∧
    Instr.wellFormed (.bindLock (⟨0, 15⟩) 0x1) = false ∧
    Instr.wellFormed (.bindLock (⟨1, 15⟩) 0) = false ∧
    Instr.wellFormed (.managerDoorbellWrite (⟨0, 15⟩) 0 0) = false := by
  decide +kernel

theorem test_ill_formed_7 :
    Instr.wellFormed (.bbxUnfreeze (⟨0, 15⟩) 0x1) = false ∧
    Instr.wellFormed (.bbxUnfreeze (⟨1, 15⟩) 0x2) = false ∧
    Instr.wellFormed (.bbxSnapshotCmd (⟨0, 15⟩) 0x2) = false ∧
    Instr.wellFormed (.bbxSnapshotCmd (⟨1, 15⟩) 0x3) = false ∧
    Instr.wellFormed (.bbxEraseSlot (⟨0, 15⟩) 0x3) = false ∧
    Instr.wellFormed (.bbxEraseSlot (⟨1, 15⟩) 0x4) = false ∧
    Instr.wellFormed (.bbxEntryRead 0x106 0) = false ∧
    Instr.wellFormed (.rstCmdWarm (⟨0, 15⟩) 0x1 0) = false ∧
    Instr.wellFormed (.rstCmdWarm (⟨1, 15⟩) 0x2 0) = false ∧
    Instr.wellFormed (.rstCmdDomain (⟨0, 15⟩) 0x2 0) = false ∧
    Instr.wellFormed (.rstCmdDomain (⟨1, 15⟩) 0x3 0) = false ∧
    Instr.wellFormed (.pwrOn (⟨0, 15⟩) 0x100) = false := by
  decide +kernel

theorem test_ill_formed_8 :
    Instr.wellFormed (.pwrOn (⟨1, 15⟩) 0x200) = false ∧
    Instr.wellFormed (.pwrOff (⟨0, 15⟩) 0x200) = false ∧
    Instr.wellFormed (.pwrOff (⟨1, 15⟩) 0x300) = false ∧
    Instr.wellFormed (.thmSample []) = false ∧
    Instr.wellFormed (.grnProgram (⟨0, 15⟩) 0x1) = false ∧
    Instr.wellFormed (.grnProgram (⟨1, 15⟩) 0x2) = false ∧
    Instr.wellFormed (.grnErase (⟨0, 15⟩) 0x2) = false ∧
    Instr.wellFormed (.grnErase (⟨1, 15⟩) 0x3) = false ∧
    Instr.wellFormed (.grnSuspend (⟨0, 15⟩) 0x3) = false ∧
    Instr.wellFormed (.grnSuspend (⟨1, 15⟩) 0x4) = false ∧
    Instr.wellFormed (.grnResume (⟨0, 15⟩) 0x4) = false ∧
    Instr.wellFormed (.grnResume (⟨1, 15⟩) 0x5) = false := by
  decide +kernel

theorem test_ill_formed_9 :
    Instr.wellFormed (.granaryRead 0x106 0 0) = false ∧
    Instr.wellFormed (.protWrite (⟨0, 15⟩) 0 false) = false ∧
    Instr.wellFormed (.scanDone 0 ([1, 1]) []) = false ∧
    Instr.wellFormed (.scanDone 0 [] ([1, 1])) = false ∧
    Instr.wellFormed (.fwTrial (⟨0, 15⟩) 0x1 0) = false ∧
    Instr.wellFormed (.fwTrial (⟨1, 15⟩) 0x2 0) = false ∧
    Instr.wellFormed (.fwCommit (⟨0, 15⟩) 0x2 0) = false ∧
    Instr.wellFormed (.fwCommit (⟨1, 15⟩) 0x3 0) = false ∧
    Instr.wellFormed (.failTrial (⟨0, 15⟩) 0x3 false) = false ∧
    Instr.wellFormed (.failTrial (⟨1, 15⟩) 0x4 false) = false ∧
    Instr.wellFormed (.imgSlotSelect (⟨0, 15⟩) 0x4 0) = false ∧
    Instr.wellFormed (.imgSlotSelect (⟨1, 15⟩) 0x5 0) = false := by
  decide +kernel

theorem test_ill_formed_10 :
    Instr.wellFormed (.mstpRxPop (⟨0, 15⟩) 0x1) = false ∧
    Instr.wellFormed (.mstpRxPop (⟨1, 15⟩) 0) = false ∧
    Instr.wellFormed (.mstpTxPush (⟨0, 15⟩) 0x1) = false ∧
    Instr.wellFormed (.mstpTxPush (⟨1, 15⟩) 0) = false ∧
    Instr.wellFormed (.mstpHeartbeat (⟨0, 15⟩) 0) = false ∧
    Instr.wellFormed (.fanKick (⟨0, 15⟩) 0 0) = false ∧
    Instr.wellFormed (.rpmUpdate []) = false ∧
    Instr.wellFormed (.fanFaultClear (⟨0, 15⟩) 0 0x80000000) = false ∧
    Instr.wellFormed (.fanFaultClear (⟨1, 15⟩) 0 0) = false ∧
    Instr.wellFormed (.motorSet (⟨0, 15⟩) 0 0) = false ∧
    Instr.wellFormed (.alignEnd 0 []) = false ∧
    Instr.wellFormed (.motorFaultClear (⟨0, 15⟩) 0 0x80000000 false) = false := by
  decide +kernel

theorem test_ill_formed_11 :
    Instr.wellFormed (.motorFaultClear (⟨1, 15⟩) 0 0 false) = false ∧
    Instr.wellFormed (.pnlEvtPop 0x106 0) = false ∧
    Instr.wellFormed (.pnlLock (⟨0, 15⟩) 0x4 0) = false ∧
    Instr.wellFormed (.pnlLock (⟨1, 15⟩) 0 0) = false ∧
    Instr.wellFormed (.pnlUnlock (⟨0, 15⟩) 0x2 0) = false ∧
    Instr.wellFormed (.pnlUnlock (⟨1, 15⟩) 0 0) = false ∧
    Instr.wellFormed (.flashRead (⟨0, 15⟩) 0x1) = false ∧
    Instr.wellFormed (.flashRead (⟨1, 15⟩) 0x2) = false ∧
    Instr.wellFormed (.flashProgram (⟨0, 15⟩) 0x2) = false ∧
    Instr.wellFormed (.flashProgram (⟨1, 15⟩) 0x3) = false ∧
    Instr.wellFormed (.flashErase4k (⟨0, 15⟩) 0x3) = false ∧
    Instr.wellFormed (.flashErase4k (⟨1, 15⟩) 0x4) = false := by
  decide +kernel

theorem test_ill_formed_12 :
    Instr.wellFormed (.flashErase64k (⟨0, 15⟩) 0x4) = false ∧
    Instr.wellFormed (.flashErase64k (⟨1, 15⟩) 0x5) = false ∧
    Instr.wellFormed (.spim1Go (⟨0, 15⟩) 0x80000000) = false ∧
    Instr.wellFormed (.spim1Go (⟨1, 15⟩) 0) = false ∧
    Instr.wellFormed (.spim1Done (List.replicate 257 0)) = false ∧
    Instr.wellFormed (.uartDataRead 0x106 0) = false ∧
    Instr.wellFormed (.uartDataWrite (⟨0, 15⟩) 0 0) = false ∧
    Instr.wellFormed (.i2cGo (⟨0, 15⟩) 0 0x80000000 false) = false ∧
    Instr.wellFormed (.i2cGo (⟨1, 15⟩) 0 0 false) = false ∧
    Instr.wellFormed (.slotDeadline .first 0 1 0 (some 1)) = false ∧
    Instr.wellFormed (.phaseCrossCheck .ptp .ptp 0) = false ∧
    Instr.wellFormed (.imgActivate (some (⟨0, 15⟩, 2)) ⟨[], 0⟩) = false := by
  decide +kernel

theorem test_ill_formed_13 :
    Instr.wellFormed (.imgActivate (some (⟨1, 15⟩, 3)) ⟨[], 0⟩) = false ∧
    Instr.wellFormed (.imgActivate none ⟨[1, 1], 0⟩) = false ∧
    Instr.wellFormed (.jesdDown 0) = false ∧
    Instr.wellFormed (.rdyTimeout ⟨0, List.replicate 257 0⟩) = false ∧
    Instr.wellFormed (.lowWordRead ⟨0, 15, false⟩ 0) = false ∧
    Instr.wellFormed (.lowWordRead ⟨1, 15, false⟩ 2) = false ∧
    Instr.wellFormed (.rcRead ⟨0, 15, false⟩ 0) = false ∧
    Instr.wellFormed (.rcRead ⟨1, 15, false⟩ 2) = false ∧
    Instr.wellFormed (.nsReady 0 0 0 0) = false ∧
    Instr.wellFormed (.txDescriptor 0 0 { td with addr := 2 ^ 64 }) = false ∧
    Instr.wellFormed (.txDescriptor 0 0 { td with len := 65536 }) = false ∧
    Instr.wellFormed (.rxDeliver 0 0 [⟨2 ^ 64, 0, false, none⟩]) = false := by
  decide +kernel

theorem test_ill_formed_14 :
    Instr.wellFormed (.sensorReadCycle [⟨0, 4096, 1⟩] []) = false ∧
    Instr.wellFormed (.loopRun 0 [⟨0, 4096, 1⟩]) = false ∧
    Instr.wellFormed (.spisRead 0 1 [1]) = false ∧
    Instr.wellFormed (.spisStatus 1 [1]) = false ∧
    Instr.wellFormed (.i2cComplete 0 ⟨false, false, 0, List.replicate 64 0, 0, false⟩) = false := by
  decide +kernel

theorem test_well_formed :
    Instr.wellFormed (.registerWrite pf 8 ⟨0, none⟩) = true ∧
    Instr.wellFormed (.lowWordRead ⟨1, 15, true⟩ 0x10010) = true ∧
    Instr.wellFormed (.imgLoad pf 1) = true ∧
    Instr.wellFormed (.bindLock mg 1) = true ∧
    Instr.wellFormed (.fanFaultClear pf 0 0x80000000) = true ∧
    Instr.wellFormed (.flashRead pf 1) = true ∧
    Instr.wellFormed (.tickEdge 0) = true := by
  decide +kernel

/-! ### Single steps, with results from the spec's rules and worked cases -/

/-- 4,800 ticks per second: a slot holds 651 cycles (the worked case of 00_scope.md). -/
theorem test_slot_cycles : slotCyc 4800 = 651 := by decide +kernel

/-- The check value of CRC-32C over the nine digits. -/
theorem test_crc32c_check : crc32c [0x31, 0x32, 0x33, 0x34, 0x35, 0x36, 0x37, 0x38, 0x39] = 0xE3069283 := by decide +kernel

/-- R12, R23: a W1C field clears the ones written and keeps the others. -/
theorem test_w1c_clears : ((writeField (State.reset.setReg 0x9999 0xF0) 0x9999 true 0x30 ⟨4, 4, .w1c, .live, 0, none⟩).1).reg 0x9999 = 0xC0 := by
  decide +kernel

/-- R16, R20: a class T write waits in the pending value until the commit. -/
theorem test_tick_latched :
    let s := (writeField State.reset 0x9999 true 0x30 ⟨4, 4, .rw, .tick, 0, none⟩).1
    s.reg 0x9999 = 0 ∧ (commitWhere s (· == 0x9999)).reg 0x9999 = 0x30 := by decide +kernel

/-- R41: a write with a byte enable missing is dropped and raises ACC_SIZE. -/
theorem test_narrow_write : ∃ t, exec (.bindLock ⟨0x100, 7⟩ 1) up = .next t ∧ t.rd Reg.MBX_BIND_LOCK_LOCK = 0 ∧
    t.events.map Event.code = [2] := ⟨_, rfl, by decide +kernel⟩

/-- R44: a write to a block whose domain is down is dropped and raises ISO_ERR. -/
theorem test_isolated_write : ∃ t, exec (.flashErase4k pf 0xC0DE0003) State.reset = .next t ∧ t.spm = State.reset.spm ∧
    t.events.map Event.code = [3] := ⟨_, rfl, by decide +kernel⟩

/-- R601: the first permitted reader of a free lock reads 0 and owns it. -/
theorem test_lock_taken : ∃ t, exec (.mbxLockRead 0x100 0 false) (mbx []) = .next t ∧ t.resp = some 0 ∧
    t.rd (Reg.MBX_LOCK_OWNER 0) = 0x100 := ⟨_, rfl, by decide +kernel⟩

/-- R601: a reader that is not a permitted sender gets bit 31 and raises CFG_VIOL. -/
theorem test_lock_refused : ∃ t, exec (.mbxLockRead 0x103 0 false) (mbx []) = .next t ∧ t.resp = some 0x80000000 ∧
    t.rd (Reg.MBX_LOCK_OWNER 0) = 0 ∧ t.events.map Event.code = [1] := ⟨_, rfl, by decide +kernel⟩

/-- R607: a SEND while FULL is 1 is ignored and sets ERR_SEND. -/
theorem test_send_while_full : ∃ t, exec (.mbxSend mg 0 1 false) (mbx [(Reg.MBX_LOCK_OWNER 0, 0x100), (Reg.MBX_STATUS_FULL 0, 1)]) = .next t ∧
    t.rd (Reg.MBX_STATUS_ERR_SEND 0) = 1 ∧ t.rd (Reg.MBX_STATUS_FULL 0) = 1 := ⟨_, rfl, by decide +kernel⟩

/-- R613: the manager sets DOWN bits and clears UP bits. -/
theorem test_manager_doorbell : ∃ t, exec (.managerDoorbellWrite mg 0 0x12) (on [(Reg.MBX_DB 0, 0x31)]) = .next t ∧
    t.rd (Reg.MBX_DB 0) = 0x23 := ⟨_, rfl, by decide +kernel⟩

/-- The chain of the worked case of R450: cell 0x1F40 of instance 3, generation 0x2A. -/
def held : State := { up with slo := { chains := [{ id := 1, cells := [0x1F40], acct := 3, prot := 0, holder := some 3 }], gen := [(0x1F40, 0x2A)] } }

/-- The worked case of R450: instance 5 fails at OWNER, and the owner's release lets cell 0x1F40 take generation 0x2B. -/
theorem test_handle_release : (match checkHandle held 5 0x06541F40 with | .inl r => r | .inr _ => 0) = 1 ∧
    cellGen (stateAfter held (execHandleRelease 3 15 0x06541F40 held)) 0x1F40 = 0x2B := by decide +kernel

/-- The worked case of R450: after the release a second write of the handle fails at GENERATION. -/
theorem test_handle_stale :
    (match checkHandle (stateAfter held (execHandleRelease 3 15 0x06541F40 held)) 3 0x06541F40 with | .inl r => r | .inr _ => 0) = 2 := by
  decide +kernel

/-- The worked case of R90: tick 7, with its edge at 0.3 s at 4,000 ticks per second, is to step by `d` ns. -/
def stretchTick (d : Int) : State :=
  { on [(Reg.TIK_CFG_RATE, 0), (Reg.TIK_INSEC, 1200), (Reg.TIK_COUNT_LO, 7)] with
    tik := { stepTick := some 7, ran := true }, tim := { now := 300000000 * 65536, phaseRem := d * 65536 } }

/-- The worked case of R90: a step of 37.2 µs makes a stretch tick of 462,800 ns and the next tick has TIK_INSEC 1,202; a step back 1,201. -/
theorem test_stretch_tick :
    (stretchStep (stretchTick 37200)).tik.next = some (0, 1202) ∧ (stretchStep (stretchTick (-37200))).tik.next = some (0, 1201) ∧
    (stretchStep (stretchTick 37200)).events.map Event.payload = [BitVec.ofNat 64 (37200 + 2 ^ 32 * 462800)] := by decide +kernel

/-- The worked case of R144: 9,999.65 ns at 16,609 s and more than 10,000 ns a second later. -/
theorem test_holdover_estimate : holdoverUnits 40 500 12 16609 / 20000 = 999965 ∧ 10000 * 2000000 < holdoverUnits 40 500 12 16610 := by
  decide +kernel

/-- The worked case of R502: a record of 766,112 bytes goes to unit 2 in six writes. -/
theorem test_record_writes :
    (beginShip { on [(Reg.REC_NS_NCFG_WRAP 0, 1), (Reg.REC_NS_START_LBA_LO 0, 4096), (Reg.REC_NS_LBA_COUNT_LO 0, 2621440),
        (Reg.REC_NS_NEXT_LO 0, 2621300)] with ns := [(0, { mdts := 131072, lba := 4096 })] } 0
      { rec0 with fileLen := 766112 }).1.outputs.map (fun o => match o with | .nvmeWrite _ u c _ => (u, c) | _ => (0, 0)) =
      [(162, 29), (130, 32), (98, 32), (66, 32), (34, 32), (2, 32)] := by decide +kernel

/-- The worked case of Table 05.2: the hold count is 192 at 4,800 ticks per second. -/
theorem test_hold_count : holdCount (on [(Reg.ACQ_RNG_CFG_HOLD_CYC, 2), (Reg.TIK_CFG_RATE, 1)]) = 192 := by decide +kernel

/-- R247, R257, R258: 64 ones at 20 MHz with GUARD 8 mark the 6.4 µs before the 64th as overloaded. -/
theorem test_overload_marked :
    let t := takeRun (on [(Reg.ACQ_IN_CFG_EN 0, 1), (Reg.ACQ_MCLK_FREQ 0, 2), (Reg.ACQ_RNG_CFG_GUARD, 8)])
      ⟨0, 1000000 * 65536, List.replicate 64 true⟩
    t.rd (Reg.ACQ_IN_STATUS_DENSITY 0) = 64 ∧
    (Tab.get {} t.acq.inputs 0).marks = [((1000000 + 63 * 50 - 6400) * 65536, (1000000 + 63 * 50) * 65536)] := by decide +kernel

/-- The worked case of R276: 400 of 1,200 of a 50 ns sample is 133 steps of 125 ps. -/
theorem test_front_time :
    frontTime ({ up with twc := { last := some 3276800, prev := some 0, index := 0 } }.wr Reg.TWC_SYSREF_CFG_PER_SMP 1) 1
      (List.replicate 8 100 ++ [700, 1900, 2100] ++ List.replicate 6 0) = some (400 + 133) := by decide +kernel

/-- The worked case of R699: 40 bytes from 0xC_10F0 wrap inside their page, and programming keeps old zeros. -/
theorem test_program_wraps :
    let cells := (List.range 40).map (fun i => (0xC1000 + (0xF0 + i) % 256, (0x5A : Byte)))
    ∃ t, exec (.programDone true false) { up with grn := { mem := [(0xC1000, 0x0F)], run := some (.program 1 0xC10F0 cells) } } = .next t ∧
      gByte t 0xC1000 = 0x0A ∧ gByte t 0xC1017 = 0x5A ∧ gByte t 0xC1018 = 0xFF ∧ t.rd Reg.GRN_WRAP_CNT = 1 := ⟨_, rfl, by decide +kernel⟩

/-- The worked case of R631: page 4 at view address 0x1200 is ring index 0x210. -/
theorem test_bmc_page : (pageIndex (on [(Reg.BBX_BMC_PAGE_PAGE, 4)]) 0x1200).val = 0x210 := by decide +kernel

/-- R852: the 65th byte finds the FIFO full, and OVERRUN counts it. -/
theorem test_uart_overrun : ∃ t, exec (.uartFrameReceive 0 uf) (ser [] { rx := List.replicate 64 0 }) = .next t ∧
    t.rd (Reg.UAR_OVERRUN 0) = 1 ∧ (uart t 0).rx.length = 64 := ⟨_, rfl, by decide +kernel⟩

/-- R856: the CRC-8 of the byte 1 is the polynomial 0x07. -/
theorem test_pec : pecOf [1] = 7 := by decide +kernel

/-- R617: a 65th waiting event is lost and counted, the queue stays at 64. -/
theorem test_queue_full :
    let t := raise { up with bbx := { queue := List.replicate 64 ev0 } } Blk.saf 0x0101 .safety 0
    t.bbx.queue.length = 64 ∧ t.rd Reg.BBX_LOST = 1 := by decide +kernel

/-- R583: entry to L4 de-energises every ALM output and withdraws HEALTHY. -/
theorem test_enter_l4 : ∃ t, exec (.enterL4 pf 0xC0DE0002) { up with saf := { alm := 0xFF, healthy := true } } = .next t ∧
    t.rd Reg.SAF_STATUS_LEVEL = 4 ∧ t.saf.alm = 0 ∧ t.saf.healthy = false := ⟨_, rfl, by decide +kernel⟩

/-- An access outside the initiator's address space faults. -/
theorem test_outside_bar : exec (.registerWrite pf 0x10000000 ⟨0, none⟩) up = .fault (.outsideBar 0x10000000) := rfl

/-- A step takes the command at the front, and the others wait on in order. -/
theorem test_step_takes_front : ∃ t, step { up with pending := [.bindLock mg 1, .finalVote] } = .next t ∧ t.pending = [.finalVote] :=
  ⟨_, rfl, rfl⟩

/-! ### Hypotheses that some state meets: the statements over several rules -/

theorem test_hyp_LockReadFollowsOwnerAndPermission :
    (∃ (i : Ident) (ch : Fin 64) (view : Bool) (s : State), ReachesChannel s i ch view ∧ i.toNat ≠ 0x104 ∧ permitted s ch i = true ∧
      s.rd (Reg.MBX_LOCK_OWNER ch) = 0) ∧
    (∃ (i : Ident) (ch : Fin 64) (view : Bool) (s : State), ReachesChannel s i ch view ∧ i.toNat ≠ 0x104 ∧ permitted s ch i = true ∧
      s.rd (Reg.MBX_LOCK_OWNER ch) ≠ 0) ∧
    (∃ (i : Ident) (ch : Fin 64) (view : Bool) (s : State), ReachesChannel s i ch view ∧ i.toNat ≠ 0x104 ∧ permitted s ch i = false) :=
  ⟨⟨0x100, 0, false, mbx [], by decide +kernel⟩, ⟨0x100, 0, false, mbx [(Reg.MBX_LOCK_OWNER 0, 1)], by decide +kernel⟩,
    ⟨0x103, 0, false, mbx [], by decide +kernel⟩⟩

theorem test_hyp_OnlyTheOwnerReleasesTheLock :
    (∃ (a : Access) (ch : Fin 64) (v : Word) (view : Bool) (s : State), ReachesChannel s a.init ch view ∧ a.be = 15 ∧
      s.rd (Reg.MBX_LOCK_OWNER ch) = a.init.toNat ∧ v.toNat = a.init.toNat) ∧
    (∃ (a : Access) (ch : Fin 64) (v : Word) (view : Bool) (s : State), ReachesChannel s a.init ch view ∧ a.be = 15 ∧
      ¬ (s.rd (Reg.MBX_LOCK_OWNER ch) = a.init.toNat ∧ v.toNat = a.init.toNat)) :=
  ⟨⟨mg, 0, 0x100, false, mbx [(Reg.MBX_LOCK_OWNER 0, 0x100)], by decide +kernel⟩, ⟨⟨0x103, 15⟩, 0, 1, false, mbx [], by decide +kernel⟩⟩

theorem test_hyp_OnlyTheOwnerWritesTheMessage :
    (∃ (a : Access) (ch : Fin 64) (view : Bool) (s : State), ReachesChannel s a.init ch view ∧ a.be = 15 ∧
      owns s ch a.init = true ∧ s.bit (Reg.MBX_STATUS_FULL ch) = false) ∧
    (∃ (a : Access) (ch : Fin 64) (view : Bool) (s : State), ReachesChannel s a.init ch view ∧ a.be = 15 ∧
      ¬ (owns s ch a.init = true ∧ s.bit (Reg.MBX_STATUS_FULL ch) = false)) :=
  ⟨⟨mg, 0, false, mbx [(Reg.MBX_LOCK_OWNER 0, 0x100)], by decide +kernel⟩, ⟨⟨0x103, 15⟩, 0, false, mbx [], by decide +kernel⟩⟩

theorem test_hyp_DoorbellBitsFollowTheirSide :
    (∃ (a : Access) (t : Fin 128) (s : State), Accepts s a 0xB00000 0 ∧ manages s a.init t = false) ∧
    (∃ (a : Access) (t : Fin 128) (s : State), Accepts s a 0xB00000 0 ∧ manages s a.init t = true) ∧
    (∃ (t : Fin 128) (be : BitVec 4) (s : State), AcceptsView s t be 0) :=
  ⟨⟨pf, 0, up, by decide +kernel⟩, ⟨mg, 0, up, by decide +kernel⟩, ⟨0, 15, up, by decide +kernel⟩⟩

theorem test_hyp_MailboxCommandsChangeTheirOwnStateOnly :
    ∃ (c : Instr) (s t : State), mailboxCommand c = true ∧ exec c s = .next t :=
  ⟨.mbxSend mg 0 1 false, mbx [(Reg.MBX_LOCK_OWNER 0, 0x100)], _, by decide +kernel, rfl⟩

theorem test_hyp_UartCommandsChangeTheirOwnStateOnly :
    ∃ (c : Instr) (s t : State), uartCommand c = true ∧ exec c s = .next t :=
  ⟨.uartFrameReceive 0 uf, ser [] {}, _, by decide +kernel, rfl⟩

theorem test_hyp_MailboxStepsKeepTheChannelsLegal : ∃ s t : State, s.MailboxInv ∧ step s = .next t :=
  ⟨{ mbx [(Reg.MBX_LOCK_OWNER 0, 0x100)] with pending := [.mbxSend mg 0 1 false, .mbxLockRead 1 0 false] }, _, by decide +kernel, rfl⟩

theorem test_hyp_UartStepsKeepTheFifosLegal : ∃ s t : State, s.UartInv ∧ step s = .next t :=
  ⟨{ setUart (on [(Reg.UAR_CFG_EN 0, 1)]) 0 { rx := [1] } with pending := [.uartFrameReceive 0 uf, .uartDataRead 1 0] }, _, by decide +kernel, rfl⟩

/-! ### Hypotheses that some state meets: the statements over the families -/

theorem test_hyp_StepRunsTheFrontCommand :
    (∃ (c : Instr) (rest : List Instr) (s : State), (s.pending = c :: rest)) :=
  ⟨.preloadComplete, [], { up with pending := [.preloadComplete] }, by decide +kernel⟩

theorem test_hyp_EmptyQueueIdles :
    (∃ s : State, (s.pending = [])) :=
  ⟨up, by decide +kernel⟩

theorem test_hyp_FieldReadsBackWhatIsWritten :
    (∃ (s : State) (f : Fld) (v : Nat), (f.lo + f.w ≤ 32)) ∧
    (∃ (s : State) (f : Fld) (v : Nat), (f.lo + f.w ≤ 32) ∧ (∃ g : Fld, ((g.key ≠ f.key ∨ g.lo + g.w ≤ f.lo ∨ f.lo + f.w ≤ g.lo)))) :=
  ⟨⟨up, Reg.TIK_CTRL_REALIGN_MODE, 3, by decide +kernel⟩,
    ⟨up, Reg.TIK_CTRL_REALIGN_MODE, 3, by decide, Reg.PWR_STATUS, by decide⟩⟩

theorem test_hyp_FieldsFollowTheirAccessCodeAndClass :
    (∃ (s : State) (k : Nat) (quiet : Bool) (v : Word) (f : FieldD), (f.lo + f.w ≤ 32) ∧ (let t := (writeField s k quiet v f); (let new := (fieldOf v f.lo f.w); (let old := (fieldOf (s.reg k) f.lo f.w); (let now := (fieldOf (t.1.reg k) f.lo f.w); ∃ i, (i < 32) ∧ ((i < f.lo ∨ f.lo + f.w ≤ i))))))) ∧
    (∃ (s : State) (k : Nat) (quiet : Bool) (v : Word) (f : FieldD), (f.lo + f.w ≤ 32) ∧ (let t := (writeField s k quiet v f); (let new := (fieldOf v f.lo f.w); (let old := (fieldOf (s.reg k) f.lo f.w); (let now := (fieldOf (t.1.reg k) f.lo f.w); ∃ l, (l ≠ k)))))) ∧
    (∃ (s : State) (k : Nat) (quiet : Bool) (v : Word) (f : FieldD), (f.lo + f.w ≤ 32) ∧ (let t := (writeField s k quiet v f); (let new := (fieldOf v f.lo f.w); (let old := (fieldOf (s.reg k) f.lo f.w); (let now := (fieldOf (t.1.reg k) f.lo f.w); (f.cls = .live) ∧ (f.acc = .rw)))))) ∧
    (∃ (s : State) (k : Nat) (quiet : Bool) (v : Word) (f : FieldD), (f.lo + f.w ≤ 32) ∧ (let t := (writeField s k quiet v f); (let new := (fieldOf v f.lo f.w); (let old := (fieldOf (s.reg k) f.lo f.w); (let now := (fieldOf (t.1.reg k) f.lo f.w); (f.cls = .live) ∧ (f.acc = .w1c)))))) ∧
    (∃ (s : State) (k : Nat) (quiet : Bool) (v : Word) (f : FieldD), (f.lo + f.w ≤ 32) ∧ (let t := (writeField s k quiet v f); (let new := (fieldOf v f.lo f.w); (let old := (fieldOf (s.reg k) f.lo f.w); (let now := (fieldOf (t.1.reg k) f.lo f.w); (f.cls = .live) ∧ (f.acc = .w1s)))))) ∧
    (∃ (s : State) (k : Nat) (quiet : Bool) (v : Word) (f : FieldD), (f.lo + f.w ≤ 32) ∧ (let t := (writeField s k quiet v f); (let new := (fieldOf v f.lo f.w); (let old := (fieldOf (s.reg k) f.lo f.w); (let now := (fieldOf (t.1.reg k) f.lo f.w); (f.cls = .live) ∧ ((f.acc = .ro ∨ f.acc = .wo ∨ f.acc = .rc))))))) ∧
    (∃ (s : State) (k : Nat) (quiet : Bool) (v : Word) (f : FieldD), (f.lo + f.w ≤ 32) ∧ (let t := (writeField s k quiet v f); (let new := (fieldOf v f.lo f.w); (let old := (fieldOf (s.reg k) f.lo f.w); (let now := (fieldOf (t.1.reg k) f.lo f.w); ((f.cls = .tick ∨ f.cls = .tickSafe))))))) ∧
    (∃ (s : State) (k : Nat) (quiet : Bool) (v : Word) (f : FieldD), (f.lo + f.w ≤ 32) ∧ (let t := (writeField s k quiet v f); (let new := (fieldOf v f.lo f.w); (let old := (fieldOf (s.reg k) f.lo f.w); (let now := (fieldOf (t.1.reg k) f.lo f.w); (f.cls = .quiet) ∧ (f.acc = .rw) ∧ (quiet = true)))))) ∧
    (∃ (s : State) (k : Nat) (quiet : Bool) (v : Word) (f : FieldD), (f.lo + f.w ≤ 32) ∧ (let t := (writeField s k quiet v f); (let new := (fieldOf v f.lo f.w); (let old := (fieldOf (s.reg k) f.lo f.w); (let now := (fieldOf (t.1.reg k) f.lo f.w); (f.cls = .quiet) ∧ (f.acc = .rw) ∧ (quiet = false)))))) ∧
    (∃ (s : State) (k : Nat) (quiet : Bool) (v : Word) (f : FieldD), (f.lo + f.w ≤ 32) ∧ (let t := (writeField s k quiet v f); (let new := (fieldOf v f.lo f.w); (let old := (fieldOf (s.reg k) f.lo f.w); (let now := (fieldOf (t.1.reg k) f.lo f.w); (f.cls = .struc)))))) :=
  ⟨⟨up, 8, false, 1, ⟨31, 1, .rw, .live, 0, none⟩, by decide, 30, by decide, by decide⟩,
    ⟨up, 8, false, 1, ⟨31, 1, .rw, .live, 0, none⟩, by decide, 30, by decide⟩,
    ⟨up, 8, false, 1, ⟨31, 1, .rw, .live, 0, none⟩, by (try dsimp only); decide +kernel⟩,
    ⟨up, 8, false, 1, ⟨0, 32, .w1c, .live, 0, none⟩, by (try dsimp only); decide +kernel⟩,
    ⟨up, 8, false, 1, ⟨0, 32, .w1s, .live, 0, none⟩, by (try dsimp only); decide +kernel⟩,
    ⟨up, 8, false, 1, ⟨0, 32, .ro, .live, 0, none⟩, by (try dsimp only); decide +kernel⟩,
    ⟨up, 8, false, 1, ⟨0, 32, .rw, .tick, 0, none⟩, by (try dsimp only); decide +kernel⟩,
    ⟨up, 8, true, 1, ⟨0, 32, .rw, .quiet, 0, none⟩, by (try dsimp only); decide +kernel⟩,
    ⟨up, 8, false, 1, ⟨0, 32, .rw, .quiet, 0, none⟩, by (try dsimp only); decide +kernel⟩,
    ⟨up, 8, false, 1, ⟨0, 32, .rw, .struc, 0, none⟩, by (try dsimp only); decide +kernel⟩⟩

theorem test_hyp_CommitMovesPendingToActive :
    (∃ (s : State) (sel : Nat → Bool), (Tab.wf (fun _ => ({} : Pend)) s.pend)) :=
  ⟨up, fun _ => true, by decide⟩

theorem test_hyp_DiscardDropsOnlyTheBlocksPendingValues :
    (∃ (s : State) (page : Nat), (afterSlot504 s = false) ∧ (Tab.wf (fun _ => ({} : Pend)) s.pend)) :=
  ⟨up, 0x10000, by decide +kernel, by decide +kernel⟩

theorem test_hyp_GateRefusesByCause :
    (∃ (s : State) (a : Access) (base block pd addr : Nat) (k : State → State), (let t := (withWrite s a base block pd addr k); (debugShut s a.init = true))) ∧
    (∃ (s : State) (a : Access) (base block pd addr : Nat) (k : State → State), (let t := (withWrite s a base block pd addr k); (debugShut s a.init = false) ∧ (blockUp s base pd = false))) ∧
    (∃ (s : State) (a : Access) (base block pd addr : Nat) (k : State → State), (let t := (withWrite s a base block pd addr k); (debugShut s a.init = false) ∧ (blockUp s base pd = true) ∧ (a.be ≠ 15))) ∧
    (∃ (s : State) (a : Access) (base block pd addr : Nat) (k : State → State), (let t := (withWrite s a base block pd addr k); (Accepts s a base pd))) ∧
    (∃ (s : State) (a : Access) (base block pd addr : Nat) (k : State → State), (let t := (withWrite s a base block pd addr k); (¬ Accepts s a base pd) ∧ (∃ l, (l ≠ Reg.BBX_FROZEN_DROP.key) ∧ (l ≠ Reg.BBX_STATUS_MISSED_SAFETY.key) ∧ (l ≠ Reg.BBX_LOST.key)))) :=
  ⟨⟨up, dbg, 0, Blk.glb, 0, 8, id, by (try dsimp only); decide +kernel⟩,
    ⟨State.reset, pf, 0x10000, Blk.tik, 2, 0x10004, id, by (try dsimp only); decide +kernel⟩,
    ⟨up, ⟨1, 14⟩, 0x10000, Blk.tik, 2, 0x10004, id, by (try dsimp only); decide +kernel⟩,
    ⟨up, pf, 0x10000, Blk.tik, 2, 0x10004, id, by (try dsimp only); decide +kernel⟩,
    ⟨up, dbg, 0, Blk.glb, 0, 8, id, by decide +kernel, 8, by decide +kernel⟩⟩

theorem test_hyp_AccessCommandsComplete :
    (∃ (a : Access) (addr p : Nat) (v : Word) (s : State), (reach a.init addr = some p)) ∧
    (∃ (a : Access) (addr p : Nat) (v h : Word) (s : State), (reach a.init addr = some p) ∧ (wideOk p = true)) ∧
    (∃ (a : Access) (addr : Nat) (v : WData) (s : State), (reach a.init addr = none)) ∧
    (∃ (a : Access) (v : Word) (s : State), (reach a.init 8 = some 8) ∧ (Accepts s a 0 0)) ∧
    (∃ (r : RAccess) (addr p : Nat) (s : State), (reach r.init addr = some p) ∧ (r.wide = false)) ∧
    (∃ (r : RAccess) (addr p : Nat) (s : State), (reach r.init addr = some p) ∧ (r.wide = true) ∧ (wideOk p = true)) ∧
    (∃ (r : RAccess) (addr : Nat) (s : State), (reach r.init addr = none)) ∧
    (∃ (i : Ident) (s : State), (reach i 0x10010 = some 0x10010) ∧ (debugShut s i = false) ∧ (blockUp s 0x10000 2 = true)) ∧
    (∃ (i : Ident) (s : State) (w : Word) (ws : List Word), (reach i 0xA6000C = some 0xA6000C) ∧ (debugShut s i = false) ∧ (domainUp s 20 = true) ∧ (ownsUart s 0 i = true) ∧ ((uart s 0).rx = w :: ws)) ∧
    (∃ (a : Access) (s : State) (b : BlockD), (b ∈ blocks) ∧ (hasCommit b = true) ∧ (b.base ≠ 0x4000000) ∧ (reach a.init b.base = some b.base) ∧ (Accepts s a b.base b.pd)) ∧
    (∃ (t : Fin 128) (a : Access) (s : State), (reach a.init (0x4000000 + t.val * 0x40000) = some (0x4000000 + t.val * 0x40000)) ∧ (AcceptsView s t.val a.be 13)) :=
  ⟨⟨pf, 0x3FFFFFC, 0x3FFFFFC, 0, up, by decide +kernel⟩,
    ⟨pf, 0x10010, 0x10010, 0, 0, up, by decide +kernel, by decide +kernel⟩,
    ⟨⟨2, 15⟩, 0x3FFFFFC, ⟨0, none⟩, up, by decide +kernel⟩,
    ⟨pf, 0x12345678, up, by decide +kernel, by decide +kernel⟩,
    ⟨⟨1, 15, false⟩, 8, 8, up, by decide +kernel, by decide +kernel⟩,
    ⟨⟨1, 15, true⟩, 0x10010, 0x10010, up, by decide +kernel, by decide +kernel, by decide +kernel⟩,
    ⟨⟨2, 15, false⟩, 8, up, by decide +kernel⟩,
    ⟨1, up, by decide +kernel, by decide +kernel, by decide +kernel⟩,
    ⟨1, setUart up 0 { rx := [65, 66] }, 65, [66], by decide +kernel, by decide +kernel, by decide +kernel, by decide +kernel, by decide +kernel⟩,
    ⟨pf, up, blocks[2], by decide +kernel, by decide +kernel, by decide +kernel, by decide +kernel, by decide +kernel⟩,
    ⟨127, ⟨128, 15⟩, up, by decide +kernel, by decide +kernel⟩⟩

theorem test_hyp_TickPhasesComplete :
    (∃ (n : Nat) (s : State), (domainUp s 2 = true) ∧ ((s.tik.starts || phaseOpen s (· == 508)) = true)) ∧
    (∃ s : State, (phaseOpen s (fun j => decide (j < 496)) = true)) ∧
    (∃ (fa : List (Fin 80 × Bool)) (fs : List (Fin 1024 × Fin 80 × Bool)) (na : List (Fin 7)) (s : State), (phaseOpen s (· == 496) = true)) ∧
    (∃ s : State, (phaseOpen s (· == 500) = true)) ∧
    (∃ (wrong : List (Fin 9)) (s : State), (phaseOpen s (· == 504) = true)) ∧
    (∃ (a : Access) (v : Word) (s : State), (Accepts s a 0x10000 2)) :=
  ⟨⟨0, on [(Reg.TIK_STATUS_STATE, 1), (Reg.TIK_STATUS_SLOT, 508)], by decide +kernel, by decide +kernel⟩,
    ⟨on [(Reg.TIK_STATUS_STATE, 1), (Reg.TIK_STATUS_SLOT, 495)], by decide +kernel⟩,
    ⟨[], [], [], on [(Reg.TIK_STATUS_STATE, 1), (Reg.TIK_STATUS_SLOT, 496)], by decide +kernel⟩,
    ⟨on [(Reg.TIK_STATUS_STATE, 1), (Reg.TIK_STATUS_SLOT, 500)], by decide +kernel⟩,
    ⟨[], on [(Reg.TIK_STATUS_STATE, 1), (Reg.TIK_STATUS_SLOT, 504)], by decide +kernel⟩,
    ⟨pf, 1, up, by decide +kernel⟩⟩

theorem test_hyp_TickCountRisesByOne :
    (∃ s : State, (s.tik.ran = true) ∧ (s.tick + 1 < 2 ^ 64)) ∧
    (∃ s : State, (s.tik.ran = true) ∧ (s.tick + 1 = 2 ^ 64)) ∧
    (∃ s : State, (s.tik.ran = false)) :=
  ⟨⟨{ up with tik := { up.tik with ran := true } }, by decide +kernel, by decide +kernel⟩,
    ⟨{ on [(Reg.TIK_COUNT_LO, 0xFFFFFFFF), (Reg.TIK_COUNT_HI, 0xFFFFFFFF)] with tik := { up.tik with ran := true } }, by decide +kernel, by decide +kernel⟩,
    ⟨up, by decide +kernel⟩⟩

theorem test_hyp_ArmedCommitIsDueInItsTick :
    (∃ s : State, (let k := (s.rd64 Reg.TIK_COMMIT_AT_LO Reg.TIK_COMMIT_AT_HI); (s.tick < k))) ∧
    (∃ s : State, (let k := (s.rd64 Reg.TIK_COMMIT_AT_LO Reg.TIK_COMMIT_AT_HI); (k ≤ s.tick))) :=
  ⟨⟨on [(Reg.TIK_COMMIT_AT_LO, 1)], by (try dsimp only); decide +kernel⟩,
    ⟨up, by (try dsimp only); decide +kernel⟩⟩

theorem test_hyp_TimeReadsAndStampsComplete :
    (∃ (i : Ident) (s : State), (domainUp s 2 = true)) ∧
    (∃ (rising : Bool) (stamp w : Nat) (s : State), (domainUp s 2 = true) ∧ (rising = (!s.bit Reg.TIM_PPS_CFG_IN_INV)) ∧ (100 ≤ w) ∧ (absNat ((tdc stamp : Int) - (ppsExpected s (tdc stamp) * secUnits : Nat)) ≤ s.rd Reg.TIM_PPS_CFG_WIN * 65536)) ∧
    (∃ (rising : Bool) (stamp w : Nat) (s : State), (domainUp s 2 = true) ∧ (rising = (!s.bit Reg.TIM_PPS_CFG_IN_INV)) ∧ (100 ≤ w) ∧ (s.rd Reg.TIM_PPS_CFG_WIN * 65536 < absNat ((tdc stamp : Int) - (ppsExpected s (tdc stamp) * secUnits : Nat)))) ∧
    (∃ (stamp : Nat) (s : State), (domainUp s 2 = true) ∧ (ppsAllowed (secondPassed s) = true)) ∧
    (∃ (stamp : Nat) (s : State), (domainUp s 2 = true) ∧ (ppsAllowed (secondPassed s) = false)) ∧
    (∃ (stamp : Nat) (s : State), (domainUp s 2 = true)) ∧
    (∃ (a : Access) (v : Word) (s : State), (Accepts s a 0x20000 2)) ∧
    (∃ (p : Fin 8) (tx : Bool) (stamp : Nat) (s : State), (domainUp s 2 = true)) ∧
    (∃ (p : Fin 6) (k : Fin 5) (s : State), (domainUp s 2 = true) ∧ (s.bit (Reg.TIM_PORT_PCFG_EN p) = true) ∧ (ptpSends s k.val = true) ∧ (overLimit s = false) ∧ (k.val < 3)) ∧
    (∃ (p : Fin 6) (k : Fin 5) (s : State), (domainUp s 2 = true) ∧ (s.bit (Reg.TIM_PORT_PCFG_EN p) = true) ∧ (ptpSends s k.val = true) ∧ (overLimit s = false) ∧ (3 ≤ k.val)) :=
  ⟨⟨1, up, by decide +kernel⟩,
    ⟨true, 0, 100, up, by decide +kernel, by decide +kernel, by decide +kernel, by decide +kernel⟩,
    ⟨true, 32768000000000, 100, up, by decide +kernel, by decide +kernel, by decide +kernel, by decide +kernel⟩,
    ⟨0, on [(Reg.TIM_PPS_CFG_OUT_MODE, 1), (Reg.TIM_STATUS_QUALITY, 0)], by decide +kernel, by decide +kernel⟩,
    ⟨0, on [(Reg.TIM_PPS_CFG_OUT_MODE, 0)], by decide +kernel, by decide +kernel⟩,
    ⟨0, up, by decide +kernel⟩,
    ⟨pf, 1, up, by decide +kernel⟩,
    ⟨0, true, 0, up, by decide +kernel⟩,
    ⟨0, 0, on [(Reg.TIM_PORT_PCFG_EN 0, 1), (Reg.TIM_PTP_CFG_ROLE, 1)], by decide +kernel, by decide +kernel, by decide +kernel, by decide +kernel, by decide +kernel⟩,
    ⟨0, 3, on [(Reg.TIM_PORT_PCFG_EN 0, 1), (Reg.TIM_PTP_CFG_ROLE, 1)], by decide +kernel, by decide +kernel, by decide +kernel, by decide +kernel, by decide +kernel⟩⟩

theorem test_hyp_SourceCommandsComplete :
    (∃ (x : Source) (since now : Nat) (s : State), (domainUp s 2 = true) ∧ ((srcOf s.tim x).valid = true) ∧ (since + s.rd Reg.TIM_SRC_PRIO_QUAL_TIME * secUnits ≤ now)) ∧
    (∃ s : State, (s.tim.revertPending = true) ∧ (s.bit Reg.TIM_SRC_PRIO_REVERT = true) ∧ (firstQualified s ≠ 0)) ∧
    (∃ (x : Source) (r : LossReason) (s : State), (lossCondition s x r = true) ∧ ((srcOf s.tim x).valid = true)) ∧
    (∃ (x y : Source) (d : Int) (s : State), ((srcOf s.tim x).valid = true) ∧ ((srcOf s.tim y).valid = true) ∧ (let k := (srcCode x * 4 + srcCode y); (let n := (Tab.get 0 s.tim.disagree k + 1); (absNat d ≤ s.rd Reg.TIM_XCHK_THR)))) ∧
    (∃ (x y : Source) (d : Int) (s : State), ((srcOf s.tim x).valid = true) ∧ ((srcOf s.tim y).valid = true) ∧ (let k := (srcCode x * 4 + srcCode y); (let n := (Tab.get 0 s.tim.disagree k + 1); (s.rd Reg.TIM_XCHK_THR < absNat d) ∧ (n < 10)))) ∧
    (∃ (x y : Source) (d : Int) (s : State), ((srcOf s.tim x).valid = true) ∧ ((srcOf s.tim y).valid = true) ∧ (let k := (srcCode x * 4 + srcCode y); (let n := (Tab.get 0 s.tim.disagree k + 1); (s.rd Reg.TIM_XCHK_THR < absNat d) ∧ (10 ≤ n)))) ∧
    (∃ (a : Access) (v : Word) (s : State), (Accepts s a 0x20000 2) ∧ (s.tim.servoLost = false) ∧ (s.rd Reg.TIM_STATUS_ACTIVE_SRC = 1)) ∧
    (∃ (a : Access) (v : Word) (s : State), (Accepts s a 0x20000 2) ∧ (s.tim.servoLost = false) ∧ (s.rd Reg.TIM_STATUS_ACTIVE_SRC ≠ 1)) ∧
    (∃ (ms : Nat) (s : State), (s.rd Reg.TIM_STATUS_ACTIVE_SRC = 1) ∧ (s.rd Reg.TIM_SERVO_CFG_WDT ≠ 0)) ∧
    (∃ (f : IrigFrame) (s : State), (domainUp s 2 = true) ∧ (irigValid s f = true) ∧ (loopOn s .irig = false) ∧ (irigTq s f ≤ s.rd Reg.TIM_IRIG_CFG_TQ_MAX)) ∧
    (∃ (f : IrigFrame) (s : State), (domainUp s 2 = true) ∧ (irigValid s f = false) ∧ (s.tim.irigBad = 0)) :=
  ⟨⟨.ptp, 0, 2 ^ 64, { up with tim := { ptp := ⟨true, false⟩ } }, by decide +kernel, by decide +kernel, by decide +kernel⟩,
    ⟨{ on [(Reg.TIM_SRC_PRIO_REVERT, 1), (Reg.TIM_SRC_PRIO_PRIO0, 1), (Reg.TIM_CTRL_SERVO_EN, 1)] with tim := { revertPending := true, ptp := ⟨true, true⟩ } }, by decide +kernel, by decide +kernel, by decide +kernel⟩,
    ⟨.irig, .invalidFrames, { on [(Reg.TIM_STATUS_ACTIVE_SRC, 2)] with tim := { irig := ⟨true, true⟩ } }, by decide +kernel, by decide +kernel⟩,
    ⟨.ptp, .pps, 0, { up with tim := { ptp := ⟨true, true⟩, pps := ⟨true, true⟩ } }, by (try dsimp only); decide +kernel⟩,
    ⟨.ptp, .pps, 1000000, { up with tim := { ptp := ⟨true, true⟩, pps := ⟨true, true⟩ } }, by (try dsimp only); decide +kernel⟩,
    ⟨.ptp, .pps, 1000000, { up with tim := { ptp := ⟨true, true⟩, pps := ⟨true, true⟩, disagree := [(srcCode .ptp * 4 + srcCode .pps, 9)] } }, by (try dsimp only); decide +kernel⟩,
    ⟨pf, 5, on [(Reg.TIM_STATUS_ACTIVE_SRC, 1)], by decide +kernel, by decide +kernel, by decide +kernel⟩,
    ⟨pf, 5, up, by decide +kernel, by decide +kernel, by decide +kernel⟩,
    ⟨0, on [(Reg.TIM_STATUS_ACTIVE_SRC, 1), (Reg.TIM_SERVO_CFG_WDT, 1)], by decide +kernel, by decide +kernel⟩,
    ⟨frame0, up, by decide +kernel, by decide +kernel, by decide +kernel, by decide +kernel⟩,
    ⟨{ frame0 with widths := [] }, up, by decide +kernel, by decide +kernel, by decide +kernel⟩⟩

theorem test_hyp_TimeScaleCommandsComplete :
    (∃ (a : Access) (v : Word) (s : State), (Accepts s a 0x20000 2)) ∧
    (∃ (a : Access) (v : Word) (s : State), (Accepts s a 0x10000 2) ∧ (fieldOf v 8 1 = 1) ∧ (s.bit Reg.TIK_STATUS_REALIGN_PEND = true)) ∧
    (∃ s : State, (s.bit Reg.TIK_STATUS_REALIGN_PEND = true) ∧ (absNat s.tim.phaseRem < stepThr s * 65536)) ∧
    (∃ s : State, (s.rd Reg.TIM_STATUS_QUALITY = 1)) ∧
    (∃ s : State, ((s.bit Reg.TIM_UTC_OFS_LEAP61 || s.bit Reg.TIM_UTC_OFS_LEAP59) = true)) ∧
    (∃ s : State, (domainUp s 2 = true) ∧ (s.bit Reg.TIM_STATUS_BACKUP = false)) ∧
    (∃ (b : Bool) (s : State), (domainUp s 2 = true) ∧ (s.bit Reg.TIM_STATUS_BACKUP = true)) ∧
    (∃ s : State, (domainUp s 2 = true) ∧ (s.bit Reg.TIM_STATUS_BACKUP = true)) :=
  ⟨⟨pf, 1, up, by decide +kernel⟩,
    ⟨pf, 0x100, on [(Reg.TIK_STATUS_REALIGN_PEND, 1)], by decide +kernel, by decide +kernel, by decide +kernel⟩,
    ⟨on [(Reg.TIK_STATUS_REALIGN_PEND, 1)], by decide +kernel, by decide +kernel⟩,
    ⟨on [(Reg.TIM_STATUS_QUALITY, 1)], by decide +kernel⟩,
    ⟨on [(Reg.TIM_UTC_OFS_LEAP59, 1)], by decide +kernel⟩,
    ⟨on [(Reg.TIM_STATUS_BACKUP, 0)], by decide +kernel, by decide +kernel⟩,
    ⟨true, on [(Reg.TIM_STATUS_BACKUP, 1)], by decide +kernel, by decide +kernel⟩,
    ⟨on [(Reg.TIM_STATUS_BACKUP, 1)], by decide +kernel, by decide +kernel⟩⟩

theorem test_hyp_ImageLoadCommandsComplete :
    (∃ (a : Access) (v : Word) (s : State), (Accepts s a 0x40000 18) ∧ (s.bit Reg.IMG_STATUS_BUSY = false) ∧ (s.rd Reg.IMG_AMD_STATUS_ASTATE ≠ amdArmed)) ∧
    (∃ s : State, (s.img.autoWait = true) ∧ (s.rst.imgReset = false) ∧ (domainUp s 18 = true)) ∧
    (∃ (data : List Byte) (us : Nat) (l : LoadRec) (s : State), (s.img.load = some l) ∧ (imgState s = imgFetch) ∧ (s.spm.fetchWait = false) ∧ (let at_ := (if l.src = 0 then s.rd Reg.IMG_FLASH_A else s.rd Reg.IMG_FLASH_B); (let get := (fun n => if l.src < 2 then flashBytes s at_ n else padTo n data); (let u := (if l.src < 2 then fetchEnd s else s); (let d := ((dropAmend u).wr Reg.IMG_AMD_STATUS_ASTATE amdLoading); (hdrFailures (get 256) (fieldOf (u.reg 4) 0 16) (if l.src < 2 then none else some (u.rd Reg.IMG_HOST_LEN)) = []) ∧ (isAmend (hdrOf (get 256)) = false) ∧ (imageLive u = false)))))) ∧
    (∃ (data : List Byte) (us : Nat) (l : LoadRec) (s : State), (s.img.load = some l) ∧ (imgState s = imgFetch) ∧ (s.spm.fetchWait = false) ∧ (let at_ := (if l.src = 0 then s.rd Reg.IMG_FLASH_A else s.rd Reg.IMG_FLASH_B); (let get := (fun n => if l.src < 2 then flashBytes s at_ n else padTo n data); (let u := (if l.src < 2 then fetchEnd s else s); (let d := ((dropAmend u).wr Reg.IMG_AMD_STATUS_ASTATE amdLoading); (hdrFailures (get 256) (fieldOf (u.reg 4) 0 16) (if l.src < 2 then none else some (u.rd Reg.IMG_HOST_LEN)) = []) ∧ (isAmend (hdrOf (get 256)) = true) ∧ ((hdrOf (get 256)).total ≤ 0x800000 - amdBase d)))))) ∧
    (∃ (us : Nat) (l : LoadRec) (s : State), (s.img.load = some l) ∧ (imgState s = imgVerify)) ∧
    (∃ (us : Nat) (l : LoadRec) (s : State), (s.img.load = some l) ∧ (imgState s = imgGuard)) ∧
    (∃ (a : Access) (v : Word) (l : LoadRec) (s : State), (Accepts s a 0x40000 18) ∧ (s.img.load = some l)) :=
  ⟨⟨pf, 1, up, by decide +kernel, by decide +kernel, by decide +kernel⟩,
    ⟨{ img (fun x => { x with autoWait := true }) up with rst := { up.rst with imgReset := false } }, by decide +kernel, by decide +kernel, by decide +kernel⟩,
    ⟨hdr false, 0, host, loading imgFetch, by (try dsimp only); decide +kernel⟩,
    ⟨hdr true, 0, host, loading imgFetch, by (try dsimp only); decide +kernel⟩,
    ⟨4, host, loading imgVerify, by decide +kernel, by decide +kernel⟩,
    ⟨4, host, loading imgGuard, by decide +kernel, by decide +kernel⟩,
    ⟨pf, 3, host, loading imgFetch, by decide +kernel, by decide +kernel⟩⟩

theorem test_hyp_ImageStateCommandsComplete :
    (∃ (a : Access) (v : Word) (failed : List (Fin 80)) (since : Nat) (s : State), (Accepts s a 0x40000 18) ∧ (Keyed v) ∧ (imgState s = imgReady)) ∧
    (∃ (failed : List (Fin 80)) (since : Nat) (s : State), (s.img.actWait = true) ∧ (imgState s = imgReady)) ∧
    (∃ (a : Access) (v : Word) (s : State), (Accepts s a 0x40000 18) ∧ (Keyed v) ∧ (imgState s = imgActive) ∧ (s.img.deact = none)) ∧
    (∃ (ofs : Fin 8388608) (s : State), (s.rst.imgReset = false) ∧ (s.img.load = none) ∧ (imageLive s = true)) ∧
    (∃ s : State, (amdWaiting s = true)) ∧
    (∃ (a : Access) (v : Word) (x : Amend) (s : State), (Accepts s a 0x40000 18) ∧ (Keyed v) ∧ (s.img.amd = some x) ∧ (s.rd Reg.IMG_AMD_STATUS_ASTATE = amdStaged) ∧ (s.tick + s.rd Reg.IMG_AMD_LEAD_TICKS + 2 ≤ amdAt s) ∧ ((s.bit Reg.IMG_AMD_STATUS_P_CHANGE = true → bitAt v.toNat 4 = true))) ∧
    (∃ (a : Access) (v : Word) (s : State), (Accepts s a 0x40000 18) ∧ (s.rd Reg.IMG_AMD_STATUS_ASTATE = amdArmed) ∧ ((s.tick < s.img.armAt ∨ (s.tick = s.img.armAt ∧ afterSlot504 s = false)))) ∧
    (∃ (a : Access) (v : Word) (s : State), (Accepts s a 0x40000 18) ∧ ((s.rd Reg.IMG_AMD_STATUS_ASTATE = amdStaged ∨ s.rd Reg.IMG_AMD_STATUS_ASTATE = amdRefused ∨
      s.rd Reg.IMG_AMD_STATUS_ASTATE = amdApplied))) :=
  ⟨⟨pf, key + 2, [], 0, on [(Reg.IMG_STATUS_STATE, imgReady)], by decide +kernel, by decide +kernel, by decide +kernel⟩,
    ⟨[], 0, img (fun x => { x with actWait := true }) (on [(Reg.IMG_STATUS_STATE, imgReady)]), by decide +kernel, by decide +kernel⟩,
    ⟨pf, key + 4, on [(Reg.IMG_STATUS_STATE, imgActive)], by decide +kernel, by decide +kernel, by decide +kernel, by decide +kernel⟩,
    ⟨0, { img (fun x => { x with sched := some sch }) up with rst := { up.rst with imgReset := false } }, by decide +kernel, by decide +kernel, by decide +kernel⟩,
    ⟨on [(Reg.IMG_AMD_STATUS_ASTATE, amdStaged)], by decide +kernel⟩,
    ⟨pf, key + 1, ⟨2, sch, [], none, none⟩, img (fun x => { x with amd := some ⟨2, sch, [], none, none⟩ }) (on [(Reg.IMG_AMD_STATUS_ASTATE, amdStaged), (Reg.IMG_AMD_AT_LO, 2)]), by decide +kernel, by decide +kernel, by decide +kernel, by decide +kernel, by decide +kernel, by decide +kernel⟩,
    ⟨pf, 2, on [(Reg.IMG_AMD_STATUS_ASTATE, amdArmed)], by decide +kernel, by decide +kernel, by decide +kernel⟩,
    ⟨pf, 3, on [(Reg.IMG_AMD_STATUS_ASTATE, amdApplied)], by decide +kernel, by decide +kernel⟩⟩

theorem test_hyp_AcquisitionCommandsComplete :
    (∃ (c : Fin 256) (x : Sample) (s : State), (domainUp s 3 = true) ∧ (let u := (x.runs.foldl takeRun s); (let v := (setChan u c { chanOf u c with given := some (inputTick u) }); (channelOn u c = true) ∧ ((chanOf u c).given ≠ some (inputTick u)) ∧ (u.rd (Reg.ACQ_CHAN_CFG_SRC c) = 1)))) ∧
    (∃ (c : Fin 256) (x : Sample) (s : State), (domainUp s 3 = true) ∧ (let u := (x.runs.foldl takeRun s); (let v := (setChan u c { chanOf u c with given := some (inputTick u) }); (channelOn u c = true) ∧ ((chanOf u c).given ≠ some (inputTick u)) ∧ (u.rd (Reg.ACQ_CHAN_CFG_SRC c) = 2)))) ∧
    (∃ (c : Fin 256) (x : Sample) (s : State), (domainUp s 3 = true) ∧ (let u := (x.runs.foldl takeRun s); (let v := (setChan u c { chanOf u c with given := some (inputTick u) }); (channelOn u c = true) ∧ ((chanOf u c).given ≠ some (inputTick u)) ∧ (u.rd (Reg.ACQ_CHAN_CFG_SRC c) = 3)))) ∧
    (∃ (i : Fin 48) (s : State), (domainUp s 3 = true) ∧ (inputOn s i = true) ∧ (s.bit (Reg.ACQ_IN_STATUS_RETIRED i) = false)) ∧
    (∃ (a : Access) (high : Bool) (v : Word) (s : State), (Accepts s a 0x80000 3)) ∧
    (∃ (i : Fin 48) (s : State), (domainUp s 3 = true) ∧ (i.val ∈ s.acq.returning)) ∧
    (∃ (f : SvFrame) (n : Nat) (s : State), (domainUp s 3 = true) ∧ ((List.range 64).filter (frameOf s f) = [n]) ∧ (f.asdus.length = svPerFrame (s.rd (Reg.ACQ_SV_CFG_KIND n)))) ∧
    (∃ (f : SvFrame) (n : Nat) (s : State), (domainUp s 3 = true) ∧ ((List.range 64).filter (frameOf s f) = [n]) ∧ (f.asdus.length ≠ svPerFrame (s.rd (Reg.ACQ_SV_CFG_KIND n)))) ∧
    (∃ (n : Fin 64) (b : Bool) (s : State), (domainUp s 3 = true) ∧ (s.bit (Reg.ACQ_SV_CFG_EN n) = true) ∧ (s.rd (Reg.ACQ_SV_STATUS_STATE n) = 1) ∧ (s.rd (Reg.ACQ_SV_CFG_HOLD n) + 1 ≤ (if b then (streamOf s n).badRun else (streamOf s n).missRun))) ∧
    (∃ (n : Fin 64) (s : State), (domainUp s 3 = true) ∧ (s.bit (Reg.ACQ_SV_CFG_EN n) = true) ∧ (8 ≤ (streamOf s n).goodRun) ∧ (s.rd (Reg.ACQ_SV_STATUS_STATE n) = 2)) ∧
    (∃ (n : Fin 64) (s : State), (domainUp s 3 = true) ∧ (s.bit (Reg.ACQ_SV_CFG_EN n) = true) ∧ (8 ≤ (streamOf s n).goodRun) ∧ (s.rd (Reg.ACQ_SV_STATUS_STATE n) = 0)) :=
  ⟨⟨0, smp, on [(Reg.ACQ_CHAN_CFG_SRC 0, 1), (Reg.ACQ_IN_CFG_EN 0, 1)], by (try dsimp only); decide +kernel⟩,
    ⟨0, smp, on [(Reg.ACQ_CHAN_CFG_SRC 0, 2), (Reg.ACQ_IN_CFG_EN 0, 1)], by (try dsimp only); decide +kernel⟩,
    ⟨0, smp, on [(Reg.ACQ_CHAN_CFG_SRC 0, 3), (Reg.ACQ_SV_CFG_EN 0, 1)], by (try dsimp only); decide +kernel⟩,
    ⟨0, on [(Reg.ACQ_IN_CFG_EN 0, 1)], by decide +kernel, by decide +kernel, by decide +kernel⟩,
    ⟨pf, true, 0x8001, up, by decide +kernel⟩,
    ⟨0, { up with acq := { returning := [0] } }, by decide +kernel, by decide +kernel⟩,
    ⟨sv0 1, 0, on [(Reg.ACQ_SV_CFG_EN 0, 1), (Reg.ACQ_SV_SVID_CRC 0, crc32c [])], by decide +kernel, by decide +kernel, by decide +kernel⟩,
    ⟨sv0 2, 0, on [(Reg.ACQ_SV_CFG_EN 0, 1), (Reg.ACQ_SV_SVID_CRC 0, crc32c [])], by decide +kernel, by decide +kernel, by decide +kernel⟩,
    ⟨0, true, { on [(Reg.ACQ_SV_CFG_EN 0, 1), (Reg.ACQ_SV_STATUS_STATE 0, 1)] with acq := { stream := [(0, { badRun := 300 })] } }, by decide +kernel, by decide +kernel, by decide +kernel, by decide +kernel⟩,
    ⟨0, { on [(Reg.ACQ_SV_CFG_EN 0, 1), (Reg.ACQ_SV_STATUS_STATE 0, 2)] with acq := { stream := [(0, { goodRun := 8 })] } }, by decide +kernel, by decide +kernel, by decide +kernel, by decide +kernel⟩,
    ⟨0, { on [(Reg.ACQ_SV_CFG_EN 0, 1), (Reg.ACQ_SV_STATUS_STATE 0, 0)] with acq := { stream := [(0, { goodRun := 8 })] } }, by decide +kernel, by decide +kernel, by decide +kernel, by decide +kernel⟩⟩

theorem test_hyp_TravellingWaveCommandsComplete :
    (∃ (l : Fin 4) (s : State), (domainUp s 4 = true) ∧ (s.rd Reg.TWC_STATUS_LINK ≠ 0) ∧ (l.val % 2 ^ jesdLanes s ≠ 0)) ∧
    (∃ (x : LinkStep) (n : Nat) (s : State), (domainUp s 4 = true) ∧ (linkNext s x = some n) ∧ (n ≠ 4)) ∧
    (∃ (x : LinkStep) (n : Nat) (s : State), (domainUp s 4 = true) ∧ (linkNext s x = some n) ∧ (n = 4)) ∧
    (∃ (a n : Nat) (s : State), (domainUp s 4 = true) ∧ (s.rd Reg.TWC_STATUS_LINK = 4)) ∧
    (∃ (stamp ix l p : Nat) (xs : List (Fin 12 × List (BitVec 14))) (s : State), (domainUp s 4 = true) ∧ (s.twc.last = some l) ∧ (s.twc.prev = some p) ∧ (let c := (xs.foldl (fun s x => capture s x.1 (ix + 1 - x.2.length) x.2) s); (let dev := (sysrefDev s l p (tdc stamp) ix); (let u := ((keepSysref c (tdc stamp) ix).wrInt Reg.TWC_SYSREF_DEV dev); (u.rd Reg.TWC_SYSREF_TOL_PS < absNat dev))))) ∧
    (∃ (stamp ix l p : Nat) (xs : List (Fin 12 × List (BitVec 14))) (s : State), (domainUp s 4 = true) ∧ (s.twc.last = some l) ∧ (s.twc.prev = some p) ∧ (let c := (xs.foldl (fun s x => capture s x.1 (ix + 1 - x.2.length) x.2) s); (let dev := (sysrefDev s l p (tdc stamp) ix); (let u := ((keepSysref c (tdc stamp) ix).wrInt Reg.TWC_SYSREF_DEV dev); (absNat dev ≤ u.rd Reg.TWC_SYSREF_TOL_PS) ∧ (u.twc.good = 0))))) ∧
    (∃ s : State, (domainUp s 4 = true)) ∧
    (∃ (ch : Fin 12) (i : Nat) (xs : List (BitVec 14)) (x : BitVec 14) (s : State), (let u := (capture s ch (i - xs.length) (xs ++ [x])); ∃ a b : Int, (sampleAt u ch (i - 1) = some a) ∧ (sampleAt u ch i = some b) ∧ (searched u ch = true) ∧ (1 ≤ i) ∧ (u.rd (Reg.TWC_CH_CFG_THR ch) ≤ absNat (b - a)) ∧ (Tab.get 0 u.twc.dead ch ≤ i))) ∧
    (∃ (ch : Fin 12) (xs : List (BitVec 14)) (i : Nat) (ys : List Int) (s : State), (Tab.get none s.twc.trigger ch = some i) ∧ (domainUp s 4 = true) ∧ (s.rd Reg.TWC_STATUS_LINK = 4) ∧ (frontSamples (capture s ch (i + 1) xs) ch i = some ys) ∧ (s.twc.queue.length < 1024)) :=
  ⟨⟨1, on [(Reg.TWC_STATUS_LINK, 4), (Reg.TWC_JESD_CFG_L2, 1)], by decide +kernel, by decide +kernel, by decide +kernel⟩,
    ⟨.blockLock [64], 1, up, by decide +kernel, by decide +kernel, by decide +kernel⟩,
    ⟨.data true, 4, on [(Reg.TWC_STATUS_LINK, 3)], by decide +kernel, by decide +kernel, by decide +kernel⟩,
    ⟨0, 16, on [(Reg.TWC_STATUS_LINK, 4)], by decide +kernel, by decide +kernel⟩,
    ⟨400000000, 0, 100000000, 0, [], { up with twc := { last := some 100000000, prev := some 0 } }, by (try dsimp only); decide +kernel⟩,
    ⟨200, 0, 100, 0, [], { on [(Reg.TWC_SYSREF_TOL_PS, 1000000)] with twc := { last := some 100, prev := some 0 } }, by (try dsimp only); decide +kernel⟩,
    ⟨up, by decide +kernel⟩,
    ⟨0, 41, [0], 100, tw [], by dsimp only; exact ⟨0, 100, by decide +kernel, by decide +kernel, by decide +kernel, by decide +kernel, by decide +kernel, by decide +kernel⟩⟩,
    ⟨0, List.replicate 17 1, 16, List.replicate 17 1, tw [(0, some 16)], by decide +kernel, by decide +kernel, by decide +kernel, by decide +kernel, by decide +kernel⟩⟩

theorem test_hyp_PoolCommandsComplete :
    (∃ (n : Fin 1024) (ra rb : Option RunOut) (it : ItemE) (s : State), (itemOf s n = some it) ∧ (let u := (reachCyc s (it.compare * slotCyc s.rate)); (let r := (runOf u n); (let a := (memA u n); (let b := (memB u n); (let xa := (injected u n a 1 true (runResult u it a a ra)); (let xb := (injected u n b 2 true (runResult u it b b rb)); (itemRuns u it = true) ∧ (r.phase = .open) ∧ (u.thr.broken.contains it.item = false) ∧ (∃ x y, (working u a = true) ∧ (working u b = true) ∧ (r.missA = false) ∧ (r.missB = false) ∧ (xa = some x) ∧ (xb = some y) ∧ (agrees x y = true))))))))) ∧
    (∃ (n : Fin 1024) (ra rb : Option RunOut) (it : ItemE) (s : State), (itemOf s n = some it) ∧ (let u := (reachCyc s (it.compare * slotCyc s.rate)); (let r := (runOf u n); (let a := (memA u n); (let b := (memB u n); (let xa := (injected u n a 1 true (runResult u it a a ra)); (let xb := (injected u n b 2 true (runResult u it b b rb)); (itemRuns u it = true) ∧ (r.phase = .open) ∧ (u.thr.broken.contains it.item = false) ∧ (∃ x y, (working u a = true) ∧ (working u b = true) ∧ (r.missA = false) ∧ (r.missB = false) ∧ (xa = some x) ∧ (xb = some y) ∧ (agrees x y = false))))))))) ∧
    (∃ (n : Fin 1024) (ra rb : Option RunOut) (it : ItemE) (s : State), (itemOf s n = some it) ∧ (let u := (reachCyc s (it.compare * slotCyc s.rate)); (let r := (runOf u n); (let a := (memA u n); (let b := (memB u n); (let xa := (injected u n a 1 true (runResult u it a a ra)); (let xb := (injected u n b 2 true (runResult u it b b rb)); (itemRuns u it = true) ∧ (r.phase = .open) ∧ (u.thr.broken.contains it.item = false) ∧ (∃ x, (working u a = true) ∧ (working u b = false) ∧ (r.missA = false) ∧ (xa = some x))))))))) ∧
    (∃ (n : Fin 1024) (ra rb : Option RunOut) (cyc : Nat) (it : ItemE) (s : State), (itemOf s n = some it) ∧ (let u := (reachCyc s cyc); (let r := (runOf u n); (let a := (memA u n); (let b := (memB u n); ∃ x y, (r.phase = .retrying) ∧ (r.startA.isSome = true) ∧ (r.startB.isSome = true) ∧ (r.retryMissA = false) ∧ (r.retryMissB = false) ∧ (injected u n a 1 false (runResult u it a a ra) = some x) ∧ (injected u n b 2 false (runResult u it b b rb) = some y)))))) ∧
    (∃ (cyc : Nat) (it : ItemE) (s : State) (x y : Res), ((runOf s it.item).retryA = some x) ∧ ((runOf s it.item).retryB = some y) ∧ (agrees x y = true)) ∧
    (∃ (cyc : Nat) (it : ItemE) (s : State) (x y : Res), ((runOf s it.item).retryA = some x) ∧ ((runOf s it.item).retryB = some y) ∧ (agrees x y = false)) ∧
    (∃ (n : Fin 1024) (ro : Option RunOut) (bad : Bool) (cyc sp : Nat) (it : ItemE) (x : Res) (s : State), (itemOf s n = some it) ∧ (let u := ((reachCyc s cyc).wr (Reg.THR_CORE_CSTATE_BUSY sp) (chosen (reachCyc s cyc) sp).toNat); ((runOf (reachCyc s cyc) n).phase = .arbitrating sp) ∧ (injected u n sp 4 false (runResult u it sp (if bad then memB (reachCyc s cyc) n else memA (reachCyc s cyc) n) ro) = some x))) ∧
    (∃ (n : Fin 1024) (c : Fin 80) (slot : Fin 512) (it : ItemE) (s : State), (itemOf s n = some it) ∧ (let u := (reachCyc s (slot * slotCyc s.rate)); (itemRuns u it = true) ∧ ((runOf u n).phase = .open) ∧ (missedOf u n c none = [c.val]))) ∧
    (∃ (n : Fin 1024) (c : Fin 80) (slot : Fin 512) (it : ItemE) (s : State), (itemOf s n = some it) ∧ (let u := (reachCyc s (slot * slotCyc s.rate)); (itemRuns u it = true) ∧ ((runOf u n).phase = .retrying) ∧ (missedOf u n c none = [c.val]) ∧ ((if memA u n = c then (runOf u n).startA.isSome && !(runOf u n).retryMissA else (runOf u n).startB.isSome && !(runOf u n).retryMissB) = true))) ∧
    (∃ (n : Fin 1024) (c : Fin 80) (slot : Fin 512) (it : ItemE) (s : State), (itemOf s n = some it) ∧ (let u := (reachCyc s (slot * slotCyc s.rate)); (itemRuns u it = true) ∧ ((runOf u n).phase = .arbitrating c))) ∧
    (∃ (a : Access) (v : Word) (s : State), (Accepts s a 0x100000 18) ∧ (fieldOf v 0 4 = 1) ∧ (Keyed v) ∧ ((s.rd Reg.TIK_STATUS_STATE ≠ 0 ∧ s.rd Reg.TIK_STATUS_SLOT < 496))) ∧
    (∃ (a : Access) (v : Word) (s : State), (Accepts s a 0x100000 18) ∧ (fieldOf v 0 4 = 1) ∧ (Keyed v) ∧ (¬ (s.rd Reg.TIK_STATUS_STATE ≠ 0 ∧ s.rd Reg.TIK_STATUS_SLOT < 496))) ∧
    (∃ (c : Fin 80) (k : Bool) (s : State), (domainUp s 18 = true) ∧ (inService s c = true)) :=
  ⟨⟨0, some (.wrong res0), some (.wrong res0), it0, pooled {} (on cores), by dsimp only; exact ⟨by decide +kernel, by decide +kernel, by decide +kernel, by decide +kernel, res0, res0, by decide +kernel, by decide +kernel, by decide +kernel, by decide +kernel, by decide +kernel, by decide +kernel, by decide +kernel⟩⟩,
    ⟨0, some (.wrong res0), some (.wrong { res0 with state := [1] }), it0, pooled {} (on cores), by dsimp only; exact ⟨by decide +kernel, by decide +kernel, by decide +kernel, by decide +kernel, res0, { res0 with state := [1] }, by decide +kernel, by decide +kernel, by decide +kernel, by decide +kernel, by decide +kernel, by decide +kernel, by decide +kernel⟩⟩,
    ⟨0, some (.wrong res0), none, it0, pooled {} (on [(Reg.THR_CORE_CSTATE_ROLE 0, 1), (Reg.THR_ITEM_ISTATUS_CORE_B 0, 1)]), by dsimp only; exact ⟨by decide +kernel, by decide +kernel, by decide +kernel, by decide +kernel, res0, by decide +kernel, by decide +kernel, by decide +kernel, by decide +kernel⟩⟩,
    ⟨0, some (.wrong res0), some (.wrong res0), 0, it0, pooled { phase := .retrying, startA := some 0, startB := some 0 } (on cores), by dsimp only; exact ⟨by decide +kernel, res0, res0, by decide +kernel, by decide +kernel, by decide +kernel, by decide +kernel, by decide +kernel, by decide +kernel, by decide +kernel⟩⟩,
    ⟨0, it0, pooled { phase := .retrying, retryA := some res0, retryB := some res0 } (on cores), res0, res0, by decide +kernel, by decide +kernel, by decide +kernel⟩,
    ⟨0, it0, pooled { phase := .retrying, retryA := some res0, retryB := some { res0 with state := [1] } } (on cores), res0, { res0 with state := [1] }, by decide +kernel, by decide +kernel, by decide +kernel⟩,
    ⟨0, some (.wrong res0), false, 0, 2, it0, res0, pooled { phase := .arbitrating 2 } (on cores), by (try dsimp only); decide +kernel⟩,
    ⟨0, 0, 100, it0, pooled {} (on cores), by (try dsimp only); decide +kernel⟩,
    ⟨0, 0, 100, it0, pooled { phase := .retrying, startA := some 0, startB := some 0 } (on cores), by (try dsimp only); decide +kernel⟩,
    ⟨0, 2, 100, it0, pooled { phase := .arbitrating 2 } (on cores), by (try dsimp only); decide +kernel⟩,
    ⟨pf, key + 1, on [(Reg.THR_CORE_CSTATE_ROLE 0, 1), (Reg.TIK_STATUS_STATE, 1), (Reg.TIK_STATUS_SLOT, 495)], by decide +kernel, by decide +kernel, by decide +kernel, by decide +kernel⟩,
    ⟨pf, key + 1, on [(Reg.THR_CORE_CSTATE_ROLE 0, 1), (Reg.TIK_STATUS_STATE, 1), (Reg.TIK_STATUS_SLOT, 496)], by decide +kernel, by decide +kernel, by decide +kernel, by decide +kernel⟩,
    ⟨0, true, on cores, by decide +kernel, by decide +kernel⟩⟩

theorem test_hyp_ProductCommandsComplete :
    (∃ (g : Fin 128) (slot : Fin 512) (l : List (Word × Nat)) (s : State), (pktRuns s = true) ∧ (s.thr.idle = false) ∧ (s.bit (Reg.MPR_GOOSE_CFG_EN g) = true) ∧ ((gdsOf s g).last = some l) ∧ ((∀ p, (gdsOf s g).rtx = some p → p.1 ≠ s.tick)) ∧ (windowPorts s g slot ≠ 0) ∧ ((gdsOf s g).due ≤ s.tick) ∧ ((gdsOf s g).sent ≠ some s.tick)) ∧
    (∃ (a : Access) (v : Word) (s : State), (Accepts s a 0x200000 10) ∧ (s.mpr.armed = true)) ∧
    (∃ (r : DrRec) (s : State), (s.mpr.record = some r) ∧ (recordEnd s r ≤ recordTick s)) ∧
    (∃ (l : Fin 4) (x : FlocOpen) (s : State), (Tab.get none s.mpr.floc l = some x) ∧ (let seq := (x.front.map Prod.snd); (let d := (flocValue s (s.rd (Reg.MPR_FLOC_ITEMS_DA_D_ITEM l)) seq true); (let a := (flocValue s (s.rd (Reg.MPR_FLOC_ITEMS_DA_A_ITEM l)) seq true); (let z := (flocValue s (s.rd (Reg.MPR_FLOC_ITEM_Z_Z_ITEM l)) seq false); ∃ v, (d = some v)))))) ∧
    (∃ (l : Fin 4) (x : FlocOpen) (s : State), (Tab.get none s.mpr.floc l = some x) ∧ (let seq := (x.front.map Prod.snd); (let d := (flocValue s (s.rd (Reg.MPR_FLOC_ITEMS_DA_D_ITEM l)) seq true); (let a := (flocValue s (s.rd (Reg.MPR_FLOC_ITEMS_DA_A_ITEM l)) seq true); (let z := (flocValue s (s.rd (Reg.MPR_FLOC_ITEM_Z_Z_ITEM l)) seq false); ∃ v, (d = none) ∧ (a = some v)))))) ∧
    (∃ (l : Fin 4) (x : FlocOpen) (s : State), (Tab.get none s.mpr.floc l = some x) ∧ (let seq := (x.front.map Prod.snd); (let d := (flocValue s (s.rd (Reg.MPR_FLOC_ITEMS_DA_D_ITEM l)) seq true); (let a := (flocValue s (s.rd (Reg.MPR_FLOC_ITEMS_DA_A_ITEM l)) seq true); (let z := (flocValue s (s.rd (Reg.MPR_FLOC_ITEM_Z_Z_ITEM l)) seq false); ∃ v, (d = none) ∧ (a = none) ∧ (z = some v)))))) ∧
    (∃ (l : Fin 4) (x : FlocOpen) (s : State), (Tab.get none s.mpr.floc l = some x) ∧ (let seq := (x.front.map Prod.snd); (let d := (flocValue s (s.rd (Reg.MPR_FLOC_ITEMS_DA_D_ITEM l)) seq true); (let a := (flocValue s (s.rd (Reg.MPR_FLOC_ITEMS_DA_A_ITEM l)) seq true); (let z := (flocValue s (s.rd (Reg.MPR_FLOC_ITEM_Z_Z_ITEM l)) seq false); (d = none) ∧ (a = none) ∧ (z = none) ∧ (x.start + msTicks s (s.rd (Reg.MPR_FLOC_ITEM_Z_WINDOW_MS l)) ≤ s.tick)))))) :=
  ⟨⟨0, 0, [], { pooled {} (on [(Reg.PKT_STATUS_STATE, 1), (Reg.MPR_GOOSE_CFG_EN 0, 1), (Reg.MPR_GOOSE_CFG_PORTS 0, 1)]) with mpr := { goose := [(0, { last := some [] })] }, img := { sched := some { sch with slots := [gslot] } } }, by decide +kernel, by decide +kernel, by decide +kernel, by decide +kernel, by intro p h; exact absurd h (by decide +revert +kernel), by decide +kernel, by decide +kernel, by decide +kernel⟩,
    ⟨pf, 2, { up with mpr := { armed := true } }, by decide +kernel, by decide +kernel⟩,
    ⟨rec0, { on [(Reg.MPR_DR_CFG_POST_MS, 0)] with mpr := { record := some rec0 } }, by decide +kernel, by decide +kernel⟩,
    ⟨0, { start := 0 }, flo 0 0 0, by dsimp only; exact ⟨by decide +kernel, (0, 0, 0), by decide +kernel⟩⟩,
    ⟨0, { start := 0 }, flo 1 0 0, by dsimp only; exact ⟨by decide +kernel, (0, 0, 0), by decide +kernel, by decide +kernel⟩⟩,
    ⟨0, { start := 0 }, flo 1 1 0, by dsimp only; exact ⟨by decide +kernel, (0, 0, 0), by decide +kernel, by decide +kernel, by decide +kernel⟩⟩,
    ⟨0, { start := 0 }, (flo 1 1 1).wr (Reg.MPR_FLOC_ITEM_Z_WINDOW_MS 0) 0, by (try dsimp only); decide +kernel⟩⟩

theorem test_hyp_RingCommandsComplete :
    (∃ (c : Coll) (s : State), ((mrgState s = mrgRunning ∨ mrgState s = mrgForwarding)) ∧ (s.rd Reg.TIK_STATUS_SLOT = 500) ∧ (s.mrg.slot501 ≠ some s.tick) ∧ (let u := (elect (endWraps (startWraps { s with mrg := { s.mrg with slot501 := some s.tick } }))); (mrgState u = mrgRunning) ∧ (u.bit Reg.MRG_STATUS_MASTER = true) ∧ (u.mrg.colls.find? (fun c => c.tick == u.tick) = some c))) ∧
    (∃ (l : Fin 2) (f : SweepFrame) (s : State), ((mrgState s = mrgRunning ∨ mrgState s = mrgForwarding)) ∧ (linkUp s l = true) ∧ (f.hcrcOk = false) ∧ (f.resent = false) ∧ ((f.west, f.sec, f.insec) ∉ (linkOf s l).nak)) ∧
    (∃ (l : Fin 2) (f : SweepFrame) (s : State), ((mrgState s = mrgRunning ∨ mrgState s = mrgForwarding)) ∧ (linkUp s l = true) ∧ (f.hcrcOk = true) ∧ (f.ringId = s.rd Reg.MRG_CFG_RING_ID) ∧ (isMember s f.master = true) ∧ (f.resent = false) ∧ (f.contribs.all Contrib.crcOk = true) ∧ (let u := ({ s with mrg := { s.mrg with masters := (s.tick, f.master.val) :: s.mrg.masters } }); (let w := (f.contribs.foldl (fun s c => takeContrib s f c) u); (f.master.val ≤ u.rd Reg.MRG_STATUS_MASTER_ID) ∧ (f.master.val ≠ ownId w)))) ∧
    (∃ (l : Fin 2) (stamp : Nat) (s : State), (mrgState s ≠ mrgStopped) ∧ ((linkOf s l).locked = true)) ∧
    (∃ (l : Fin 2) (f : TimingFrame) (stamp : Nat) (s : State), (mrgState s ≠ mrgStopped) ∧ ((linkOf s l).locked = true) ∧ (f.crcOk = true) ∧ (miswired s l f = false) ∧ ((linkOf s l).got = none) ∧ (f.unwrap = false)) ∧
    (∃ (l : Fin 2) (f : SweepFrame) (s : State), (mrgState s ≠ mrgStopped) ∧ ((linkOf s l).last = some f) ∧ (linkUp s l = true) ∧ (f.resent = false)) ∧
    (∃ (l : Fin 2) (s : State), (domainUp s 9 = true) ∧ ((linkOf s l).locked = true) ∧ (let nbr := (if (linkOf s l).got.isSome then some (s.rd (Reg.MRG_LINK_LSTATUS_NBR_ID l)) else none); (let u := (setLink (s.inc (Reg.MRG_LINK_LOSS_CNT l)) l { linkOf s l with locked := false, held := false, run := 0, got := none }); (s.rd (Reg.MRG_LINK_LSTATUS_STATE l) = 0)))) ∧
    (∃ (l : Fin 2) (s : State), (domainUp s 9 = true) ∧ ((linkOf s l).locked = true) ∧ (let nbr := (if (linkOf s l).got.isSome then some (s.rd (Reg.MRG_LINK_LSTATUS_NBR_ID l)) else none); (let u := (setLink (s.inc (Reg.MRG_LINK_LOSS_CNT l)) l { linkOf s l with locked := false, held := false, run := 0, got := none }); (s.rd (Reg.MRG_LINK_LSTATUS_STATE l) = 1)))) ∧
    (∃ (l : Fin 2) (s : State), (domainUp s 9 = true) ∧ ((linkOf s l).locked = true) ∧ (let nbr := (if (linkOf s l).got.isSome then some (s.rd (Reg.MRG_LINK_LSTATUS_NBR_ID l)) else none); (let u := (setLink (s.inc (Reg.MRG_LINK_LOSS_CNT l)) l { linkOf s l with locked := false, held := false, run := 0, got := none }); (2 ≤ s.rd (Reg.MRG_LINK_LSTATUS_STATE l))))) ∧
    (∃ (l : Fin 2) (s : State), (s.rd (Reg.MRG_LINK_LSTATUS_STATE l) = 0) ∧ (mrgState s ≠ mrgStopped)) :=
  ⟨⟨⟨0, 0, 0, con0, [], [], false⟩, { ring [(Reg.MRG_CTRL_MASTER_OK, 1), (Reg.TIK_STATUS_SLOT, 500)] with mrg := { colls := [⟨0, 0, 0, con0, [], [], false⟩] } }, by (try dsimp only); decide +kernel⟩,
    ⟨0, sw0 0 false, ring [], by decide +kernel, by decide +kernel, by decide +kernel, by decide +kernel, by decide +kernel⟩,
    ⟨0, sw0 1 true, ring [(Reg.MRG_STATUS_MASTER_ID, 1)], by (try dsimp only); decide +kernel⟩,
    ⟨0, 0, { ring [] with mrg := { link := [(0, { locked := true })] } }, by decide +kernel, by decide +kernel⟩,
    ⟨0, ⟨1, false, 0, 0, 0, 0, 0, 0, 1, true⟩, 0, { ring [] with mrg := { link := [(0, { locked := true })] } }, by decide +kernel, by decide +kernel, by decide +kernel, by decide +kernel, by decide +kernel, by decide +kernel⟩,
    ⟨0, sw0 1 true, { ring [] with mrg := { link := [(0, { last := some (sw0 1 true) })] } }, by decide +kernel, by decide +kernel, by decide +kernel, by decide +kernel⟩,
    ⟨0, { ring [(Reg.MRG_LINK_LSTATUS_STATE 0, 0)] with mrg := { link := [(0, { locked := true })] } }, by (try dsimp only); decide +kernel⟩,
    ⟨0, { ring [(Reg.MRG_LINK_LSTATUS_STATE 0, 1)] with mrg := { link := [(0, { locked := true })] } }, by (try dsimp only); decide +kernel⟩,
    ⟨0, { ring [(Reg.MRG_LINK_LSTATUS_STATE 0, 2)] with mrg := { link := [(0, { locked := true })] } }, by (try dsimp only); decide +kernel⟩,
    ⟨0, ring [(Reg.MRG_LINK_LSTATUS_STATE 0, 0)], by decide +kernel, by decide +kernel⟩⟩

theorem test_hyp_BridgeCommandsComplete :
    (∃ (p : Fin 10) (f : Frame) (s : State), (pktRuns s = true) ∧ (6 ≤ p.val)) ∧
    (∃ (p : Fin 10) (f g : Frame) (s u : State), (p.val < 6) ∧ (portUp s p = true) ∧ (g = { f with ptp := f.ptp.map (fun m => { m with port := p.val }) }) ∧ (u = (match g.ptp with
      | some m => ptpReceive s p m
      | none => s)) ∧ (pktRuns u = true) ∧ (portUp u p = true) ∧ (64 ≤ f.len) ∧ (f.len ≤ min 9216 (u.rd Reg.PKT_MAX_FRAME_BYTES)) ∧ (∃ q, (f.pause = some q))) ∧
    (∃ (p : Fin 10) (f g : Frame) (s u : State), (p.val < 6) ∧ (portUp s p = true) ∧ (g = { f with ptp := f.ptp.map (fun m => { m with port := p.val }) }) ∧ (u = (match g.ptp with
      | some m => ptpReceive s p m
      | none => s)) ∧ (pktRuns u = true) ∧ (portUp u p = true) ∧ (64 ≤ f.len) ∧ (f.len ≤ min 9216 (u.rd Reg.PKT_MAX_FRAME_BYTES)) ∧ (f.pause = none) ∧ (let x := (msReceive (portCount u p 0) p g); (x.2 = true) ∧ ((f.red = none ∨ lreOf x.1 p = none)))) ∧
    (∃ (p : Fin 6) (cyc stamp : Nat) (q : QFrame) (rest : List QFrame) (tc : Nat) (s w : State), (pktRuns s = true) ∧ (portUp s p = true) ∧ ((pausedPort s p).isSome = false) ∧ (macsecHeld s p = false) ∧ (w = (List.range 8).foldl (fun s tc => dropOversize s p tc (queueOf s p tc).length) (showGates s (slotAt s cyc))) ∧ (pickClass w p cyc = some tc) ∧ (queueOf w p tc = q :: rest) ∧ ((w.bit (Reg.CRY_MS_PCFG_EN p) = false ∨ q.eapol = true)) ∧ (q.ts = none)) ∧
    (∃ (mac : BitVec 48) (fid : Fin 4096) (s : State), (let old := (fun (e : FdbE) => e.mac == mac.toNat && e.fid == fid.val && decide (e.seen + s.rd Reg.PKT_FDB_AGE_SEC ≤ s.taiSec)); (s.pkt.fdb.any old = true))) ∧
    (∃ (a : Access) (v : Word) (s : State), (Accepts s a 0x300000 10)) ∧
    (∃ (p : Fin 6) (s : State), ((pausedPort s p).any (tooLong s) = true)) ∧
    (∃ (p : Fin 6) (s : State), ((pausedPort s p).any (tooLong s) = false)) ∧
    (∃ (p : Fin 6) (s : State), (domainUp s 10 = true) ∧ (s.bit (Reg.PKT_PORT_PSTATUS_LINK p) = true)) ∧
    (∃ (p : Fin 6) (s : State), (domainUp s 10 = true) ∧ (domainUp s (serdesOf p) = true) ∧ (s.bit (Reg.PKT_PORT_PCFG_EN p) = true) ∧ (s.bit (Reg.PKT_PORT_PSTATUS_LINK p) = false)) ∧
    (∃ (r : Fin 512) (s : State), (s.bit (Reg.PKT_FRER_REC_CFG_EN r) = true) ∧ ((frerOf s r).takeAny = false) ∧ ((frerOf s r).at_ + s.rd (Reg.PKT_FRER_REC_CFG_RESET_MS r) * 1000000 ≤ s.taiNs)) :=
  ⟨⟨6, fr, bridge [], by decide +kernel, by decide +kernel⟩,
    ⟨0, { fr with pause := some 1 }, { fr with pause := some 1 }, bridge [], bridge [], by decide +kernel, by decide +kernel, by decide +kernel, by decide +kernel, by decide +kernel, by decide +kernel, by decide +kernel, by decide +kernel, 1, by decide +kernel⟩,
    ⟨0, fr, fr, bridge [], bridge [], by (try dsimp only); decide +kernel⟩,
    ⟨0, 0, 0, q0, [], 7, sending, (List.range 8).foldl (fun s tc => dropOversize s 0 tc (queueOf s 0 tc).length) (showGates sending (slotAt sending 0)), by decide +kernel, by decide +kernel, by decide +kernel, by decide +kernel, by decide +kernel, by decide +kernel, by decide +kernel, by decide +kernel, by decide +kernel⟩,
    ⟨1, 0, { up with pkt := { fdb := [⟨1, 0, 0, 0⟩] }, tim := { now := 2 ^ 80 } }, by (try dsimp only); decide +kernel⟩,
    ⟨pf, 0x100, up, by decide +kernel⟩,
    ⟨0, { up with pkt := { paused := [(0, some (0, 2 ^ 70))] } }, by decide +kernel⟩,
    ⟨0, up, by decide +kernel⟩,
    ⟨0, bridge [], by decide +kernel, by decide +kernel⟩,
    ⟨0, on [(Reg.PKT_PORT_PCFG_EN 0, 1)], by decide +kernel, by decide +kernel, by decide +kernel, by decide +kernel⟩,
    ⟨0, { on [(Reg.PKT_FRER_REC_CFG_EN 0, 1)] with pkt := { frer := [(0, { takeAny := false })] } }, by decide +kernel, by decide +kernel, by decide +kernel⟩⟩

theorem test_hyp_SiloCommandsComplete :
    (∃ (t : Fin 128) (be : BitVec 4) (v : Word) (s : State), (AcceptsView s t be 12) ∧ (∃ c, (checkHandle s t v = .inr c))) ∧
    (∃ (t : Fin 128) (be : BitVec 4) (v : Word) (s : State), (AcceptsView s t be 12) ∧ (∃ r, (checkHandle s t v = .inl r))) ∧
    (∃ (cell : Fin 131072) (c : Chain) (s : State), (s.rd Reg.SLO_HOLD_AGE_MS ≠ 0) ∧ (s.slo.chains.find? (fun c => c.cells.headD siloCells == cell.val && c.holder.isSome && !c.dying) = some c) ∧ (c.since + s.rd Reg.SLO_HOLD_AGE_MS * 1000000 ≤ s.taiNs)) ∧
    (∃ (cell : Fin 131072) (client : Fin 16) (s : State), (domainUp s 12 = true) ∧ (s.slo.retired.contains cell.val = false)) :=
  ⟨⟨0, 15, 0, { up with slo := { chains := [{ id := 0, cells := [0], acct := 0, prot := 0, holder := some 0 }] } }, by decide +kernel, { id := 0, cells := [0], acct := 0, prot := 0, holder := some 0 }, by decide +kernel⟩,
    ⟨0, 15, 0, up, by decide +kernel, 1, by decide +kernel⟩,
    ⟨0, { id := 0, cells := [0], acct := 0, prot := 0, holder := some 0 }, { on [(Reg.SLO_HOLD_AGE_MS, 1)] with slo := { chains := [{ id := 0, cells := [0], acct := 0, prot := 0, holder := some 0 }] }, tim := { now := 2 ^ 60 } }, by decide +kernel, by decide +kernel, by decide +kernel⟩,
    ⟨0, 0, up, by decide +kernel, by decide +kernel⟩⟩

theorem test_hyp_KeyCommandsComplete :
    (∃ (a : Access) (v : Word) (s : State), (Accepts s a 0x500000 11) ∧ (let slot := (fieldOf v 0 14); (let typ := (fieldOf v 24 4); (loadCode s a.init slot typ = 0)))) ∧
    (∃ (a : Access) (v : Word) (s : State), (Accepts s a 0x500000 11) ∧ (let slot := (fieldOf v 0 14); (let typ := (fieldOf v 24 4); (loadCode s a.init slot typ ≠ 0)))) ∧
    (∃ (a : Access) (v : Word) (s : State), (Accepts s a 0x500000 11) ∧ (mayName s a.init (fieldOf v 0 14) = true) ∧ ((keyLoaded s (fieldOf v 0 14) = true → keyLoader s (fieldOf v 0 14) = a.init.toNat))) ∧
    (∃ (a : Access) (s : State), (Accepts s a 0x500000 11) ∧ (mayReach s a.init (selectedSa s a.init) = true)) ∧
    (∃ (a : Access) (s : State), (Accepts s a 0x500000 11) ∧ (mayReach s a.init (selectedSa s a.init) = true) ∧ ((∀ t, instanceOf a.init = some t → 0 < t → inRange (s.rd (Reg.CRY_TEN_KEY_BASE t)) (s.rd (Reg.CRY_TEN_KEY_CNT t))
      (fieldOf (s.reg (initKey a.init 0x500080)) 0 14) = true))) :=
  ⟨⟨pf, 0x11000000, up, by (try dsimp only); decide +kernel⟩,
    ⟨pf, 0x10000000, up, by (try dsimp only); decide +kernel⟩,
    ⟨pf, 0x20000000, up, by decide +kernel, by decide +kernel, by decide +kernel⟩,
    ⟨pf, up, by decide +kernel, by decide +kernel⟩,
    ⟨pf, up, by decide +kernel, by decide +kernel, by intro t h h'; rw [show instanceOf pf.init = some 0 by decide] at h; cases h; omega⟩⟩

theorem test_hyp_RecordShippingCompletes :
    (∃ (n : Fin 16) (s : State), (nsOn s n = true) ∧ (nsState s n ≠ nsReady) ∧ (nsState s n ≠ nsFull)) ∧
    (∃ (n : Fin 16) (lba size mdts : Nat) (s : State), (nsOn s n = true) ∧ ((nsState s n = nsConnecting ∨ nsState s n = nsFailed)) ∧ (let first := (s.rd64 (Reg.REC_NS_START_LBA_LO n) (Reg.REC_NS_START_LBA_HI n)); (let count := (s.rd64 (Reg.REC_NS_LBA_COUNT_LO n) (Reg.REC_NS_LBA_COUNT_HI n)); ((lba = 512 ∨ lba = 4096)) ∧ (first + count ≤ size)))) ∧
    (∃ (n : Fin 16) (lba size mdts : Nat) (s : State), (nsOn s n = true) ∧ ((nsState s n = nsConnecting ∨ nsState s n = nsFailed)) ∧ (let first := (s.rd64 (Reg.REC_NS_START_LBA_LO n) (Reg.REC_NS_START_LBA_HI n)); (let count := (s.rd64 (Reg.REC_NS_LBA_COUNT_LO n) (Reg.REC_NS_LBA_COUNT_HI n)); (((lba ≠ 512 ∧ lba ≠ 4096) ∨ size < first + count))))) ∧
    (∃ (n : Fin 16) (s : State), (nsOn s n = true) ∧ ((nsState s n = nsReady ∨ nsState s n = nsFull))) ∧
    (∃ (n : Fin 16) (r : DrRec) (s : State), (nsOn s n = true) ∧ (s.rd Reg.MPR_DR_CHAN_DEST = 0x100 + n.val) ∧ (s.mpr.waiting.find? (fun r => !inProgress s r) = some r) ∧ (nsState s n = nsReady) ∧ ((nsOf s n).now = none)) ∧
    (∃ (n : Fin 16) (r : DrRec) (s : State), (nsOn s n = true) ∧ (s.rd Reg.MPR_DR_CHAN_DEST = 0x100 + n.val) ∧ (s.mpr.waiting.find? (fun r => !inProgress s r) = some r) ∧ ((nsState s n = nsFull ∨ nsState s n = nsFailed))) ∧
    (∃ (n : Fin 16) (r : DrRec) (s : State), ((nsOf s n).now = some r)) ∧
    (∃ (n : Fin 16) (st : Option (BitVec 16)) (s : State), (nsOn s n = true) ∧ (nsState s n ≠ nsDisabled)) ∧
    (∃ (n : Fin 16) (st : Option (BitVec 16)) (s : State), (nsOn s n = true) ∧ (nsState s n ≠ nsDisabled) ∧ (nsUp s n = true)) ∧
    (∃ (n : Fin 16) (st : Option (BitVec 16)) (s : State), (nsOn s n = true) ∧ (nsState s n ≠ nsDisabled) ∧ (nsUp s n = false)) ∧
    (∃ (n : Fin 16) (reason : Fin 5) (st : BitVec 16) (s : State), (nsOn s n = true) ∧ ((nsState s n = nsConnecting ∨ nsState s n = nsFailed))) ∧
    (∃ (n : Fin 16) (admin : Bool) (s : State), (nsOn s n = true) ∧ (nsState s n ≠ nsDisabled) ∧ (let x := (nsOf s n); (let k := ((if admin then x.rtxAdmin else x.rtxIo) + 1); (k ≤ 8)))) ∧
    (∃ (n : Fin 16) (admin : Bool) (s : State), (nsOn s n = true) ∧ (nsState s n ≠ nsDisabled) ∧ (let x := (nsOf s n); (let k := ((if admin then x.rtxAdmin else x.rtxIo) + 1); (8 < k)))) :=
  ⟨⟨0, ns0 0 {}, by decide +kernel, by decide +kernel, by decide +kernel⟩,
    ⟨0, 512, 0, 0, ns0 1 {}, by (try dsimp only); decide +kernel⟩,
    ⟨0, 1024, 0, 0, ns0 1 {}, by (try dsimp only); decide +kernel⟩,
    ⟨0, ns0 2 {}, by decide +kernel, by decide +kernel⟩,
    ⟨0, rec0, ship 2, by decide +kernel, by decide +kernel, by decide +kernel, by decide +kernel, by decide +kernel⟩,
    ⟨0, rec0, ship 3, by decide +kernel, by decide +kernel, by decide +kernel, by decide +kernel⟩,
    ⟨0, rec0, ns0 2 { now := some rec0 }, by decide +kernel⟩,
    ⟨0, none, ns0 2 {}, by decide +kernel, by decide +kernel⟩,
    ⟨0, none, ns0 2 {}, by decide +kernel, by decide +kernel, by decide +kernel⟩,
    ⟨0, none, ns0 1 {}, by decide +kernel, by decide +kernel, by decide +kernel⟩,
    ⟨0, 0, 0, ns0 1 {}, by decide +kernel, by decide +kernel⟩,
    ⟨0, true, ns0 2 {}, by (try dsimp only); decide +kernel⟩,
    ⟨0, true, ns0 2 { rtxAdmin := 8 }, by (try dsimp only); decide +kernel⟩⟩

theorem test_hyp_HostQueueCommandsComplete :
    (∃ (t : Fin 128) (q : Fin 64) (be : BitVec 4) (v : Word) (s : State), (AcceptsView s t be 13) ∧ (let u := (plainWrite s (identOf t) (winAddr t (0x1000 + q.val * 0x40)) v); (bitAt v.toNat 31 = true))) ∧
    (∃ (t : Fin 128) (q : Fin 64) (be : BitVec 4) (v : Word) (s : State), (AcceptsView s t be 13) ∧ (let u := (plainWrite s (identOf t) (winAddr t (0x1000 + q.val * 0x40)) v); (bitAt v.toNat 31 = false) ∧ (u.rd (Reg.QSTATUS_STATE t q) ≠ 0))) ∧
    (∃ (t : Fin 128) (r : Fin 16) (be : BitVec 4) (v : Word) (s : State), (AcceptsView s t be 13) ∧ (bitAt v.toNat 31 = true)) ∧
    (∃ (t : Fin 128) (q : Fin 64) (d : TxDesc) (s u : State) (ix : Nat), (txTurn s = some (t.val, q.val)) ∧ (s.hif.stalled = false) ∧ (pktRuns s = true) ∧ (ix = txIndex s t q) ∧ (u = (if d.retried && d.dmaErr.isNone then transient (txServed s t q) Blk.hif 1 t else txServed s t q)) ∧ (∃ e, (d.dmaErr = some e))) ∧
    (∃ (t : Fin 128) (q : Fin 64) (d : TxDesc) (s u : State) (ix : Nat), (txTurn s = some (t.val, q.val)) ∧ (s.hif.stalled = false) ∧ (pktRuns s = true) ∧ (ix = txIndex s t q) ∧ (u = (if d.retried && d.dmaErr.isNone then transient (txServed s t q) Blk.hif 1 t else txServed s t q)) ∧ (d.dmaErr = none) ∧ ((d.len = 0 ∨ 16384 < d.len))) ∧
    (∃ (t : Fin 128) (q : Fin 64) (d : TxDesc) (s u : State) (ix : Nat), (txTurn s = some (t.val, q.val)) ∧ (s.hif.stalled = false) ∧ (pktRuns s = true) ∧ (ix = txIndex s t q) ∧ (u = (if d.retried && d.dmaErr.isNone then transient (txServed s t q) Blk.hif 1 t else txServed s t q)) ∧ (d.dmaErr = none) ∧ (1 ≤ d.len) ∧ (d.len ≤ 16384) ∧ ((2 < d.op ∨ (d.op ≠ 0 ∧ d.eop = false)))) ∧
    (∃ (t : Fin 128) (q : Fin 64) (d : TxDesc) (s u : State) (ix : Nat), (txTurn s = some (t.val, q.val)) ∧ (s.hif.stalled = false) ∧ (pktRuns s = true) ∧ (ix = txIndex s t q) ∧ (u = (if d.retried && d.dmaErr.isNone then transient (txServed s t q) Blk.hif 1 t else txServed s t q)) ∧ (d.dmaErr = none) ∧ (1 ≤ d.len) ∧ (d.len ≤ 16384) ∧ (d.op ≤ 2) ∧ ((d.op ≠ 0 → d.eop = true)) ∧ (d.clean = false)) ∧
    (∃ (t : Fin 128) (q : Fin 64) (d : TxDesc) (s u : State) (ix : Nat), (txTurn s = some (t.val, q.val)) ∧ (s.hif.stalled = false) ∧ (pktRuns s = true) ∧ (ix = txIndex s t q) ∧ (u = (if d.retried && d.dmaErr.isNone then transient (txServed s t q) Blk.hif 1 t else txServed s t q)) ∧ (d.dmaErr = none) ∧ (1 ≤ d.len) ∧ (d.len ≤ 16384) ∧ (d.op ≤ 2) ∧ ((d.op ≠ 0 → d.eop = true)) ∧ (d.clean = true) ∧ (d.op = 0)) ∧
    (∃ (t : Fin 128) (q : Fin 64) (d : TxDesc) (s u : State) (ix : Nat), (txTurn s = some (t.val, q.val)) ∧ (s.hif.stalled = false) ∧ (pktRuns s = true) ∧ (ix = txIndex s t q) ∧ (u = (if d.retried && d.dmaErr.isNone then transient (txServed s t q) Blk.hif 1 t else txServed s t q)) ∧ (d.dmaErr = none) ∧ (1 ≤ d.len) ∧ (d.len ≤ 16384) ∧ (d.op ≤ 2) ∧ ((d.op ≠ 0 → d.eop = true)) ∧ (d.clean = true) ∧ (d.op ≠ 0)) ∧
    (∃ (t : Fin 128) (q : Fin 64) (ds : List RxDesc) (ch : Nat) (f : Frame) (port tc : Nat) (ep : Option Nat) (rest : List HostItem)
    (s : State), (queueRuns s t q = true) ∧ (s.hif.stalled = false) ∧ (waiting s t q = .frame ch f port tc ep :: rest)) ∧
    (∃ (t : Fin 128) (q : Fin 64) (ch : Nat) (f : Frame) (port tc : Nat) (ep : Option Nat) (rest : List HostItem) (s : State), (waiting s t q = .frame ch f port tc ep :: rest)) ∧
    (∃ (t : Fin 128) (q : Fin 64) (s : State), (s.hif.itrDue.contains (t.val * 64 + q.val) = true)) :=
  ⟨⟨0, 0, 15, 0x80000000, up, by (try dsimp only); decide +kernel⟩,
    ⟨0, 0, 15, 0, hq, by (try dsimp only); decide +kernel⟩,
    ⟨0, 0, 15, 0x80000000, up, by decide +kernel, by decide +kernel⟩,
    ⟨0, 0, { td with dmaErr := some 0 }, hq, txServed hq 0 0, 0, by decide +kernel, by decide +kernel, by decide +kernel, by decide +kernel, by decide +kernel, 0, by decide +kernel⟩,
    ⟨0, 0, { td with len := 0 }, hq, txServed hq 0 0, 0, by decide +kernel, by decide +kernel, by decide +kernel, by decide +kernel, by decide +kernel, by decide +kernel, by decide +kernel⟩,
    ⟨0, 0, { td with op := 3 }, hq, txServed hq 0 0, 0, by decide +kernel, by decide +kernel, by decide +kernel, by decide +kernel, by decide +kernel, by decide +kernel, by decide +kernel, by decide +kernel, by decide +kernel⟩,
    ⟨0, 0, { td with clean := false }, hq, txServed hq 0 0, 0, by decide +kernel, by decide +kernel, by decide +kernel, by decide +kernel, by decide +kernel, by decide +kernel, by decide +kernel, by decide +kernel, by decide +kernel, by decide +kernel, by decide +kernel⟩,
    ⟨0, 0, td, hq, txServed hq 0 0, 0, by decide +kernel, by decide +kernel, by decide +kernel, by decide +kernel, by decide +kernel, by decide +kernel, by decide +kernel, by decide +kernel, by decide +kernel, by decide +kernel, by decide +kernel, by decide +kernel⟩,
    ⟨0, 0, { td with op := 1 }, hq, txServed hq 0 0, 0, by decide +kernel, by decide +kernel, by decide +kernel, by decide +kernel, by decide +kernel, by decide +kernel, by decide +kernel, by decide +kernel, by decide +kernel, by decide +kernel, by decide +kernel, by decide +kernel⟩,
    ⟨0, 0, [], 0, fr, 0, 0, none, [], { hq with hif := { wait := [(0, [.frame 0 fr 0 0 none])] } }, by decide +kernel, by decide +kernel, by decide +kernel⟩,
    ⟨0, 0, 0, fr, 0, 0, none, [], { hq with hif := { wait := [(0, [.frame 0 fr 0 0 none])] } }, by decide +kernel⟩,
    ⟨0, 0, { up with hif := { itrDue := [0] } }, by decide +kernel⟩⟩

theorem test_hyp_HostLinkCommandsComplete :
    (∃ (ms : Nat) (s : State), (s.hif.stalled = false) ∧ (domainUp s 13 = true)) ∧
    (∃ (a : Access) (t : Fin 128) (v : Word) (s : State), (debugShut s a.init = false) ∧ ((domainUp s 13 = true ∨ domainUp s 18 = true)) ∧ (a.be = 15)) ∧
    (∃ (t : Fin 128) (s : State), (quiesced s t = true)) ∧
    (∃ (t : Fin 128) (s : State), (domainUp s 13 = true) ∧ (t.val ≠ 0)) ∧
    (∃ s : State, (domainUp s 13 = true)) ∧
    (∃ (sp : Fin 3) (w : Fin 4) (s : State), (domainUp s 13 = true)) ∧
    (∃ s : State, (s.bit Reg.HIF_STATUS_LINK_UP = true)) :=
  ⟨⟨0, up, by decide +kernel, by decide +kernel⟩,
    ⟨pf, 0, 1, up, by decide +kernel, by decide +kernel, by decide +kernel⟩,
    ⟨0, on [(Reg.HIF_TEN_CTRL_QUIESCE 0, 1)], by decide +kernel⟩,
    ⟨1, up, by decide +kernel, by decide +kernel⟩,
    ⟨up, by decide +kernel⟩,
    ⟨0, 0, up, by decide +kernel⟩,
    ⟨on [(Reg.HIF_STATUS_LINK_UP, 1)], by decide +kernel⟩⟩

theorem test_hyp_OwlCommandsComplete :
    (∃ (r : Fin 3) (s : State), (domainUp s 1 = true) ∧ (s.saf.handshake.isSome = true)) ∧
    (∃ (ppm : Int) (s : State), (domainUp s 1 = true) ∧ (80000 < ppm.natAbs)) ∧
    (∃ (ppm : Int) (s : State), (domainUp s 1 = true) ∧ (80000 < ppm.natAbs) ∧ (domainUp s 2 = true) ∧ (s.bit Reg.TIM_STATUS_BACKUP = false)) ∧
    (∃ (r : Fin 27) (mv : BitVec 16) (lost : Nat) (s : State), (domainUp s 1 = true) ∧ ((railPd r).all (powered s) = true) ∧ (let u := ((s.wr (Reg.SAF_RAIL_MV r) mv.toNat).setBit (Reg.SAF_RAIL_FAULT r) (railOut s r mv.toNat)); (railOut s r mv.toNat = true) ∧ (s.bit (Reg.SAF_RAIL_FAULT r) = false))) ∧
    (∃ (r : Fin 27) (mv : BitVec 16) (lost : Nat) (s : State), (domainUp s 1 = true) ∧ ((railPd r).all (powered s) = true) ∧ (let u := ((s.wr (Reg.SAF_RAIL_MV r) mv.toNat).setBit (Reg.SAF_RAIL_FAULT r) (railOut s r mv.toNat)); (railOut s r mv.toNat = false))) ∧
    (∃ s : State, (domainUp s 1 = true) ∧ (s.saf.owlLatch = false)) ∧
    (∃ (ms lost : Nat) (s : State), (domainUp s 1 = true) ∧ (s.bit Reg.SAF_STATUS_LATCHED = true) ∧ (s.rd Reg.BBX_STATUS_STATE = 2) ∧ (s.bbx.done = true) ∧ (s.rd Reg.SAF_CFG_L4_DELAY ≤ ms) ∧ (s.rd Reg.SAF_CFG_L4_ACTION = 1)) ∧
    (∃ (ms lost : Nat) (s : State), (domainUp s 1 = true) ∧ (s.bit Reg.SAF_STATUS_LATCHED = true) ∧ (s.rd Reg.BBX_STATUS_STATE = 2) ∧ (s.bbx.done = true) ∧ (s.rd Reg.SAF_CFG_L4_DELAY ≤ ms) ∧ (s.rd Reg.SAF_CFG_L4_ACTION ≠ 1)) ∧
    (∃ s : State, (domainUp s 1 = true) ∧ (s.bit Reg.GRN_STATUS_SCAN = false)) ∧
    (∃ (a : Access) (v : Word) (s : State), (Accepts s a 0x800000 1) ∧ (Keyed v) ∧ (s.bit Reg.SAF_CTRL_INJ_EN = true) ∧ (1 ≤ fieldOf v 0 4) ∧ (fieldOf v 0 4 ≤ 7)) ∧
    (∃ (a : Access) (v : Word) (s : State), (Accepts s a 0x800000 1)) ∧
    (∃ (ms lost : Nat) (s : State), (domainUp s 1 = true) ∧ (s.rd Reg.SAF_HB_CFG_TIMEOUT ≤ ms)) :=
  ⟨⟨0, { up with saf := { handshake := some 0 } }, by decide +kernel, by decide +kernel⟩,
    ⟨80001, up, by decide +kernel, by decide +kernel⟩,
    ⟨-80001, on [(Reg.TIM_STATUS_BACKUP, 0)], by decide +kernel, by decide +kernel, by decide +kernel, by decide +kernel⟩,
    ⟨0, 0, 0, up, by (try dsimp only); decide +kernel⟩,
    ⟨0, 750, 0, up, by (try dsimp only); decide +kernel⟩,
    ⟨up, by decide +kernel, by decide +kernel⟩,
    ⟨5, 0, { on [(Reg.SAF_STATUS_LATCHED, 1), (Reg.BBX_STATUS_STATE, 2), (Reg.SAF_CFG_L4_DELAY, 5), (Reg.SAF_CFG_L4_ACTION, 1)] with bbx := { done := true } }, by decide +kernel, by decide +kernel, by decide +kernel, by decide +kernel, by decide +kernel, by decide +kernel⟩,
    ⟨5, 0, { on [(Reg.SAF_STATUS_LATCHED, 1), (Reg.BBX_STATUS_STATE, 2), (Reg.SAF_CFG_L4_DELAY, 5), (Reg.SAF_CFG_L4_ACTION, 0)] with bbx := { done := true } }, by decide +kernel, by decide +kernel, by decide +kernel, by decide +kernel, by decide +kernel, by decide +kernel⟩,
    ⟨on [(Reg.GRN_STATUS_SCAN, 0)], by decide +kernel, by decide +kernel⟩,
    ⟨pf, key + 7, on [(Reg.SAF_CTRL_INJ_EN, 1)], by decide +kernel, by decide +kernel, by decide +kernel, by decide +kernel, by decide +kernel⟩,
    ⟨pf, 0, up, by decide +kernel⟩,
    ⟨100000, 0, up, by decide +kernel, by decide +kernel⟩⟩

theorem test_hyp_DiagnosticCommandsComplete :
    (∃ (a : Access) (v : Word) (s : State), (Accepts s a 0x800000 1) ∧ (Keyed v)) ∧
    (∃ (ms : Nat) (next : List (Fin 80)) (s : State), (domainUp s 1 = true)) ∧
    (∃ (c : Fin 80) (next : List (Fin 80)) (s : State), (s.thr.bist.contains c.val = true)) ∧
    (∃ (ms : Nat) (s : State), (domainUp s 1 = true) ∧ (1500 ≤ ms)) ∧
    (∃ (n : Fin 1024) (k : Fin 4) (g : Nat × Nat × Nat) (s : State), (s.thr.glean.find? (fun g => g.1 == n.val) = some g)) ∧
    (∃ (word : Nat) (slots : List (Fin 16384)) (s : State), (domainUp s 18 = true) ∧ (let last := (Tab.get 0 s.saf.sramLog word); (let u := ((slots.map Fin.val).foldl spoilSlot { s with saf := { s.saf with
       sramLog := Tab.put 0 s.saf.sramLog word (s.taiNs + 1), sramBad := s.saf.sramBad ++ slots.map Fin.val } }); ((0 < last ∧ s.taiNs < last - 1 + 1000000000))))) ∧
    (∃ (word : Nat) (slots : List (Fin 16384)) (s : State), (domainUp s 18 = true) ∧ (let last := (Tab.get 0 s.saf.sramLog word); (let u := ((slots.map Fin.val).foldl spoilSlot { s with saf := { s.saf with
       sramLog := Tab.put 0 s.saf.sramLog word (s.taiNs + 1), sramBad := s.saf.sramBad ++ slots.map Fin.val } }); (last = 0)))) ∧
    (∃ s : State, (domainUp s 23 = true) ∧ (s.bit Reg.DBG_STATUS_ATTACHED = false)) ∧
    (∃ s : State, (domainUp s 23 = true)) :=
  ⟨⟨pf, key + 1, up, by decide +kernel, by decide +kernel⟩,
    ⟨0, [], up, by decide +kernel⟩,
    ⟨0, [], { up with thr := { bist := [0] } }, by decide +kernel⟩,
    ⟨1500, up, by decide +kernel, by decide +kernel⟩,
    ⟨0, 0, (0, 0, 1), { up with thr := { glean := [(0, 0, 1)] } }, by decide +kernel⟩,
    ⟨0, [], { up with saf := { sramLog := [(0, 1)] } }, by (try dsimp only); decide +kernel⟩,
    ⟨0, [], up, by (try dsimp only); decide +kernel⟩,
    ⟨up, by decide +kernel, by decide +kernel⟩,
    ⟨up, by decide +kernel⟩⟩

theorem test_hyp_MailboxLockCommandsComplete :
    (∃ (i : Ident) (ch : Fin 64) (view : Bool) (s : State), (ReachesChannel s i ch view) ∧ (i.toNat ≠ 0x104) ∧ (permitted s ch i = true) ∧ (s.rd (Reg.MBX_LOCK_OWNER ch) = 0)) ∧
    (∃ (i : Ident) (ch : Fin 64) (view : Bool) (s : State), (ReachesChannel s i ch view) ∧ (i.toNat ≠ 0x104) ∧ (permitted s ch i = true) ∧ (s.rd (Reg.MBX_LOCK_OWNER ch) ≠ 0)) ∧
    (∃ (a : Access) (ch : Fin 64) (v : Word) (view : Bool) (s : State), (ReachesChannel s a.init ch view) ∧ (a.be = 15) ∧ (s.rd (Reg.MBX_LOCK_OWNER ch) = a.init.toNat) ∧ (v.toNat = a.init.toNat)) ∧
    (∃ (ch : Fin 64) (s : State), (s.rd Reg.MBX_CFG_LOCK_TMO ≠ 0) ∧ (s.rd (Reg.MBX_LOCK_OWNER ch) ≠ 0) ∧ (s.bit (Reg.MBX_STATUS_FULL ch) = false)) ∧
    (∃ (a : Access) (v : Word) (s : State), (Accepts s a 0xB00000 0) ∧ (isMgmt a.init = true) ∧ (fieldOf v 0 1 = 1)) ∧
    (∃ (a : Access) (t : Fin 128) (v : Word) (s : State), (Accepts s a 0xB00000 0) ∧ (manages s a.init t = true) ∧ (let old := (s.reg (Reg.MBX_DB t).key); (let u := (s.setReg (Reg.MBX_DB t).key ((old ||| (v &&& 0xF)) &&& ~~~(v &&& 0xF0))); (u.bit (Reg.TW_DB_CFG_EN t) = false)))) ∧
    (∃ (a : Access) (t : Fin 128) (v : Word) (s : State), (Accepts s a 0xB00000 0) ∧ (manages s a.init t = true) ∧ (let old := (s.reg (Reg.MBX_DB t).key); (let u := (s.setReg (Reg.MBX_DB t).key ((old ||| (v &&& 0xF)) &&& ~~~(v &&& 0xF0))); (u.bit (Reg.TW_DB_CFG_EN t) = true)))) ∧
    (∃ (t : Fin 128) (be : BitVec 4) (v : Word) (s : State), (AcceptsView s t be 0)) :=
  ⟨⟨0x100, 0, false, mbx [], by decide +kernel, by decide +kernel, by decide +kernel, by decide +kernel⟩,
    ⟨0x100, 0, false, mbx [(Reg.MBX_LOCK_OWNER 0, 1)], by decide +kernel, by decide +kernel, by decide +kernel, by decide +kernel⟩,
    ⟨mg, 0, 0x100, false, mbx [(Reg.MBX_LOCK_OWNER 0, 0x100)], by decide +kernel, by decide +kernel, by decide +kernel, by decide +kernel⟩,
    ⟨0, mbx [(Reg.MBX_LOCK_OWNER 0, 0x100), (Reg.MBX_CFG_LOCK_TMO, 1)], by decide +kernel, by decide +kernel, by decide +kernel⟩,
    ⟨mg, 1, up, by decide +kernel, by decide +kernel, by decide +kernel⟩,
    ⟨mg, 0, 1, up, by (try dsimp only); decide +kernel⟩,
    ⟨mg, 0, 1, on [(Reg.TW_DB_CFG_EN 0, 1)], by (try dsimp only); decide +kernel⟩,
    ⟨0, 15, 0x10, up, by decide +kernel⟩⟩

theorem test_hyp_MailboxMessageCommandsComplete :
    (∃ (a : Access) (ch : Fin 64) (n : Fin 16) (v : Word) (view : Bool) (s : State), (ReachesChannel s a.init ch view) ∧ (a.be = 15) ∧ ((owns s ch a.init && !s.bit (Reg.MBX_STATUS_FULL ch)) = true)) ∧
    (∃ (a : Access) (ch : Fin 64) (n : Fin 16) (v : Word) (view : Bool) (s : State), (ReachesChannel s a.init ch view) ∧ (a.be = 15) ∧ ((owns s ch a.init && !s.bit (Reg.MBX_STATUS_FULL ch)) = false)) ∧
    (∃ (a : Access) (ch : Fin 64) (v : Word) (view : Bool) (s : State), (ReachesChannel s a.init ch view) ∧ (a.be = 15) ∧ (fieldOf v 0 1 = 1) ∧ ((owns s ch a.init && !s.bit (Reg.MBX_STATUS_FULL ch)) = true)) ∧
    (∃ (a : Access) (ch : Fin 64) (v : Word) (view : Bool) (s : State), (ReachesChannel s a.init ch view) ∧ (a.be = 15) ∧ (fieldOf v 0 1 = 1) ∧ ((owns s ch a.init && !s.bit (Reg.MBX_STATUS_FULL ch)) = false)) ∧
    (∃ (a : Access) (ch : Fin 64) (v : Word) (view : Bool) (s : State), (ReachesChannel s a.init ch view) ∧ (a.be = 15) ∧ (s.rd (Reg.MBX_BIND_RECEIVER ch) = a.init.toNat) ∧ (fieldOf v 0 16 < 0xFFFE) ∧ (s.bit (Reg.MBX_BIND_MODE ch) = false) ∧ (s.bit (Reg.MBX_STATUS_FULL ch) = true)) ∧
    (∃ (i : Ident) (ch : Fin 64) (view : Bool) (s : State), (ReachesChannel s i ch view) ∧ (s.bit (Reg.MBX_BIND_MODE ch) = true) ∧ (s.rd (Reg.MBX_BIND_RECEIVER ch) = i.toNat) ∧ (s.bit (Reg.MBX_STATUS_FULL ch) = true)) :=
  ⟨⟨mg, 0, 3, 5, false, mbx [(Reg.MBX_LOCK_OWNER 0, 0x100)], by decide +kernel, by decide +kernel, by decide +kernel⟩,
    ⟨mg, 0, 3, 5, false, mbx [], by decide +kernel, by decide +kernel, by decide +kernel⟩,
    ⟨mg, 0, 1, false, mbx [(Reg.MBX_LOCK_OWNER 0, 0x100)], by decide +kernel, by decide +kernel, by decide +kernel, by decide +kernel⟩,
    ⟨mg, 0, 1, false, mbx [], by decide +kernel, by decide +kernel, by decide +kernel, by decide +kernel⟩,
    ⟨⟨0x101, 15⟩, 0, 1, false, mbx [(Reg.MBX_STATUS_FULL 0, 1)], by decide +kernel, by decide +kernel, by decide +kernel, by decide +kernel, by decide +kernel, by decide +kernel⟩,
    ⟨0x101, 0, false, mbx [(Reg.MBX_STATUS_FULL 0, 1), (Reg.MBX_BIND_MODE 0, 1)], by decide +kernel, by decide +kernel, by decide +kernel, by decide +kernel⟩⟩

theorem test_hyp_BlackBoxCommandsComplete :
    (∃ (e : Event) (rest : List Event) (s : State), (s.bbx.queue = e :: rest)) ∧
    (∃ s : State, (s.rd Reg.BBX_STATUS_STATE = 1)) ∧
    (∃ (x : Snap) (s : State), (s.bbx.snap = some x) ∧ (let u := (appendDir (gProgram s (slotBase x.slot) x.data) dirSnapshot x.slot x.cause x.seq x.time x.first x.after); (let u := ((u.wr Reg.BBX_STATUS_SNAP 2).wr Reg.BBX_STATUS_LAST_SLOT x.slot); (let u := (showGrn { u with bbx := { u.bbx with snap := none, done := u.bbx.done || x.cause != 3 } }); (let u := (tidyDir (raise u Blk.bbx 0x0102 .info (x.slot + 2 ^ 8 * x.cause + 2 ^ 16 * x.first + 2 ^ 32 * (nextCount u - 1)))); (u.bit Reg.BBX_CFG_OVERWRITE = false) ∧ ((u.rd Reg.BBX_STATUS_STATE ≠ 2 ∨ u.bbx.done = true))))))) ∧
    (∃ (x : Snap) (s : State), (s.bbx.snap = some x) ∧ (let u := (appendDir (gProgram s (slotBase x.slot) x.data) dirSnapshot x.slot x.cause x.seq x.time x.first x.after); (let u := ((u.wr Reg.BBX_STATUS_SNAP 2).wr Reg.BBX_STATUS_LAST_SLOT x.slot); (let u := (showGrn { u with bbx := { u.bbx with snap := none, done := u.bbx.done || x.cause != 3 } }); (let u := (tidyDir (raise u Blk.bbx 0x0102 .info (x.slot + 2 ^ 8 * x.cause + 2 ^ 16 * x.first + 2 ^ 32 * (nextCount u - 1)))); (u.bit Reg.BBX_CFG_OVERWRITE = false) ∧ (u.rd Reg.BBX_STATUS_STATE = 2) ∧ (u.bbx.done = false)))))) ∧
    (∃ (a : Access) (v : Word) (s : State), (Accepts s a 0xB80000 0) ∧ (Keyed v) ∧ (s.bbx.snap = none) ∧ (s.rd Reg.BBX_STATUS_STATE = 2) ∧ (s.bbx.done = true)) ∧
    (∃ (a : Access) (v : Word) (s : State), (Accepts s a 0xB80000 0) ∧ (Keyed v) ∧ (s.bbx.snap = none) ∧ (s.rd Reg.BBX_STATUS_STATE ≠ 2) ∧ (grnAway s = false)) ∧
    (∃ (a : Access) (v : Word) (s : State), (Accepts s a 0xB80000 0) ∧ (Keyed v) ∧ (s.bbx.snap = none) ∧ (grnAway s = false) ∧ (slotProtected s (fieldOf v 8 4) = false)) ∧
    (∃ (n : Nat) (rest : List Nat) (s : State), (s.bbx.erasing = n :: rest)) :=
  ⟨⟨ev0, [], { up with bbx := { queue := [ev0] } }, by decide +kernel⟩,
    ⟨on [(Reg.BBX_STATUS_STATE, 1)], by decide +kernel⟩,
    ⟨snap0 1, bx [] { snap := some (snap0 1) }, by (try dsimp only); decide +kernel⟩,
    ⟨snap0 3, bx [(Reg.BBX_STATUS_STATE, 2)] { snap := some (snap0 3) }, by (try dsimp only); decide +kernel⟩,
    ⟨pf, key + 1, bx [(Reg.BBX_STATUS_STATE, 2)] { done := true }, by decide +kernel, by decide +kernel, by decide +kernel, by decide +kernel, by decide +kernel⟩,
    ⟨pf, key + 2, bx [] {}, by decide +kernel, by decide +kernel, by decide +kernel, by decide +kernel, by decide +kernel⟩,
    ⟨pf, key + 0x103, bx [] {}, by decide +kernel, by decide +kernel, by decide +kernel, by decide +kernel, by decide +kernel⟩,
    ⟨0, [], bx [] { erasing := [0] }, by decide +kernel⟩⟩

theorem test_hyp_ResetCommandsComplete :
    (∃ (b : Fin 4) (s : State), (s.rst.porHeld = true)) ∧
    (∃ (us : Nat) (s : State), (s.rst.delayed ≠ []) ∧ (pulseKind s = none)) ∧
    (∃ s : State, (s.rst.porstLow = false) ∧ (s.rst.porHeld = false)) ∧
    (∃ (b : Fin 4) (cool : Bool) (s : State), (s.rst.porstLow = true) ∧ (s.rst.porHeld = false) ∧ (s.rst.delayed.any (fun x => x.code == 2) = false)) ∧
    (∃ (lost : Nat) (s : State), (s.rst.warmLow = false) ∧ (s.rst.porHeld = false) ∧ (s.rst.porstLow = false)) ∧
    (∃ s : State, (s.rst.rel ≠ 0) ∧ (s.rst.porHeld = false) ∧ (s.rst.porstLow = false)) ∧
    (∃ s : State, (s.rst.rel = 0)) ∧
    (∃ s : State, (s.rst.perstLow = false) ∧ (s.rst.porHeld = false) ∧ (s.rst.porstLow = false)) ∧
    (∃ s : State, (let u := ({ s with rst := { s.rst with perstLow := false } }); (bitAt s.rst.rel 13 = true) ∧ (heldDomain u 13 = false))) ∧
    (∃ s : State, (let u := ({ s with rst := { s.rst with perstLow := false } }); (bitAt s.rst.rel 13 = false))) ∧
    (∃ s : State, (s.rst.porHeld = false) ∧ (s.rst.porstLow = false)) ∧
    (∃ (a : Access) (v : Word) (lost : Nat) (s : State), (Accepts s a 0x880000 0) ∧ (isPfOrMgmt a.init = true) ∧ (Keyed v)) ∧
    (∃ (a : Access) (v : Word) (lost : Nat) (s : State), (Accepts s a 0x880000 0) ∧ (isPfOrMgmt a.init = true) ∧ (Keyed v) ∧ (let scope := (s.rd Reg.RST_MASK % 2 ^ 25); (scope ≠ 0) ∧ ((safeOp s = true → [2, 3, 18, domImg].any (bitAt scope) = false)))) :=
  ⟨⟨0, rs { porHeld := true } up, by decide +kernel⟩,
    ⟨5, rs { delayed := [⟨7, scopeWarm, 0x100, 0, 1⟩] } up, by decide +kernel, by decide +kernel⟩,
    ⟨up, by decide +kernel, by decide +kernel⟩,
    ⟨0, true, rs { porstLow := true } up, by decide +kernel, by decide +kernel, by decide +kernel⟩,
    ⟨0, up, by decide +kernel, by decide +kernel, by decide +kernel⟩,
    ⟨rs { rel := 4, warmLow := true } up, by decide +kernel, by decide +kernel, by decide +kernel⟩,
    ⟨rs { rel := 0 } up, by decide +kernel⟩,
    ⟨up, by decide +kernel, by decide +kernel, by decide +kernel⟩,
    ⟨rs { rel := 0x2000, perstLow := true } up, by (try dsimp only); decide +kernel⟩,
    ⟨rs { rel := 0, perstLow := true } up, by (try dsimp only); decide +kernel⟩,
    ⟨up, by decide +kernel, by decide +kernel⟩,
    ⟨pf, key + 1, 0, up, by decide +kernel, by decide +kernel, by decide +kernel⟩,
    ⟨pf, key + 2, 0, on [(Reg.RST_MASK, 0x400)], by (try dsimp only); decide +kernel⟩⟩

theorem test_hyp_ReleaseAndPowerCommandsComplete :
    (∃ (d : Nat) (s : State), (s.bit Reg.PWR_PFAIL_LOW = false) ∧ (nextRelease s = some d) ∧ (waitsForScan s d = false)) ∧
    (∃ (d : Nat) (s : State), (s.bit Reg.PWR_PFAIL_LOW = false) ∧ (nextRelease s = none) ∧ ((bitList 24 s.rst.on).find? (fun d => !heldDomain s d) = some d)) ∧
    (∃ (pd : Fin 24) (s : State), (s.rst.owlOff.contains pd.val = true) ∧ (powered s pd = false) ∧ (s.rst.trip = false)) ∧
    (∃ (pd : Fin 24) (s : State), (s.rst.restoring.contains pd.val = true)) ∧
    (∃ (a : Access) (v : Word) (s : State), (Accepts s a 0x8A0000 0) ∧ (isPfOrMgmt a.init = true) ∧ (Keyed v) ∧ (fieldOf v 0 5 ≤ 23) ∧ (let d := (fieldOf v 0 5); (((imageLive s && bitAt (s.rd Reg.PWR_USED) d) = true ∨ optionalDomains.contains d = true)) ∧ (bitAt (s.rd Reg.PWR_FAILED) d = false) ∧ (powered s d = false) ∧ (s.rst.trip = false) ∧ (bitAt s.rst.rel d = false))) ∧
    (∃ (a : Access) (v : Word) (s : State), (Accepts s a 0x8A0000 0) ∧ (isPfOrMgmt a.init = true) ∧ (Keyed v) ∧ (fieldOf v 0 5 ≤ 23) ∧ (let d := (fieldOf v 0 5); (optionalDomains.contains d = true) ∧ (offOk s d = true) ∧ (powered s d = true))) ∧
    (∃ s : State, (s.bit Reg.PWR_PFAIL_LOW = false)) ∧
    (∃ (ms : Nat) (s : State), (s.bit Reg.PWR_PFAIL_LOW = true)) :=
  ⟨⟨2, rs { rel := 4 } up, by decide +kernel, by decide +kernel, by decide +kernel⟩,
    ⟨4, rs { rel := 0, on := 0x10 } up, by decide +kernel, by decide +kernel, by decide +kernel⟩,
    ⟨5, (rs { owlOff := [5], rel := 0 } up).wr Reg.PWR_STATUS 0xFFFFDF, by decide +kernel, by decide +kernel, by decide +kernel⟩,
    ⟨5, rs { restoring := [5] } up, by decide +kernel⟩,
    ⟨pf, key + 0x104, (rs { rel := 0 } up).wr Reg.PWR_STATUS 0xFFFFEF, by (try dsimp only); decide +kernel⟩,
    ⟨pf, key + 0x204, up, by (try dsimp only); decide +kernel⟩,
    ⟨up, by decide +kernel⟩,
    ⟨3, on [(Reg.PWR_PFAIL_LOW, 1)], by decide +kernel⟩⟩

theorem test_hyp_ThermalCommandsComplete :
    (∃ (t : List Int) (s : State), (s.rst.porHeld = false) ∧ (s.rst.porstLow = false)) ∧
    (∃ (mask : Fin 16) (s : State), (s.rst.trip = false) ∧ (s.rst.porHeld = false) ∧ (s.rst.porstLow = false)) :=
  ⟨⟨[], up, by decide +kernel, by decide +kernel⟩,
    ⟨1, up, by decide +kernel, by decide +kernel, by decide +kernel⟩⟩

theorem test_hyp_GranaryCommandsComplete :
    (∃ (a : Access) (v : Word) (s : State), (GranaryTakes s a false) ∧ (let u := (grnResult s a.init false 0); (let addr := (u.rd Reg.GRN_ADDR_ADDR); (let len := (u.rd Reg.GRN_LEN_LEN); (let page := (addr - addr % 256); (1 ≤ len) ∧ (len ≤ 256) ∧ (inRegion a.init page 256 = true) ∧ (gProtected u page 256 = false) ∧ ((∀ n sec q, u.grn.susp = some (.erase n sec q) → sec ≠ sectorOf addr))))))) ∧
    (∃ (init addr : Nat) (cells : List (Nat × Byte)) (s : State), (s.grn.run = some (.program init addr cells))) ∧
    (∃ (init addr : Nat) (cells : List (Nat × Byte)) (s : State), (s.grn.run = some (.program init addr cells))) ∧
    (∃ (a : Access) (v : Word) (s w : State), (GranaryTakes s a false) ∧ (Keyed v) ∧ (let u := (grnResult s a.init false 0); (let sec := (sectorOf (u.rd Reg.GRN_ADDR_ADDR)); (inRegion a.init sec 4096 = true) ∧ (eraseProtected u sec 4096 = false) ∧ (u.grn.susp = none) ∧ (putIntents u sec (nextSeq u) = some w)))) ∧
    (∃ (init sec seq : Nat) (s : State), (s.grn.run = some (.erase init sec seq)) ∧ (s.grn.readHold = false) ∧ (s.grn.failHold = false) ∧ (s.bbx.snap = none)) ∧
    (∃ (a : Access) (v : Word) (init sec seq : Nat) (s : State), (GranaryTakes s a true) ∧ (let u := (grnResult s a.init false 0); (u.grn.run = some (.erase init sec seq)) ∧ (bbxWorks u = false) ∧ (u.grn.prot = none))) ∧
    (∃ (a : Access) (v : Word) (op : GrnOp) (s : State), (GranaryTakes s a false) ∧ (let u := (grnResult s a.init false 0); (u.grn.susp = some op))) ∧
    (∃ (i : Ident) (w : Fin 262144) (m : Fin 3) (s : State), (blockUp s 0x900000 19 = true) ∧ ((deadSectors s).contains (sectorOf (4 * w.val)) = false) ∧ (s.grn.run = none)) ∧
    (∃ (i : Ident) (w : Fin 262144) (m : Fin 3) (s : State), (blockUp s 0x900000 19 = true) ∧ ((deadSectors s).contains (sectorOf (4 * w.val)) = false) ∧ (∃ n addr cs, (s.grn.run = some (.program n addr cs)) ∧ (bankOf addr = bankOf (4 * w.val)))) ∧
    (∃ (i : Ident) (w : Fin 262144) (m : Fin 3) (s : State), (blockUp s 0x900000 19 = true) ∧ ((deadSectors s).contains (sectorOf (4 * w.val)) = false) ∧ (∃ n sec q, (s.grn.run = some (.erase n sec q)) ∧ (bankOf sec = bankOf (4 * w.val)) ∧ (s.grn.readHold = false) ∧ (s.grn.failHold = false) ∧ (s.bbx.snap = none) ∧ (s.grn.heldUs < 1000))) ∧
    (∃ (us : Nat) (s : State), (s.grn.readHold = true)) ∧
    (∃ (ring : Fin 2) (s : State), (blockUp s 0x900000 19 = true) ∧ (s.bit Reg.GRN_STATUS_SCAN = false) ∧ (grnBusy s = false) ∧ (s.bit Reg.PWR_PFAIL_LOW = false) ∧ (gProtected s 0x4000 0x4000 = false) ∧ (entriesIn s (otherSector s ring) ≠ []) ∧ ((entriesIn s (otherSector s ring)).all (fun e => e.2.2.2) = true)) ∧
    (∃ (a : Access) (v : Word) (s : State), (Accepts s a 0x900000 19) ∧ (isPfOrMgmt a.init = true) ∧ (let u := (s.setBit Reg.GRN_STATUS_WPN true); (u.bit Reg.GRN_STATUS_SCAN = false) ∧ (grnBusy u = false))) ∧
    (∃ (i v : Nat) (s : State), (s.grn.prot = some (i, v))) :=
  ⟨⟨pf, key, gr {} [], by decide +kernel, by dsimp only; exact ⟨by decide +kernel, by decide +kernel, by decide +kernel, by decide +kernel, by intro n sec q h; exact nomatch (show none = some (GrnOp.erase n sec q) from h)⟩⟩,
    ⟨1, 0xC0000, [(0xC0000, 0)], gr { run := some (.program 1 0xC0000 [(0xC0000, 0)]) } [], by decide +kernel⟩,
    ⟨1, 0xC0000, [(0xC0000, 0)], gr { run := some (.program 1 0xC0000 [(0xC0000, 0)]) } [], by decide +kernel⟩,
    ⟨pf, key, gr {} [], (putIntents (grnResult (gr {} []) 1 false 0) 0xC0000 (nextSeq (grnResult (gr {} []) 1 false 0))).getD up, by (try dsimp only); decide +kernel⟩,
    ⟨1, 0xC0000, 1, gr { run := some (.erase 1 0xC0000 1) } [], by decide +kernel, by decide +kernel, by decide +kernel, by decide +kernel⟩,
    ⟨pf, key, 1, 0xC0000, 1, gr { run := some (.erase 1 0xC0000 1) } [], by (try dsimp only); decide +kernel⟩,
    ⟨pf, key, .erase 1 0xC0000 1, gr { susp := some (.erase 1 0xC0000 1) } [], by (try dsimp only); decide +kernel⟩,
    ⟨1, 0x30000, 0, gr {} [], by decide +kernel, by decide +kernel, by decide +kernel⟩,
    ⟨1, 0x30001, 0, gr { run := some (.program 1 0xC0000 []) } [], by decide +kernel, by decide +kernel, 1, 0xC0000, [], by decide +kernel, by decide +kernel⟩,
    ⟨1, 0x30001, 0, gr { run := some (.erase 1 0xC1000 1) } [], by decide +kernel, by decide +kernel, 1, 0xC1000, 1, by decide +kernel, by decide +kernel, by decide +kernel, by decide +kernel, by decide +kernel, by decide +kernel⟩,
    ⟨5, gr { readHold := true } [], by decide +kernel⟩,
    ⟨0, gr { mem := cells 0x4000 (jent 0 1) ++ cells 0x5000 (jent 0xFF 2) } [], by decide +kernel, by decide +kernel, by decide +kernel, by decide +kernel, by decide +kernel, by decide +kernel, by decide +kernel⟩,
    ⟨pf, 0x11, gr {} [], by (try dsimp only); decide +kernel⟩,
    ⟨1, 0x11, gr { prot := some (1, 0x11) } [], by decide +kernel⟩⟩

theorem test_hyp_FirmwareCommandsComplete :
    (∃ (us : Nat) (s : State), (s.bit Reg.GRN_STATUS_SCAN = true) ∧ (blockUp s 0x900000 19 = true)) ∧
    (∃ s : State, (s.grn.bootWait = true) ∧ (domainUp s 17 = true) ∧ (domainUp s 22 = true) ∧ (domainUp s 19 = true) ∧ (s.bit Reg.GRN_STATUS_SCAN = false) ∧ (s.rd Reg.IMG_STATUS_STATE ≠ 1) ∧ (let r := (bootRec s); (let u := ({ s with grn := { s.grn with bootWait := false } }); (let u := (showFw (blowTo u (max (mirrorCount u) (fwSvn u r.active)))); (u.rd Reg.RST_BOOT_BOOT_SEL = 3))))) ∧
    (∃ s : State, (s.grn.bootWait = true) ∧ (domainUp s 17 = true) ∧ (domainUp s 22 = true) ∧ (domainUp s 19 = true) ∧ (s.bit Reg.GRN_STATUS_SCAN = false) ∧ (s.rd Reg.IMG_STATUS_STATE ≠ 1) ∧ (let r := (bootRec s); (let u := ({ s with grn := { s.grn with bootWait := false } }); (let u := (showFw (blowTo u (max (mirrorCount u) (fwSvn u r.active)))); (u.rd Reg.RST_BOOT_BOOT_SEL = 1))))) ∧
    (∃ s : State, (s.grn.bootWait = true) ∧ (domainUp s 17 = true) ∧ (domainUp s 22 = true) ∧ (domainUp s 19 = true) ∧ (s.bit Reg.GRN_STATUS_SCAN = false) ∧ (s.rd Reg.IMG_STATUS_STATE ≠ 1) ∧ (let r := (bootRec s); (let u := ({ s with grn := { s.grn with bootWait := false } }); (let u := (showFw (blowTo u (max (mirrorCount u) (fwSvn u r.active)))); (u.rd Reg.RST_BOOT_BOOT_SEL = 2))))) ∧
    (∃ s : State, (s.grn.bootWait = true) ∧ (domainUp s 17 = true) ∧ (domainUp s 22 = true) ∧ (domainUp s 19 = true) ∧ (s.bit Reg.GRN_STATUS_SCAN = false) ∧ (s.rd Reg.IMG_STATUS_STATE ≠ 1) ∧ (let r := (bootRec s); (let u := ({ s with grn := { s.grn with bootWait := false } }); (let u := (showFw (blowTo u (max (mirrorCount u) (fwSvn u r.active)))); (u.rd Reg.RST_BOOT_BOOT_SEL = 0) ∧ (r.trial = 0xFF))))) ∧
    (∃ s : State, (s.grn.bootWait = true) ∧ (domainUp s 17 = true) ∧ (domainUp s 22 = true) ∧ (domainUp s 19 = true) ∧ (s.bit Reg.GRN_STATUS_SCAN = false) ∧ (s.rd Reg.IMG_STATUS_STATE ≠ 1) ∧ (let r := (bootRec s); (let u := ({ s with grn := { s.grn with bootWait := false } }); (let u := (showFw (blowTo u (max (mirrorCount u) (fwSvn u r.active)))); (u.rd Reg.RST_BOOT_BOOT_SEL = 0) ∧ (r.trial ≠ 0xFF) ∧ (r.tried = false))))) ∧
    (∃ (b : Boot) (s : State), (s.grn.boot = some b) ∧ (b.mode = modeForced) ∧ (b.second = false)) ∧
    (∃ (b : Boot) (s : State), (s.grn.boot = some b) ∧ (authFault s b.slot ≠ 0) ∧ (b.mode = modeTrial)) ∧
    (∃ (a : Access) (v : Word) (s : State), (FirmwareTakes s a) ∧ (isPfOrMgmt a.init = true) ∧ (Keyed v) ∧ (let r := (bootRec s); (ringBlocked s 0 = false) ∧ (ringBlocked s 1 = false) ∧ (eraseProtected s (0x1000 - r.base) 4096 = false) ∧ (fwArg v ≤ 1) ∧ (r.trial = 0xFF) ∧ (fwArg v ≠ r.active))) ∧
    (∃ (a : Access) (v : Word) (s : State), (FirmwareTakes s a) ∧ (isPfOrMgmt a.init = true) ∧ (Keyed v) ∧ (let r := (bootRec s); (ringBlocked s 0 = false) ∧ (ringBlocked s 1 = false) ∧ (eraseProtected s (0x1000 - r.base) 4096 = false) ∧ ((fwArg v = 0 ∨ fwArg v = 1 ∨ fwArg v = 0xFF)))) ∧
    (∃ (a : Access) (v : Word) (s : State), (FirmwareTakes s a) ∧ (isPfOrMgmt a.init = true) ∧ (Keyed v) ∧ (let r := (bootRec s); (ringBlocked s 0 = false) ∧ (ringBlocked s 1 = false) ∧ (eraseProtected s (0x1000 - r.base) 4096 = false) ∧ (trialRuns s = true) ∧ (r.expired = false) ∧ (gProtected s 0x8000 0x1000 = false))) ∧
    (∃ (a : Access) (v : Word) (s : State), (FirmwareTakes s a) ∧ (isMgmt a.init = true) ∧ (fwArg v ≠ 0) ∧ (fwArg v ≠ 0xFF) ∧ (trialRuns s = true) ∧ (gProtected s (bootRec s).base 64 = false)) ∧
    (∃ s : State, (trialRuns s = true) ∧ (s.grn.trialEnd.isSome = true) ∧ ((bootRec s).expired = false)) ∧
    (∃ (c : Nat) (s : State), (serviceChannel s = some c) ∧ (s.grn.fw.isSome = true) ∧ (s.bit (Reg.MBX_STATUS_FULL c) = true) ∧ (fieldOf (s.reg (Reg.MBX_MSG c 0).key) 16 10 = 1) ∧ (let w := (s.reg (Reg.MBX_MSG c 0).key); (let n := (fieldOf w 8 2); (let f := (s.img.fuses); (let h := ((List.range 12).flatMap (fun j => toLe 4 (s.rd (Reg.MBX_MSG c (j + 1))))); (let answered := (fun (s : State) (f : Fuses) (code : Nat) =>
       endMessage ((fun u : State => if blockUp u 0x40000 18 then showFuses u else u) { s with img := { s.img with fuses := f } }) c (some code)); (fieldOf w 0 8 = 0x21) ∧ ((Tab.get [] f.hash n).any (· != 0) = false))))))) ∧
    (∃ (c : Nat) (s : State), (serviceChannel s = some c) ∧ (s.grn.fw.isSome = true) ∧ (s.bit (Reg.MBX_STATUS_FULL c) = true) ∧ (fieldOf (s.reg (Reg.MBX_MSG c 0).key) 16 10 = 1) ∧ (let w := (s.reg (Reg.MBX_MSG c 0).key); (let n := (fieldOf w 8 2); (let f := (s.img.fuses); (let h := ((List.range 12).flatMap (fun j => toLe 4 (s.rd (Reg.MBX_MSG c (j + 1))))); (let answered := (fun (s : State) (f : Fuses) (code : Nat) =>
       endMessage ((fun u : State => if blockUp u 0x40000 18 then showFuses u else u) { s with img := { s.img with fuses := f } }) c (some code)); (fieldOf w 0 8 = 0x22) ∧ (bitAt f.programmed n = true) ∧ ((List.range 4).any (fun m => m != n && bitAt f.programmed m && !bitAt f.revoked m) = true))))))) :=
  ⟨⟨100, on [(Reg.GRN_STATUS_SCAN, 1)], by decide +kernel, by decide +kernel⟩,
    ⟨gr { bootWait := true } [(Reg.RST_BOOT_BOOT_SEL, 3)], by (try dsimp only); decide +kernel⟩,
    ⟨gr { bootWait := true } [(Reg.RST_BOOT_BOOT_SEL, 1)], by (try dsimp only); decide +kernel⟩,
    ⟨gr { bootWait := true } [(Reg.RST_BOOT_BOOT_SEL, 2)], by (try dsimp only); decide +kernel⟩,
    ⟨gr { bootWait := true } [(Reg.RST_BOOT_BOOT_SEL, 0)], by (try dsimp only); decide +kernel⟩,
    ⟨gr { mem := cells 0 (bootBytes 1), bootWait := true } [(Reg.RST_BOOT_BOOT_SEL, 0)], by (try dsimp only); decide +kernel⟩,
    ⟨{ slot := 1, mode := modeForced }, gr { boot := some { slot := 1, mode := modeForced } } [], by decide +kernel, by decide +kernel, by decide +kernel⟩,
    ⟨{ slot := 1, mode := modeTrial }, gr { boot := some { slot := 1, mode := modeTrial } } [], by decide +kernel, by decide +kernel, by decide +kernel⟩,
    ⟨pf, key + 0x101, gr {} [], by (try dsimp only); decide +kernel⟩,
    ⟨pf, key + 0xFF04, gr {} [], by (try dsimp only); decide +kernel⟩,
    ⟨pf, key + 2, trial, by (try dsimp only); decide +kernel⟩,
    ⟨mg, 0x103, trial, by decide +kernel, by decide +kernel, by decide +kernel, by decide +kernel, by decide +kernel, by decide +kernel⟩,
    ⟨{ trial with grn := { trial.grn with trialEnd := some 0 } }, by decide +kernel, by decide +kernel, by decide +kernel⟩,
    ⟨0, { fuse [(Reg.MBX_MSG 0 0, 0x10021)] with img := {} }, by (try dsimp only); decide +kernel⟩,
    ⟨0, fuse [(Reg.MBX_MSG 0 0, 0x10022)], by (try dsimp only); decide +kernel⟩⟩

theorem test_hyp_ClimateCommandsComplete :
    (∃ (adc : List AuxMean) (i2c : List HumRead) (s : State), (clmRuns s = true)) ∧
    (∃ s : State, (clmRuns s = true)) ∧
    (∃ (i : Fin 8) (b : Bool) (n : Nat) (s : State), (clmRuns s = true) ∧ (inputPin s 9 i = some n)) ∧
    (∃ (n : Nat) (s : State), (clmRuns s = true) ∧ (inputPin s 10 0 = some n)) ∧
    (∃ (n : Nat) (s : State), (clmRuns s = true) ∧ (inputPin s 10 0 = some n) ∧ (s.clm.h2 = true)) ∧
    (∃ s : State, (s.clm.h2Hold = true)) ∧
    (∃ (l : Fin 32) (aux : List AuxMean) (s : State), (clmRuns s = true) ∧ (s.bit (Reg.CLM_LOOP_CFG_EN l) = true) ∧ (loopDue s l = true) ∧ (s.rd Reg.TIK_STATUS_STATE ≠ 0)) ∧
    (∃ (d : Fin 8) (s : State), (clmRuns s = true) ∧ (s.rd (Reg.CLM_DMP_CFG_FB d) ≠ 0) ∧ ((s.rd (Reg.CLM_DMP_DSTATUS_STATE d) = 1 ∨ s.rd (Reg.CLM_DMP_DSTATUS_STATE d) = 2))) ∧
    (∃ (d : Fin 8) (s : State), (clmRuns s = true) ∧ ((Tab.get {} s.clm.dmp d.val).sync = true)) ∧
    (∃ (d : Fin 8) (s : State), (clmRuns s = true) ∧ ((Tab.get {} s.clm.vlv d.val).sync = true)) ∧
    (∃ (h : Fin 8) (s : State), (clmRuns s = true)) :=
  ⟨⟨[], [], clm [] {}, by decide +kernel⟩,
    ⟨clm [] {}, by decide +kernel⟩,
    ⟨0, true, 0, clm [(Reg.CLM_CIO_FUNC 0, 9)] {}, by decide +kernel, by decide +kernel⟩,
    ⟨0, clm [(Reg.CLM_CIO_FUNC 0, 10)] {}, by decide +kernel, by decide +kernel⟩,
    ⟨0, clm [(Reg.CLM_CIO_FUNC 0, 10)] { h2 := true }, by decide +kernel, by decide +kernel, by decide +kernel⟩,
    ⟨clm [] { h2Hold := true }, by decide +kernel⟩,
    ⟨0, [], clm [(Reg.CLM_LOOP_CFG_EN 0, 1), (Reg.TIK_STATUS_STATE, 1)] {}, by decide +kernel, by decide +kernel, by decide +kernel, by decide +kernel⟩,
    ⟨0, clm [(Reg.CLM_DMP_CFG_FB 0, 1), (Reg.CLM_DMP_DSTATUS_STATE 0, 2)] {}, by decide +kernel, by decide +kernel, by decide +kernel⟩,
    ⟨0, clm [] { dmp := [(0, { sync := true })] }, by decide +kernel, by decide +kernel⟩,
    ⟨0, clm [] { vlv := [(0, { sync := true })] }, by decide +kernel, by decide +kernel⟩,
    ⟨0, clm [] {}, by decide +kernel⟩⟩

theorem test_hyp_BuildingBusCommandsComplete :
    (∃ (typ dst src : Byte) (data : List Byte) (s : State), (mstpUp s = true) ∧ (typ.toNat ≤ 7) ∧ (data.length ≤ 501) ∧ (src.toNat ≠ mstpMac s)) ∧
    (∃ (typ dst src : Byte) (data : List Byte) (s : State), (mstpUp s = true) ∧ (typ.toNat ≤ 7) ∧ (data.length ≤ 501) ∧ (src.toNat = mstpMac s)) ∧
    (∃ (typ dst src : Byte) (data : List Byte) (s : State), (mstpUp s = true)) ∧
    (∃ s : State, (mstpUp s = true) ∧ (linkState s ≠ linkLeft) ∧ (s.clm.mstp.state = .idle)) ∧
    (∃ s : State, (mstpUp s = true) ∧ (linkState s ≠ linkLeft) ∧ (s.clm.mstp.state = .noToken)) ∧
    (∃ s : State, (mstpUp s = true) ∧ (linkState s ≠ linkLeft) ∧ (s.clm.mstp.state = .useToken)) ∧
    (∃ s : State, (mstpUp s = true) ∧ (linkState s ≠ linkLeft) ∧ (s.clm.mstp.state = .waitReply)) ∧
    (∃ s : State, (mstpUp s = true) ∧ (linkState s ≠ linkLeft) ∧ (s.clm.mstp.state = .passToken) ∧ (s.clm.mstp.retries = 0)) ∧
    (∃ s : State, (mstpUp s = true) ∧ (linkState s ≠ linkLeft) ∧ (s.clm.mstp.state = .pollForMaster) ∧ (s.clm.mstp.sole = false) ∧ (s.clm.mstp.next ≠ mstpMac s)) ∧
    (∃ s : State, (mstpUp s = true) ∧ (s.clm.mstp.state = .answer)) ∧
    (∃ (a : Access) (v : Word) (s : State), (Accepts s a 0x980000 20)) ∧
    (∃ (a : Access) (v : Word) (s : State), (Accepts s a 0x980000 20) ∧ (isMgmt a.init = true) ∧ (fieldOf v 0 1 = 1)) ∧
    (∃ (a : Access) (v : Word) (s : State), (Accepts s a 0x980000 20) ∧ (isMgmt a.init = true) ∧ (fieldOf v 0 1 = 1) ∧ (s.clm.mstp.tx.length < 15) ∧ (s.clm.mstp.state ≠ .answer)) ∧
    (∃ s : State, (domainUp s 20 = true)) ∧
    (∃ s : State, (mstpUp s = true) ∧ (linkState s = linkAbsent) ∧ (s.clm.mstp.state = .idle)) ∧
    (∃ s : State, (mstpUp s = true) ∧ (linkState s = linkAbsent) ∧ (s.clm.mstp.state = .useToken)) :=
  ⟨⟨0, 5, 6, [], bus linkJoined {}, by decide +kernel, by decide +kernel, by decide +kernel, by decide +kernel⟩,
    ⟨0, 5, 5, [], bus linkJoined {}, by decide +kernel, by decide +kernel, by decide +kernel, by decide +kernel⟩,
    ⟨0, 5, 6, [], bus linkJoined {}, by decide +kernel⟩,
    ⟨bus linkJoined {}, by decide +kernel, by decide +kernel, by decide +kernel⟩,
    ⟨bus linkJoined { state := .noToken }, by decide +kernel, by decide +kernel, by decide +kernel⟩,
    ⟨bus linkJoined { state := .useToken }, by decide +kernel, by decide +kernel, by decide +kernel⟩,
    ⟨bus linkJoined { state := .waitReply }, by decide +kernel, by decide +kernel, by decide +kernel⟩,
    ⟨bus linkJoined { state := .passToken, next := 6 }, by decide +kernel, by decide +kernel, by decide +kernel, by decide +kernel⟩,
    ⟨bus linkJoined { state := .pollForMaster, next := 6 }, by decide +kernel, by decide +kernel, by decide +kernel, by decide +kernel, by decide +kernel⟩,
    ⟨bus linkJoined { state := .answer }, by decide +kernel, by decide +kernel⟩,
    ⟨pf, 1, bus linkJoined {}, by decide +kernel⟩,
    ⟨mg, 1, bus linkJoined {}, by decide +kernel, by decide +kernel, by decide +kernel⟩,
    ⟨mg, 1, bus linkJoined {}, by decide +kernel, by decide +kernel, by decide +kernel, by decide +kernel, by decide +kernel⟩,
    ⟨up, by decide +kernel⟩,
    ⟨bus linkAbsent {}, by decide +kernel, by decide +kernel, by decide +kernel⟩,
    ⟨bus linkAbsent { state := .useToken }, by decide +kernel, by decide +kernel, by decide +kernel⟩⟩

theorem test_hyp_FanCommandsComplete :
    (∃ (a : Access) (v : Word) (ms : Nat) (s : State), (Accepts s a 0x9C0000 21) ∧ (isPfOrMgmt a.init = true) ∧ (s.bit Reg.FAN_STATUS_WDT_EXPIRED = true)) ∧
    (∃ (a : Access) (v : Word) (ms : Nat) (s : State), (Accepts s a 0x9C0000 21) ∧ (isPfOrMgmt a.init = true) ∧ (s.bit Reg.FAN_STATUS_WDT_EXPIRED = false)) ∧
    (∃ s : State, (moveUp s = true) ∧ (s.bit Reg.FAN_STATUS_WDT_EXPIRED = false) ∧ ((∃ c, c < 12 ∧ s.rd (Reg.FAN_CH_CSTATUS_STATE c) ≠ 0))) ∧
    (∃ (t : List TachIn) (s : State), (moveUp s = true)) ∧
    (∃ (a : Access) (c : Fin 12) (v : Word) (s : State), (Accepts s a 0x9C0000 21) ∧ (fieldOf v 31 1 = 1) ∧ (fanFaulty s c = true)) :=
  ⟨⟨pf, 0, 5, on [(Reg.FAN_STATUS_WDT_EXPIRED, 1)], by decide +kernel, by decide +kernel, by decide +kernel⟩,
    ⟨pf, 0, 5, up, by decide +kernel, by decide +kernel, by decide +kernel⟩,
    ⟨on [(Reg.FAN_CH_CSTATUS_STATE 3, 1)], by decide +kernel, by decide +kernel, 3, by decide, by decide +kernel⟩,
    ⟨[], up, by decide +kernel⟩,
    ⟨pf, 3, 0x80000000, on [(Reg.FAN_CH_CSTATUS_STATE 3, 2)], by decide +kernel, by decide +kernel, by decide +kernel⟩⟩

theorem test_hyp_MotorStartCommandsComplete :
    (∃ (a : Access) (m : Fin 4) (v : Word) (s : State), (Accepts s a 0x9E0000 21) ∧ (isPfOrMgmt a.init = true)) ∧
    (∃ (m : Fin 4) (sums : List Nat) (s : State), (mState s m = mAlign)) ∧
    (∃ (m : Fin 4) (vb ax : Option (Fin 4096)) (ps : List PwmIn) (s : State), (let w := (motorMs s m vb ax ps); (let ol := (rampSpeed w m (motOf w m).ramp); (mState w m = mRamp) ∧ (handoverDue w m = true)))) ∧
    (∃ (m : Fin 4) (s : State), (mState s m = mRamp)) ∧
    (∃ (m : Fin 4) (s : State), (mState s m = mWait)) ∧
    (∃ (m : Fin 4) (x : MotorIn) (s w : State), (w = x.periods.foldl (drivePeriod m) ((s.setReg (Reg.MTR_ST_VBUS m).key
      (Config.fpMul (fpOfNat x.vbus.val) (s.reg (Reg.MTR_CH_FP m 7).key))).setReg (Reg.MTR_ST_AUX m).key
        (Config.fpMul (fpOfNat x.aux.val) (s.reg (Reg.MTR_CH_FP m 8).key)))) ∧ (mState w m = mAlign)) ∧
    (∃ (m : Fin 4) (x : MotorIn) (s w : State), (w = x.periods.foldl (drivePeriod m) ((s.setReg (Reg.MTR_ST_VBUS m).key
      (Config.fpMul (fpOfNat x.vbus.val) (s.reg (Reg.MTR_CH_FP m 7).key))).setReg (Reg.MTR_ST_AUX m).key
        (Config.fpMul (fpOfNat x.aux.val) (s.reg (Reg.MTR_CH_FP m 8).key)))) ∧ (mState w m = mRamp)) ∧
    (∃ (m : Fin 4) (x : MotorIn) (s w : State), (w = x.periods.foldl (drivePeriod m) ((s.setReg (Reg.MTR_ST_VBUS m).key
      (Config.fpMul (fpOfNat x.vbus.val) (s.reg (Reg.MTR_CH_FP m 7).key))).setReg (Reg.MTR_ST_AUX m).key
        (Config.fpMul (fpOfNat x.aux.val) (s.reg (Reg.MTR_CH_FP m 8).key)))) ∧ ((mState w m = mStopped ∨ mState w m = mWait ∨ mState w m = mFault))) ∧
    (∃ (m : Fin 4) (x : MotorIn) (s w : State), (w = x.periods.foldl (drivePeriod m) ((s.setReg (Reg.MTR_ST_VBUS m).key
      (Config.fpMul (fpOfNat x.vbus.val) (s.reg (Reg.MTR_CH_FP m 7).key))).setReg (Reg.MTR_ST_AUX m).key
        (Config.fpMul (fpOfNat x.aux.val) (s.reg (Reg.MTR_CH_FP m 8).key)))) ∧ ((mState w m = mRunning ∨ mState w m = mStopping))) ∧
    (∃ (m : Fin 4) (x : MotorIn) (s w : State), (w = x.periods.foldl (drivePeriod m) ((s.setReg (Reg.MTR_ST_VBUS m).key
      (Config.fpMul (fpOfNat x.vbus.val) (s.reg (Reg.MTR_CH_FP m 7).key))).setReg (Reg.MTR_ST_AUX m).key
        (Config.fpMul (fpOfNat x.aux.val) (s.reg (Reg.MTR_CH_FP m 8).key)))) ∧ ((mState w m = mRunning ∨ mState w m = mStopping)) ∧ (let t := (speedLoop (showMotor w m) m); (fpLt (w.reg (Reg.MTR_CH_FP m 9).key) (motOf w m).imag = false))) ∧
    (∃ (m : Fin 4) (s : State), (mState s m = mStopping)) :=
  ⟨⟨pf, 0, 1000, up, by decide +kernel, by decide +kernel⟩,
    ⟨0, [], mot mAlign [], by decide +kernel⟩,
    ⟨0, none, none, [], { mot mRamp [(Reg.MTR_CH_RAMP_RAMP_END 0, 0), (Reg.MTR_CH_HANDOVER_HO_CONFIRM 0, 0)] with mov := { mot := [(0, { obs := some 0 })] } }, by (try dsimp only); decide +kernel⟩,
    ⟨0, mot mRamp [], by decide +kernel⟩,
    ⟨0, mot mWait [], by decide +kernel⟩,
    ⟨0, ⟨0, 0, []⟩, mot mAlign [], _, rfl, mState_measured mAlign⟩,
    ⟨0, ⟨0, 0, []⟩, mot mRamp [], _, rfl, mState_measured mRamp⟩,
    ⟨0, ⟨0, 0, []⟩, mot mFault [], _, rfl, .inr (.inr (mState_measured mFault))⟩,
    ⟨0, ⟨0, 0, []⟩, mot mRunning [], _, rfl, .inl (mState_measured mRunning)⟩,
    ⟨0, ⟨0, 0, []⟩, mot mRunning [], _, rfl, .inl (mState_measured mRunning), limit_measured⟩,
    ⟨0, mot mStopping [], by decide +kernel⟩⟩

theorem test_hyp_MotorFaultCommandsComplete :
    (∃ (m : Fin 4) (ps : List PwmIn) (s z : State), (z = ps.foldl (drivePeriod m) s) ∧ ((mState z m = mRunning ∨ mState z m = mRamp)) ∧ (fpLe (fpOfNat (z.rd (Reg.MTR_CH_SPEED_SPEED_MIN m))) (motOf z m).speed = true)) ∧
    (∃ (m : Fin 4) (again : Bool) (s : State), (motorDriven s m = true)) ∧
    (∃ (m : Fin 4) (s : State), (moveUp s = true)) ∧
    (∃ (m : Fin 4) (s : State), (motorDriven s m = true)) ∧
    (∃ (a : Access) (m : Fin 4) (v : Word) (s : State), (Accepts s a 0x9E0000 21) ∧ (fieldOf v 31 1 = 1) ∧ (mState s m = mFault)) ∧
    (∃ (m : Fin 4) (s : State), (mState s m = mFault) ∧ ((s.rd (Reg.MTR_ST_MSTATE_FAULT_CODE m) = 1 ∨ s.rd (Reg.MTR_ST_MSTATE_FAULT_CODE m) = 2)) ∧ (s.rd (Reg.MTR_CH_FAULT_CFG_RESTART_S m) ≠ 0) ∧ (0 < (motOf s m).target)) :=
  ⟨⟨0, [], mot mRunning [(Reg.MTR_CH_SPEED_SPEED_MIN 0, 0)], _, rfl, .inl (by decide +kernel), by decide +kernel⟩,
    ⟨0, true, mot mRamp [], by decide +kernel⟩,
    ⟨0, up, by decide +kernel⟩,
    ⟨0, mot mAlign [], by decide +kernel⟩,
    ⟨pf, 0, 0x80000000, mot mFault [], by decide +kernel, by decide +kernel, by decide +kernel⟩,
    ⟨0, { mot mFault [(Reg.MTR_ST_MSTATE_FAULT_CODE 0, 2), (Reg.MTR_CH_FAULT_CFG_RESTART_S 0, 1)] with mov := { mot := [(0, { target := 100 })] } }, by decide +kernel, by decide +kernel, by decide +kernel, by decide +kernel⟩⟩

theorem test_hyp_PanelCommandsComplete :
    (∃ (high : BitVec 8) (ms : Nat) (s : State), (let u := (panelAt s ms); (panelOn u = true) ∧ (u.bit Reg.PNL_STATUS_SCANNING = false))) ∧
    (∃ (closed : BitVec 64) (ms lost : Nat) (s : State), (panelOn (panelAt s ms) = true) ∧ ((panelAt s ms).bit Reg.PNL_STATUS_SCANNING = true)) ∧
    (∃ (c : Fin 8) (closed : BitVec 8) (ms lost : Nat) (s : State), (let u := (panelAt s ms); (panelOn u = true) ∧ (u.bit Reg.PNL_STATUS_SCANNING = false) ∧ (maskedColumn u c = true))) ∧
    (∃ (l : Fin 2) (code : Fin 4096) (ms lost : Nat) (s : State), (let u := (panelAt s ms); (panelOn u = true) ∧ (domainUp u 20 = true) ∧ (u.bit (Reg.PNL_LADDER_CFG_EN l) = true))) ∧
    (∃ (i : Ident) (ms : Nat) (s : State), (let u := (panelAt s ms); (debugShut u i = false) ∧ (domainUp u 22 = true) ∧ (u.pnl.fifo = []))) ∧
    (∃ (i : Ident) (ms : Nat) (s : State), (let u := (panelAt s ms); (debugShut u i = false) ∧ (domainUp u 22 = true) ∧ (∃ w ws, (u.pnl.fifo = w :: ws) ∧ (clearsOnRead i = true) ∧ (u.pnl.lost = 0)))) ∧
    (∃ (i : Ident) (ms : Nat) (s : State), (let u := (panelAt s ms); (debugShut u i = false) ∧ (domainUp u 22 = true) ∧ (∃ w ws, (u.pnl.fifo = w :: ws) ∧ (clearsOnRead i = false)))) ∧
    (∃ (a : Access) (v : Word) (ms : Nat) (s : State), (Accepts (panelAt s ms) a 0xA00000 22)) ∧
    (∃ (e : Fin 4) (qa qb is : List Bool) (s : State), (domainUp s 22 = true)) ∧
    (∃ (e : Fin 4) (v : Bool × Bool) (s : State), (panelOn s = true) ∧ (s.bit (Reg.PNL_QEP_QCFG_EN e) = true) ∧ (let x := (qepOf s e); (let y := ({ x with a := lineSample (qepFilt s e) x.a v.1, b := lineSample (qepFilt s e) x.b v.2 }); (y.a.level = x.a.level) ∧ (y.b.level = x.b.level)))) ∧
    (∃ (e : Fin 4) (v : Bool × Bool) (s : State), (panelOn s = true) ∧ (s.bit (Reg.PNL_QEP_QCFG_EN e) = true) ∧ (let x := (qepOf s e); (let y := ({ x with a := lineSample (qepFilt s e) x.a v.1, b := lineSample (qepFilt s e) x.b v.2 }); ((y.a.level ≠ x.a.level ∧ y.b.level = x.b.level ∨ y.a.level = x.a.level ∧ y.b.level ≠ x.b.level))))) ∧
    (∃ (e : Fin 4) (v : Bool) (s : State), (panelOn s = true) ∧ (s.bit (Reg.PNL_QEP_QCFG_EN e) = true) ∧ (s.bit (Reg.PNL_QEP_QCFG_IDX_EN e) = true) ∧ (let x := (qepOf s e); (let y := ({ x with index := lineSample (qepFilt s e) x.index v }); (let u := (setQep s e y); (let w := (u.wr (Reg.PNL_QEP_IDX_LATCH e) (u.rd (Reg.PNL_QEP_COUNT e))); (y.index.level = true) ∧ (x.index.level = false)))))) :=
  ⟨⟨1, 5, pan [] {}, by (try dsimp only); decide +kernel⟩,
    ⟨1, 5, 0, pan [(Reg.PNL_STATUS_SCANNING, 1)] {}, by decide +kernel, by decide +kernel⟩,
    ⟨0, 1, 5, 0, pan [] { keys := [(0, { masked := true })] }, by (try dsimp only); decide +kernel⟩,
    ⟨0, 5, 5, 0, pan [(Reg.PNL_LADDER_CFG_EN 0, 1)] {}, by (try dsimp only); decide +kernel⟩,
    ⟨1, 5, pan [] {}, by (try dsimp only); decide +kernel⟩,
    ⟨1, 5, pan [] { fifo := [7] }, by dsimp only; exact ⟨by decide +kernel, by decide +kernel, 7, [], by decide +kernel, by decide +kernel, by decide +kernel⟩⟩,
    ⟨0x104, 5, pan [(Reg.DBG_CTRL_PORT_EN, 1)] { fifo := [7] }, by dsimp only; exact ⟨by decide +kernel, by decide +kernel, 7, [], by decide +kernel, by decide +kernel⟩⟩,
    ⟨pf, 1, 5, up, by decide +kernel⟩,
    ⟨0, [], [], [], up, by decide +kernel⟩,
    ⟨0, (false, false), pan [(Reg.PNL_QEP_QCFG_EN 0, 1)] {}, by (try dsimp only); decide +kernel⟩,
    ⟨0, (true, false), pan [(Reg.PNL_QEP_QCFG_EN 0, 1)] { qep := [(0, { a := ⟨false, 1000⟩ })] }, by (try dsimp only); decide +kernel⟩,
    ⟨0, true, pan [(Reg.PNL_QEP_QCFG_EN 0, 1), (Reg.PNL_QEP_QCFG_IDX_EN 0, 1)] { qep := [(0, { index := ⟨false, 1000⟩ })] }, by (try dsimp only); decide +kernel⟩⟩

theorem test_hyp_FlashCommandsComplete :
    (∃ (sig : Word) (s : State), (domainUp s 22 = true) ∧ (let u := (emit (emit s (.flash false 0x06 0 [])) (.flash false 0x81 0 [BitVec.ofNat 8 (s.rd Reg.SPM0_CFG_ENTRY_VAL)])); (sig = sfdpWord))) ∧
    (∃ (sig : Word) (s : State), (domainUp s 22 = true) ∧ (let u := (emit (emit s (.flash false 0x06 0 [])) (.flash false 0x81 0 [BitVec.ofNat 8 (s.rd Reg.SPM0_CFG_ENTRY_VAL)])); (sig ≠ sfdpWord))) ∧
    (∃ (a : Access) (v : Word) (s : State), (Accepts s a 0xA20000 22) ∧ (isPfOrMgmt a.init = true) ∧ (s.spm.queue.any (fun c => c.init == a.init.toNat) = false) ∧ ((s.spm.owned && s.spm.run.any (fun c => c.init == a.init.toNat)) = false) ∧ (let addr := (s.rd (Reg.SPM0_ADDR_ADDR a.init)); (let len := (s.rd (Reg.SPM0_LEN_LEN a.init)); (let u := (flashResult s a.init.toNat false (s.bit Reg.SPM0_STATUS_FETCH || s.spm.run.isSome) 0); (let queued := (fun (op base n : Nat) (data : List Byte) =>
       nextFlash { u with spm := { u.spm with queue := u.spm.queue ++ [⟨a.init.toNat, op, base, n, data⟩] } }); (1 ≤ len) ∧ (len ≤ 256)))))) ∧
    (∃ (a : Access) (v : Word) (s : State), (Accepts s a 0xA20000 22) ∧ (isPfOrMgmt a.init = true) ∧ (s.spm.queue.any (fun c => c.init == a.init.toNat) = false) ∧ ((s.spm.owned && s.spm.run.any (fun c => c.init == a.init.toNat)) = false) ∧ (let addr := (s.rd (Reg.SPM0_ADDR_ADDR a.init)); (let len := (s.rd (Reg.SPM0_LEN_LEN a.init)); (let u := (flashResult s a.init.toNat false (s.bit Reg.SPM0_STATUS_FETCH || s.spm.run.isSome) 0); (let queued := (fun (op base n : Nat) (data : List Byte) =>
       nextFlash { u with spm := { u.spm with queue := u.spm.queue ++ [⟨a.init.toNat, op, base, n, data⟩] } }); (1 ≤ len) ∧ (Keyed v) ∧ (addr % 256 + len ≤ 256)))))) ∧
    (∃ (a : Access) (v : Word) (s : State), (Accepts s a 0xA20000 22) ∧ (isPfOrMgmt a.init = true) ∧ (s.spm.queue.any (fun c => c.init == a.init.toNat) = false) ∧ ((s.spm.owned && s.spm.run.any (fun c => c.init == a.init.toNat)) = false) ∧ (let addr := (s.rd (Reg.SPM0_ADDR_ADDR a.init)); (let len := (s.rd (Reg.SPM0_LEN_LEN a.init)); (let u := (flashResult s a.init.toNat false (s.bit Reg.SPM0_STATUS_FETCH || s.spm.run.isSome) 0); (let queued := (fun (op base n : Nat) (data : List Byte) =>
       nextFlash { u with spm := { u.spm with queue := u.spm.queue ++ [⟨a.init.toNat, op, base, n, data⟩] } }); (Keyed v)))))) ∧
    (∃ (c : FlashCmd) (s : State), (s.spm.run = some c) ∧ (c.op = 2)) ∧
    (∃ (c : FlashCmd) (s : State), (s.spm.run = some c) ∧ (c.op ≠ 2)) ∧
    (∃ (c : FlashCmd) (s : State), (s.spm.run = some c)) ∧
    (∃ (a : Access) (v : Word) (s : State), (Accepts s a 0xA20000 22) ∧ (isOwner (s.bit Reg.SPM1_CTRL_OWNER) a.init = true) ∧ (s.spm.xfer = none) ∧ (let u := (s.setReg Reg.SPM1_XFER.key (v &&& 0x0F3711FF#32)); (u.bit Reg.SPM1_CTRL_EN = true) ∧ (ranges1 u v = true))) ∧
    (∃ (data : List Byte) (x : Xfer1) (s : State), (s.spm.xfer = some x)) ∧
    (∃ (data : List Byte) (x : Xfer1) (s : State), (s.spm.xfer = some x) ∧ (∃ us : Nat, (x.rdy = true) ∧ (max 1 (s.rd Reg.SPM1_RDY_TMO_US) ≤ us))) :=
  ⟨⟨sfdpWord, up, by (try dsimp only); decide +kernel⟩,
    ⟨0, up, by (try dsimp only); decide +kernel⟩,
    ⟨pf, 1, on [(Reg.SPM0_LEN_LEN 1, 256)], by (try dsimp only); decide +kernel⟩,
    ⟨pf, key + 2, on [(Reg.SPM0_LEN_LEN 1, 256)], by (try dsimp only); decide +kernel⟩,
    ⟨pf, key + 3, up, by (try dsimp only); decide +kernel⟩,
    ⟨fc0 2, { up with spm := { run := some (fc0 2) } }, by decide +kernel, by decide +kernel⟩,
    ⟨fc0 3, { up with spm := { run := some (fc0 3) } }, by decide +kernel, by decide +kernel⟩,
    ⟨fc0 3, { up with spm := { run := some (fc0 3) } }, by decide +kernel⟩,
    ⟨pf, 0x80000000, on [(Reg.SPM1_CTRL_EN, 1), (Reg.SPM1_TGT_DIV 0, 2), (Reg.SPM1_CTRL_OWNER, 0)], by (try dsimp only); decide +kernel⟩,
    ⟨[], x10, { up with spm := { xfer := some x10 } }, by decide +kernel⟩,
    ⟨[], x10, { up with spm := { xfer := some x10 } }, by decide +kernel, 1000000, by decide +kernel, by decide +kernel⟩⟩

theorem test_hyp_SerialCommandsComplete :
    (∃ (addr : Fin 16384) (n : Nat) (late : List Nat) (s : State), (domainUp s 22 = true)) ∧
    (∃ (addr : Fin 16384) (data : List Byte) (s : State), (domainUp s 22 = true) ∧ (s.bit Reg.SPS_CFG_WR_EN = true) ∧ ((spsWords addr.val 0 data).all (fun w => w.2.length == 4) = true)) ∧
    (∃ (n : Nat) (late : List Nat) (s : State), (domainUp s 22 = true)) ∧
    (∃ (lost : Nat) (x y : Byte) (s : State), (domainUp s 22 = true) ∧ (s.bit Reg.SPS_CFG_WR_EN = true) ∧ ((spsEnd s false).bit Reg.SPS_CFG_RESET_EN = true)) ∧
    (∃ (u : Fin 4) (f : UartFrame) (s : State), (domainUp s 20 = true) ∧ (s.bit (Reg.UAR_CFG_EN u) = true) ∧ (((uart s u).de = false ∨ s.bit (Reg.UAR_CFG_ECHO u) = true)) ∧ (let x := (uartBits s u f); (x.start = true))) ∧
    (∃ (u : Fin 4) (f : UartFrame) (s : State), (domainUp s 20 = true) ∧ (s.bit (Reg.UAR_CFG_EN u) = true) ∧ (((uart s u).de = false ∨ s.bit (Reg.UAR_CFG_ECHO u) = true)) ∧ (let x := (uartBits s u f); (x.start = false) ∧ (x.stop = true) ∧ (s.bit (Reg.UAR_CFG_MODBUS u) = false) ∧ (parityBad s u x.data x.par = false) ∧ ((uart s u).rx.length < 64))) ∧
    (∃ (u : Fin 4) (f : UartFrame) (s : State), (domainUp s 20 = true) ∧ (s.bit (Reg.UAR_CFG_EN u) = true) ∧ (((uart s u).de = false ∨ s.bit (Reg.UAR_CFG_ECHO u) = true)) ∧ (let x := (uartBits s u f); (x.start = false) ∧ (x.stop = true) ∧ (s.bit (Reg.UAR_CFG_MODBUS u) = false) ∧ (parityBad s u x.data x.par = false) ∧ (64 ≤ (uart s u).rx.length))) ∧
    (∃ (i : Ident) (u : Fin 4) (w : Word) (ws : List Word) (s : State), (debugShut s i = false) ∧ (domainUp s 20 = true) ∧ (ownsUart s u i = true) ∧ ((uart s u).rx = w :: ws)) ∧
    (∃ (a : Access) (u : Fin 4) (v : Word) (s : State), (Accepts s a 0xA60000 20) ∧ ((u.val = 0 → s.bit Reg.CLM_MSTP_CTRL_EN = false)) ∧ (ownsUart s u a.init = true) ∧ ((uart s u).tx.length < 64)) ∧
    (∃ (a : Access) (u : Fin 4) (v : Word) (s : State), (Accepts s a 0xA60000 20) ∧ ((u.val = 0 → s.bit Reg.CLM_MSTP_CTRL_EN = false)) ∧ (ownsUart s u a.init = true) ∧ (64 ≤ (uart s u).tx.length)) ∧
    (∃ (u : Fin 4) (x b : Byte) (bs : List Byte) (s : State), ((uart s u).shift = some x) ∧ ((uart s u).tx = [])) ∧
    (∃ (u : Fin 4) (x b : Byte) (bs : List Byte) (s : State), ((uart s u).shift = some x) ∧ ((uart s u).tx = b :: bs)) ∧
    (∃ (u : Fin 4) (idle : Nat) (s : State), (domainUp s 20 = true) ∧ (s.bit (Reg.UAR_CFG_EN u) = true) ∧ (s.bit (Reg.UAR_CFG_MODBUS u) = true) ∧ ((uart s u).quiet = false) ∧ ((uart s u).shift = none) ∧ (t35 s u ≤ 2 * idle)) :=
  ⟨⟨0, 4, [], up, by decide +kernel⟩,
    ⟨0, [1, 2, 3, 4], on [(Reg.SPS_CFG_WR_EN, 1)], by decide +kernel, by decide +kernel, by decide +kernel⟩,
    ⟨4, [], up, by decide +kernel⟩,
    ⟨0, 1, 2, on [(Reg.SPS_CFG_WR_EN, 1), (Reg.SPS_CFG_RESET_EN, 1)], by decide +kernel, by decide +kernel, by decide +kernel⟩,
    ⟨0, { uf with bits := [7] }, ser [] {}, by (try dsimp only); decide +kernel⟩,
    ⟨0, uf, ser [] {}, by (try dsimp only); decide +kernel⟩,
    ⟨0, uf, ser [] { rx := List.replicate 64 0 }, by (try dsimp only); decide +kernel⟩,
    ⟨1, 0, 65, [], ser [] { rx := [65] }, by decide +kernel, by decide +kernel, by decide +kernel, by decide +kernel⟩,
    ⟨pf, 0, 65, ser [] {}, by decide +kernel, by decide +kernel, by decide +kernel, by decide +kernel⟩,
    ⟨pf, 0, 65, ser [] { tx := List.replicate 64 0 }, by decide +kernel, by decide +kernel, by decide +kernel, by decide +kernel⟩,
    ⟨0, 65, 0, [], ser [] { shift := some 65 }, by decide +kernel, by decide +kernel⟩,
    ⟨0, 65, 66, [], ser [] { shift := some 65, tx := [66] }, by decide +kernel, by decide +kernel⟩,
    ⟨0, 1000000000, ser [(Reg.UAR_CFG_MODBUS 0, 1)] { quiet := false }, by decide +kernel, by decide +kernel, by decide +kernel, by decide +kernel, by decide +kernel, by decide +kernel⟩⟩

theorem test_hyp_TwoWireCommandsComplete :
    (∃ (a : Access) (c : Fin 2) (v : Word) (sda : Bool) (s : State), (Accepts s a 0xA80000 22) ∧ (isPfOrMgmt a.init = true) ∧ (((iic s c).wait.contains a.init.toNat || (iic s c).cur == some a.init.toNat) = false) ∧ (fieldOf v 0 6 ≤ 32) ∧ (fieldOf v 8 6 ≤ 32) ∧ ((fieldOf v 27 1 = 1 → fieldOf v 24 3 ≤ 5))) ∧
    (∃ (c : Fin 2) (e : I2cEnd) (n : Nat) (s : State), ((iic s c).cur = some n) ∧ (i2cCode s c (idOf n) e = 0)) ∧
    (∃ (c : Fin 2) (e : I2cEnd) (n : Nat) (s : State), ((iic s c).cur = some n) ∧ (i2cCode s c (idOf n) e ≠ 0) ∧ (let stuck := (e.sdaLow && (i2cCode s c (idOf n) e == 2 || i2cCode s c (idOf n) e == 3)); (stuck = true))) ∧
    (∃ (c : Fin 2) (e : I2cEnd) (n : Nat) (s : State), ((iic s c).cur = some n) ∧ (i2cCode s c (idOf n) e ≠ 0) ∧ (let stuck := (e.sdaLow && (i2cCode s c (idOf n) e == 2 || i2cCode s c (idOf n) e == 3)); (stuck = false) ∧ ((iic s c).again = false))) ∧
    (∃ (c : Fin 2) (e : I2cEnd) (n : Nat) (s : State), ((iic s c).cur = some n) ∧ (i2cCode s c (idOf n) e ≠ 0) ∧ (let stuck := (e.sdaLow && (i2cCode s c (idOf n) e == 2 || i2cCode s c (idOf n) e == 3)); (stuck = false) ∧ ((iic s c).again = true))) ∧
    (∃ (p : Fin 6) (present los : Bool) (s : State), (domainUp s 22 = true) ∧ (let u := ((s.setBit (Reg.IIC_SFP_PRESENT p) present).setBit (Reg.IIC_SFP_LOS p) los); (s.bit (Reg.IIC_SFP_PRESENT p) ≠ present))) ∧
    (∃ (p : Fin 6) (present los : Bool) (s : State), (domainUp s 22 = true) ∧ (let u := ((s.setBit (Reg.IIC_SFP_PRESENT p) present).setBit (Reg.IIC_SFP_LOS p) los); (s.bit (Reg.IIC_SFP_PRESENT p) = present))) :=
  ⟨⟨pf, 0, 0x80000000, false, up, by decide +kernel, by decide +kernel, by decide +kernel, by decide +kernel, by decide +kernel, by decide +kernel⟩,
    ⟨0, ie false, 1, two { cur := some 1 }, by decide +kernel, by decide +kernel⟩,
    ⟨0, { ie true with arb := true, sdaLow := true }, 1, two { cur := some 1 }, by (try dsimp only); decide +kernel⟩,
    ⟨0, ie true, 1, two { cur := some 1 }, by (try dsimp only); decide +kernel⟩,
    ⟨0, ie true, 1, two { cur := some 1, again := true }, by (try dsimp only); decide +kernel⟩,
    ⟨0, true, false, up, by (try dsimp only); decide +kernel⟩,
    ⟨0, false, false, up, by (try dsimp only); decide +kernel⟩⟩

end Sys2Proof.Tests
end

section
/-! SUPPORT. Properties of the state that the shared machinery keeps: events, outputs, answers, free values and the messages of
the host interface. -/

namespace Sys2Proof.Machine

/-! ### What an event leaves alone -/

/-- A part of the state that is neither a register nor the black box is the same after an event is offered. -/
theorem bbxOffer_proj {α : Type} (p : State → α) (hr : ∀ s k v, p (s.setReg k v) = p s)
    (hb : ∀ s b, p { s with bbx := b } = p s) (s : State) (e : Event) (always : Bool) : p (bbxOffer s e always) = p s := by
  have hi : ∀ f, p (s.inc f) = p s := fun f => hr _ _ _
  rcases bbxOffer_cases s e always with h | h | h | ⟨-, h⟩ | ⟨-, h⟩ <;> rw [h]
  · exact hi _
  · exact (hr _ _ _).trans (hi _)
  · exact (hb _ _).trans (hi _)
  · exact hb _ _

/-- A part of the state that is neither a register, nor the log, nor the black box is the same after an event is raised. -/
theorem raise_proj {α : Type} (p : State → α) (hr : ∀ s k v, p (s.setReg k v) = p s)
    (hb : ∀ s b, p { s with bbx := b } = p s) (he : ∀ s l, p { s with events := l } = p s)
    (s : State) (block code : Nat) (sev : Sev) (x : Nat) : p (raise s block code sev x) = p s :=
  (bbxOffer_proj p hr hb _ _ _).trans (he _ _)

section
variable (s : State) (block code : Nat) (sev : Sev) (x : Nat)

@[simp] theorem raise_pending : (raise s block code sev x).pending = s.pending :=
  raise_proj State.pending (fun _ _ _ => rfl) (fun _ _ => rfl) (fun _ _ => rfl) _ _ _ _ _

@[simp] theorem raise_pend : (raise s block code sev x).pend = s.pend :=
  raise_proj State.pend (fun _ _ _ => rfl) (fun _ _ => rfl) (fun _ _ => rfl) _ _ _ _ _

@[simp] theorem raise_img : (raise s block code sev x).img = s.img :=
  raise_proj State.img (fun _ _ _ => rfl) (fun _ _ => rfl) (fun _ _ => rfl) _ _ _ _ _

@[simp] theorem raise_grn : (raise s block code sev x).grn = s.grn :=
  raise_proj State.grn (fun _ _ _ => rfl) (fun _ _ => rfl) (fun _ _ => rfl) _ _ _ _ _

@[simp] theorem raise_flash : (raise s block code sev x).flash = s.flash :=
  raise_proj State.flash (fun _ _ _ => rfl) (fun _ _ => rfl) (fun _ _ => rfl) _ _ _ _ _

@[simp] theorem raise_outputs : (raise s block code sev x).outputs = s.outputs :=
  raise_proj State.outputs (fun _ _ _ => rfl) (fun _ _ => rfl) (fun _ _ => rfl) _ _ _ _ _

@[simp] theorem raise_uar : (raise s block code sev x).uar = s.uar :=
  raise_proj State.uar (fun _ _ _ => rfl) (fun _ _ => rfl) (fun _ _ => rfl) _ _ _ _ _

end

/-! ### Properties that the shared machinery keeps -/

/-- A property of states that events with their limits, answers, free values, outputs and the registers of the tenant windows do
not touch. -/
structure Undisturbed (P : State → Prop) : Prop where
  raise : ∀ {s : State} (block code : Nat) (sev : Sev) (x : Nat), P s → P (raise s block code sev x)
  limits : ∀ {s : State} (l : Tab Nat), P s → P { s with limits := l }
  resp : ∀ {s : State} (w : Option Word), P s → P { s with resp := w }
  used : ∀ {s : State}, P s → P s.used
  emit : ∀ {s : State} (o : Output), P s → P (emit s o)
  window : ∀ {s : State} (f : Fld) (v : Nat), 0x4000000 ≤ f.key → P s → P (s.wr f v)

namespace Undisturbed

variable {P : State → Prop} (hP : Undisturbed P) {s : State}
include hP

theorem raiseLimited (h : P s) (block code : Nat) (sev : Sev) (i x : Nat) : P (raiseLimited s block code sev i x) := by
  unfold Machine.raiseLimited
  split
  · exact hP.raise _ _ _ _ (hP.limits _ h)
  · exact h

theorem cfgViol (h : P s) (block : Nat) (i : Ident) (addr : Nat) : P (cfgViol s block i addr) := hP.raise _ _ _ _ h

theorem accSize (h : P s) (block : Nat) (i : Ident) (addr : Nat) : P (accSize s block i addr) := hP.raise _ _ _ _ h

theorem isoErr (h : P s) (block : Nat) (i : Ident) (addr pd : Nat) : P (isoErr s block i addr pd) := by
  unfold Machine.isoErr
  split
  · exact hP.raise _ _ _ _ (hP.limits _ h)
  · exact h

/-- A gated write keeps what its refusals and its action keep. -/
theorem withWrite (h : P s) (a : Access) (base block pd addr : Nat) {k : State → State} (hk : P (k s)) :
    P (withWrite s a base block pd addr k) := by
  unfold Machine.withWrite
  split
  · exact hP.cfgViol h _ _ _
  split
  · exact hP.isoErr h _ _ _ _
  split
  · exact hP.accSize h _ _ _
  · exact hk

theorem windowWrite (h : P s) (t : Nat) (be : BitVec 4) (off pd : Nat) {k : State → State} (hk : P (k s)) :
    P (windowWrite s t be off pd k) := by
  unfold Machine.windowWrite
  split
  · exact hP.isoErr h _ _ _ _
  split
  · exact hP.isoErr h _ _ _ _
  split
  · exact hP.accSize h _ _ _
  · exact hk

theorem mbxWrite (h : P s) (a : Access) (c off : Nat) (view : Bool) {k : State → State} (hk : P (k s)) :
    P (mbxWrite s a c off view k) := by
  unfold Machine.mbxWrite
  dsimp only
  split
  · exact hP.cfgViol h _ _ _
  split
  · exact hP.isoErr h _ _ _ _
  split
  · exact hP.accSize h _ _ _
  split
  · exact hk
  · exact hP.cfgViol h _ _ _

theorem mbxRead (h : P s) (i : Ident) (c off : Nat) (view : Bool) {k : State → State} (hk : P (k s)) :
    P (mbxRead s i c off view k) := by
  unfold Machine.mbxRead
  dsimp only
  split
  · exact hP.resp _ (hP.cfgViol (hP.used h) _ _ _)
  split
  · exact hP.resp _ (hP.isoErr h _ _ _ _)
  split
  · exact hk
  · exact hP.resp _ (hP.cfgViol (hP.used h) _ _ _)

theorem msix (h : P s) (t vec : Nat) : P (msix s t vec) := by
  unfold Machine.msix
  split
  · exact hP.window _ _ (by simp only; omega) h
  split
  · exact hP.window _ _ (by simp only; omega) h
  · exact hP.emit _ h

end Undisturbed

end Sys2Proof.Machine
end

section
/-! SUPPORT. The mailbox and doorbell commands keep the mailboxes' invariant (R607, R609, R610). -/

namespace Sys2Proof.Machine

/-! ### Channels under writes of registers -/

/-- FULL and ACKED are the bits 0 and 1 of a channel's STATUS: a write elsewhere leaves the channels legal. -/
theorem State.ChannelsLegal.wr {s : State} (h : s.ChannelsLegal) {f : Fld} (v : Nat)
    (hf : ∀ c : Fin 64, (Reg.MBX_STATUS c).key ≠ f.key ∨ 2 ≤ f.lo) : (s.wr f v).ChannelsLegal := by
  intro c
  have hF : (s.wr f v).rd (Reg.MBX_STATUS_FULL c.val) = s.rd (Reg.MBX_STATUS_FULL c.val) :=
    s.rd_wr_other v ((hf c).imp id fun h => .inl (by simp only; omega))
  have hA : (s.wr f v).rd (Reg.MBX_STATUS_ACKED c.val) = s.rd (Reg.MBX_STATUS_ACKED c.val) :=
    s.rd_wr_other v ((hf c).imp id fun h => .inl (by simp only; omega))
  simpa only [State.bit, hF, hA] using h c

theorem State.ChannelsLegal.setReg {s : State} (h : s.ChannelsLegal) {k : Nat} (v : Word)
    (hk : ∀ c : Fin 64, (Reg.MBX_STATUS c).key ≠ k) : (s.setReg k v).ChannelsLegal := by
  intro c
  have e : (s.setReg k v).reg (0xB00048 + c.val * 0x100) = s.reg (0xB00048 + c.val * 0x100) := s.reg_setReg_other v (hk c)
  simpa only [State.bit, State.rd, e] using h c

/-- A channel whose FULL and ACKED are written together, one of them with 0, is legal. -/
theorem State.ChannelsLegal.status {s : State} (h : s.ChannelsLegal) (c : Fin 64) {full acked : Nat}
    (hz : full = 0 ∨ acked = 0) :
    ((s.wr (Reg.MBX_STATUS_FULL c) full).wr (Reg.MBX_STATUS_ACKED c) acked).ChannelsLegal := by
  intro d
  by_cases hd : d = c
  · subst hd
    have hA := (s.wr (Reg.MBX_STATUS_FULL d) full).rd_wr_same (Reg.MBX_STATUS_ACKED d) acked (by simp)
    have hF : ((s.wr (Reg.MBX_STATUS_FULL d) full).wr (Reg.MBX_STATUS_ACKED d) acked).rd (Reg.MBX_STATUS_FULL d) = full % 2 ^ 1 :=
      (State.rd_wr_other _ _ (.inr (.inl (by simp)))).trans (State.rd_wr_same _ _ _ (by simp))
    rcases hz with rfl | rfl <;> simp_all [State.bit]
  · have hk : (Reg.MBX_STATUS d).key ≠ (Reg.MBX_STATUS c).key := by
      have : d.val ≠ c.val := fun e => hd (Fin.ext e)
      simp only; omega
    have e : ∀ g : Fld, g.key = (Reg.MBX_STATUS d).key →
        ((s.wr (Reg.MBX_STATUS_FULL c) full).wr (Reg.MBX_STATUS_ACKED c) acked).rd g = s.rd g := fun g hg =>
      (State.rd_wr_other _ _ (.inl (by rw [hg]; exact hk))).trans (State.rd_wr_other _ _ (.inl (by rw [hg]; exact hk)))
    simpa only [State.bit, e (Reg.MBX_STATUS_FULL d) rfl, e (Reg.MBX_STATUS_ACKED d) rfl] using h d

/-! ### The invariant under the operations that the commands use -/

theorem State.MailboxInv.wr {s : State} (h : s.MailboxInv) {f : Fld} (v : Nat)
    (hf : ∀ c : Fin 64, (Reg.MBX_STATUS c).key ≠ f.key ∨ 2 ≤ f.lo) : (s.wr f v).MailboxInv :=
  ⟨h.1, h.2.1.wr f v, h.2.2.wr v hf⟩

theorem State.MailboxInv.setReg {s : State} (h : s.MailboxInv) {k : Nat} (v : Word)
    (hk : ∀ c : Fin 64, (Reg.MBX_STATUS c).key ≠ k) : (s.setReg k v).MailboxInv :=
  ⟨h.1, h.2.1.setReg k v, h.2.2.setReg v hk⟩

theorem State.MailboxInv.status {s : State} (h : s.MailboxInv) (c : Fin 64) {full acked : Nat} (hz : full = 0 ∨ acked = 0) :
    ((s.wr (Reg.MBX_STATUS_FULL c) full).wr (Reg.MBX_STATUS_ACKED c) acked).MailboxInv :=
  ⟨h.1, (h.2.1.wr _ _).wr _ _, h.2.2.status c hz⟩

/-- An event changes no channel: its counters are the black box's. -/
theorem State.MailboxInv.raise {s : State} (h : s.MailboxInv) (block code : Nat) (sev : Sev) (x : Nat) :
    (raise s block code sev x).MailboxInv := by
  obtain ⟨hq, hs, hc⟩ := h
  refine ⟨by simpa using hq, hs.raise _ _ _ _, fun c => ?_⟩
  have e : ∀ g : Fld, g.key = (Reg.MBX_STATUS c).key → (Machine.raise s block code sev x).rd g = s.rd g := fun g hg => by
    apply raise_rd <;> rw [hg] <;> simp only <;> omega
  simpa only [State.bit, e (Reg.MBX_STATUS_FULL c) rfl, e (Reg.MBX_STATUS_ACKED c) rfl] using hc c

theorem mailboxInv_undisturbed : Undisturbed State.MailboxInv where
  raise _ _ _ _ h := h.raise _ _ _ _
  limits _ h := h
  resp _ h := h
  used h := h
  emit _ h := h
  window f v hf h := h.wr v fun c => .inl (by simp only; omega)

theorem State.MailboxInv.notify {s : State} (h : s.MailboxInv) (c i en vec : Nat) : (notify s c i en vec).MailboxInv := by
  unfold Machine.notify
  split
  · split
    · exact mailboxInv_undisturbed.msix h _ _
    · exact h
  split
  · exact h
  split
  · exact h
  split
  · exact h
  · exact h

/-- A message that ends leaves its channel empty and ACKED (R609, R610). -/
theorem State.MailboxInv.endMessage {s : State} (h : s.MailboxInv) (c : Fin 64) (code : Option Nat) :
    (endMessage s c code).MailboxInv := by
  unfold Machine.endMessage
  apply State.MailboxInv.notify
  cases code with
  | none => exact h.status c (.inl rfl)
  | some x => exact (h.status c (.inl rfl)).wr x fun d => .inl (by simp only; omega)

/-! ### The commands -/

section
variable {s : State} (h : s.MailboxInv)
include h

theorem mailboxInv_lockRead (i : Ident) (c : Fin 64) (view : Bool) :
    ∃ t, execMbxLockRead i c view s = .next t ∧ t.MailboxInv := by
  refine ⟨_, rfl, mailboxInv_undisturbed.mbxRead h _ _ _ _ ?_⟩
  dsimp only
  split
  · exact h
  split
  · exact mailboxInv_undisturbed.resp _ (mailboxInv_undisturbed.cfgViol h _ _ _)
  split
  · exact mailboxInv_undisturbed.resp _ (h.wr _ fun d => .inl (by simp only; omega))
  · exact h

theorem mailboxInv_lockRelease (a : Access) (c : Fin 64) (v : Word) (view : Bool) :
    ∃ t, execMbxLockRelease a c v view s = .next t ∧ t.MailboxInv := by
  refine ⟨_, rfl, mailboxInv_undisturbed.mbxWrite h _ _ _ _ ?_⟩
  split
  · exact h.wr _ fun d => .inl (by simp only; omega)
  · exact mailboxInv_undisturbed.cfgViol h _ _ _

theorem mailboxInv_lockExpired (c : Fin 64) : ∃ t, execLockExpired c s = .next t ∧ t.MailboxInv := by
  unfold execLockExpired
  dsimp only
  split
  · exact ⟨_, rfl, h⟩
  · exact ⟨_, rfl, (h.wr _ fun d => .inl (by simp only; omega)).raise _ _ _ _⟩

theorem mailboxInv_msgWrite (a : Access) (c : Fin 64) (n : Fin 16) (v : Word) (view : Bool) :
    ∃ t, execMbxMsgWrite a c n v view s = .next t ∧ t.MailboxInv := by
  refine ⟨_, rfl, mailboxInv_undisturbed.mbxWrite h _ _ _ _ ?_⟩
  dsimp only
  split
  · exact h.setReg _ fun d => by simp only; omega
  · exact h.wr _ fun d => .inr (by simp)

theorem mailboxInv_send (a : Access) (c : Fin 64) (v : Word) (view : Bool) :
    ∃ t, execMbxSend a c v view s = .next t ∧ t.MailboxInv := by
  refine ⟨_, rfl, mailboxInv_undisturbed.mbxWrite h _ _ _ _ ?_⟩
  dsimp only
  split
  · exact h
  split
  · apply State.MailboxInv.notify
    refine State.MailboxInv.wr (mailboxInv_undisturbed.used (State.MailboxInv.status ?_ c (.inr rfl))) _
      fun d => .inl (by simp only; omega)
    exact h.setReg _ fun d => by simp only; omega
  · exact h.wr _ fun d => .inr (by simp)

theorem mailboxInv_ack (a : Access) (c : Fin 64) (v : Word) (view : Bool) :
    ∃ t, execMbxAck a c v view s = .next t ∧ t.MailboxInv := by
  refine ⟨_, rfl, mailboxInv_undisturbed.mbxWrite h _ _ _ _ ?_⟩
  dsimp only
  split
  · exact h
  split
  · exact mailboxInv_undisturbed.cfgViol h _ _ _
  split
  · exact h
  · exact h.endMessage _ _

theorem mailboxInv_pop (i : Ident) (c : Fin 64) (view : Bool) :
    ∃ t, execMbxPop i c view s = .next t ∧ t.MailboxInv := by
  refine ⟨_, rfl, mailboxInv_undisturbed.mbxRead h _ _ _ _ ?_⟩
  dsimp only
  split
  · exact mailboxInv_undisturbed.resp _ (h.endMessage c none)
  · exact h

theorem mailboxInv_bindLock (a : Access) (v : Word) : ∃ t, execBindLock a v s = .next t ∧ t.MailboxInv := by
  refine ⟨_, rfl, mailboxInv_undisturbed.withWrite h _ _ _ _ _ ?_⟩
  split
  · exact mailboxInv_undisturbed.cfgViol h _ _ _
  split
  · exact h.wr _ fun d => .inl (by simp only; omega)
  · exact h

theorem mailboxInv_managerDoorbell (a : Access) (t : Fin 128) (v : Word) :
    ∃ u, execManagerDoorbellWrite a t v s = .next u ∧ u.MailboxInv := by
  refine ⟨_, rfl, mailboxInv_undisturbed.withWrite h _ _ _ _ _ ?_⟩
  split
  · exact h
  have hd : ∀ w, (s.setReg (Reg.MBX_DB t).key w).MailboxInv := fun w => h.setReg w fun d => by simp only; omega
  dsimp only
  split
  · exact List.foldlRecOn _ _ (hd _) fun u hu _ _ => mailboxInv_undisturbed.msix hu _ _
  · exact hd _

theorem mailboxInv_instanceDoorbell (t : Fin 128) (be : BitVec 4) (v : Word) :
    ∃ u, execInstanceDoorbellWrite t be v s = .next u ∧ u.MailboxInv := by
  refine ⟨_, rfl, mailboxInv_undisturbed.windowWrite h _ _ _ _ ?_⟩
  refine List.foldlRecOn _ _ (h.setReg _ fun d => by simp only; omega) fun u hu _ _ => ?_
  split
  · exact hu
  · exact mailboxInv_undisturbed.msix hu _ _

/-- Every mailbox and doorbell command answers a state with the invariant. -/
theorem mailboxInv_exec {c : Instr} (hc : mailboxCommand c = true) : ∃ t, exec c s = .next t ∧ t.MailboxInv := by
  unfold mailboxCommand at hc
  split at hc
  · exact mailboxInv_lockRead h _ _ _
  · exact mailboxInv_lockRelease h _ _ _ _
  · exact mailboxInv_msgWrite h _ _ _ _ _
  · exact mailboxInv_send h _ _ _ _
  · exact mailboxInv_ack h _ _ _ _
  · exact mailboxInv_pop h _ _ _
  · exact mailboxInv_lockExpired h _
  · exact mailboxInv_bindLock h _ _
  · exact mailboxInv_managerDoorbell h _ _ _
  · exact mailboxInv_instanceDoorbell h _ _ _
  · exact absurd hc (by decide)

end

/-- The invariant does not depend on which of the waiting commands are still there. -/
theorem State.MailboxInv.rest {s : State} (h : s.MailboxInv) {c : Instr} {rest : List Instr} (hp : s.pending = c :: rest) :
    State.MailboxInv { s with pending := rest } :=
  ⟨fun d hd => h.1 d (hp ▸ List.mem_cons_of_mem c hd), h.2⟩

/-- Settles O58: each of the ten commands keeps the invariant, and a step runs one of them or idles. -/
theorem mailboxStepsKeepTheChannelsLegal : Obligations.MailboxStepsKeepTheChannelsLegal := by
  unfold Obligations.MailboxStepsKeepTheChannelsLegal
  intro s t h ht
  unfold step at ht
  split at ht
  next => cases ht; exact h
  next c rest hp =>
    obtain ⟨u, hu, hi⟩ := mailboxInv_exec (h.rest hp) (h.1 c (by simp [hp]))
    cases hu.symm.trans ht
    exact hi

end Sys2Proof.Machine
end

section
/-! SUPPORT. The UART commands keep the UARTs' invariant (R852). -/

namespace Sys2Proof.Machine

/-! ### UARTs under writes of registers -/

@[simp] theorem uart_wr (s : State) (f : Fld) (v u : Nat) : uart (s.wr f v) u = uart s u := rfl

/-- The counts and TX_EMPTY are the bits 0 and 8 to 23 of a UART's STATUS: a write elsewhere leaves the UARTs legal. -/
theorem State.UartsLegal.wr {s : State} (h : s.UartsLegal) {f : Fld} (v : Nat)
    (hf : ∀ u : Fin 4, (Reg.UAR_STATUS u).key ≠ f.key ∨ (1 ≤ f.lo ∧ f.lo + f.w ≤ 8)) : (s.wr f v).UartsLegal := by
  intro u
  have hR : (s.wr f v).rd (Reg.UAR_STATUS_RX_CNT u.val) = s.rd (Reg.UAR_STATUS_RX_CNT u.val) :=
    s.rd_wr_other v ((hf u).imp id fun h => .inr (by simp only; omega))
  have hT : (s.wr f v).rd (Reg.UAR_STATUS_TX_CNT u.val) = s.rd (Reg.UAR_STATUS_TX_CNT u.val) :=
    s.rd_wr_other v ((hf u).imp id fun h => .inr (by simp only; omega))
  have hE : (s.wr f v).rd (Reg.UAR_STATUS_TX_EMPTY u.val) = s.rd (Reg.UAR_STATUS_TX_EMPTY u.val) :=
    s.rd_wr_other v ((hf u).imp id fun h => .inl (by simp only; omega))
  simpa only [uart_wr, State.bit, hR, hT, hE] using h u

@[simp] theorem uart_setUart_same (s : State) (u : Nat) (x : Uart) : uart (setUart s u x) u = x := by
  simp [uart, setUart]

theorem uart_setUart_other (s : State) {u w : Nat} (x : Uart) (h : w ≠ u) : uart (setUart s u x) w = uart s w := by
  simp [uart, setUart, Tab.get_put_other _ _ _ _ h]

/-- Setting a UART changes no register but its STATUS. -/
theorem rd_setUart_other (s : State) {u : Nat} (x : Uart) {g : Fld} (h : g.key ≠ (Reg.UAR_STATUS u).key) :
    (setUart s u x).rd g = s.rd g := by
  unfold setUart State.setBit
  dsimp only
  rw [State.rd_wr_other, State.rd_wr_other, State.rd_wr_other]
  · rfl
  all_goals exact .inl h

theorem rd_setUart_rxCnt (s : State) (u : Nat) (x : Uart) :
    (setUart s u x).rd (Reg.UAR_STATUS_RX_CNT u) = x.rx.length % 2 ^ 8 := by
  unfold setUart State.setBit
  rw [State.rd_wr_other _ _ (.inr (.inr (by simp))), State.rd_wr_other _ _ (.inr (.inr (by simp))), State.rd_wr_same _ _ _ (by simp)]

theorem rd_setUart_txCnt (s : State) (u : Nat) (x : Uart) :
    (setUart s u x).rd (Reg.UAR_STATUS_TX_CNT u) = x.tx.length % 2 ^ 8 := by
  unfold setUart State.setBit
  rw [State.rd_wr_other _ _ (.inr (.inr (by simp))), State.rd_wr_same _ _ _ (by simp)]

theorem bit_setUart_txEmpty (s : State) (u : Nat) (x : Uart) :
    (setUart s u x).bit (Reg.UAR_STATUS_TX_EMPTY u) = x.tx.isEmpty := by
  unfold setUart State.setBit State.bit
  rw [State.rd_wr_same _ _ _ (by simp)]
  cases x.tx.isEmpty <;> rfl

/-- A UART whose FIFOs fit is legal with the counts that setting it writes; the others are as before. -/
theorem State.UartsLegal.setUart {s : State} (h : s.UartsLegal) (u : Fin 4) {x : Uart} (hr : x.rx.length ≤ 64)
    (ht : x.tx.length ≤ 64) : (setUart s u x).UartsLegal := by
  intro w
  by_cases hw : w = u
  · subst hw
    rw [uart_setUart_same, rd_setUart_rxCnt, rd_setUart_txCnt, bit_setUart_txEmpty]
    exact ⟨hr, ht, Nat.mod_eq_of_lt (by omega), Nat.mod_eq_of_lt (by omega), rfl⟩
  · have hv : w.val ≠ u.val := fun e => hw (Fin.ext e)
    have hk : ∀ g : Fld, g.key = (Reg.UAR_STATUS w).key → (Machine.setUart s u x).rd g = s.rd g := fun g hg =>
      rd_setUart_other s x (by rw [hg]; simp only; omega)
    simpa only [uart_setUart_other s x hv, State.bit, hk (Reg.UAR_STATUS_RX_CNT w) rfl, hk (Reg.UAR_STATUS_TX_CNT w) rfl,
      hk (Reg.UAR_STATUS_TX_EMPTY w) rfl] using h w

theorem State.Sound.setUart {s : State} (h : s.Sound) (u : Nat) (x : Uart) : (setUart s u x).Sound :=
  State.Sound.setBit (State.Sound.wr (State.Sound.wr (s := { s with uar := Tab.put {} s.uar u x }) h _ _) _ _) _ _

/-! ### The invariant under the operations that the commands use -/

theorem State.UartInv.wr {s : State} (h : s.UartInv) {f : Fld} (v : Nat)
    (hf : ∀ u : Fin 4, (Reg.UAR_STATUS u).key ≠ f.key ∨ (1 ≤ f.lo ∧ f.lo + f.w ≤ 8)) : (s.wr f v).UartInv :=
  ⟨h.1, h.2.1.wr f v, h.2.2.wr v hf⟩

theorem State.UartInv.setUart {s : State} (h : s.UartInv) (u : Fin 4) {x : Uart} (hr : x.rx.length ≤ 64)
    (ht : x.tx.length ≤ 64) : (setUart s u x).UartInv :=
  ⟨h.1, h.2.1.setUart u x, h.2.2.setUart u hr ht⟩

theorem State.UartInv.rx {s : State} (h : s.UartInv) (u : Fin 4) : (uart s u).rx.length ≤ 64 := (h.2.2 u).1

theorem State.UartInv.tx {s : State} (h : s.UartInv) (u : Fin 4) : (uart s u).tx.length ≤ 64 := (h.2.2 u).2.1

/-- The line's rest before a frame is beside the FIFOs. -/
theorem State.UartInv.quieted {s : State} (h : s.UartInv) (u : Fin 4) (b : Bool) :
    (Machine.setUart s u { uart s u with quiet := b }).UartInv := by
  refine h.setUart u ?_ ?_
  · exact h.rx u
  · exact h.tx u

/-- An event changes no UART: its counters are the black box's. -/
theorem State.UartInv.raise {s : State} (h : s.UartInv) (block code : Nat) (sev : Sev) (x : Nat) :
    (raise s block code sev x).UartInv := by
  obtain ⟨hq, hs, hu⟩ := h
  refine ⟨by simpa using hq, hs.raise _ _ _ _, fun u => ?_⟩
  have e : ∀ g : Fld, g.key = (Reg.UAR_STATUS u).key → (Machine.raise s block code sev x).rd g = s.rd g := fun g hg => by
    apply raise_rd <;> rw [hg] <;> simp only <;> omega
  simpa only [uart, raise_uar, State.bit, e (Reg.UAR_STATUS_RX_CNT u) rfl, e (Reg.UAR_STATUS_TX_CNT u) rfl,
    e (Reg.UAR_STATUS_TX_EMPTY u) rfl] using hu u

theorem uartInv_undisturbed : Undisturbed State.UartInv where
  raise _ _ _ _ h := h.raise _ _ _ _
  limits _ h := h
  resp _ h := h
  used h := h
  emit _ h := h
  window f v hf h := h.wr v fun u => .inl (by simp only; omega)

theorem State.UartInv.uartIrq {s : State} (h : s.UartInv) (u : Nat) (cause : Fld) : (uartIrq s u cause).UartInv := by
  unfold Machine.uartIrq
  split
  · exact uartInv_undisturbed.emit _ (uartInv_undisturbed.msix h _ _)
  · exact h

/-- A byte that finds the FIFO full is counted and leaves the FIFO as it is. -/
theorem State.UartInv.uartOverrun {s : State} (h : s.UartInv) (u : Fin 4) : (uartOverrun s u).UartInv := by
  have hi : (s.inc (Reg.UAR_OVERRUN u)).UartInv := h.wr _ fun w => .inl (by simp only; omega)
  unfold Machine.uartOverrun
  dsimp only
  split
  · exact (uartInv_undisturbed.raiseLimited hi _ _ _ _ _).setUart u (hi.rx u) (hi.tx u)
  · exact hi.setUart u (hi.rx u) (hi.tx u)

/-- The transmitter takes a byte from its FIFO, or leaves it. -/
theorem State.UartInv.uartKick {s : State} (h : s.UartInv) (u : Fin 4) : (uartKick s u).UartInv := by
  have ht := h.tx u
  unfold Machine.uartKick
  dsimp only
  split
  next b bs _ htx =>
    have hbs : bs.length ≤ 64 := by rw [htx] at ht; exact Nat.le_of_succ_le ht
    split
    · have hd : State.UartInv (if s.bit (Reg.UAR_CFG_DE_EN u) = true then
          emit s (.uartDe u true (s.rd (Reg.UAR_DE_LEAD u))) else s) := by
        split
        · exact uartInv_undisturbed.emit _ h
        · exact h
      have hw := State.UartInv.wr (f := Reg.UAR_STATUS_IDLE u) (uartInv_undisturbed.emit (.uart u b)
        (hd.setUart u (x := { uart s u with shift := some b, tx := bs, de := s.bit (Reg.UAR_CFG_DE_EN u) }) (h.rx u) hbs)) 0
        fun w => .inr (by simp)
      split
      · exact hw.uartIrq _ _
      · exact hw
    · exact h
  next => exact h

/-! ### The commands -/

section
variable {s : State} (h : s.UartInv)
include h

/-- A counter advances where an error was seen. -/
theorem uartInv_countIf (b : Bool) {f : Fld} (hf : ∀ u : Fin 4, (Reg.UAR_STATUS u).key ≠ f.key) :
    State.UartInv (if b = true then s.inc f else s) := by
  split
  · exact h.wr _ fun w => .inl (hf w)
  · exact h

/-- A received word joins the FIFO where it has room, and is lost where it has none. -/
theorem uartInv_received (u : Fin 4) (w : Word) (cause : Fld) :
    ∃ t, (if 64 ≤ (uart s u).rx.length then Host.Outcome.next (uartOverrun s u)
      else .next (uartIrq (setUart s u { uart s u with rx := (uart s u).rx ++ [w] }) u cause) : Out) = .next t ∧ t.UartInv := by
  split
  next => exact ⟨_, rfl, h.uartOverrun u⟩
  next hr =>
    refine ⟨_, rfl, State.UartInv.uartIrq (h.setUart u ?_ ?_) _ _⟩
    · simp only [List.length_append, List.length_singleton]
      omega
    · exact h.tx u

theorem uartInv_frameReceive (u : Fin 4) (f : UartFrame) : ∃ t, execUartFrameReceive u f s = .next t ∧ t.UartInv := by
  unfold execUartFrameReceive
  dsimp only
  split
  · exact ⟨_, rfl, h⟩
  split
  · exact ⟨_, rfl, h⟩
  split
  · exact ⟨_, rfl, h.wr _ fun w => .inl (by simp only; omega)⟩
  refine uartInv_received ?_ u _ _
  refine State.UartInv.wr (State.UartInv.quieted ?_ u false) _ fun w => .inr (by simp)
  refine uartInv_countIf (uartInv_countIf ?_ _ fun w => by simp only; omega) _ fun w => by simp only; omega
  split
  · exact h
  · exact h.wr _ fun w => .inl (by simp only; omega)

theorem uartInv_dataRead (i : Ident) (u : Fin 4) : ∃ t, execUartDataRead i u s = .next t ∧ t.UartInv := by
  unfold execUartDataRead
  dsimp only
  split
  · exact ⟨_, rfl, uartInv_undisturbed.resp _ (uartInv_undisturbed.cfgViol (uartInv_undisturbed.used h) _ _ _)⟩
  split
  · exact ⟨_, rfl, uartInv_undisturbed.resp _ (uartInv_undisturbed.isoErr h _ _ _ _)⟩
  split
  · exact ⟨_, rfl, uartInv_undisturbed.resp _ (uartInv_undisturbed.cfgViol (uartInv_undisturbed.used h) _ _ _)⟩
  have hr := h.rx u
  split
  next => exact ⟨_, rfl, uartInv_undisturbed.resp _ h⟩
  next w ws hrx =>
    rw [hrx] at hr
    exact ⟨_, rfl, uartInv_undisturbed.resp _ (h.setUart u (Nat.le_of_succ_le hr) (h.tx u))⟩

theorem uartInv_dataWrite (a : Access) (u : Fin 4) (v : Word) : ∃ t, execUartDataWrite a u v s = .next t ∧ t.UartInv := by
  refine ⟨_, rfl, uartInv_undisturbed.withWrite h _ _ _ _ _ ?_⟩
  dsimp only
  split
  · exact h
  split
  · exact uartInv_undisturbed.cfgViol h _ _ _
  split
  · exact h.wr _ fun w => .inr (by simp)
  next ht =>
    refine State.UartInv.uartKick (h.setUart u ?_ ?_) u
    · exact h.rx u
    · simp only [List.length_append, List.length_singleton]
      omega

theorem uartInv_txComplete (u : Fin 4) : ∃ t, execUartTxComplete u s = .next t ∧ t.UartInv := by
  have ht := h.tx u
  unfold execUartTxComplete
  dsimp only
  split
  next => exact ⟨_, rfl, h⟩
  next =>
    refine ⟨_, rfl, State.UartInv.setUart ?_ u (h.rx u) ht⟩
    split
    · exact uartInv_undisturbed.emit _ h
    · exact h
  next b bs _ htx =>
    rw [htx] at ht
    have hw := uartInv_undisturbed.emit (.uart u b) (h.setUart u
      (x := { uart s u with shift := some b, tx := bs, quiet := false }) (h.rx u) (Nat.le_of_succ_le ht))
    refine ⟨_, rfl, ?_⟩
    split
    · exact hw.uartIrq _ _
    · exact hw

theorem uartInv_modbusEom (x : UartIdle) : ∃ t, execModbusEom x s = .next t ∧ t.UartInv := by
  unfold execModbusEom
  dsimp only
  split
  · exact ⟨_, rfl, h⟩
  · have hw := State.UartInv.wr (f := Reg.UAR_STATUS_IDLE x.uart)
      (h.quieted x.uart true) 1 fun w => .inr (by simp)
    exact ⟨_, rfl, (hw.uartIrq _ _).uartKick _⟩

/-- Every UART command answers a state with the invariant. -/
theorem uartInv_exec {c : Instr} (hc : uartCommand c = true) : ∃ t, exec c s = .next t ∧ t.UartInv := by
  unfold uartCommand at hc
  split at hc
  · exact uartInv_frameReceive h _ _
  · exact uartInv_dataRead h _ _
  · exact uartInv_dataWrite h _ _ _
  · exact uartInv_txComplete h _
  · exact uartInv_modbusEom h _
  · exact absurd hc (by decide)

end

/-- The invariant does not depend on which of the waiting commands are still there. -/
theorem State.UartInv.rest {s : State} (h : s.UartInv) {c : Instr} {rest : List Instr} (hp : s.pending = c :: rest) :
    State.UartInv { s with pending := rest } :=
  ⟨fun d hd => h.1 d (hp ▸ List.mem_cons_of_mem c hd), h.2⟩

/-- Settles O59: each of the five commands keeps the invariant, and a step runs one of them or idles. -/
theorem uartStepsKeepTheFifosLegal : Obligations.UartStepsKeepTheFifosLegal := by
  unfold Obligations.UartStepsKeepTheFifosLegal
  intro s t h ht
  unfold step at ht
  split at ht
  next => cases ht; exact h
  next c rest hp =>
    obtain ⟨u, hu, hi⟩ := uartInv_exec (h.rest hp) (h.1 c (by simp [hp]))
    cases hu.symm.trans ht
    exact hi

end Sys2Proof.Machine
end

section
/-! SUPPORT. What a write of a field, a write through an access code and class, a commit and a gate do. -/

namespace Sys2Proof.Machine

/-- Settles O5: the laws of a read after the write of a field. -/
theorem fieldReadsBackWhatIsWritten : Obligations.FieldReadsBackWhatIsWritten := by
  unfold Obligations.FieldReadsBackWhatIsWritten
  intro s f v hf
  exact ⟨s.rd_wr_same f v hf, fun g hg => s.rd_wr_other v hg, rfl, rfl, rfl, rfl, rfl, rfl⟩

/-! ### Words of which a mask picks the bits -/

/-- Two words that agree on the bits of a field have the same value of it. -/
theorem fieldOf_congr {x y : Word} {lo n : Nat} (h : ∀ i, i < 32 → lo ≤ i → i < lo + n → x.getLsbD i = y.getLsbD i) :
    fieldOf x lo n = fieldOf y lo n := by
  apply Nat.eq_of_testBit_eq
  intro i
  rw [testBit_fieldOf, testBit_fieldOf]
  by_cases hi : i < n
  · by_cases h32 : lo + i < 32
    · rw [h _ h32 (by omega) (by omega)]
    · rw [BitVec.getLsbD_of_ge _ _ (by omega), BitVec.getLsbD_of_ge _ _ (by omega)]
  · simp [hi]

theorem fieldOf_mergeBits_maskOf (w v : Word) (lo n : Nat) : fieldOf (mergeBits w (maskOf lo n) v) lo n = fieldOf v lo n :=
  fieldOf_congr fun i hi h1 h2 => by rw [getLsbD_mergeBits _ _ _ _ hi, getLsbD_maskOf _ _ _ hi]; simp [h1, h2]

/-- A word agrees with another on a mask exactly when the values of the field are equal. -/
theorem and_maskOf_eq_iff (v w : Word) (lo n : Nat) :
    v &&& maskOf lo n = w &&& maskOf lo n ↔ fieldOf v lo n = fieldOf w lo n := by
  constructor
  · intro h
    refine fieldOf_congr fun i hi h1 h2 => ?_
    simpa [getLsbD_maskOf _ _ _ hi, h1, h2] using congrArg (fun x : Word => x.getLsbD i) h
  · intro h
    apply BitVec.eq_of_getLsbD_eq
    intro i hi
    rw [BitVec.getLsbD_and, BitVec.getLsbD_and, getLsbD_maskOf _ _ _ hi]
    by_cases hc : lo ≤ i ∧ i < lo + n
    · have := congrArg (fun x : Nat => x.testBit (i - lo)) h
      simp only [testBit_fieldOf, show i - lo < n by omega, decide_true, Bool.true_and, Nat.add_sub_cancel' hc.1] at this
      rw [this]
    · have : (decide (lo ≤ i) && decide (i < lo + n)) = false := by simpa using hc
      simp [this]

theorem fieldOf_lt (w : Word) (lo n : Nat) : fieldOf w lo n < 2 ^ n := by
  rw [fieldOf_eq]; exact Nat.mod_lt _ (Nat.two_pow_pos n)

/-- The complement of a field's value in its own width. -/
theorem testBit_fieldMax_sub (x n i : Nat) (h : x < 2 ^ n) : (2 ^ n - 1 - x).testBit i = (decide (i < n) && !x.testBit i) := by
  rw [Nat.sub_sub, Nat.add_comm 1 x, Nat.testBit_two_pow_sub_succ h]

/-- Writing ones clears (R12, W1C). -/
theorem fieldOf_clear (w v : Word) (lo n : Nat) (h : lo + n ≤ 32) :
    fieldOf (w &&& ~~~(v &&& maskOf lo n)) lo n = Nat.land (fieldOf w lo n) (2 ^ n - 1 - fieldOf v lo n) := by
  apply Nat.eq_of_testBit_eq
  intro i
  change _ = (fieldOf w lo n &&& (2 ^ n - 1 - fieldOf v lo n)).testBit i
  rw [Nat.testBit_and, testBit_fieldMax_sub _ _ _ (fieldOf_lt v lo n)]
  simp only [testBit_fieldOf]
  by_cases hi : i < n
  · have h32 : lo + i < 32 := by omega
    rw [BitVec.getLsbD_and, BitVec.getLsbD_not, BitVec.getLsbD_and, getLsbD_maskOf _ _ _ h32]
    simp [hi, h32]
  · simp [hi]

/-- Writing ones sets (R12, W1S). -/
theorem fieldOf_set (w v : Word) (lo n : Nat) (h : lo + n ≤ 32) :
    fieldOf (w ||| (v &&& maskOf lo n)) lo n = Nat.lor (fieldOf w lo n) (fieldOf v lo n) := by
  apply Nat.eq_of_testBit_eq
  intro i
  change _ = (fieldOf w lo n ||| fieldOf v lo n).testBit i
  rw [Nat.testBit_or]
  simp only [testBit_fieldOf]
  by_cases hi : i < n
  · have h32 : lo + i < 32 := by omega
    rw [BitVec.getLsbD_or, BitVec.getLsbD_and, getLsbD_maskOf _ _ _ h32]
    simp [hi]
  · simp [hi]

/-- A mask that has a field's mask in it has ones in the whole field. -/
theorem fieldOf_or_maskOf (w : Word) (lo n : Nat) (h : lo + n ≤ 32) : fieldOf (w ||| maskOf lo n) lo n = 2 ^ n - 1 := by
  apply Nat.eq_of_testBit_eq
  intro i
  rw [testBit_fieldOf, Nat.testBit_two_pow_sub_one]
  by_cases hi : i < n
  · have h32 : lo + i < 32 := by omega
    rw [BitVec.getLsbD_or, getLsbD_maskOf _ _ _ h32]
    simp [hi]
  · simp [hi]

/-! ### A write of one field -/

/-- Two words that differ within a field at most. -/
def SameOutside (f : FieldD) (x y : Word) : Prop :=
  ∀ i, i < 32 → (i < f.lo ∨ f.lo + f.w ≤ i) → x.getLsbD i = y.getLsbD i

theorem getLsbD_maskOf_outside {f : FieldD} {i : Nat} (hi : i < 32) (ho : i < f.lo ∨ f.lo + f.w ≤ i) :
    (maskOf f.lo f.w).getLsbD i = false := by
  rw [getLsbD_maskOf _ _ _ hi]; simp; omega

theorem sameOutside_mergeBits (f : FieldD) (w v : Word) : SameOutside f (mergeBits w (maskOf f.lo f.w) v) w :=
  fun i hi ho => by rw [getLsbD_mergeBits _ _ _ _ hi, getLsbD_maskOf_outside hi ho]; rfl

theorem sameOutside_clear (f : FieldD) (w v : Word) : SameOutside f (w &&& ~~~(v &&& maskOf f.lo f.w)) w :=
  fun i hi ho => by
    rw [BitVec.getLsbD_and, BitVec.getLsbD_not, BitVec.getLsbD_and, getLsbD_maskOf_outside hi ho]; simp [hi]

theorem sameOutside_set (f : FieldD) (w v : Word) : SameOutside f (w ||| (v &&& maskOf f.lo f.w)) w :=
  fun i hi ho => by rw [BitVec.getLsbD_or, BitVec.getLsbD_and, getLsbD_maskOf_outside hi ho]; simp

/-- What a write of one field can do to the state: nothing, a pending value, or a new value of the register that differs within the
field alone. -/
theorem writeField_cases (s : State) (k : Nat) (quiet : Bool) (v : Word) (f : FieldD) :
    (writeField s k quiet v f).1 = s ∨ (writeField s k quiet v f).1 = s.setPend k (maskOf f.lo f.w) v ∨
    ∃ w, SameOutside f w (s.reg k) ∧ (writeField s k quiet v f).1 = s.setReg k w := by
  unfold writeField
  dsimp only
  split
  · exact .inl rfl
  · split
    · split_ifs
      · exact .inl rfl
      · exact .inr (.inr ⟨_, sameOutside_mergeBits f _ v, rfl⟩)
      · exact .inl rfl
    · exact .inl rfl
  · exact .inr (.inl rfl)
  · exact .inr (.inl rfl)
  · split
    · exact .inr (.inr ⟨_, sameOutside_mergeBits f _ v, rfl⟩)
    · exact .inr (.inr ⟨_, sameOutside_clear f _ v, rfl⟩)
    · exact .inr (.inr ⟨_, sameOutside_set f _ v, rfl⟩)
    all_goals exact .inl rfl

/-- A write of one field changes no other bit of its register. -/
theorem writeField_sameOutside (s : State) (k : Nat) (quiet : Bool) (v : Word) (f : FieldD) :
    SameOutside f ((writeField s k quiet v f).1.reg k) (s.reg k) := by
  rcases writeField_cases s k quiet v f with h | h | ⟨w, hw, h⟩ <;> rw [h]
  · exact fun _ _ _ => rfl
  · exact fun _ _ _ => rfl
  · rwa [State.reg_setReg_same]

/-- A write of one field changes no other register. -/
theorem writeField_reg_other (s : State) {k l : Nat} (quiet : Bool) (v : Word) (f : FieldD) (h : l ≠ k) :
    (writeField s k quiet v f).1.reg l = s.reg l := by
  rcases writeField_cases s k quiet v f with h' | h' | ⟨w, -, h'⟩ <;> rw [h']
  · rfl
  · exact s.reg_setReg_other w h

/-- `writeField`'s test of the masked words is whether the field would keep its value. -/
theorem writeField_same_iff (s : State) (k : Nat) (v : Word) (f : FieldD) :
    ((v &&& maskOf f.lo f.w) == (s.reg k &&& maskOf f.lo f.w)) = true ↔
      fieldOf v f.lo f.w = fieldOf (s.reg k) f.lo f.w := by
  rw [beq_iff_eq, and_maskOf_eq_iff]

theorem setPend_val (s : State) (k : Nat) (m v : Word) :
    (Tab.get {} (s.setPend k m v).pend k).val = mergeBits (Tab.get {} s.pend k).val m v := by
  simp [State.setPend]

theorem setPend_mask (s : State) (k : Nat) (m v : Word) :
    (Tab.get {} (s.setPend k m v).pend k).mask = (Tab.get {} s.pend k).mask ||| m := by
  simp [State.setPend]

section
variable (s : State) (k : Nat) (quiet : Bool) (v : Word) {f : FieldD}

theorem writeField_live_rw (hc : f.cls = .live) (ha : f.acc = .rw) :
    writeField s k quiet v f = (s.setReg k (mergeBits (s.reg k) (maskOf f.lo f.w) v), false) := by
  simp [writeField, hc, ha]

theorem writeField_live_w1c (hc : f.cls = .live) (ha : f.acc = .w1c) :
    writeField s k quiet v f = (s.setReg k (s.reg k &&& ~~~(v &&& maskOf f.lo f.w)), false) := by
  simp [writeField, hc, ha]

theorem writeField_live_w1s (hc : f.cls = .live) (ha : f.acc = .w1s) :
    writeField s k quiet v f = (s.setReg k (s.reg k ||| (v &&& maskOf f.lo f.w)), false) := by
  simp [writeField, hc, ha]

theorem writeField_live_kept (hc : f.cls = .live) (ha : f.acc = .ro ∨ f.acc = .wo ∨ f.acc = .rc) :
    writeField s k quiet v f = (s, false) := by
  rcases ha with ha | ha | ha <;> simp [writeField, hc, ha]

theorem writeField_tick (hc : f.cls = .tick ∨ f.cls = .tickSafe) :
    writeField s k quiet v f = (s.setPend k (maskOf f.lo f.w) v, false) := by
  rcases hc with hc | hc <;> simp [writeField, hc]

/-- A struc field, and a quiet one outside the Quiet state, refuse exactly a value that differs (R23). -/
theorem writeField_refusing (hc : f.cls = .struc ∨ (f.cls = .quiet ∧ f.acc = .rw ∧ quiet = false)) :
    (writeField s k quiet v f).1 = s ∧
      ((writeField s k quiet v f).2 = true ↔ fieldOf v f.lo f.w ≠ fieldOf (s.reg k) f.lo f.w) := by
  rw [ne_eq, ← writeField_same_iff]
  rcases hc with hc | ⟨hc, ha, rfl⟩
  · simp [writeField, hc]
  · by_cases h : ((v &&& maskOf f.lo f.w) == (s.reg k &&& maskOf f.lo f.w)) = true <;>
      simp [writeField, hc, ha, h]

/-- A quiet field in the Quiet state takes the value written (R23). -/
theorem writeField_quiet (hc : f.cls = .quiet) (ha : f.acc = .rw) (hq : quiet = true) :
    fieldOf ((writeField s k quiet v f).1.reg k) f.lo f.w = fieldOf v f.lo f.w ∧ (writeField s k quiet v f).2 = false := by
  have h := writeField_same_iff s k v f
  by_cases hs : ((v &&& maskOf f.lo f.w) == (s.reg k &&& maskOf f.lo f.w)) = true
  · have e : writeField s k quiet v f = (s, false) := by simp only [writeField, hc, ha, if_pos hs]
    rw [e]
    exact ⟨(h.mp hs).symm, rfl⟩
  · have e : writeField s k quiet v f = (s.setReg k (mergeBits (s.reg k) (maskOf f.lo f.w) v), false) := by
      simp only [writeField, hc, ha, if_neg hs, if_pos hq]
    rw [e, State.reg_setReg_same, fieldOf_mergeBits_maskOf]
    exact ⟨rfl, rfl⟩

end

/-- Settles O6: one equation of `writeField` for each class and access code. -/
theorem fieldsFollowTheirAccessCodeAndClass : Obligations.FieldsFollowTheirAccessCodeAndClass := by
  unfold Obligations.FieldsFollowTheirAccessCodeAndClass
  intro s k quiet v f hf
  dsimp only
  refine ⟨writeField_sameOutside s k quiet v f, fun l hl => writeField_reg_other s quiet v f hl, fun hc ha => ?_,
    fun hc ha => ?_, fun hc ha => ?_, fun hc ha => writeField_live_kept s k quiet v hc ha, fun hc => ?_,
    fun hc ha hq => writeField_quiet s k quiet v hc ha hq,
    fun hc ha hq => writeField_refusing s k quiet v (.inr ⟨hc, ha, hq⟩), fun hc => writeField_refusing s k quiet v (.inl hc)⟩
  · rw [writeField_live_rw s k quiet v hc ha, State.reg_setReg_same, fieldOf_mergeBits_maskOf]
    exact ⟨rfl, rfl⟩
  · rw [writeField_live_w1c s k quiet v hc ha, State.reg_setReg_same, fieldOf_clear _ _ _ _ hf]
    exact ⟨rfl, rfl⟩
  · rw [writeField_live_w1s s k quiet v hc ha, State.reg_setReg_same, fieldOf_set _ _ _ _ hf]
    exact ⟨rfl, rfl⟩
  · rw [writeField_tick s k quiet v hc, setPend_val, setPend_mask, fieldOf_mergeBits_maskOf, fieldOf_or_maskOf _ _ _ hf]
    exact ⟨rfl, rfl, rfl, rfl⟩

/-! ### Commits -/

theorem Tab.get_of_absent {α : Type} (d : α) (m : Tab α) {k : Nat} (h : ∀ j ∈ m.map Prod.fst, j ≠ k) : Tab.get d m k = d := by
  induction m with
  | nil => rfl
  | cons p m ih =>
    obtain ⟨j, v⟩ := p
    simp only [List.map_cons, List.forall_mem_cons] at h
    simp only [Tab.get, if_neg h.1, ih h.2]

/-- What a table keeps when its entries are picked by their keys. -/
theorem Tab.get_filter_key {α : Type} (d : α) (m : Tab α) (sel : Nat → Bool) (k : Nat) :
    Tab.get d (m.filter (fun p => sel p.1)) k = if sel k then Tab.get d m k else d := by
  induction m with
  | nil => simp
  | cons p m ih =>
    obtain ⟨j, v⟩ := p
    by_cases hj : sel j = true
    · rw [List.filter_cons_of_pos (p := fun p : Nat × α => sel p.1) hj]
      by_cases hk : j = k
      · subst hk; simp [Tab.get, hj]
      · simp only [Tab.get, if_neg hk, ih]
    · rw [List.filter_cons_of_neg (p := fun p : Nat × α => sel p.1) hj, ih]
      by_cases hk : j = k
      · subst hk; simp [hj]
      · simp only [Tab.get, if_neg hk]

/-- No dirty bit changes nothing. -/
theorem mergeBits_zero (w v : Word) : mergeBits w 0 v = w := by
  apply BitVec.eq_of_getLsbD_eq
  intro i hi
  rw [getLsbD_mergeBits _ _ _ _ hi]
  simp

/-- A commit takes its entries one by one; their keys differ, so each register takes its own entry. -/
theorem reg_foldl_commit (l : Tab Pend) (hl : (l.map Prod.fst).Pairwise (· < ·)) (s : State) (k : Nat) :
    (l.foldl (fun s p => s.setReg p.1 (mergeBits (s.reg p.1) p.2.mask p.2.val)) s).reg k =
      mergeBits (s.reg k) (Tab.get {} l k).mask (Tab.get {} l k).val := by
  induction l generalizing s with
  | nil => exact (mergeBits_zero _ _).symm
  | cons p l ih =>
    obtain ⟨j, q⟩ := p
    simp only [List.map_cons, List.pairwise_cons] at hl
    obtain ⟨hj, hl⟩ := hl
    rw [List.foldl_cons, ih hl]
    by_cases hk : j = k
    · subst hk
      rw [Tab.get_of_absent {} l fun i hi => (hj i hi).ne', State.reg_setReg_same]
      simp only [Tab.get, if_true]
      exact mergeBits_zero _ _
    · simp only [Tab.get, if_neg hk]
      rw [State.reg_setReg_other _ _ (Ne.symm hk)]

theorem pend_foldl_commit (l : Tab Pend) (s : State) :
    (l.foldl (fun s p => s.setReg p.1 (mergeBits (s.reg p.1) p.2.mask p.2.val)) s).pend = s.pend :=
  List.foldlRecOn (motive := fun t : State => t.pend = s.pend) _ _ rfl fun _ ht _ _ => ht

/-- Settles O7: the fold over the picked entries, whose keys differ. -/
theorem commitMovesPendingToActive : Obligations.CommitMovesPendingToActive := by
  unfold Obligations.CommitMovesPendingToActive
  intro s sel hw k
  have hp := (Tab.filter_wf _ s.pend (fun p => sel p.1) hw).1
  unfold commitWhere
  dsimp only
  rw [reg_foldl_commit _ hp, pend_foldl_commit, Tab.get_filter_key, Tab.get_filter_key {} s.pend (fun k => !sel k)]
  cases sel k with
  | true => exact ⟨rfl, rfl⟩
  | false => exact ⟨mergeBits_zero _ _, rfl⟩

/-! ### Gates -/

/-- What a refused write leaves alone: every register but the black box's counters, the pending values, the memories and the
outputs. -/
def Refused (s t : State) : Prop :=
  ∀ l, l ≠ Reg.BBX_FROZEN_DROP.key → l ≠ Reg.BBX_STATUS_MISSED_SAFETY.key → l ≠ Reg.BBX_LOST.key →
    t.reg l = s.reg l ∧ t.pend = s.pend ∧ t.img = s.img ∧ t.grn = s.grn ∧ t.flash = s.flash ∧ t.outputs = s.outputs

theorem raise_refused (s : State) (block code : Nat) (sev : Sev) (x : Nat) : Refused s (raise s block code sev x) :=
  fun _ h1 h2 h3 => ⟨raise_reg _ _ _ _ _ h1 h2 h3, by simp, by simp, by simp, by simp, by simp⟩

theorem isoErr_refused (s : State) (block : Nat) (i : Ident) (addr pd : Nat) : Refused s (isoErr s block i addr pd) := by
  unfold isoErr
  split
  · exact fun l h1 h2 h3 => raise_refused _ _ _ _ _ l h1 h2 h3
  · exact fun _ _ _ _ => ⟨rfl, rfl, rfl, rfl, rfl, rfl⟩

/-- A write that a gate does not take changes nothing but what its event changes. -/
theorem withWrite_refused (s : State) (a : Access) (base block pd addr : Nat) (k : State → State) (h : ¬ Accepts s a base pd) :
    Refused s (withWrite s a base block pd addr k) := by
  cases h1 : debugShut s a.init
  · cases h2 : blockUp s base pd
    · rw [withWrite_isolated h1 h2]
      exact isoErr_refused _ _ _ _ _
    · have h3 : a.be ≠ 15 := fun h3 => h ⟨h1, h2, h3⟩
      rw [withWrite_narrow h1 h2 h3]
      exact raise_refused _ _ _ _ _
  · rw [withWrite_debug h1]
    exact raise_refused _ _ _ _ _

/-- Settles O10: the gate's four branches. -/
theorem gateRefusesByCause : Obligations.GateRefusesByCause := by
  unfold Obligations.GateRefusesByCause
  intro s a base block pd addr k
  exact ⟨fun h => withWrite_debug h k, fun h1 h2 => withWrite_isolated h1 h2 k, fun h1 h2 h3 => withWrite_narrow h1 h2 h3 k,
    fun h => withWrite_taken h k, fun h => withWrite_refused s a base block pd addr k h⟩

end Sys2Proof.Machine
end

section
/-! SUPPORT. The reset state, and the commands of the tick. -/

namespace Sys2Proof.Machine

/-! ### The reset state -/

/-- No register is listed at reset, so each reads its reset value. -/
@[simp] theorem reg_reset (k : Nat) : State.reset.reg k = resetOf k := rfl

@[simp] theorem uart_reset (u : Nat) : uart State.reset u = {} := rfl

/-- Settles O3: an empty register file, and the reset values of three registers. -/
theorem resetLeavesResetValues : Obligations.ResetLeavesResetValues := by
  unfold Obligations.ResetLeavesResetValues
  refine ⟨reg_reset, rfl, rfl, rfl, rfl, rfl, ?_, ?_, ?_⟩ <;> decide +kernel

theorem reset_sound : State.reset.Sound := ⟨⟨by simp [State.reset, Tab.wf], by simp [State.reset, Tab.wf]⟩, by simp [State.reset]⟩

/-- At reset every channel of the mailboxes is empty (Table 13.1). -/
theorem reset_channel_empty : ∀ c : Fin 64, State.reset.bit (Reg.MBX_STATUS_FULL c.val) = false := by decide +kernel

/-- At reset STATUS of every UART shows empty FIFOs (Table 18.10). -/
theorem reset_uart_status : ∀ u : Fin 4, State.reset.rd (Reg.UAR_STATUS_RX_CNT u.val) = 0 ∧
    State.reset.rd (Reg.UAR_STATUS_TX_CNT u.val) = 0 ∧ State.reset.bit (Reg.UAR_STATUS_TX_EMPTY u.val) = true := by decide +kernel

/-- Settles O60: nothing waits, the channels are empty and so are the FIFOs. -/
theorem resetMeetsTheInvariants : Obligations.ResetMeetsTheInvariants := by
  unfold Obligations.ResetMeetsTheInvariants
  refine ⟨⟨fun c hc => absurd hc (List.not_mem_nil), reset_sound, fun c hc => ?_⟩,
    ⟨fun c hc => absurd hc (List.not_mem_nil), reset_sound, fun u => ?_⟩⟩
  · rw [reset_channel_empty] at hc
    exact absurd hc Bool.false_ne_true
  · obtain ⟨h1, h2, h3⟩ := reset_uart_status u
    rw [h1, h2, h3, uart_reset]
    exact ⟨Nat.zero_le _, Nat.zero_le _, rfl, rfl, rfl⟩

/-! ### The tick -/

/-- Fields lie in the register file: states with the same one read the same. -/
theorem rd_of_regs {s t : State} (h : t.regs = s.regs) (f : Fld) : t.rd f = s.rd f := by
  unfold State.rd State.reg
  rw [h]

theorem sub_rd_other (s : State) {f g : Fld} (n : Nat) (h : g.key ≠ f.key ∨ g.lo + g.w ≤ f.lo ∨ f.lo + f.w ≤ g.lo) :
    (s.sub f n).rd g = s.rd g := s.rd_wr_other _ h

/-- The last writes of a register that the count of a new tick makes are those of TIK_STATUS. -/
theorem countTick_regs (s : State) :
    ∃ u : State, (countTick s).regs = ((u.wr Reg.TIK_STATUS_SLOT 0).sub Reg.TIK_STATUS_INVAL_LEFT 1).regs := ⟨_, rfl⟩

/-- The counters of a new tick leave SLOT at 0: INVAL_LEFT lies in other bits of TIK_STATUS. -/
theorem countTick_slot (s : State) : (countTick s).rd Reg.TIK_STATUS_SLOT = 0 := by
  obtain ⟨u, hu⟩ := countTick_regs s
  rw [rd_of_regs hu, sub_rd_other _ _ (.inr (by decide)), State.rd_wr_same _ _ _ (by decide)]
  rfl

section
variable {s : State}

theorem execTickEdge_due (n : Nat) (h1 : domainUp s 2 = true) (h2 : (s.tik.starts || phaseOpen s (· == 508)) = true) :
    execTickEdge n s = .next (
      let c := countTick (slewBy s s.rate n)
      let u := markStretch (wantedStep (tickState (ageHistory c) s.tik.starts))
      let u := injectEdge { u with bbx := { u.bbx with level := u.rd Reg.SAF_STATUS_LEVEL }, saf := { u.saf with sramBad := [] } }
      blockEdges (if s.tik.activate == 3 then firstRunning u else u)) := by
  unfold execTickEdge
  rw [if_neg (by simp [h1, h2])]

theorem execFinalVote_due (h : phaseOpen s (fun j => decide (j < 496)) = true) :
    execFinalVote s = .next (
      let u := s.wr Reg.TIK_STATUS_SLOT 496
      let u := { u with tik := { u.tik with qual496 := u.rd Reg.TIM_STATUS_QUALITY } }
      closeResult (finalVotes (showGates (frontQuality (if u.tim.refBack then takeRefclk u else u)) 496))) := by
  unfold execFinalVote
  rw [if_neg (by simp [h])]

theorem execHandOff_due (fa : List (Fin 80 × Bool)) (fs : List (Fin 1024 × Fin 80 × Bool)) (na : List (Fin 7))
    (h : phaseOpen s (· == 496) = true) :
    execHandOff fa fs na s = .next (
      pathsStep (ringHandOff (publisherHandOff (stateCopies (adoptCopy (almUpdate (showGates (s.wr Reg.TIK_STATUS_SLOT 500) 500)) fa) fs)))
        (na.map Fin.val)) := by
  unfold execHandOff
  rw [if_neg (by simp [h])]

theorem execSeamCommit_due (h : phaseOpen s (· == 500) = true) :
    execSeamCommit s = .next (
      let u := seamAmend s
      let u := if commitDue u then seamCommit u else u
      let u := afterCommit s (showGates (u.wr Reg.TIK_STATUS_SLOT 504) 504)
      if u.tik.activate = 2 then { u with tik := { u.tik with activate := 3 } } else u) := by
  unfold execSeamCommit
  rw [if_neg (by simp [h])]

theorem execSentinelCheck_due (wrong : List (Fin 9)) (h : phaseOpen s (· == 504) = true) :
    execSentinelCheck wrong s = .next (
      let p := handshakeStep (sentinelStep (stretchStep (showGates ((adoptAll (deferredCommits s)).wr Reg.TIK_STATUS_SLOT 508) 508)))
      let u := (List.range 9).foldl (readbackPin (wrong.map Fin.val)) (repeatsStep p.1)
      let u := healthyStep (levelStep (paramCheck (tellApplied (tellResources u)))) p.2
      if u.img.deact.any (fun k => decide (k ≤ u.tick)) then imageDeactivated u else u) := by
  unfold execSentinelCheck
  rw [if_neg (by simp [h])]

theorem execTikCommitArm_taken {a : Access} (v : Word) (h : Accepts s a 0x10000 2) :
    execTikCommitArm a v s = .next (writeTikCommit v s) :=
  congrArg Host.Outcome.next (withWrite_taken h _)

end

/-- Settles O13: each phase where it is due, by its own equation. -/
theorem tickPhasesComplete : Obligations.TickPhasesComplete := by
  unfold Obligations.TickPhasesComplete
  exact ⟨fun n s h1 h2 => ⟨execTickEdge_due n h1 h2, countTick_slot _⟩, fun s h => execFinalVote_due h,
    fun fa fs na s h => execHandOff_due fa fs na h, fun s h => execSeamCommit_due h, fun w s h => execSentinelCheck_due w h,
    fun a v s h => execTikCommitArm_taken v h⟩

end Sys2Proof.Machine
end

section
/-! SUPPORT. Every command answers a next state, but an access to an address that its initiator does not have. -/

namespace Sys2Proof.Machine

/-- An outcome that is a next state. -/
def Answers (o : Out) : Prop := ∃ t, o = .next t

namespace Answers

theorem next (s : State) : Answers (.next s) := ⟨s, rfl⟩

theorem ite {c : Prop} [Decidable c] {x y : Out} (hx : Answers x) (hy : Answers y) : Answers (if c then x else y) := by
  split
  · exact hx
  · exact hy

/-- A choice between two next states. -/
theorem either {c : Prop} [Decidable c] {x y : State} : Answers (if c then .next x else .next y) := ite (next x) (next y)

/-- A condition under which nothing happens, then a choice between two next states. -/
theorem either₂ {c d : Prop} [Decidable c] [Decidable d] {x y z : State} :
    Answers (if c then .next x else if d then .next y else .next z) := ite (next x) either

end Answers

open Answers

/-! ### Commands that look into their state before they answer -/

section
variable (s : State)

theorem execRefclkDetect_answers (d : RefDetect) : Answers (execRefclkDetect d s) := by
  unfold execRefclkDetect
  cases d <;> exact either

theorem execFetchComplete_answers (data : List Byte) (retried : Bool) (failAt : Option Nat) (us : Nat) :
    Answers (execFetchComplete data retried failAt us s) := by
  unfold execFetchComplete
  cases s.img.load with
  | none => exact next _
  | some l => exact either

theorem execVerifyComplete_answers (us : Nat) : Answers (execVerifyComplete us s) := by
  unfold execVerifyComplete
  cases s.img.load with
  | none => exact next _
  | some l => exact either

theorem execGuardComplete_answers (us : Nat) : Answers (execGuardComplete us s) := by
  unfold execGuardComplete
  cases s.img.load with
  | none => exact next _
  | some l => exact either

theorem execImgActivate_answers (cmd : Option (Access × Word)) (test : SelfTest) : Answers (execImgActivate cmd test s) := by
  unfold execImgActivate
  cases cmd <;> exact next _

theorem execStructMemUncorr_answers (ofs : Fin 8388608) (overlay : Bool) : Answers (execStructMemUncorr ofs overlay s) := by
  unfold execStructMemUncorr
  refine ite (next _) (ite (next _) ?_)
  split
  · exact next _
  · exact either

theorem execClockCheck_answers (clock : OwlClock) (ppm : Int) : Answers (execClockCheck clock ppm s) := by
  unfold execClockCheck
  cases clock with
  | fclk => exact either
  | refclk => exact either₂

theorem execGleanCheck_answers (item : Fin 1024) (finding : Fin 4) : Answers (execGleanCheck item finding s) := by
  unfold execGleanCheck
  split <;> exact next _

theorem execBbxEntryWrite_answers : Answers (execBbxEntryWrite s) := by
  unfold execBbxEntryWrite
  split <;> exact next _

theorem execBbxSnapshot_answers : Answers (execBbxSnapshot s) := by
  unfold execBbxSnapshot
  split
  · exact next _
  · exact either

theorem execSlotEraseDone_answers : Answers (execSlotEraseDone s) := by
  unfold execSlotEraseDone
  split <;> exact next _

theorem execReleaseStep_answers : Answers (execReleaseStep s) := by
  unfold execReleaseStep
  refine ite (next _) ?_
  split
  · exact next _
  · split <;> exact next _

theorem execThmSample_answers (t : List Int) : Answers (execThmSample t s) := by
  unfold execThmSample
  refine ite (next _) ?_
  dsimp only
  split <;> exact next _

theorem execProgramDone_answers (first second : Bool) : Answers (execProgramDone first second s) := by
  unfold execProgramDone
  split <;> exact next _

theorem execEraseDone_answers (first second : Bool) : Answers (execEraseDone first second s) := by
  unfold execEraseDone
  split
  · exact either
  · exact next _

theorem execGranaryRead_answers (i : Ident) (word : Fin 262144) (margin : Fin 3) : Answers (execGranaryRead i word margin s) := by
  unfold execGranaryRead
  refine ite (next _) (ite (next _) ?_)
  split
  · exact either
  · exact either₂
  · exact next _

theorem execProtStored_answers : Answers (execProtStored s) := by
  unfold execProtStored
  split <;> exact next _

theorem execFirmwareBoot_answers : Answers (execFirmwareBoot s) := by
  unfold execFirmwareBoot
  refine ite (next _) ?_
  dsimp only
  split
  · exact next _
  · exact next _
  · exact next _
  · exact either₂

theorem execFwBootComplete_answers : Answers (execFwBootComplete s) := by
  unfold execFwBootComplete
  split
  · exact next _
  · exact ite (next _) (ite (next _) either₂)

theorem execPnlEvtPop_answers (i : Ident) (ms : Nat) : Answers (execPnlEvtPop i ms s) := by
  unfold execPnlEvtPop
  refine ite (next _) (ite (next _) ?_)
  dsimp only
  split
  · exact next _
  · exact either

theorem execFlashOpComplete_answers : Answers (execFlashOpComplete s) := by
  unfold execFlashOpComplete
  split <;> exact next _

theorem execFlashTimeout_answers : Answers (execFlashTimeout s) := by
  unfold execFlashTimeout
  split <;> exact next _

theorem execSpim1Done_answers (data : List Byte) : Answers (execSpim1Done data s) := by
  unfold execSpim1Done
  split <;> exact next _

theorem execRdyTimeout_answers (x : RdyLow) : Answers (execRdyTimeout x s) := by
  unfold execRdyTimeout
  split
  · exact next _
  · exact either

theorem execUartDataRead_answers (i : Ident) (u : Fin 4) : Answers (execUartDataRead i u s) := by
  unfold execUartDataRead
  refine ite (next _) (ite (next _) (ite (next _) ?_))
  dsimp only
  split <;> exact next _

theorem execUartTxComplete_answers (u : Fin 4) : Answers (execUartTxComplete u s) := by
  unfold execUartTxComplete
  dsimp only
  split <;> exact next _

theorem execI2cComplete_answers (c : Fin 2) (e : I2cEnd) : Answers (execI2cComplete c e s) := by
  unfold execI2cComplete
  dsimp only
  split
  · exact next _
  · exact ite (next _) either₂

theorem execMstpTimerExpiry_answers (t : MstpTimer) : Answers (execMstpTimerExpiry t s) := by
  unfold execMstpTimerExpiry
  refine ite (next _) ?_
  split
  · exact next _
  · exact next _
  · exact next _
  · exact next _
  · exact either
  · exact ite (next _) either₂
  · exact next _

end

/-! ### All commands -/

/-- A command that names no address answers: by its lemma above, after one condition or more, or, the last case, outright. -/
theorem exec_answers (c : Instr) (s : State) (h : addressOf c = none) : Answers (exec c s) := by
  cases c
  case registerWrite | lowWordRead | rcRead | blockCommitGo | blockCommitDiscard => cases h
  case refclkDetect => exact execRefclkDetect_answers _ _
  case fetchComplete => exact execFetchComplete_answers _ _ _ _ _
  case verifyComplete => exact execVerifyComplete_answers _ _
  case guardComplete => exact execGuardComplete_answers _ _
  case imgActivate => exact execImgActivate_answers _ _ _
  case structMemUncorr => exact execStructMemUncorr_answers _ _ _
  case clockCheck => exact execClockCheck_answers _ _ _
  case gleanCheck => exact execGleanCheck_answers _ _ _
  case bbxEntryWrite => exact execBbxEntryWrite_answers _
  case bbxSnapshot => exact execBbxSnapshot_answers _
  case slotEraseDone => exact execSlotEraseDone_answers _
  case releaseStep => exact execReleaseStep_answers _
  case thmSample => exact execThmSample_answers _ _
  case programDone => exact execProgramDone_answers _ _ _
  case eraseDone => exact execEraseDone_answers _ _ _
  case granaryRead => exact execGranaryRead_answers _ _ _ _
  case protStored => exact execProtStored_answers _
  case firmwareBoot => exact execFirmwareBoot_answers _
  case fwBootComplete => exact execFwBootComplete_answers _
  case pnlEvtPop => exact execPnlEvtPop_answers _ _ _
  case flashOpComplete => exact execFlashOpComplete_answers _
  case flashTimeout => exact execFlashTimeout_answers _
  case spim1Done => exact execSpim1Done_answers _ _
  case rdyTimeout => exact execRdyTimeout_answers _ _
  case uartDataRead => exact execUartDataRead_answers _ _ _
  case uartTxComplete => exact execUartTxComplete_answers _ _
  case i2cComplete => exact execI2cComplete_answers _ _ _
  case mstpTimerExpiry => exact execMstpTimerExpiry_answers _ _
  case keEvaluation | overcurrentTrip | motorAutoRestart => exact ite either (next _)
  case spisWarmReset | uartFrameReceive => exact ite (next _) (ite (next _) either₂)
  case phaseCrossCheck | mstpFrameReceive => exact ite (next _) either₂
  case ptpEventTimestamp | coreMemoryError | journalErase | damperSync | spisWrite | sfpPresenceChange =>
    exact either₂
  case timeRead | holdoverEstimate | refclkRestored | autoload | linkLost | linkRestored | svFrameReceive | svLost | svRestored
        | jesdDown | jesdUp | jesdCrcError | sysrefEdge | sysrefMissing | vfFlr | vfEnableClear | owlLockstepMismatch
        | mgmtHbLost | gleanerPassComplete | diagOverdue | sramUncorr | lockExpired | postTimeout | delayedResetAssert
        | thermalTrip | scanDone | trialExpired | sensorReadCycle | h2HoldEnd | scheduleEvaluation | loopRun | damperStall
        | replyPostponed | mstpAbsent | mstpLeft | fanWdtExpired | rpmUpdate | alignEnd | handover | startRetry | retryDelayEnd
        | motorStopped | driverFault | adcFault | keyWake | keyScan | ladderSample | spim0Init | spisRead | spisStatus
        | modbusEom | maskedColumnScan | heaterMinTimeEnd | readSuspendEnd =>
    exact either
  all_goals exact next _

/-- The five commands that name an address. -/
theorem addressOf_eq_some {c : Instr} {i : Ident} {addr : Nat} (h : addressOf c = some (i, addr)) :
    (∃ a v, a.init = i ∧ c = .registerWrite a addr v) ∨ (∃ r, r.init = i ∧ c = .lowWordRead r addr) ∨
    (∃ r, r.init = i ∧ c = .rcRead r addr) ∨ (∃ a d, a.init = i ∧ c = .blockCommitGo a addr d) ∨
    (∃ a, a.init = i ∧ c = .blockCommitDiscard a addr) := by
  unfold addressOf at h
  split at h
  next a _ v => cases h; exact .inl ⟨a, v, rfl, rfl⟩
  next r _ => cases h; exact .inr (.inl ⟨r, rfl, rfl⟩)
  next r _ => cases h; exact .inr (.inr (.inl ⟨r, rfl, rfl⟩))
  next a _ d => cases h; exact .inr (.inr (.inr (.inl ⟨a, d, rfl, rfl⟩)))
  next a _ => cases h; exact .inr (.inr (.inr (.inr ⟨a, rfl, rfl⟩)))
  next => cases h

section
variable {s : State} {addr p : Nat}

theorem execRegisterWrite_reached {a : Access} (v : WData) (h : reach a.init addr = some p) :
    Answers (execRegisterWrite a addr v s) := by
  unfold execRegisterWrite
  rw [h]
  cases v.high <;> exact next _

theorem execRegisterWrite_absent {a : Access} (v : WData) (h : reach a.init addr = none) :
    execRegisterWrite a addr v s = .fault (.outsideBar addr) := by
  unfold execRegisterWrite
  rw [h]

theorem readAccess_reached {r : RAccess} (h : reach r.init addr = some p) :
    readAccess r addr s = .next (if r.wide then (if wideOk p then wideRead s r.init p else s) else narrowRead s r p) := by
  unfold readAccess
  rw [h]

theorem readAccess_absent {r : RAccess} (h : reach r.init addr = none) : readAccess r addr s = .fault (.outsideBar addr) := by
  unfold readAccess
  rw [h]

theorem commitWrite_reached {a : Access} (k : State → Nat → State) (h : reach a.init addr = some p) :
    Answers (commitWrite s a addr k) := by
  unfold commitWrite
  rw [h]
  dsimp only
  split
  · exact next _
  · exact ite either either

theorem commitWrite_absent {a : Access} (k : State → Nat → State) (h : reach a.init addr = none) :
    commitWrite s a addr k = .fault (.outsideBar addr) := by
  unfold commitWrite
  rw [h]

end

/-- Settles O11: `exec_answers`, and the five commands with an address where it is reached and where it is not. -/
theorem everyCommandAnswers : Obligations.EveryCommandAnswers := by
  unfold Obligations.EveryCommandAnswers
  refine ⟨exec_answers, fun c s i addr p hc hr => ?_, fun c s i addr hc hr => ?_⟩
  · obtain ⟨a, v, rfl, rfl⟩ | ⟨r, rfl, rfl⟩ | ⟨r, rfl, rfl⟩ | ⟨a, d, rfl, rfl⟩ | ⟨a, rfl, rfl⟩ := addressOf_eq_some hc
    · exact execRegisterWrite_reached v hr
    · exact ⟨_, readAccess_reached hr⟩
    · exact ⟨_, readAccess_reached hr⟩
    · exact commitWrite_reached _ hr
    · exact commitWrite_reached _ hr
  · obtain ⟨a, v, rfl, rfl⟩ | ⟨r, rfl, rfl⟩ | ⟨r, rfl, rfl⟩ | ⟨a, d, rfl, rfl⟩ | ⟨a, rfl, rfl⟩ := addressOf_eq_some hc
    · exact execRegisterWrite_absent v hr
    · exact readAccess_absent hr
    · exact readAccess_absent hr
    · exact commitWrite_absent _ hr
    · exact commitWrite_absent _ hr

end Sys2Proof.Machine
end

section
/-! SUPPORT. Register accesses: what a write or a read of a place does, down to three registers, and the block commits. -/

namespace Sys2Proof.Machine

/-! ### Rows of the register tables -/

/-- The block of GLB and its SCRATCH register. -/
def glbBlock : BlockD := ⟨0, 0x10000, 1, 0, regsGlb⟩
def scratchRow : RegD := rd 8 [] [fd 31 0 .rw .live]

/-- The block of TIK and its counter's words. -/
def tikBlock : BlockD := ⟨0x10000, 0x10000, 2, 2, regsTik⟩
def countLoRow : RegD := rd 0x10 [] [fd 31 0 .ro .live] .low
def countHiRow : RegD := rd 0x14 [] [fd 31 0 .ro .live] .high

/-- The tenant windows. -/
def windowBlock : BlockD := ⟨0x4000000, 0x2000000, 0xF, 13, regsTw⟩

theorem findBlock_scratch : findBlock blocks 8 = some glbBlock := by decide +kernel
theorem findReg_scratch : glbBlock.findReg 8 = some scratchRow := by decide +kernel
theorem findBlock_countLo : findBlock blocks 0x10010 = some tikBlock := by decide +kernel
theorem findBlock_countHi : findBlock blocks 0x10014 = some tikBlock := by decide +kernel
theorem findReg_countLo : tikBlock.findReg 0x10 = some countLoRow := by decide +kernel
theorem findReg_countHi : tikBlock.findReg 0x14 = some countHiRow := by decide +kernel
theorem findBlock_base : ∀ b ∈ blocks, findBlock blocks b.base = some b := by decide +kernel
theorem findBlock_window : ∀ t : Fin 128, findBlock blocks (0x4000000 + t.val * 0x40000) = some windowBlock := by decide +kernel

/-! ### GLB_SCRATCH -/

/-- No chapter refuses a write of GLB_SCRATCH. -/
theorem refusedWrite_scratch (s : State) (i : Ident) (v : Word) : refusedWrite s i 8 v = none := by
  have h1 : (List.range 12).any (fun c => (8 : Nat) == (Reg.FAN_CH_SET c).key) = false := by decide +kernel
  have h2 : (List.range 64).any (fun n => (8 : Nat) == (Reg.SPM1_BUF n).key) = false := by decide +kernel
  simp [refusedWrite, h1, h2]

/-- A write of GLB_SCRATCH does nothing beside its field. -/
theorem afterWrite_scratch (old s : State) (i : Ident) (v : Word) : afterWrite old s i 8 v = s := by
  have h1 : ovrRegs.find? (fun x => x.en.key == 8) = none := by decide +kernel
  have h2 : (List.range 48).find? (fun n => (8 : Nat) == (Reg.CLM_CIO n).key) = none := by decide +kernel
  have h3 : (List.range 12).find? (fun c => (8 : Nat) == (Reg.FAN_CH_SET c).key) = none := by decide +kernel
  have h4 : (List.range 8).find? (fun d => (8 : Nat) == (Reg.CLM_DMP_DSTATUS d).key) = none := by decide +kernel
  have h5 : (List.range 16).find? (fun n => (8 : Nat) == (Reg.PNL_LED n).key) = none := by decide +kernel
  have h6 : (List.range 4).find? (fun u => (8 : Nat) == (Reg.UAR_CFG u).key) = none := by decide +kernel
  have h7 : (List.range 2).find? (fun c => (8 : Nat) == (Reg.IIC_CFG c).key) = none := by decide +kernel
  have h8 : (List.range 128).find? (fun t => (8 : Nat) == (Reg.HIF_DLOG_DCFG t).key) = none := by decide +kernel
  simp only [afterWrite, h1, h2, h3, h4, h5, h6, h7, h8]
  simp

theorem mergeBits_all (w v : Word) : mergeBits w (maskOf 0 32) v = v := by
  apply BitVec.eq_of_getLsbD_eq
  intro i hi
  rw [getLsbD_mergeBits _ _ _ _ hi, getLsbD_maskOf _ _ _ hi]
  simp [hi]

/-- A domain is up or down by PWR_STATUS, PWR_RESET and the cold reset alone. -/
theorem blockUp_setReg (s : State) {k : Nat} (v : Word) (base pd : Nat) (h1 : Reg.PWR_STATUS.key ≠ k) (h2 : Reg.PWR_RESET.key ≠ k) :
    blockUp (s.setReg k v) base pd = blockUp s base pd := by
  simp only [blockUp, domainUp, coldHeld, State.rd_setReg_other s v h1, State.rd_setReg_other s v h2, State.setReg_rst]

/-- No field of GLB_SCRATCH is isolated while PD00 is up. -/
theorem isoIfDown_scratch {s : State} (i : Ident) (addr : Nat) (h : blockUp s 0 0 = true) :
    isoIfDown s glbBlock scratchRow i addr = s := by
  have hd : downField s glbBlock scratchRow = none := by
    simp [downField, scratchRow, fieldUp, glbBlock, h]
  simp only [isoIfDown, hd]

/-- The write of the one field of GLB_SCRATCH, a live RW one of 32 bits. -/
theorem writeFields_scratch {s : State} (q : Bool) (v : Word) (h : blockUp s 0 0 = true) :
    writeFields s glbBlock scratchRow 8 q v scratchRow.fields false = (s.setReg 8 v, false) := by
  have hf : fieldUp s glbBlock scratchRow (fd 31 0 .rw .live) = true := h
  have hw : writeField s 8 q v (fd 31 0 .rw .live) = (s.setReg 8 v, false) :=
    (writeField_live_rw s 8 q v rfl rfl).trans (by rw [mergeBits_all])
  simp only [scratchRow, writeFields]
  simp only [scratchRow] at hf
  rw [if_pos hf, hw]
  rfl

theorem plainWrite_scratch {s : State} (i : Ident) (v : Word) (h : blockUp s 0 0 = true) : plainWrite s i 8 v = s.setReg 8 v := by
  have hr : regAt 8 = some (glbBlock, scratchRow) := by decide +kernel
  have hk : regKey scratchRow i 8 = 8 := rfl
  have hp : scratchRow.pair = .single := rfl
  have hu : blockUp (s.setReg 8 v) 0 0 = true := (blockUp_setReg s v 0 0 (by decide) (by decide)).trans h
  simp only [plainWrite, hr, writeReg, hp, hk, writeFields_scratch _ v h, Bool.false_eq_true, if_false, isoIfDown_scratch i 8 hu]

theorem blockWrite_scratch {s : State} {a : Access} (v : Word) (h : Accepts s a 0 0) :
    blockWrite s a glbBlock 8 v = s.setReg 8 v := by
  obtain ⟨h1, h2, h3⟩ := h
  have ho : activeOff (8 - glbBlock.base) = 8 := by decide
  have hu : regUp s glbBlock scratchRow = true := by simp [regUp, scratchRow, fieldUp, h2, glbBlock]
  unfold blockWrite
  dsimp only
  rw [if_neg (by simp [h1]), ho, findReg_scratch]
  dsimp only
  rw [if_neg (by simp [hu]), if_neg (by decide), if_neg (by simp [h3]), refusedWrite_scratch]
  dsimp only
  rw [fieldsWritten, afterWrite_scratch, plainWrite_scratch _ _ h2]

/-- A write of GLB_SCRATCH that is taken sets it (R22). -/
theorem writeAt_scratch {s : State} {a : Access} (v : Word) (h : Accepts s a 0 0) : writeAt s a 8 v = s.setReg 8 v := by
  have hc : (commandRow a 8 v s).or (arrayRow a 8 v s) = none := rfl
  unfold writeAt
  rw [if_neg (by decide), hc, findBlock_scratch]
  exact blockWrite_scratch v h

/-! ### TIK_COUNT_LO -/

/-- The view of a word of TIK_COUNT is the state itself. -/
theorem viewOf_count (s : State) {addr : Nat} (h : addr = 0x10010 ∨ addr = 0x10014) : viewOf s addr = s := by
  have hf : (List.range 6).find? (fun p => addr == (Reg.IIC_SFP p).key) = none := by
    rcases h with rfl | rfl <;> decide +kernel
  have h1 : ¬ (addr = Reg.SAF_STATUS.key ∨ addr = Reg.SAF_MIN_SET.key) := by rcases h with rfl | rfl <;> decide
  have h2 : ¬ addr = Reg.PWR_OFF_OK.key := by rcases h with rfl | rfl <;> decide
  unfold viewOf
  rw [if_neg h1, if_neg h2, hf]

/-- A register of one accessible field of 32 bits reads as its word. -/
theorem readReg_whole (s : State) (b : BlockD) (r : RegD) (k : Nat) {f : FieldD} (hr : r.fields = [f]) (hm : maskOf f.lo f.w = 0xFFFFFFFF#32)
    (ha : f.acc ≠ .wo) (hf : fieldUp s b r f = true) : readReg s b r k = s.reg k := by
  have h1 : s.reg k &&& 4294967295#32 = s.reg k := BitVec.and_allOnes
  simp [readReg, regUp, readFields, hr, hf, ha, hm, h1]

theorem readWord_countLo {s : State} (i : Ident) (h : blockUp s 0x10000 2 = true) : readWord s i 0x10010 = s.reg 0x10010 := by
  have ho : activeOff (0x10010 - tikBlock.base) = 0x10 := by decide
  unfold readWord
  rw [findBlock_countLo]
  dsimp only
  rw [ho, findReg_countLo]
  dsimp only
  rw [if_pos (by decide)]
  exact readReg_whole s tikBlock countLoRow _ rfl (by decide) (by decide) h

theorem readWord_countHi {s : State} (i : Ident) (h : blockUp s 0x10000 2 = true) : readWord s i 0x10014 = s.reg 0x10014 := by
  have ho : activeOff (0x10014 - tikBlock.base) = 0x14 := by decide
  unfold readWord
  rw [findBlock_countHi]
  dsimp only
  rw [ho, findReg_countHi]
  dsimp only
  rw [if_pos (by decide)]
  exact readReg_whole s tikBlock countHiRow _ rfl (by decide) (by decide) h

/-- A read of the low word latches the high word for its reader (R10). -/
theorem registerRead_countLo {s : State} (i : Ident) (h : blockUp s 0x10000 2 = true) :
    registerRead s i tikBlock 0x10010 =
      answer { s with snaps := Tab.put none s.snaps (initKey i 0x10010) (some (s.reg 0x10014)) } (s.reg 0x10010) := by
  have ho : activeOff (0x10010 - tikBlock.base) = 0x10 := by decide
  have hd : downField s tikBlock countLoRow = none := by simp [downField, countLoRow, fieldUp, tikBlock, h]
  unfold registerRead
  dsimp only
  rw [ho, findReg_countLo]
  dsimp only
  rw [hd, if_neg (by simp), if_neg (by decide), viewOf_count s (.inl rfl), viewOf_count s (.inr rfl), readWord_countLo i h,
    readWord_countHi i h]
  rfl

theorem readAt_countLo {s : State} (i : Ident) (h1 : debugShut s i = false) (h2 : blockUp s 0x10000 2 = true) :
    readAt s i 0x10010 =
      answer { s with snaps := Tab.put none s.snaps (initKey i 0x10010) (some (s.reg 0x10014)) } (s.reg 0x10010) := by
  have hb : blockRead s i 0x10010 = registerRead s i tikBlock 0x10010 := by
    simp [blockRead, findBlock_countLo]
  unfold readAt
  rw [if_neg (by simp [h1]), if_neg (by decide), hb, registerRead_countLo i h2]

/-! ### DATA of UART 0 -/

theorem execUartDataRead_taken {s : State} {i : Ident} {u : Fin 4} {w : Word} {ws : List Word} (h1 : debugShut s i = false)
    (h2 : domainUp s 20 = true) (h3 : ownsUart s u i = true) (hr : (uart s u).rx = w :: ws) :
    execUartDataRead i u s = .next { setUart s u { uart s u with rx := ws } with resp := some w } := by
  unfold execUartDataRead
  dsimp only
  rw [if_neg (by simp [h1]), if_neg (by simp [h2]), if_neg (by simp [h3]), hr]

theorem readAt_uartData {s : State} {i : Ident} {w : Word} {ws : List Word} (h1 : debugShut s i = false)
    (h2 : domainUp s 20 = true) (h3 : ownsUart s 0 i = true) (hr : (uart s 0).rx = w :: ws) :
    readAt s i 0xA6000C = { setUart s 0 { uart s 0 with rx := ws } with resp := some w } := by
  have hb : blockRead s i 0xA6000C = stateAfter s (execUartDataRead i 0 s) := by
    simp [blockRead]
  unfold readAt
  rw [if_neg (by simp [h1]), if_neg (by decide), hb, execUartDataRead_taken (u := 0) h1 h2 h3 hr]
  rfl

/-! ### Accesses of any place -/

theorem askedBytes_full (w : Word) : askedBytes 15 w = w := by
  have h : ((List.range 4).foldl (fun m k => if (15 : BitVec 4).getLsbD k then m ||| maskOf (8 * k) 8 else m) 0 : Word) = 0xFFFFFFFF#32 := by
    decide
  rw [askedBytes, h]
  exact BitVec.and_allOnes

section
variable {s : State} {addr p : Nat}

theorem exec_registerWrite_narrow {a : Access} (v : Word) (h : reach a.init addr = some p) :
    exec (.registerWrite a addr ⟨v, none⟩) s = .next (writeAt s a p v) := by
  change execRegisterWrite a addr ⟨v, none⟩ s = _
  simp only [execRegisterWrite, h]

theorem exec_registerWrite_wide {a : Access} (v w : Word) (h : reach a.init addr = some p) (hw : wideOk p = true) :
    exec (.registerWrite a addr ⟨v, some w⟩) s = .next (writeAt (writeAt s a p v) a (p + 4) w) := by
  change execRegisterWrite a addr ⟨v, some w⟩ s = _
  simp only [execRegisterWrite, h, hw, if_true]

theorem readAccess_narrow {r : RAccess} (h : reach r.init addr = some p) (hw : r.wide = false) :
    readAccess r addr s = .next (narrowRead s r p) := by
  rw [readAccess_reached h, hw]
  rfl

theorem readAccess_wide {r : RAccess} (h : reach r.init addr = some p) (hw : r.wide = true) (hp : wideOk p = true) :
    readAccess r addr s = .next (wideRead s r.init p) := by
  rw [readAccess_reached h, if_pos hw, if_pos hp]

/-- A read of all four bytes answers what the read of the place answers. -/
theorem narrowRead_full (s : State) (i : Ident) (p : Nat) : narrowRead s ⟨i, 15, false⟩ p = { readAt s i p with respHigh := none } := by
  have h : (readAt s i p).resp.map (askedBytes 15) = (readAt s i p).resp := by
    cases (readAt s i p).resp with
    | none => rfl
    | some w => exact congrArg some (askedBytes_full w)
  unfold narrowRead
  dsimp only
  rw [h]

/-- A write of the COMMIT register of a block (R236). -/
theorem commitWrite_block {a : Access} {b : BlockD} (k : State → Nat → State) (hb : b ∈ blocks) (hc : hasCommit b = true)
    (hw : b.base ≠ 0x4000000) (hr : reach a.init b.base = some b.base) (ha : Accepts s a b.base b.pd) :
    commitWrite s a b.base k = .next (k s b.base) := by
  unfold commitWrite
  rw [hr]
  dsimp only
  rw [findBlock_base b hb]
  dsimp only
  rw [if_neg hw, if_pos ⟨rfl, hc⟩, withWrite_taken ha]

/-- A write of the COMMIT register of a tenant window (R236). -/
theorem commitWrite_window {a : Access} {t : Nat} (k : State → Nat → State) (hb : findBlock blocks p = some windowBlock)
    (hp : p - 0x4000000 = t * 0x40000) (hr : reach a.init p = some p) (ha : AcceptsView s t a.be 13) :
    commitWrite s a p k = .next (k s p) := by
  have hw : windowBlock.base = 0x4000000 := rfl
  unfold commitWrite
  rw [hr]
  dsimp only
  rw [hb]
  dsimp only
  rw [if_pos hw, hw, hp, if_pos (Nat.mul_mod_left ..), Nat.mul_div_cancel _ (by decide), windowWrite_taken ha]

end

/-- Settles O12: writes, reads and commits by the place that they reach, and the three registers of which more is said. -/
theorem accessCommandsComplete : Obligations.AccessCommandsComplete := by
  unfold Obligations.AccessCommandsComplete
  refine ⟨fun a addr p v s h => exec_registerWrite_narrow v h, fun a addr p v w s h hw => exec_registerWrite_wide v w h hw,
    fun a addr v s h => execRegisterWrite_absent v h, fun a v s hr ha => ?_,
    fun r addr p s h hw => ⟨readAccess_narrow h hw, readAccess_narrow h hw, rfl⟩,
    fun r addr p s h hw hp => ⟨readAccess_wide h hw hp, readAccess_wide h hw hp, rfl, rfl⟩,
    fun r addr s h => ⟨readAccess_absent h, readAccess_absent h⟩, fun i s hr h1 h2 => ?_, fun i s w ws hr h1 h2 h3 hx => ?_,
    fun a s b hb hc hw hr ha => ⟨commitWrite_block _ hb hc hw hr ha, commitWrite_block _ hb hc hw hr ha⟩,
    fun t a s hr ha =>
      ⟨commitWrite_window _ (findBlock_window t) (Nat.add_sub_cancel_left ..) hr ha,
        commitWrite_window _ (findBlock_window t) (Nat.add_sub_cancel_left ..) hr ha⟩⟩
  · rw [exec_registerWrite_narrow v hr, writeAt_scratch v ha]
  · refine (readAccess_narrow (r := ⟨i, 15, false⟩) hr rfl).trans ?_
    rw [narrowRead_full, readAt_countLo i h1 h2]
    rfl
  · refine (readAccess_narrow (r := ⟨i, 15, false⟩) hr rfl).trans ?_
    rw [narrowRead_full, readAt_uartData h1 h2 h3 hx]

end Sys2Proof.Machine
end

section
/-! SUPPORT. The commands of the time scale: phase and frequency, realignment, holdover, leap seconds and REFCLK. -/

namespace Sys2Proof.Machine

section
variable {s : State} {a : Access}

/-- The count of ticks lies in the two words of TIK_COUNT alone. -/
theorem tick_wr_other (s : State) {f : Fld} (v : Nat) (h1 : Reg.TIK_COUNT_LO.key ≠ f.key) (h2 : Reg.TIK_COUNT_HI.key ≠ f.key) :
    (s.wr f v).tick = s.tick := by
  simp only [State.tick, State.rd64, s.rd_wr_other v (.inl h1), s.rd_wr_other v (.inl h2)]

theorem execPhaseAdjWrite_taken (v : Word) (h : Accepts s a 0x20000 2) :
    execPhaseAdjWrite a v s = .next (adjustPhase s (signedOf 32 v.toNat)) :=
  congrArg Host.Outcome.next (withWrite_taken h _)

theorem execFreqAdjWrite_taken (v : Word) (h : Accepts s a 0x20000 2) :
    execFreqAdjWrite a v s = .next (steer (s.wr Reg.TIM_FREQ_ADJ v.toNat)) :=
  congrArg Host.Outcome.next (withWrite_taken h _)

/-- A GO with a step waiting: the write of REALIGN_MODE touches neither the wait nor the slot nor the tick, so the step is set for the
tick that the state before names (R90). -/
theorem execRealignGo_waiting {v : Word} (h : Accepts s a 0x10000 2) (hv : fieldOf v 8 1 = 1)
    (hp : s.bit Reg.TIK_STATUS_REALIGN_PEND = true) :
    execRealignGo a v s = .next (
      let u := (s.wr Reg.TIK_CTRL_REALIGN_MODE (fieldOf v 0 2)).wr Reg.TIK_STATUS_REALIGN_PEND 0
      markStretch { u with tik := { u.tik with stepTick := some (if s.rd Reg.TIK_STATUS_SLOT < 508 then s.tick else s.tick + 1) } }) := by
  have hmode (f : Fld) (hf : f.key ≠ Reg.TIK_CTRL_REALIGN_MODE.key) :
      (s.wr Reg.TIK_CTRL_REALIGN_MODE (fieldOf v 0 2)).rd f = s.rd f := s.rd_wr_other _ (.inl hf)
  have hpend : (s.wr Reg.TIK_CTRL_REALIGN_MODE (fieldOf v 0 2)).bit Reg.TIK_STATUS_REALIGN_PEND = true := by
    rw [State.bit, hmode _ (by decide)]
    exact hp
  unfold execRealignGo
  rw [withWrite_taken h]
  dsimp only
  rw [if_pos ⟨hv, hpend⟩, hmode _ (by decide), tick_wr_other s _ (by decide) (by decide)]
  rfl

theorem execRealignWithdrawn_below (hp : s.bit Reg.TIK_STATUS_REALIGN_PEND = true) (hb : absNat s.tim.phaseRem < stepThr s * 65536) :
    execRealignWithdrawn s = .next (s.wr Reg.TIK_STATUS_REALIGN_PEND 0) := by
  unfold execRealignWithdrawn withdrawStep
  rw [if_pos (by simp [hp, hb])]

theorem execHoldoverEstimate_holdover (h : s.rd Reg.TIM_STATUS_QUALITY = 1) :
    execHoldoverEstimate s = .next (
      let t := min (s.rd Reg.TIM_HO_TIME + 1) 0xFFFFFFFF
      let e := holdoverUnits (s.rd Reg.TIM_HO_E0) (s.rd Reg.TIM_HO_FREQ) (s.rd Reg.TIM_HO_DRIFT) t
      let u := (s.wr Reg.TIM_HO_TIME t).wr Reg.TIM_HO_EST (min (e / 2000000) 0xFFFFFFFF)
      let u := { u with tim := { u.tim with est := e } }
      if s.rd Reg.TIM_HO_CFG * 2000000 < e then toFreerun u else u) := by
  have hcfg (t e n : Nat) :
      (let u := (s.wr Reg.TIM_HO_TIME t).wr Reg.TIM_HO_EST e
       { u with tim := { u.tim with est := n } }).rd Reg.TIM_HO_CFG = s.rd Reg.TIM_HO_CFG := by
    change ((s.wr Reg.TIM_HO_TIME t).wr Reg.TIM_HO_EST e).rd Reg.TIM_HO_CFG = _
    rw [State.rd_wr_other _ _ (.inl (by decide)), State.rd_wr_other _ _ (.inl (by decide))]
  unfold execHoldoverEstimate
  rw [if_neg (not_not.mpr h)]
  dsimp only
  rw [hcfg]

theorem applyLeap_flagged (h : (s.bit Reg.TIM_UTC_OFS_LEAP61 || s.bit Reg.TIM_UTC_OFS_LEAP59) = true) :
    applyLeap s = (
      let ofs := s.rdInt Reg.TIM_UTC_OFS_OFS
      let new := unsignedOf 16 (if s.bit Reg.TIM_UTC_OFS_LEAP61 then ofs + 1 else ofs - 1)
      let u := ((s.wr Reg.TIM_UTC_OFS_OFS new).wr Reg.TIM_UTC_OFS_LEAP61 0).wr Reg.TIM_UTC_OFS_LEAP59 0
      raise { u with tim := { u.tim with
          leap59 := !s.bit Reg.TIM_UTC_OFS_LEAP61, ofsWas := ofs, ofsAt := s.rd64 Reg.TIM_LEAP_AT_LO Reg.TIM_LEAP_AT_HI * secUnits } }
        Blk.tim 0x0109 .info new) := by
  unfold applyLeap
  rw [if_neg (by rw [← Bool.not_or, h]; decide)]

theorem execRefclkLost_present (hd : domainUp s 2 = true) (hb : s.bit Reg.TIM_STATUS_BACKUP = false) :
    execRefclkLost s = .next (
      let u := { s with tim := { s.tim with refBack := false } }
      toFreerun (raise ((u.wr Reg.TIM_STATUS_BACKUP 1).wr Reg.TIM_STATUS_REFCLK_OK 0) Blk.tim 0x0104 .fault s.taiNs)) := by
  unfold execRefclkLost
  rw [if_neg (by simp [hd])]
  exact congrArg Host.Outcome.next (if_neg (Bool.eq_false_iff.mp hb))

/-- On the backup oscillator with PD02 up, the commands of REFCLK pass their gate. -/
theorem refclk_gate (hd : domainUp s 2 = true) (hb : s.bit Reg.TIM_STATUS_BACKUP = true) :
    ¬ (!domainUp s 2 || !s.bit Reg.TIM_STATUS_BACKUP) = true := by simp [hd, hb]

theorem execRefclkRestored_backup (b : Bool) (hd : domainUp s 2 = true) (hb : s.bit Reg.TIM_STATUS_BACKUP = true) :
    execRefclkRestored b s = .next (
      let u := s.wr Reg.TIM_STATUS_REFCLK b.toNat
      if u.rd Reg.TIK_STATUS_STATE = 0 then takeRefclk u
      else { u with tim := { u.tim with refBack := true } }) := if_neg (refclk_gate hd hb)

theorem execRefclkDetect_backup (hd : domainUp s 2 = true) (hb : s.bit Reg.TIM_STATUS_BACKUP = true) :
    execRefclkDetect .mhz10 s =
      .next (((s.wr Reg.TIM_STATUS_REFCLK 0).wr Reg.TIM_STATUS_REFCLK_OK 1).wr Reg.TIM_STATUS_BACKUP 0) ∧
    execRefclkDetect .mhz25 s =
      .next (((s.wr Reg.TIM_STATUS_REFCLK 1).wr Reg.TIM_STATUS_REFCLK_OK 1).wr Reg.TIM_STATUS_BACKUP 0) ∧
    execRefclkDetect .none s = .next s :=
  ⟨if_neg (refclk_gate hd hb), if_neg (refclk_gate hd hb), if_neg (refclk_gate hd hb)⟩

end

/-- Settles O18: each command by its own equation. -/
theorem timeScaleCommandsComplete : Obligations.TimeScaleCommandsComplete := by
  unfold Obligations.TimeScaleCommandsComplete
  exact ⟨fun a v s h => ⟨execPhaseAdjWrite_taken v h, execFreqAdjWrite_taken v h⟩,
    fun a v s h hv hp => execRealignGo_waiting h hv hp, fun s hp hb => execRealignWithdrawn_below hp hb,
    fun s h => execHoldoverEstimate_holdover h, fun s h => congrArg Host.Outcome.next (applyLeap_flagged h),
    fun s hd hb => execRefclkLost_present hd hb, fun b s hd hb => execRefclkRestored_backup b hd hb,
    fun s hd hb => execRefclkDetect_backup hd hb⟩

end Sys2Proof.Machine
end

section
/-! SUPPORT. The commands of the core pool: compares, retries, arbitration, deadlines, retirement and memory errors. -/

namespace Sys2Proof.Machine

/-- An item is found by its own number. -/
theorem item_of_itemOf {s : State} {n : Nat} {it : ItemE} (h : itemOf s n = some it) : it.item = n := by
  obtain ⟨d, -, hf⟩ := Option.bind_eq_some_iff.mp h
  simpa using List.find?_some hf

@[simp] theorem runOf_setRun_same (s : State) (n : Nat) (r : Run) : runOf (setRun s n r) n = r := Tab.get_put_same ..
@[simp] theorem working_setRun (s : State) (n c : Nat) (r : Run) : working (setRun s n r) c = working s c := rfl
@[simp] theorem setRun_broken (s : State) (n : Nat) (r : Run) : (setRun s n r).thr.broken = s.thr.broken := rfl

/-! ### What a compare decides (R302, R304, R306) -/

section
variable {s : State} {it : ItemE} {x y : Res}

theorem compareFirst_agreed {n : Nat} {r : Run} (hn : it.item = n) (ha : r.firstA = some x) (hb : r.firstB = some y)
    (h : agrees x y = true) : compareFirst (setRun s n r) it = deliver (setRun s n r) it .paired x := by
  simp only [compareFirst, hn, runOf_setRun_same, ha, hb, h, if_true]

theorem compareFirst_differing {n : Nat} {r : Run} (hn : it.item = n) (ha : r.firstA = some x) (hb : r.firstB = some y)
    (h : agrees x y = false) : compareFirst (setRun s n r) it = mismatch (setRun s n r) it.item := by
  simp only [compareFirst, hn, runOf_setRun_same, ha, hb, h, Bool.false_eq_true, if_false]

theorem compareRetry_agreed (cyc : Nat) (ha : (runOf s it.item).retryA = some x) (hb : (runOf s it.item).retryB = some y)
    (h : agrees x y = true) :
    compareRetry s it cyc = chargeAll (deliver s it .retried x)
      ((if (runOf s it.item).firstA.any (fun z => agrees z x) then [] else [memA s it.item]) ++
       (if (runOf s it.item).firstB.any (fun z => agrees z x) then [] else [memB s it.item])) it.item := by
  simp only [compareRetry, ha, hb, h, if_true]

theorem compareRetry_differing (cyc : Nat) (ha : (runOf s it.item).retryA = some x) (hb : (runOf s it.item).retryB = some y)
    (h : agrees x y = false) : compareRetry s it cyc = requestArb s it cyc := by
  simp only [compareRetry, ha, hb, h, Bool.false_eq_true, if_false]

end

/-! ### The commands of the vote; `u` is the state in which the pool has reached their instant -/

section
variable {s u : State} {n : Fin 1024} {it : ItemE} {ra rb : Option RunOut} {x y : Res}

section
variable (hi : itemOf s n = some it) (hu : reachCyc s (it.compare * slotCyc s.rate) = u) (hr : itemRuns u it = true)
  (hp : (runOf u n).phase = .open) (hb : u.thr.broken.contains it.item = false)
  (hx : injected u n (memA u n) 1 true (runResult u it (memA u n) (memA u n) ra) = some x)
  (hwa : working u (memA u n) = true) (hma : (runOf u n).missA = false)
include hi hu hr hp hb hx hwa hma

/-- Both members work and have a result: the two are compared. -/
theorem execComparePoint_both (hy : injected u n (memB u n) 2 true (runResult u it (memB u n) (memB u n) rb) = some y)
    (hwb : working u (memB u n) = true) (hmb : (runOf u n).missB = false) :
    execComparePoint n ra rb s =
      .next (compareFirst (setRun u n { runOf u n with firstA := some x, firstB := some y }) it) := by
  unfold execComparePoint
  rw [hi]
  dsimp only
  rw [hu, if_neg (by simp [hr, hp])]
  simp only [working_setRun, setRun_broken, hb, hwa, hwb, hma, hmb, hx, hy, Bool.not_false, Bool.and_self,
    Bool.false_eq_true, if_true, if_false]

/-- One member works and has a result: it stands alone. -/
theorem execComparePoint_single (hwb : working u (memB u n) = false) :
    execComparePoint n ra rb s =
      .next (deliver (setRun u n { runOf u n with firstA := some x, firstB := none }) it .unpaired x) := by
  unfold execComparePoint
  rw [hi]
  dsimp only
  rw [hu, if_neg (by simp [hr, hp])]
  simp only [working_setRun, setRun_broken, hb, hwa, hwb, hma, hx, Bool.not_false, Bool.and_self, Bool.and_false, Bool.false_and,
    Bool.false_eq_true, if_true, if_false]

end

theorem execRetryCompare_started {cyc : Nat} (hi : itemOf s n = some it) (hu : reachCyc s cyc = u) (hp : (runOf u n).phase = .retrying)
    (ha : (runOf u n).startA.isSome = true) (hb : (runOf u n).startB.isSome = true) (hma : (runOf u n).retryMissA = false)
    (hmb : (runOf u n).retryMissB = false)
    (hx : injected u n (memA u n) 1 false (runResult u it (memA u n) (memA u n) ra) = some x)
    (hy : injected u n (memB u n) 2 false (runResult u it (memB u n) (memB u n) rb) = some y) :
    execRetryCompare n ra rb cyc s =
      .next (compareRetry (setRun (retriesEnd u [memA u n, memB u n] cyc) n { runOf u n with retryA := some x, retryB := some y })
        it cyc) := by
  have ha' : (runOf u n).startA.isNone = false := by rw [← Option.not_isSome, ha, Bool.not_true]
  have hb' : (runOf u n).startB.isNone = false := by rw [← Option.not_isSome, hb, Bool.not_true]
  unfold execRetryCompare
  rw [hi]
  dsimp only
  rw [hu, if_neg (by simp [hp, ha', hb'])]
  simp only [hma, hmb, hx, hy, Bool.false_eq_true, if_false]

theorem execArbitrationVote_result {ro : Option RunOut} {bad : Bool} {cyc sp : Nat} (hi : itemOf s n = some it)
    (hu : reachCyc s cyc = u) (hp : (runOf u n).phase = .arbitrating sp)
    (hx : injected (u.wr (Reg.THR_CORE_CSTATE_BUSY sp) (chosen u sp).toNat) n sp 4 false
      (runResult (u.wr (Reg.THR_CORE_CSTATE_BUSY sp) (chosen u sp).toNat) it sp (if bad then memB u n else memA u n) ro) = some x) :
    execArbitrationVote n ⟨ro, bad⟩ cyc s =
      .next (serveQueue (voteOutcome (u.wr (Reg.THR_CORE_CSTATE_BUSY sp) (chosen u sp).toNat) it sp x) cyc) := by
  unfold execArbitrationVote
  rw [hi]
  dsimp only
  rw [hu, hp]
  dsimp only
  rw [hx]

/-! ### Deadlines (R72, R73, R76) -/

section
variable {c : Fin 80} {slot : Fin 512} (hi : itemOf s n = some it) (hu : reachCyc s (slot * slotCyc s.rate) = u)
  (hr : itemRuns u it = true)
include hi hu hr

theorem execSlotDeadline_first (hp : (runOf u n).phase = .open) (hc : missedOf u n c none = [c.val]) :
    execSlotDeadline .first n c slot none s = .next (overrun (markMiss u n c false) n c slot none) := by
  unfold execSlotDeadline
  rw [hi]
  dsimp only
  rw [hu, Option.map_none, hc, if_neg (by simp [hr]), if_neg (by simp [hp])]
  rfl

theorem execSlotDeadline_retry (hp : (runOf u n).phase = .retrying) (hc : missedOf u n c none = [c.val])
    (hs : (if memA u n = c then (runOf u n).startA.isSome && !(runOf u n).retryMissA
      else (runOf u n).startB.isSome && !(runOf u n).retryMissB) = true) :
    execSlotDeadline .retry n c slot none s = .next (markMiss (u.inc Reg.TIK_RETRY_OVR) n c true) := by
  unfold execSlotDeadline
  rw [hi]
  dsimp only
  rw [hu, Option.map_none, hc, if_neg (by simp [hr]), if_neg (by simp [hp])]
  exact congrArg Host.Outcome.next (if_pos hs)

theorem execSlotDeadline_arbitration (hp : (runOf u n).phase = .arbitrating c) :
    execSlotDeadline .arbitration n c slot none s = .next (serveQueue (arbFail
      ((u.inc Reg.TIK_RETRY_OVR).wr (Reg.THR_CORE_CSTATE_BUSY c) (chosen u c).toNat) it 2) u.thr.clock) := by
  unfold execSlotDeadline
  rw [hi]
  dsimp only
  rw [hu, if_neg (by simp [hr]), if_pos hp]

end
end

/-! ### Retirement and memory errors (R334, R338) -/

section
variable {s : State}

/-- A keyed RETIRE waits for slot 496 before it in a tick, and is carried out at once from there on. -/
theorem execThrRetireCmd_keyed {a : Access} {v : Word} (h : Accepts s a 0x100000 18) (hv : fieldOf v 0 4 = 1) (hk : Keyed v) :
    execThrRetireCmd a v s = .next (
      if s.rd Reg.TIK_STATUS_STATE ≠ 0 ∧ s.rd Reg.TIK_STATUS_SLOT < 496 then
        { s with thr := { s.thr with commands := s.thr.commands ++ [fieldOf v 8 7] } }
      else retireCore s (fieldOf v 8 7) 8 0xFFFF) := by
  unfold execThrRetireCmd
  rw [withWrite_taken h]
  dsimp only
  rw [if_neg (not_not.mpr hk), if_neg (not_not.mpr hv)]

theorem execCoreMemoryError_uncorrectable (c : Fin 80) (k : Bool) (hd : domainUp s 18 = true) (hs : inService s c = true) :
    execCoreMemoryError c k true s = .next (retireCore s c (if k then 4 else 3) 0xFFFF) := by
  unfold execCoreMemoryError
  rw [if_neg (by simp [hd, hs]), if_pos rfl]

theorem execCoreMemoryError_corrected (c : Fin 80) (k : Bool) (hd : domainUp s 18 = true) (hs : inService s c = true) :
    execCoreMemoryError c k false s =
      .next (s.inc (if k then Reg.THR_CORE_CECC_KSTORE c else Reg.THR_CORE_CECC_DATA c)) := by
  unfold execCoreMemoryError
  rw [if_neg (by simp [hd, hs]), if_neg Bool.false_ne_true]

end

/-- Settles O23: each command by its own equations; the compare point through what `compareFirst` decides. -/
theorem poolCommandsComplete : Obligations.PoolCommandsComplete := by
  unfold Obligations.PoolCommandsComplete
  refine ⟨fun n ra rb it s hi hr hp hb => ⟨fun x y hwa hwb hma hmb hx hy => ?_, fun x hwa hwb hma hx =>
      execComparePoint_single hi rfl hr hp hb hx hwa hma hwb⟩,
    fun n ra rb cyc it s hi x y hp ha hb hma hmb hx hy => execRetryCompare_started hi rfl hp ha hb hma hmb hx hy,
    fun cyc it s x y ha hb => ⟨compareRetry_agreed cyc ha hb, compareRetry_differing cyc ha hb⟩,
    fun n ro bad cyc sp it x s hi hp hx => execArbitrationVote_result hi rfl hp hx,
    fun n c slot it s hi hr => ⟨execSlotDeadline_first hi rfl hr, execSlotDeadline_retry hi rfl hr,
      execSlotDeadline_arbitration hi rfl hr⟩,
    fun a v s h hv hk => ⟨fun hw => ?_, fun hw => ?_⟩,
    fun c k s hd hs => ⟨execCoreMemoryError_uncorrectable c k hd hs, execCoreMemoryError_corrected c k hd hs⟩⟩
  · have hcmp := execComparePoint_both hi rfl hr hp hb hx hwa hma hy hwb hmb
    have hn := item_of_itemOf hi
    exact ⟨fun h => hcmp.trans (congrArg Host.Outcome.next (compareFirst_agreed hn rfl rfl h)),
      fun h => hcmp.trans (congrArg Host.Outcome.next (compareFirst_differing hn rfl rfl h))⟩
  · exact (execThrRetireCmd_keyed h hv hk).trans (by rw [if_pos hw])
  · exact (execThrRetireCmd_keyed h hv hk).trans (by rw [if_neg hw])

end Sys2Proof.Machine
end

section
/-! SUPPORT. The commands of the time base: time reads, 1PPS in and out, the time of day, PTP stamps and the master's messages. -/

namespace Sys2Proof.Machine

section
variable {s : State} (hd : domainUp s 2 = true)
include hd

theorem execTimeRead_up (i : Ident) :
    execTimeRead i s = .next { s with
      snaps := Tab.put none (Tab.put none s.snaps (initKey i 0x20010) (some (BitVec.ofNat 32 (s.taiNs / 2 ^ 32))))
        (initKey i 0x20018) (some (BitVec.ofNat 32 (s.tim.now % 65536)))
      resp := some (BitVec.ofNat 32 s.taiNs) } := if_neg (by simp [hd])

section
variable {stamp w : Nat} {rising : Bool} (hr : rising = (!s.bit Reg.TIM_PPS_CFG_IN_INV)) (hw : 100 ≤ w)
include hr hw

/-- An edge of the selected polarity and of at least 100 ns passes the gate of PPS_IN (R137). -/
theorem ppsIn_gate : ¬ (!domainUp s 2 || rising == s.bit Reg.TIM_PPS_CFG_IN_INV || decide (w < 100)) = true := by
  simp [hd, hr, hw]

theorem execPpsInEdge_inWindow
    (h : absNat ((tdc stamp : Int) - (ppsExpected s (tdc stamp) * secUnits : Nat)) ≤ s.rd Reg.TIM_PPS_CFG_WIN * 65536) :
    execPpsInEdge ⟨rising, stamp⟩ w s = .next (
      let u := becomeValid s .pps
      if loopOn u .pps then
        hardwareLoop (if todCounts u then { u with tim := { u.tim with tod := none } } else u)
          (offsetNs (tdc stamp) (ppsSecond u (tdc stamp)))
      else { u with tim := { u.tim with tod := u.tim.tod.map (fun x => todNext x (tdc stamp)) } }) := by
  unfold execPpsInEdge
  rw [if_neg (ppsIn_gate hd hr hw)]
  exact congrArg Host.Outcome.next (if_pos h)

theorem execPpsInEdge_outsideWindow
    (h : s.rd Reg.TIM_PPS_CFG_WIN * 65536 < absNat ((tdc stamp : Int) - (ppsExpected s (tdc stamp) * secUnits : Nat))) :
    execPpsInEdge ⟨rising, stamp⟩ w s = .next (s.inc Reg.TIM_PPS_REJ) := by
  unfold execPpsInEdge
  rw [if_neg (ppsIn_gate hd hr hw)]
  exact congrArg Host.Outcome.next (if_neg (Nat.not_le.mpr h))

end

/-- A rise with PD02 up: the second passes, and OUT_MODE decides in the state after it (R140; log 11). -/
theorem execPpsOutPulse_rise (stamp : Nat) :
    execPpsOutPulse (some stamp) s = .next (
      let u := secondPassed s
      if ppsAllowed u then { u with tim := { u.tim with ppsOut := true, ppsStamp := some (tdc stamp) } }
      else { u with tim := { u.tim with ppsOut := false } }) :=
  congrArg Host.Outcome.next (if_neg (by simp [hd]))

theorem execPtpEventTimestamp_room (p : Fin 8) (tx : Bool) (stamp : Nat) :
    execPtpEventTimestamp p tx stamp false s = .next { s with tim := { s.tim with
      stamps := s.tim.stamps ++ [(p.val, tx, correctedStamp s p tx stamp)] } } := by
  unfold execPtpEventTimestamp
  rw [if_neg (by simp [hd]), if_neg Bool.false_ne_true]

theorem execPtpEventTimestamp_full (p : Fin 8) (tx : Bool) (stamp : Nat) :
    execPtpEventTimestamp p tx stamp true s = .next (overload (s.inc (Reg.TIM_PORT_TS_DROP p)) Blk.tim p) := by
  unfold execPtpEventTimestamp
  rw [if_neg (by simp [hd]), if_pos rfl]

section
variable {p : Fin 6} {k : Fin 5} (he : s.bit (Reg.TIM_PORT_PCFG_EN p) = true) (hs : ptpSends s k.val = true)
include he hs

/-- An enabled port whose role and profile let it send the kind sends (R125). -/
theorem ptpMaster_gate : (domainUp s 2 && s.bit (Reg.TIM_PORT_PCFG_EN p) && ptpSends s k.val) = true := by
  simp [hd, he, hs]

/-- Where Table 02.3 has a row, no free value is used for the announced class. -/
theorem execPtpMasterTx_announced (ho : overLimit s = false) (hk : k.val < 3) :
    execPtpMasterTx p k s = .next (emit s (.ptp p k (announcedClass s) (s.tim.inacc + s.rd Reg.TIM_PTP_CFG_OWN_INACC)
      (sendsTwoStep s p))) := by
  unfold execPtpMasterTx
  rw [if_pos (ptpMaster_gate hd he hs), if_pos hk, if_neg (Bool.eq_false_iff.mp ho)]

theorem execPtpMasterTx_pdelay (hk : 3 ≤ k.val) :
    execPtpMasterTx p k s = .next (emit s (.ptp p k 0 0 (sendsTwoStep s p))) := by
  unfold execPtpMasterTx
  rw [if_pos (ptpMaster_gate hd he hs), if_neg (Nat.not_lt.mpr hk)]

end
end

/-- Both words of TIM_TOD take effect at the write of the high one; the low one is the writer's held value, or
the register's (R138; log 9). -/
theorem execTodLoad_taken {s : State} {a : Access} (v : Word) (h : Accepts s a 0x20000 2) :
    execTodLoad a v s = .next (
      let k := initKey a.init 0x200A0
      let lo := (Tab.get none s.held k).getD (s.reg 0x200A0)
      let u := ({ s with held := Tab.put none s.held k none }.wr Reg.TIM_TOD_LO lo.toNat).wr Reg.TIM_TOD_HI v.toNat
      { u with tim := { u.tim with tod := some ⟨lo.toNat + 2 ^ 32 * v.toNat, s.tim.now, false⟩, todKnown := true } }) :=
  congrArg Host.Outcome.next (withWrite_taken h _)

/-- Settles O16: each command by its own equation, the rise of PPS_OUT by what OUT_MODE allows. -/
theorem timeReadsAndStampsComplete : Obligations.TimeReadsAndStampsComplete := by
  unfold Obligations.TimeReadsAndStampsComplete
  refine ⟨fun i s hd => execTimeRead_up hd i,
    fun rising stamp w s hd hr hw h => execPpsInEdge_inWindow hd hr hw h,
    fun rising stamp w s hd hr hw h => execPpsInEdge_outsideWindow hd hr hw h,
    fun stamp s hd => ⟨fun ha => ?_, fun ha => ?_, rfl⟩,
    fun a v s h => execTodLoad_taken v h,
    fun p tx stamp s hd => ⟨execPtpEventTimestamp_room hd p tx stamp, execPtpEventTimestamp_full hd p tx stamp⟩,
    fun p k s hd he hs ho => ⟨execPtpMasterTx_announced hd he hs ho, execPtpMasterTx_pdelay hd he hs⟩⟩
  · exact (execPpsOutPulse_rise hd stamp).trans (congrArg Host.Outcome.next (if_pos ha))
  · exact (execPpsOutPulse_rise hd stamp).trans (congrArg Host.Outcome.next (if_neg (Bool.eq_false_iff.mp ha)))

end Sys2Proof.Machine
end

section
/-! SUPPORT. The commands of the structure image: the phases of a load, activation and deactivation, memory errors, and amendments up
to their arming. -/

namespace Sys2Proof.Machine

/-! ### The bytes that a fetch has read -/

/-- The first `n` bytes that the fetch of a load read: from its flash slot, or as the host wrote them (R175). -/
def fetchedBytes (s : State) (l : LoadRec) (data : List Byte) (n : Nat) : List Byte :=
  if l.src < 2 then flashBytes s (if l.src = 0 then s.rd Reg.IMG_FLASH_A else s.rd Reg.IMG_FLASH_B) n else padTo n data

/-- The state once the fetch of a load no longer holds the flash. -/
def fetchEnded (s : State) (l : LoadRec) : State := if l.src < 2 then fetchEnd s else s

/-- The failures of the header that the fetch of a load read (R175). -/
def fetchedHeaderFailures (s : State) (l : LoadRec) (data : List Byte) : List (Nat × Nat) :=
  hdrFailures (fetchedBytes s l data 256) (fieldOf ((fetchEnded s l).reg 4) 0 16)
    (if l.src < 2 then none else some ((fetchEnded s l).rd Reg.IMG_HOST_LEN))

section
variable {s : State} {a : Access}

/-! ### Loads -/

theorem execImgLoad_taken (v : Word) (h : Accepts s a 0x40000 18) (hb : s.bit Reg.IMG_STATUS_BUSY = false)
    (ha : s.rd Reg.IMG_AMD_STATUS_ASTATE ≠ amdArmed) :
    execImgLoad a v s = .next (
      let st := s.rd Reg.IMG_AMD_STATUS_ASTATE
      let u := if st = amdStaged ∨ st = amdRefused then dropAmend s else s
      startLoad { u with img := { u.img with auto := none } } (min (u.rd Reg.IMG_CTRL_SRC) 2) false) :=
  congrArg Host.Outcome.next ((imgCommand_taken h _).trans (if_neg (by simp [hb, ha])))

theorem execAutoload_waiting (hw : s.img.autoWait = true) (hr : s.rst.imgReset = false) (hd : domainUp s 18 = true) :
    execAutoload s = .next (
      let slot := if (bootRec s).img = 1 then 1 else 0
      startLoad { s with img := { s.img with autoWait := false, auto := some (slot, none) } } slot true) :=
  if_neg (by simp [hw, hr, hd])

theorem execImgAbort_loading (v : Word) {l : LoadRec} (h : Accepts s a 0x40000 18) (hl : s.img.load = some l) :
    execImgAbort a v s = .next (
      let u := if l.src < 2 ∧ imgState s = imgFetch then fetchEnd s else s
      let u := if l.amend then u.wr Reg.IMG_AMD_STATUS_ASTATE amdNone else u
      showStaged (toImg { u with img := { u.img with load := none, auto := none } }
        (if imageLive u then imgActive else imgEmpty)) 0 0) := by
  unfold execImgAbort
  rw [imgCommand_taken h]
  simp only [hl]

section
variable {l : LoadRec} (hl : s.img.load = some l)
include hl

/-- A fetch whose reads succeed and whose header has no failure: whether a full image may replace the one in force, and whether an
amendment fits, decide between the copy and the end of the load (R175, R205). -/
theorem execFetchComplete_goodHeader {data : List Byte} (us : Nat) (hs : imgState s = imgFetch) (hw : s.spm.fetchWait = false)
    (hf : fetchedHeaderFailures s l data = []) :
    execFetchComplete data false none us s = .next (
      let u := fetchEnded s l
      let h := hdrOf (fetchedBytes s l data 256)
      let d := if isAmend h then (dropAmend u).wr Reg.IMG_AMD_STATUS_ASTATE amdLoading else u
      let whole := { l with amend := isAmend h }
      if !isAmend h && imageLive u then loadFails u l [(0x0110, 0)]
      else if isAmend h && decide (0x800000 - amdBase d < h.total) then loadFails d whole [(0x0403, h.total)]
      else copyImage d whole (fetchedBytes s l data h.total) none us) := by
  have hfetch : ¬ (imgState s ≠ imgFetch ∨ s.spm.fetchWait = true) := by simp [hs, hw]
  have hgood : ¬ (!(fetchedHeaderFailures s l data).isEmpty) = true := by simp [hf]
  unfold execFetchComplete
  simp only [hl]
  rw [if_neg hfetch]
  exact congrArg Host.Outcome.next ((if_neg Bool.false_ne_true).trans (if_neg hgood))

theorem execFetchComplete_full {data : List Byte} (us : Nat) (hs : imgState s = imgFetch) (hw : s.spm.fetchWait = false)
    (hf : fetchedHeaderFailures s l data = []) (hfull : isAmend (hdrOf (fetchedBytes s l data 256)) = false)
    (hlive : imageLive (fetchEnded s l) = false) :
    execFetchComplete data false none us s = .next (copyImage (fetchEnded s l) { l with amend := false }
      (fetchedBytes s l data (hdrOf (fetchedBytes s l data 256)).total) none us) := by
  rw [execFetchComplete_goodHeader hl us hs hw hf]
  simp [hfull, hlive]

theorem execFetchComplete_amendment {data : List Byte} (us : Nat) (hs : imgState s = imgFetch) (hw : s.spm.fetchWait = false)
    (hf : fetchedHeaderFailures s l data = []) (hamd : isAmend (hdrOf (fetchedBytes s l data 256)) = true)
    (hfits : (hdrOf (fetchedBytes s l data 256)).total ≤
      0x800000 - amdBase ((dropAmend (fetchEnded s l)).wr Reg.IMG_AMD_STATUS_ASTATE amdLoading)) :
    execFetchComplete data false none us s = .next (copyImage
      ((dropAmend (fetchEnded s l)).wr Reg.IMG_AMD_STATUS_ASTATE amdLoading) { l with amend := true }
      (fetchedBytes s l data (hdrOf (fetchedBytes s l data 256)).total) none us) := by
  rw [execFetchComplete_goodHeader hl us hs hw hf]
  simp [hamd, Nat.not_lt.mpr hfits]

theorem execVerifyComplete_verifying (us : Nat) (hs : imgState s = imgVerify) :
    execVerifyComplete us s = .next (
      let u := s.wr Reg.IMG_LOAD_TIME_FETCH_US (min (us / 4) 65535)
      let c := copyAt s (loadBase s l)
      let fs := if (sigFailures u c).isEmpty then kernFailures u c else sigFailures u c
      if fs.isEmpty then toImg { u with img := { u.img with guardPool := none } } imgGuard else loadFails u l fs) := by
  unfold execVerifyComplete
  simp only [hl]
  exact if_neg (not_not.mpr hs)

theorem execGuardComplete_guarding (us : Nat) (hs : imgState s = imgGuard) :
    execGuardComplete us s = .next (
      let fs := guardFailures s (loadBase s l)
      let u := s.wr Reg.IMG_LOAD_TIME_GUARD_US (min (us / 4) 65535)
      if fs.isEmpty then (if l.amend then amendStaged (showFailures u []) l else imageReady (showFailures u []) l)
      else loadFails u l fs) := by
  unfold execGuardComplete
  simp only [hl]
  rw [if_neg (not_not.mpr hs)]
  cases (guardFailures s (loadBase s l)).isEmpty <;> rfl

end

/-! ### Activation and deactivation -/

theorem execImgActivate_keyed {v : Word} (h : Accepts s a 0x40000 18) (hk : Keyed v) (hs : imgState s = imgReady)
    (test : SelfTest) : execImgActivate (some (a, v)) test s = .next (activate s (test.failed.map Fin.val) test.since) :=
  congrArg Host.Outcome.next ((imgCommand_taken h _).trans ((if_neg (not_not.mpr hk)).trans (if_pos hs)))

theorem execImgActivate_waiting (hw : s.img.actWait = true) (hs : imgState s = imgReady) (test : SelfTest) :
    execImgActivate none test s = .next (activate s (test.failed.map Fin.val) test.since) :=
  congrArg Host.Outcome.next ((if_pos hw).trans (if_pos hs))

theorem execImgDeactivate_active {v : Word} (h : Accepts s a 0x40000 18) (hk : Keyed v) (hs : imgState s = imgActive)
    (hd : s.img.deact = none) :
    execImgDeactivate a v s = .next (
      let u := if amdWaiting s then dropAmend s else s
      { u with img := { u.img with deact := some (s.tick + if 508 ≤ s.rd Reg.TIK_STATUS_SLOT then 1 else 0) } }) :=
  congrArg Host.Outcome.next ((imgCommand_taken h _).trans ((if_neg (not_not.mpr hk)).trans (if_neg (by simp [hs, hd]))))

/-! ### Structure memory errors -/

theorem execStructMemUncorr_copy (ofs : Fin 8388608) (hr : s.rst.imgReset = false) (hl : s.img.load = none)
    (hi : imageLive s = true) :
    execStructMemUncorr ofs false s = .next (
      let u := raise (s.wr Reg.IMG_STATUS_COPY_DAMAGED 1) Blk.img 0x0108 .fault ofs
      if amdWaiting u ∧ amdBase u ≤ ofs then amdRefuse u 0x0401 0 else u) := by
  unfold execStructMemUncorr
  simp only [hr, hl, hi, Option.bind_none, Bool.false_eq_true, if_false, Bool.not_true]

theorem execStructMemUncorr_overlay (ofs : Fin 8388608) (hr : s.rst.imgReset = false) (hi : imageLive s = true) :
    execStructMemUncorr ofs true s = .next (raise (s.wr Reg.IMG_STATUS_COPY_DAMAGED 1) Blk.img 0x0108 .fault ofs) :=
  (if_neg (by simp [hr])).trans (congrArg Host.Outcome.next (if_pos hi))

/-! ### Amendments -/

/-- The state that an ARM prepares: the tick it arms for (R213), and the synchrophasor streams whose definition the amendment changes,
whose frames set STAT bit 10 from now on (R364). -/
def armedFor (s : State) (x : Amend) : State :=
  let after := x.words.foldl (fun s w => engineBits s w false) s
  let c37 := (streamsChanged s after).foldl (fun t n => if Tab.get 0 t n = 0 then Tab.put 0 t n 1 else t) s.mpr.c37Change
  { s with img := { s.img with armAt := amdAt s }, mpr := { s.mpr with c37Change := c37 } }

theorem execPreloadComplete_waiting (h : amdWaiting s = true) :
    execPreloadComplete s = .next (s.wr Reg.IMG_AMD_LEAD_TICKS 0) := congrArg Host.Outcome.next (if_pos h)

theorem execAmdArm_staged {v : Word} {x : Amend} (h : Accepts s a 0x40000 18) (hk : Keyed v) (hx : s.img.amd = some x)
    (hs : s.rd Reg.IMG_AMD_STATUS_ASTATE = amdStaged) (hl : s.tick + s.rd Reg.IMG_AMD_LEAD_TICKS + 2 ≤ amdAt s)
    (hp : s.bit Reg.IMG_AMD_STATUS_P_CHANGE = true → bitAt v.toNat 4 = true) :
    execAmdArm a v s = .next (raise ((armedFor s x).wr Reg.IMG_AMD_STATUS_ASTATE amdArmed) Blk.img 0x010A .info (amdAt s)) := by
  have hconfirmed : ¬ (s.bit Reg.IMG_AMD_STATUS_P_CHANGE && !bitAt v.toNat 4) = true := by simpa using hp
  unfold execAmdArm
  rw [imgCommand_taken h, if_neg (not_not.mpr hk), hx]
  dsimp only
  rw [if_neg (not_not.mpr hs), if_neg (Nat.not_lt.mpr hl), if_neg hconfirmed]
  rfl

theorem execAmdDisarm_early (v : Word) (h : Accepts s a 0x40000 18) (hs : s.rd Reg.IMG_AMD_STATUS_ASTATE = amdArmed)
    (he : s.tick < s.img.armAt ∨ (s.tick = s.img.armAt ∧ afterSlot504 s = false)) :
    execAmdDisarm a v s = .next (
      let u := { s with mpr := { s.mpr with c37Change := s.mpr.c37Change.filter (fun p => p.2 != 1) } }
      raise (u.wr Reg.IMG_AMD_STATUS_ASTATE amdStaged) Blk.img 0x010E .info (amdAt s)) :=
  congrArg Host.Outcome.next ((imgCommand_taken h _).trans (if_pos (by simpa [hs] using he)))

theorem execAmdDiscard_droppable (v : Word) (h : Accepts s a 0x40000 18)
    (hs : s.rd Reg.IMG_AMD_STATUS_ASTATE = amdStaged ∨ s.rd Reg.IMG_AMD_STATUS_ASTATE = amdRefused ∨
      s.rd Reg.IMG_AMD_STATUS_ASTATE = amdApplied) : execAmdDiscard a v s = .next (dropAmend s) :=
  have hna : s.rd Reg.IMG_AMD_STATUS_ASTATE ≠ amdArmed := by rcases hs with h | h | h <;> rw [h] <;> decide
  congrArg Host.Outcome.next ((imgCommand_taken h _).trans ((if_neg hna).trans (if_pos hs)))

end

/-- Settles O19: each command by its own equation; the kind that a good header names decides what a fetch goes on with. -/
theorem imageLoadCommandsComplete : Obligations.ImageLoadCommandsComplete := by
  unfold Obligations.ImageLoadCommandsComplete
  refine ⟨fun a v s h hb ha => execImgLoad_taken v h hb ha, fun s hw hr hd => execAutoload_waiting hw hr hd,
    fun data us l s hl hs hw hf => ⟨fun hfull hlive => ?_, fun hamd hfits => ?_⟩,
    fun us l s hl hs => execVerifyComplete_verifying hl us hs, fun us l s hl hs => execGuardComplete_guarding hl us hs,
    fun a v l s h hl => execImgAbort_loading v h hl⟩
  · exact execFetchComplete_full hl us hs hw hf hfull hlive
  · exact execFetchComplete_amendment hl us hs hw hf hamd hfits

/-- Settles O20: each command by its own equation. -/
theorem imageStateCommandsComplete : Obligations.ImageStateCommandsComplete := by
  unfold Obligations.ImageStateCommandsComplete
  exact ⟨fun a v failed since s h hk hs => execImgActivate_keyed h hk hs _,
    fun failed since s hw hs => execImgActivate_waiting hw hs _,
    fun a v s h hk hs hd => execImgDeactivate_active h hk hs hd,
    fun ofs s hr hl hi => ⟨execStructMemUncorr_copy ofs hr hl hi, execStructMemUncorr_overlay ofs hr hi⟩,
    fun s h => execPreloadComplete_waiting h,
    fun a v x s h hk hx hs hl hp => ⟨armedFor s x, execAmdArm_staged h hk hx hs hl hp, rfl, rfl, rfl, rfl⟩,
    fun a v s h hs he => execAmdDisarm_early v h hs he, fun a v s h hs => execAmdDiscard_droppable v h hs⟩

end Sys2Proof.Machine
end

section
/-! SUPPORT. The commands of acquisition: released samples, lost inputs and their return, and sampled-value streams. -/

namespace Sys2Proof.Machine

section
variable {s : State}

/-! ### Samples (R250) -/

/-- A channel that has not given its sample releases it, by the kind of its source: the record of the instant leaves the source as it is. -/
theorem releaseChannel_due {c : Nat} (x : Sample) (hon : channelOn s c = true) (hg : (chanOf s c).given ≠ some (inputTick s)) :
    releaseChannel s c x = (
      let v := setChan s c { chanOf s c with given := some (inputTick s) }
      match s.rd (Reg.ACQ_CHAN_CFG_SRC c) with
      | 1 => releaseSingle v c x
      | 2 => releasePair v c x
      | _ => releaseStream v c) :=
  if_neg (by simp [hon, hg])

theorem execSampleRelease_up (c : Fin 256) (x : Sample) (h : domainUp s 3 = true) :
    execSampleRelease c x s = .next (releaseChannel (x.runs.foldl takeRun s) c x) :=
  congrArg Host.Outcome.next (if_neg (by simp [h]))

/-! ### Lost inputs (R280, R286) -/

/-- The FAULT of a clock and its event leave the registers of the inputs as they are. -/
theorem clockFault_retired (s : State) (m : Nat) (i : Fin 48) :
    (clockFault s m).bit (Reg.ACQ_IN_STATUS_RETIRED i) = s.bit (Reg.ACQ_IN_STATUS_RETIRED i) := by
  unfold clockFault
  split
  · rfl
  · have hraise := raise_rd (s.wr (Reg.ACQ_MCLK_FAULT m) 1) Blk.acq 0x0104 .fault m (f := Reg.ACQ_IN_STATUS_RETIRED i)
      (by simp only; omega) (by simp only; omega) (by simp only; omega)
    rw [State.bit, State.bit, hraise, State.rd_wr_other _ _ (.inl (by simp only; omega))]

theorem execLinkLost_data {i : Fin 48} {why : LinkFault} (h : domainUp s 3 = true) (hon : inputOn s i = true)
    (hr : s.bit (Reg.ACQ_IN_STATUS_RETIRED i) = false) (hw : why ≠ .clock) :
    execLinkLost i why s = .next (loseInput s i why) := by
  unfold execLinkLost
  rw [if_neg (by simp [h, hon]), if_neg hw]
  exact congrArg Host.Outcome.next (if_neg (by simp [hr]))

theorem execLinkLost_clock {i : Fin 48} (h : domainUp s 3 = true) (hon : inputOn s i = true)
    (hr : s.bit (Reg.ACQ_IN_STATUS_RETIRED i) = false) :
    execLinkLost i .clock s = .next (loseInput (clockFault s (s.rd (Reg.ACQ_IN_CFG_CLK i))) i .clock) := by
  unfold execLinkLost
  rw [if_neg (by simp [h, hon]), if_pos rfl]
  exact congrArg Host.Outcome.next (if_neg (by simp [clockFault_retired, hr]))

theorem execLinkLostClear_taken {a : Access} (high : Bool) (v : Word) (h : Accepts s a 0x80000 3) :
    execLinkLostClear a high v s = .next (
      (if high then (bitList 16 v.toNat).map (· + 32) else bitList 32 v.toNat).foldl
        (fun s i => clearLink (s.wr (linkLostBit i) 0) i) s) :=
  congrArg Host.Outcome.next (withWrite_taken h _)

theorem execLinkRestored_returning {i : Fin 48} (h : domainUp s 3 = true) (hi : i.val ∈ s.acq.returning) :
    execLinkRestored i s = .next (
      let u := { s with acq := { s.acq with returning := s.acq.returning.filter (· != i.val) } }
      let u := match adoptedTwin s i with
        | some t => (u.wr (Reg.ACQ_IN_STATUS_ADOPTED t) 0).sub Reg.ACQ_STATUS_ADOPTED 1
        | none => u
      raise u Blk.acq 0x0102 .info i) :=
  if_neg (by simp [h, hi])

/-! ### Sampled-value streams (R266, R287) -/

/-- A frame that one stream subscribes to. -/
theorem execSvFrameReceive_one {f : SvFrame} {n : Nat} (h : domainUp s 3 = true) (hn : (List.range 64).filter (frameOf s f) = [n]) :
    execSvFrameReceive f s = .next (
      if f.asdus.length = svPerFrame (s.rd (Reg.ACQ_SV_CFG_KIND n)) then f.asdus.foldl (fun s d => takeAsdu s n f d) s
      else (s.add (Reg.ACQ_SV_RX n) f.asdus.length).add (Reg.ACQ_SV_BAD n) f.asdus.length) := by
  unfold execSvFrameReceive
  rw [if_neg (by simp [h]), hn, List.foldl_cons, List.foldl_nil]

theorem execSvLost_due {n : Fin 64} {b : Bool} (h : domainUp s 3 = true) (hen : s.bit (Reg.ACQ_SV_CFG_EN n) = true)
    (hst : s.rd (Reg.ACQ_SV_STATUS_STATE n) = 1)
    (hrun : s.rd (Reg.ACQ_SV_CFG_HOLD n) + 1 ≤ (if b then (streamOf s n).badRun else (streamOf s n).missRun)) :
    execSvLost n b s = .next (raise (s.wr (Reg.ACQ_SV_STATUS_STATE n) 2) Blk.acq 0x0105 .warn
      (n.val + 2 ^ 8 * (if b then 2 else 1))) :=
  if_pos (by simp only [h, hen, hst, decide_eq_true hrun, beq_self_eq_true, Bool.and_self])

theorem execSvRestored_due {n : Fin 64} (h : domainUp s 3 = true) (hen : s.bit (Reg.ACQ_SV_CFG_EN n) = true)
    (hst : s.rd (Reg.ACQ_SV_STATUS_STATE n) ≠ 1) (hrun : 8 ≤ (streamOf s n).goodRun) :
    execSvRestored n s = .next (
      let u := s.wr (Reg.ACQ_SV_STATUS_STATE n) 1
      if s.rd (Reg.ACQ_SV_STATUS_STATE n) = 2 then raise u Blk.acq 0x0106 .info n else u) :=
  if_pos (by simp [h, hen, hst, hrun])

end

/-- Settles O21: each command by its own equation; the source of a sample, the condition of a lost input, the ASDU count of a frame and
the state of a stream decide between its clauses. -/
theorem acquisitionCommandsComplete : Obligations.AcquisitionCommandsComplete := by
  unfold Obligations.AcquisitionCommandsComplete
  refine ⟨fun c x s h hon hg => ?_,
    fun i s h hon hr => ⟨execLinkLost_data h hon hr (by decide), execLinkLost_data h hon hr (by decide), execLinkLost_clock h hon hr⟩,
    fun a high v s h => execLinkLostClear_taken high v h, fun i s h hi => execLinkRestored_returning h hi,
    fun f n s h hn => ?_, fun n b s h hen hst hrun => execSvLost_due h hen hst hrun, fun n s h hen hrun => ?_⟩
  · have hexec := (execSampleRelease_up c x h).trans (congrArg Host.Outcome.next (releaseChannel_due x hon hg))
    exact ⟨fun hsrc => by rwa [hsrc] at hexec, fun hsrc => by rwa [hsrc] at hexec, fun hsrc => by rwa [hsrc] at hexec⟩
  · have hexec := execSvFrameReceive_one h hn
    exact ⟨fun hlen => hexec.trans (congrArg Host.Outcome.next (if_pos hlen)),
      fun hlen => hexec.trans (congrArg Host.Outcome.next (if_neg hlen))⟩
  · exact ⟨fun hst => (execSvRestored_due h hen (by simp [hst]) hrun).trans (congrArg Host.Outcome.next (if_pos hst)),
      fun hst => (execSvRestored_due h hen (by simp [hst]) hrun).trans (congrArg Host.Outcome.next (if_neg (by simp [hst])))⟩

end Sys2Proof.Machine
end

section
/-! SUPPORT. The commands of travelling-wave capture: the link, SYSREF, and wavefronts. -/

namespace Sys2Proof.Machine

section
variable {s : State}

/-! ### The link (R272, R288) -/

theorem execJesdDown_lane {l : Fin 4} (h : domainUp s 4 = true) (hl : s.rd Reg.TWC_STATUS_LINK ≠ 0)
    (hm : l.val % 2 ^ jesdLanes s ≠ 0) :
    execJesdDown l s = .next (
      let u := (s.wr Reg.TWC_STATUS_LINK 0).inc Reg.TWC_RESYNC
      raise (showCapture { u with twc := { u.twc with trigger := [] } }) Blk.twc 0x0101 .fault
        (l.val % 2 ^ jesdLanes s + 2 ^ 8 * s.rd Reg.TWC_STATUS_LINK)) :=
  if_neg (by simp [h, hl, hm])

/-- A new state of the link leaves its number of lanes as it is. -/
theorem jesdLanes_newState (s : State) (n : Nat) : jesdLanes (showCapture (s.wr Reg.TWC_STATUS_LINK n)) = jesdLanes s := by
  unfold jesdLanes showCapture State.setBit State.bit
  rw [State.rd_wr_other _ _ (.inl (by decide)), State.rd_wr_other _ _ (.inl (by decide))]

theorem execJesdUp_next {x : LinkStep} {n : Nat} (h : domainUp s 4 = true) (hn : linkNext s x = some n) :
    execJesdUp x s = .next (
      let u := showCapture (s.wr Reg.TWC_STATUS_LINK n)
      if n = 4 then raise u Blk.twc 0x0102 .info (2 ^ jesdLanes s - 1) else u) := by
  unfold execJesdUp
  rw [if_neg (by simp [h]), hn]
  dsimp only
  rw [jesdLanes_newState]

theorem execJesdCrcError_data (a n : Nat) (h : domainUp s 4 = true) (hl : s.rd Reg.TWC_STATUS_LINK = 4) :
    execJesdCrcError a n s = .next { s.inc Reg.TWC_CRC_ERR with
      twc := { s.twc with invalid := (a, n) :: s.twc.invalid.filter (fun p => decide (a ≤ p.1 + p.2 + ringLen)) } } :=
  if_neg (by simp [h, hl])

/-! ### SYSREF (R289) -/

/-- A deviation outside the tolerance is a fault of reason 2. -/
theorem judgeSysref_outside {dev : Int}
    (h : (s.wrInt Reg.TWC_SYSREF_DEV dev).rd Reg.TWC_SYSREF_TOL_PS < absNat dev) :
    judgeSysref s dev = sysrefFault (s.wrInt Reg.TWC_SYSREF_DEV dev) (unsignedOf 32 dev) 2 := if_pos h

/-- The first stamp within the tolerance is counted, and sets SYSREF_OK not yet. -/
theorem judgeSysref_first {dev : Int}
    (h : absNat dev ≤ (s.wrInt Reg.TWC_SYSREF_DEV dev).rd Reg.TWC_SYSREF_TOL_PS) (hg : s.twc.good = 0) :
    judgeSysref s dev = (
      let u := s.wrInt Reg.TWC_SYSREF_DEV dev
      { u with twc := { u.twc with good := 1 } }) := by
  have hgood : (s.wrInt Reg.TWC_SYSREF_DEV dev).twc.good = 0 := hg
  unfold judgeSysref
  dsimp only
  rw [if_neg (Nat.not_lt.mpr h), hgood]
  exact if_neg (fun hc => absurd hc.1 (by decide))

theorem execSysrefEdge_judged (stamp ix : Nat) (xs : List (Fin 12 × List (BitVec 14))) {l p : Nat} (h : domainUp s 4 = true)
    (hl : s.twc.last = some l) (hp : s.twc.prev = some p) :
    execSysrefEdge stamp ⟨ix, xs⟩ s = .next (
      let c := xs.foldl (fun s x => capture s x.1 (ix + 1 - x.2.length) x.2) s
      judgeSysref (keepSysref c (tdc stamp) ix) (sysrefDev s l p (tdc stamp) ix)) := by
  unfold execSysrefEdge
  rw [if_neg (by simp [h]), hl, hp]

theorem execSysrefMissing_up (h : domainUp s 4 = true) : execSysrefMissing s = .next (sysrefFault s.used s.free.toNat 1) :=
  if_neg (by simp [h])

/-! ### Wavefronts (R276–R278) -/

/-- A step of at least THR between two samples that the capture leaves in the ring, outside the dead time. -/
theorem execWavefrontTrigger_step {ch : Fin 12} {i : Nat} {xs : List (BitVec 14)} {x : BitVec 14} {u : State} {a b : Int}
    (hu : capture s ch (i - xs.length) (xs ++ [x]) = u) (ha : sampleAt u ch (i - 1) = some a) (hb : sampleAt u ch i = some b)
    (hs : searched u ch = true) (hi : 1 ≤ i) (ht : u.rd (Reg.TWC_CH_CFG_THR ch) ≤ absNat (b - a))
    (hd : Tab.get 0 u.twc.dead ch ≤ i) :
    execWavefrontTrigger ch i xs x s = .next { u with twc := { u.twc with
      dead := Tab.put 0 u.twc.dead ch (i + max 8 (u.rd (Reg.TWC_CH_CFG_DEAD ch)))
      trigger := Tab.put none u.twc.trigger ch (some i) } } := by
  unfold execWavefrontTrigger
  dsimp only
  rw [hu, ha, hb]
  exact congrArg Host.Outcome.next (if_pos (by simp [hs, hi, ht, hd]))

/-- A capture writes the rings and nothing else. -/
theorem capture_frame (s : State) (ch first : Nat) (xs : List (BitVec 14)) :
    ∃ r, capture s ch first xs = { s with twc := { s.twc with ring := r } } := by
  unfold capture
  split
  · exact ⟨_, rfl⟩
  · exact ⟨_, rfl⟩

/-- A list is mapped to values only where each of its elements is. -/
theorem isSome_of_mapM {α β : Type} {f : α → Option β} {l : List α} {ys : List β} (h : l.mapM f = some ys) :
    ∀ x ∈ l, (f x).isSome = true := by
  induction l generalizing ys with
  | nil => simp
  | cons a l ih =>
    rw [List.mapM_cons] at h
    obtain ⟨y, hy, h⟩ := Option.bind_eq_some_iff.mp h
    obtain ⟨zs, hzs, -⟩ := Option.bind_eq_some_iff.mp h
    simpa [hy] using ih hzs

/-- The samples of a trigger are there only once x[i+7] is. -/
theorem sampleAt_last_of_frontSamples {ch i : Nat} {ys : List Int} (h : frontSamples s ch i = some ys) :
    (sampleAt s ch (i + 7)).isSome = true := by
  unfold frontSamples at h
  split at h
  · simp at h
  · exact isSome_of_mapM h 16 (by decide)

/-- The state once the trigger of a channel has ended. -/
def triggerEnded (s : State) (ch : Nat) : State :=
  { s with twc := { s.twc with trigger := Tab.put none s.twc.trigger ch none } }

/-- The end of a trigger after a capture: beside the rings and that trigger, nothing of the block's own state changes. -/
theorem triggerEnded_capture_twc (s : State) (ch first : Nat) (xs : List (BitVec 14)) :
    ∃ r, (triggerEnded (capture s ch first xs) ch).twc =
      { s.twc with ring := r, trigger := Tab.put none s.twc.trigger ch none } := by
  obtain ⟨r, hr⟩ := capture_frame s ch first xs
  exact ⟨r, by rw [hr]; rfl⟩

theorem frontOf_seq (s : State) (ch i : Nat) (ys : List Int) : (frontOf s ch i ys).seq = s.twc.seq := rfl

/-- The record of a trigger that has all its samples goes to the queue, and the trigger ends (R276). -/
theorem execWavefrontRecord_formed {ch : Fin 12} {xs : List (BitVec 14)} {i : Nat} {ys : List Int}
    (ht : Tab.get none s.twc.trigger ch = some i) (h : domainUp s 4 = true) (hl : s.rd Reg.TWC_STATUS_LINK = 4)
    (hy : frontSamples (capture s ch (i + 1) xs) ch i = some ys) :
    execWavefrontRecord ch xs s = .next (
      let c := capture s ch (i + 1) xs
      queueFront (triggerEnded c ch).used (frontOf (triggerEnded c ch) ch i ys)) := by
  obtain ⟨r, hr⟩ := capture_frame s ch (i + 1) xs
  have hup : domainUp (capture s ch (i + 1) xs) 4 = true := by rw [hr]; exact h
  have hlink : (capture s ch (i + 1) xs).rd Reg.TWC_STATUS_LINK = 4 := by rw [hr]; exact hl
  have hlast := sampleAt_last_of_frontSamples hy
  unfold execWavefrontRecord
  rw [ht]
  dsimp only
  rw [if_neg (by simp [hup, hlink, Option.isSome_iff_ne_none.mp hlast])]
  have hended : frontSamples (triggerEnded (capture s ch (i + 1) xs) ch) ch i = some ys := hy
  unfold triggerEnded at hended
  rw [hended]
  rfl

/-- TWC_LAST_EVT is a register: showing a record changes nothing beside the registers. -/
theorem showFront_twc (s : State) (f : Front) : (showFront s f).twc = s.twc := by
  unfold showFront
  generalize (frontWords f).zipIdx = ws
  induction ws generalizing s with
  | nil => rfl
  | cons w ws ih => exact ih _

/-- A queue with room takes a record, and the next one has the next sequence number (R278). -/
theorem queueFront_room (f : Front) (h : s.twc.queue.length < 1024) :
    (queueFront s f).twc = { s.twc with queue := s.twc.queue ++ [f], seq := (s.twc.seq + 1) % 65536 } := by
  unfold queueFront
  rw [if_neg (Nat.not_le.mpr h)]
  exact showFront_twc _ _

end

/-- Settles O22: each command by its own equation; a capture writes the rings alone, so that the queue and the triggers of a record are
those of the state before it. -/
theorem travellingWaveCommandsComplete : Obligations.TravellingWaveCommandsComplete := by
  unfold Obligations.TravellingWaveCommandsComplete
  refine ⟨fun l s h hl hm => execJesdDown_lane h hl hm, fun x n s h hn => ?_, fun a n s h hl => execJesdCrcError_data a n h hl,
    fun stamp ix l p xs s h hl hp => ?_, fun s h => execSysrefMissing_up h,
    fun ch i xs x s a b ha hb hs hi ht hd => execWavefrontTrigger_step rfl ha hb hs hi ht hd,
    fun ch xs i ys s ht h hl hy hq => ?_⟩
  · have hexec := execJesdUp_next h hn
    refine ⟨fun h4 => hexec.trans (congrArg Host.Outcome.next (if_neg h4)), ?_⟩
    rintro rfl
    exact hexec
  · have hexec := execSysrefEdge_judged stamp ix xs h hl hp
    exact ⟨fun ho => hexec.trans (congrArg Host.Outcome.next (judgeSysref_outside ho)),
      fun hw hg => hexec.trans (congrArg Host.Outcome.next (judgeSysref_first hw hg))⟩
  · obtain ⟨r, hr⟩ := triggerEnded_capture_twc s ch (i + 1) xs
    have hroom : (triggerEnded (capture s ch (i + 1) xs) ch).used.twc.queue.length < 1024 := by
      rw [State.used_twc, hr]
      exact hq
    refine ⟨_, frontOf (triggerEnded (capture s ch (i + 1) xs) ch) ch i ys, execWavefrontRecord_formed ht h hl hy, ?_⟩
    rw [queueFront_room _ hroom, State.used_twc, frontOf_seq, hr]
    exact ⟨rfl, rfl, rfl, rfl, rfl, rfl, Tab.get_put_same none s.twc.trigger ch none⟩

end Sys2Proof.Machine
end

section
/-! SUPPORT. The commands of the measurement products: GOOSE retransmission, the manual trigger, disturbance records, and fault location. -/

namespace Sys2Proof.Machine

section
variable {s : State}

/-! ### GOOSE (R356) -/

/-- While the publisher runs, an enabled dataset that has sent values and has not begun a retransmission in this tick may begin one. -/
theorem execGooseRetransmit_notBegun {g : Fin 128} {l : List (Word × Nat)} (slot : Fin 512) (hp : pktRuns s = true)
    (hi : s.thr.idle = false) (he : s.bit (Reg.MPR_GOOSE_CFG_EN g) = true) (hl : (gdsOf s g).last = some l)
    (hr : ∀ p, (gdsOf s g).rtx = some p → p.1 ≠ s.tick) :
    execGooseRetransmit g slot s = .next (execGooseRetransmit.begin_ g s (gdsOf s g) (windowPorts s g slot) l) := by
  unfold execGooseRetransmit
  dsimp only
  rw [if_neg (by simp [hp, hi, he]), hl]
  cases hx : (gdsOf s g).rtx with
  | none => rfl
  | some p => exact congrArg Host.Outcome.next (if_neg (hr p hx))

/-- A retransmission that is due starts on the ports whose windows hold the slot, once in a tick. -/
theorem gooseRetransmit_begin_due {g : Fin 128} {x : Gds} {m : Nat} (l : List (Word × Nat)) (hm : m ≠ 0) (hd : x.due ≤ s.tick)
    (hs : x.sent ≠ some s.tick) :
    execGooseRetransmit.begin_ g s x m l = (
      let ival := min (2 * x.ival) (s.rd (Reg.MPR_GOOSE_TIMING_T_MAX g))
      let u := s.wr (Reg.MPR_GOOSE_SQNUM g) (nextNum (s.rd (Reg.MPR_GOOSE_SQNUM g)))
      let u := setGds u g { x with ival := ival, due := u.tick + msTicks u ival, sent := some u.tick, rtx := some (u.tick, m) }
      sendGoose (u.inc (Reg.MPR_GOOSE_TX g)) g m ival l) :=
  if_neg (by simp [hm, hs, Nat.not_lt.mpr hd])

/-! ### The disturbance recorder (R369, R370) -/

/-- A write of MPR_CTRL that is taken while the recorder is on is a manual trigger of this tick. -/
theorem execManTrig_armed {a : Access} (v : Word) (h : Accepts s a 0x200000 10) (ha : s.mpr.armed = true) :
    execManTrig a v s = .next (
      let u := plainWrite s a.init 0x200000 v
      { u with mpr := { u.mpr with man := true } }) := by
  unfold execManTrig
  rw [withWrite_taken h]
  exact congrArg Host.Outcome.next (if_pos ha)

theorem execDrClose_ended {r : DrRec} (h : s.mpr.record = some r) (he : recordEnd s r ≤ recordTick s) :
    execDrClose s = .next (closeRecord s r false) := by
  unfold execDrClose
  rw [h]
  exact congrArg Host.Outcome.next (if_pos he)

/-! ### Fault location (R375, R376) -/

section
variable {l : Fin 4} {x : FlocOpen} (h : Tab.get none s.mpr.floc l = some x)
include h

theorem execFlocResult_D {v : Word × Word × Nat}
    (hd : flocValue s (s.rd (Reg.MPR_FLOC_ITEMS_DA_D_ITEM l)) (x.front.map Prod.snd) true = some v) :
    execFlocResult l s = .next (giveFloc s l x 2 v) := by
  simp only [execFlocResult, h, hd]

variable (hd : flocValue s (s.rd (Reg.MPR_FLOC_ITEMS_DA_D_ITEM l)) (x.front.map Prod.snd) true = none)
include hd

theorem execFlocResult_A {v : Word × Word × Nat}
    (ha : flocValue s (s.rd (Reg.MPR_FLOC_ITEMS_DA_A_ITEM l)) (x.front.map Prod.snd) true = some v) :
    execFlocResult l s = .next (giveFloc s l x 1 v) := by
  simp only [execFlocResult, h, hd, ha]

variable (ha : flocValue s (s.rd (Reg.MPR_FLOC_ITEMS_DA_A_ITEM l)) (x.front.map Prod.snd) true = none)
include ha

theorem execFlocResult_Z {v : Word × Word × Nat}
    (hz : flocValue s (s.rd (Reg.MPR_FLOC_ITEM_Z_Z_ITEM l)) (x.front.map Prod.snd) false = some v) :
    execFlocResult l s = .next (giveFloc s l x 3 v) := by
  simp only [execFlocResult, h, hd, ha, hz]

/-- Without a VALID distance, the result has method 0 and distance NaN once the window has passed. -/
theorem execFlocResult_windowPassed
    (hz : flocValue s (s.rd (Reg.MPR_FLOC_ITEM_Z_Z_ITEM l)) (x.front.map Prod.snd) false = none)
    (hw : x.start + msTicks s (s.rd (Reg.MPR_FLOC_ITEM_Z_WINDOW_MS l)) ≤ s.tick) :
    execFlocResult l s = .next (giveFloc s l x 0 (nanWord, 0, 0)) := by
  simp only [execFlocResult, h, hd, ha, hz, if_pos hw]

end

end

/-- Settles O24: each command by its own equation, a fault location by the first item in the order D, A, Z that has a VALID distance. -/
theorem productCommandsComplete : Obligations.ProductCommandsComplete := by
  unfold Obligations.ProductCommandsComplete
  refine ⟨fun g slot l s hp hi he hl hr hm hd hs => ?_, fun a v s h ha => execManTrig_armed v h ha,
    fun r s h he => execDrClose_ended h he,
    fun l x s h => ⟨fun v hd => execFlocResult_D h hd, fun v hd ha => execFlocResult_A h hd ha,
      fun v hd ha hz => execFlocResult_Z h hd ha hz, fun hd ha hz hw => execFlocResult_windowPassed h hd ha hz hw⟩⟩
  exact (execGooseRetransmit_notBegun slot hp hi he hl hr).trans
    (congrArg Host.Outcome.next (gooseRetransmit_begin_due l hm hd hs))

end Sys2Proof.Machine
end

section
/-! SUPPORT. The commands of the measurement ring: sweeps launched, received and sent again, TIMING frames, and the lock of the links. -/

namespace Sys2Proof.Machine

@[simp] theorem rd_setLink (s : State) (l : Nat) (x : RLink) (f : Fld) : (setLink s l x).rd f = s.rd f := rfl

section
variable {s : State}

/-! ### Sweeps (R385, R386, R411) -/

/-- At slot 501, once in a tick, a RUNNING master that handed off launches its sweep on both links. -/
theorem execSweepLaunch_master {c : Coll} {u : State} (hr : mrgState s = mrgRunning ∨ mrgState s = mrgForwarding)
    (hslot : s.rd Reg.TIK_STATUS_SLOT = 500) (honce : s.mrg.slot501 ≠ some s.tick)
    (hu : elect (endWraps (startWraps { s with mrg := { s.mrg with slot501 := some s.tick } })) = u)
    (hrun : mrgState u = mrgRunning) (hm : u.bit Reg.MRG_STATUS_MASTER = true)
    (hc : u.mrg.colls.find? (fun c => c.tick == u.tick) = some c) :
    execSweepLaunch s = .next (
      let w := judgePhase (u.wr Reg.MRG_RING_OFS 0)
      let own := { c.own with ofs := 0, suspect := w.bit Reg.MRG_STATUS_TIME_SUSPECT }
      let w := setColl w { c with own := own }
      let f : SweepFrame := { west := false, wrapped := false, ret := false, master := own.node, hops := 0
                              ringId := w.rd Reg.MRG_CFG_RING_ID, present := 2 ^ ownId w, sec := c.sec, insec := c.insec
                              accOfs := 0, hcrcOk := true, resent := false, contribs := [own] }
      routeSweep (routeSweep w 0 f) 1 { f with west := true }) := by
  have hstart : ¬ ((mrgState s ≠ mrgRunning ∧ mrgState s ≠ mrgForwarding) ∨ s.rd Reg.TIK_STATUS_SLOT ≠ 500 ∨
      s.mrg.slot501 = some s.tick) := by
    rintro (h | h | h)
    · exact hr.elim h.1 h.2
    · exact h hslot
    · exact honce h
  unfold execSweepLaunch
  dsimp only
  rw [if_neg hstart, hu, if_neg (by simp [hrun, hm]), hc]

section
variable {l : Fin 2} {f : SweepFrame} (hr : mrgState s = mrgRunning ∨ mrgState s = mrgForwarding) (hup : linkUp s l = true)
include hr hup

/-- A frame with a wrong HCRC that can still come again is asked for, unless it was already. -/
theorem execSweepFrameReceive_askAgain (hh : f.hcrcOk = false) (hre : f.resent = false)
    (hn : (f.west, f.sec, f.insec) ∉ (linkOf s l).nak) :
    execSweepFrameReceive l f true s = .next (emit (setLink s l { linkOf s l with
      nak := ((f.west, f.sec, f.insec) :: (linkOf s l).nak).take 8 }) (.nak l f.west f.sec f.insec)) := by
  unfold execSweepFrameReceive
  dsimp only
  rw [if_neg (fun h => hr.elim h.1 h.2), if_neg (by simp [hup]), if_pos (by simp [hh]), if_neg (by simp [hre, hn])]

/-- A good frame of a member that another node launched is delivered here and goes on, with the node's own contribution, on the other
link. -/
theorem execSweepFrameReceive_forwarded {u w : State} (hh : f.hcrcOk = true) (hid : f.ringId = s.rd Reg.MRG_CFG_RING_ID)
    (hmem : isMember s f.master = true) (hre : f.resent = false) (hcrc : f.contribs.all Contrib.crcOk = true)
    (hu : { s with mrg := { s.mrg with masters := (s.tick, f.master.val) :: s.mrg.masters } } = u)
    (hw : f.contribs.foldl (fun s c => takeContrib s f c) u = w)
    (hlow : f.master.val ≤ u.rd Reg.MRG_STATUS_MASTER_ID) (hother : f.master.val ≠ ownId w) :
    execSweepFrameReceive l f true s = .next (routeSweep (appendOwn w l f).1 (otherLink l)
      { (appendOwn w l f).2 with hops := (f.hops + 1) % 256, resent := false }) := by
  unfold execSweepFrameReceive
  dsimp only
  rw [if_neg (fun h => hr.elim h.1 h.2), if_neg (by simp [hup]), if_neg (by simp [hh]), if_neg (by simp [hid, hmem]), hre,
    if_neg Bool.false_ne_true, if_pos hcrc, hu, if_neg (Nat.not_lt.mpr hlow), hw, if_neg (fun h => hother h.1)]

end

/-- The last sweep frame of a link that is up is sent again when a NAK names it in time, if it was not sent again before. -/
theorem execNakReceive_named {l : Fin 2} {f : SweepFrame} (hs : mrgState s ≠ mrgStopped) (hlast : (linkOf s l).last = some f)
    (hup : linkUp s l = true) (hre : f.resent = false) :
    execNakReceive l f.west f.sec f.insec true s = .next (sendSweep s l { f with resent := true }) := by
  unfold execNakReceive
  dsimp only
  rw [if_neg hs, hlast]
  exact congrArg Host.Outcome.next (if_pos (by simp [hup, hre]))

/-! ### TIMING frames (R396, R397) -/

section
variable {l : Fin 2} (hs : mrgState s ≠ mrgStopped) (hl : (linkOf s l).locked = true)
include hs hl

/-- The TIMING frame of a locked link carries the stamps of the last frame sent and of the last one received. -/
theorem execTimingFrameSend_locked (stamp : Nat) :
    ∃ f, execTimingFrameSend l stamp s = .next (emit (setLink s l { linkOf s l with
        seq := ((linkOf s l).seq + 1) % 256, sent := (((linkOf s l).seq, tdc stamp) :: (linkOf s l).sent).take 16 }) (.timing l f)) ∧
      f.node = ownId s ∧ f.seq = (linkOf s l).seq ∧ f.ringId = s.rd Reg.MRG_CFG_RING_ID ∧ f.link = l.val ∧ f.crcOk = true ∧
      f.txPrev = ((linkOf s l).sent.head?.map Prod.snd).getD 0 ∧ f.rxStamp = ((linkOf s l).got.map Prod.snd).getD 0 :=
  ⟨_, congrArg Host.Outcome.next (if_neg (by simp [hs, hl])), rfl, rfl, rfl, rfl, rfl, rfl, rfl⟩

/-- The first TIMING frame after a lock completes no exchange: it is kept for the next one. -/
theorem execTimingFrameReceive_first {f : TimingFrame} (stamp : Nat) (hcrc : f.crcOk = true) (hw : miswired s l f = false)
    (hg : (linkOf s l).got = none) (hun : f.unwrap = false) :
    execTimingFrameReceive l f stamp s = .next (setLink (s.wr (Reg.MRG_LINK_LSTATUS_NBR_ID l) f.node) l
      { linkOf s l with got := some (f.seq, tdc stamp), cancelled := none }) := by
  unfold execTimingFrameReceive
  dsimp only
  rw [if_neg (by simp [hs, hl]), if_neg (by simp [hcrc]), if_neg (by simp [hw]), hg, if_neg (by simp [hun]), hun,
    if_neg Bool.false_ne_true]

end

/-! ### Lock (R403, R408) -/

/-- A link's loss of lock, counted: what RING_LINK_LOST does before it looks at the link's state. -/
def lockLost (s : State) (l : Nat) : State :=
  setLink (s.inc (Reg.MRG_LINK_LOSS_CNT l)) l { linkOf s l with locked := false, held := false, run := 0, got := none }

/-- The neighbour that the event of a break names: the one of the last TIMING frame, if one came. -/
def lastNeighbour (s : State) (l : Nat) : Option Nat :=
  if (linkOf s l).got.isSome then some (s.rd (Reg.MRG_LINK_LSTATUS_NBR_ID l)) else none

/-- The count of losses lies in another register than the link's status. -/
theorem inc_lossCnt_rd (l : Fin 2) {g : Fld} (h : g.key = 0x280100 + l * 0x40) :
    (s.inc (Reg.MRG_LINK_LOSS_CNT l)).rd g = s.rd g :=
  s.rd_wr_other _ (.inl (by simp only [h]; omega))

/-- A locked link that loses lock goes from SYNC to DOWN, stays DOWN, or breaks. -/
theorem execRingLinkLost_locked {l : Fin 2} (hd : domainUp s 9 = true) (hl : (linkOf s l).locked = true) :
    execRingLinkLost l s = .next (
      if s.rd (Reg.MRG_LINK_LSTATUS_STATE l) = 1 then (lockLost s l).wr (Reg.MRG_LINK_LSTATUS_STATE l) 0
      else if s.rd (Reg.MRG_LINK_LSTATUS_STATE l) = 0 then lockLost s l
      else breakLink (lockLost s l) l 1 (lastNeighbour s l)) := by
  unfold execRingLinkLost
  dsimp only
  rw [if_neg (by simp [hd, hl]), rd_setLink, inc_lossCnt_rd l rfl, inc_lossCnt_rd l rfl]
  rfl

theorem execRingLinkLock_down {l : Fin 2} (h : s.rd (Reg.MRG_LINK_LSTATUS_STATE l) = 0) (hs : mrgState s ≠ mrgStopped) :
    execRingLinkLock l s = .next ((setLink s l { linkOf s l with locked := true }).wr (Reg.MRG_LINK_LSTATUS_STATE l) 1) :=
  congrArg Host.Outcome.next (if_pos ⟨h, hs⟩)

end

/-- Settles O25: each command by its own equation; the link's state decides what a loss of lock goes on with. -/
theorem ringCommandsComplete : Obligations.RingCommandsComplete := by
  unfold Obligations.RingCommandsComplete
  refine ⟨fun c s hr hslot honce hrun hm hc => execSweepLaunch_master hr hslot honce rfl hrun hm hc,
    fun l f s hr hup => ⟨execSweepFrameReceive_askAgain hr hup, fun hh hid hmem hre hcrc hlow hother =>
      execSweepFrameReceive_forwarded hr hup hh hid hmem hre hcrc rfl rfl hlow hother⟩,
    fun l stamp s hs hl => execTimingFrameSend_locked hs hl stamp,
    fun l f stamp s hs hl => execTimingFrameReceive_first hs hl stamp,
    fun l f s => execNakReceive_named, fun l s hd hl => ?_, fun l s => execRingLinkLock_down⟩
  have hlost := execRingLinkLost_locked hd hl
  refine ⟨fun h => hlost.trans ?_, fun h => hlost.trans ?_, fun h => hlost.trans ?_⟩
  · rw [if_neg (by omega), if_pos h]; rfl
  · rw [if_pos h]; rfl
  · rw [if_neg (by omega), if_neg (by omega)]; rfl

end Sys2Proof.Machine
end

section
/-! SUPPORT. The commands of the bridge: frames received and sent, the filtering database, pauses, links, and recovery
functions. -/

namespace Sys2Proof.Machine

section
variable {s : State}

/-! ### Frames received (R424, R458) -/

/-- A PTP message in a frame names the port that the frame came in by. -/
def atPort (f : Frame) (p : Nat) : Frame := { f with ptp := f.ptp.map (fun m => { m with port := p }) }

/-- The PTP ports take the message of a frame that carries one. -/
def ptpTaken (s : State) (p : Nat) (f : Frame) : State :=
  match f.ptp with
  | some m => ptpReceive s p m
  | none => s

/-- The PTP ports leave the frames of an internal port alone: the running bridge counts and admits them. -/
theorem execFrameReceive_internal {p : Fin 10} (f : Frame) (ok : Bool) (hr : pktRuns s = true) (hp : 6 ≤ p.val) :
    execFrameReceive p f ok s = .next (takeFrame (portCount s p 0) p (atPort f p)) := by
  unfold execFrameReceive
  extract_lets n g t
  have ht : t = s := by
    simp only [t]
    split
    · exact if_neg (by simp [n, hp])
    · rfl
  rewrite [ht, if_neg (by simp [hr]), if_pos hp]
  rfl

/-- A good frame of an external port reaches the PTP ports and is counted; a pause is then obeyed, and another frame that MACsec
passes and that is no tagged one of a redundant port is admitted without its SecTAG. -/
theorem execFrameReceive_good {p : Fin 10} {f : Frame} {u : State} (hp : p.val < 6) (hup : portUp s p = true)
    (hu : u = ptpTaken s p (atPort f p)) (hrun : pktRuns u = true) (hlink : portUp u p = true) (hmin : 64 ≤ f.len)
    (hmax : f.len ≤ min 9216 (u.rd Reg.PKT_MAX_FRAME_BYTES)) :
    (∀ q, f.pause = some q → execFrameReceive p f true s = .next (takePause (portCount u p 0) p q f.arrival)) ∧
    (f.pause = none → ∀ v, msReceive (portCount u p 0) p (atPort f p) = (v, true) → (f.red = none ∨ lreOf v p = none) →
      execFrameReceive p f true s = .next (takeFrame v p
        { atPort f p with sec := none, len := if f.sec.isSome then f.len - msBytes v p false else f.len })) := by
  generalize hexec : execFrameReceive p f true s = out
  unfold execFrameReceive at hexec
  extract_lets n g t at hexec
  have ht : t = ptpTaken s n g := by
    unfold ptpTaken
    simp only [t]
    cases g.ptp with
    | none => rfl
    | some m => exact if_pos (by simp [n, hp, hup])
  clear_value t
  obtain rfl : t = u := ht.trans hu.symm
  have hlen : (!true || decide (g.len < 64) || decide (min 9216 (t.rd Reg.PKT_MAX_FRAME_BYTES) < g.len)) = false := by
    simp only [Bool.not_true, Bool.false_or, Bool.or_eq_false_iff, decide_eq_false_iff_not, Nat.not_lt]
    exact ⟨hmin, hmax⟩
  rw [hlen, if_neg (by simp [hrun]), if_neg (Nat.not_le.mpr hp), if_neg (by simp [n, hlink]),
    if_neg Bool.false_ne_true] at hexec
  subst hexec
  refine ⟨fun q hq => ?_, fun hq v hms hred => ?_⟩
  · rewrite [show g.pause = some q from hq]
    rfl
  · split
    next q hsome => exact nomatch hq.symm.trans hsome
    rw [show msReceive (portCount t n 0) n g = (v, true) from hms]
    dsimp only
    rw [if_neg (by decide)]
    split
    next r tag hlre htag => exact hred.elim (fun h => nomatch h.symm.trans htag) fun h => nomatch h.symm.trans hlre
    next => rfl

/-! ### Frames sent (R427–R431) -/

/-- The frame that the gates choose leaves its queue and its port: without MACsec it has no SecTAG, and no descriptor waits for
its stamp. -/
theorem execFrameTransmit_chosen {p : Fin 6} (cyc stamp : Nat) {q : QFrame} {rest : List QFrame} {tc : Nat} {w : State}
    (hr : pktRuns s = true) (hup : portUp s p = true) (hpause : (pausedPort s p).isSome = false) (hheld : macsecHeld s p = false)
    (hw : w = (List.range 8).foldl (fun s tc => dropOversize s p tc (queueOf s p tc).length) (showGates s (slotAt s cyc)))
    (hpick : pickClass w p cyc = some tc) (hq : queueOf w p tc = q :: rest)
    (hms : w.bit (Reg.CRY_MS_PCFG_EN p) = false ∨ q.eapol = true) (hts : q.ts = none) :
    execFrameTransmit p cyc stamp s = .next (
      let x := setQueue w p tc rest
      let x := portCount { x with pkt := { x.pkt with owes := Tab.put 0 x.pkt.owes p (Tab.get 0 x.pkt.owes p - q.len) } } p 1
      let x := match q.body with
        | .bridged f vid => emit x (.frame p { f with ptp := f.ptp.map (ptpTransmit x p f.arrival stamp) } vid none)
        | .pub f => emit x (.pubFrame p f q.red none)
      endUse (dropRef x q.chain) q.chain) := by
  have hms : ¬ ((setQueue w p tc rest).bit (Reg.CRY_MS_PCFG_EN p) && !q.eapol) = true := by
    change ¬ (w.bit (Reg.CRY_MS_PCFG_EN p) && !q.eapol) = true
    rcases hms with h | h <;> simp [h]
  unfold execFrameTransmit
  dsimp only
  rw [if_neg (by simp [hr, hup, hpause, hheld]), ← hw, hpick]
  dsimp only
  rw [hq]
  dsimp only
  rewrite [if_neg hms, hts]
  rfl

/-! ### The filtering database (R425) -/

theorem execFdbAgeOut_aged {mac : BitVec 48} {fid : Fin 4096} {old : FdbE → Bool}
    (hold : old = fun e => e.mac == mac.toNat && e.fid == fid.val && decide (e.seen + s.rd Reg.PKT_FDB_AGE_SEC ≤ s.taiSec))
    (h : s.pkt.fdb.any old = true) : execFdbAgeOut mac fid s = .next (setFdb s (s.pkt.fdb.filter (fun e => !old e))) := by
  subst hold
  exact congrArg Host.Outcome.next (if_pos h)

section
variable {a : Access} (v : Word) (h : Accepts s a 0x300000 10)
include h

theorem execFdbFlushPort_taken :
    execFdbFlushPort a v s = .next (setFdb s (s.pkt.fdb.filter (fun e => e.port != fieldOf v 8 4))) :=
  congrArg Host.Outcome.next (withWrite_taken h _)

theorem execFdbFlushVlan_taken :
    execFdbFlushVlan a v s =
      .next (setFdb s (s.pkt.fdb.filter (fun e => e.fid != s.rd (Reg.PKT_VLAN_W1_FID (fieldOf v 16 12))))) :=
  congrArg Host.Outcome.next (withWrite_taken h _)

theorem execFdbFlushAll_taken : execFdbFlushAll a v s = .next (setFdb s []) :=
  congrArg Host.Outcome.next (withWrite_taken h _)

end

/-! ### Pauses (R458) -/

section
variable {p : Fin 6}

/-- A pause that lasts to the maximum hold ends there: the port owes a maximum frame, and the end is counted and told. -/
theorem execPauseHoldExpired_tooLong (h : (pausedPort s p).any (tooLong s) = true) :
    execPauseHoldExpired p s = .next (
      let u := setPaused s p none
      let u := { u with pkt := { u.pkt with owes := Tab.put 0 u.pkt.owes p (min 9216 (u.rd Reg.PKT_MAX_FRAME_BYTES)) } }
      raiseLimited (portCount u p 6) Blk.pkt 0x0105 .warn p p) :=
  congrArg Host.Outcome.next (if_neg (by simp [h]))

theorem execPauseQuantaExpired_within (h : (pausedPort s p).any (tooLong s) = false) :
    execPauseQuantaExpired p s = .next (setPaused s p none) :=
  congrArg Host.Outcome.next (if_neg (by simp [h]))

/-! ### Links (R459, R460, R466) -/

theorem execPortLinkDown_up (h : domainUp s 10 = true) (hl : s.bit (Reg.PKT_PORT_PSTATUS_LINK p) = true) :
    execPortLinkDown p s = .next (
      let u := flushPort (showLink s p false) p
      let w := raise (setFdb u (u.pkt.fdb.filter (fun e => e.port != p.val))) Blk.pkt 0x0102 .warn p
      match lreOf w p with
      | some r => raise w Blk.pkt 0x0103 .warn (r + 2 ^ 8 * p)
      | none => w) :=
  congrArg Host.Outcome.next (if_neg (by simp [h, hl]))

theorem execPortLinkUp_down (h : domainUp s 10 = true) (hserdes : domainUp s (serdesOf p) = true)
    (hen : s.bit (Reg.PKT_PORT_PCFG_EN p) = true) (hl : s.bit (Reg.PKT_PORT_PSTATUS_LINK p) = false) :
    execPortLinkUp p s = .next (raise (showLink s p true) Blk.pkt 0x0101 .info (p + 2 ^ 8 * s.rd (Reg.PKT_PORT_PCFG_SPEED p))) :=
  congrArg Host.Outcome.next (if_neg (by simp [h, hserdes, hen, hl]))

end

/-! ### Recovery functions (R437) -/

theorem execFrerResetTimeout_due {r : Fin 512} (hen : s.bit (Reg.PKT_FRER_REC_CFG_EN r) = true)
    (hany : (frerOf s r).takeAny = false)
    (hdue : (frerOf s r).at_ + s.rd (Reg.PKT_FRER_REC_CFG_RESET_MS r) * 1000000 ≤ s.taiNs) :
    execFrerResetTimeout r s = .next ((setFrer s r {}).inc (Reg.PKT_FRER_REC_RESETS r)) :=
  congrArg Host.Outcome.next (if_neg (by simp [hen, hany, hdue]))

end

/-- Settles O26: each command by its own equation; what the PTP ports do with a frame comes before the port's checks. -/
theorem bridgeCommandsComplete : Obligations.BridgeCommandsComplete := by
  unfold Obligations.BridgeCommandsComplete
  refine ⟨fun p f s hr hp ok => execFrameReceive_internal f ok hr hp, ?_,
    fun p cyc stamp q rest tc s w hr hup hpause hheld hw hpick hq hms hts =>
      execFrameTransmit_chosen (s := s) (p := p) cyc stamp hr hup hpause hheld hw hpick hq hms hts,
    fun mac fid s h => execFdbAgeOut_aged rfl h,
    fun a v s h => ⟨execFdbFlushPort_taken v h, execFdbFlushVlan_taken v h, execFdbFlushAll_taken v h⟩,
    fun p s => execPauseHoldExpired_tooLong, fun p s => execPauseQuantaExpired_within,
    fun p s => execPortLinkDown_up, fun p s => execPortLinkUp_down, fun r s => execFrerResetTimeout_due⟩
  intro p f g s u hp hup hg hu hrun hlink hmin hmax
  subst hg
  obtain ⟨hpause, hother⟩ := execFrameReceive_good hp hup hu hrun hlink hmin hmax
  exact ⟨hpause, fun hq hok => hother hq _ (Prod.ext rfl hok)⟩

end Sys2Proof.Machine
end

section
/-! SUPPORT. The commands of the Silo: handles released, holds that age, and cells lost. -/

namespace Sys2Proof.Machine

section
variable {s : State}

/-- A release that the window of the tenant takes is judged by its handle (R450, R451). -/
theorem execHandleRelease_taken {t : Fin 128} {be : BitVec 4} (v : Word) (h : AcceptsView s t be 12) :
    execHandleRelease t be v s = .next (
      match checkHandle s t v with
      | .inl r => rejectRelease s t v r
      | .inr c => letGo (s.inc (Reg.SLO_TEN_REL_OK t)) c) :=
  congrArg Host.Outcome.next (windowWrite_taken h _)

/-- The first chain of a cell that is held, and that no release has let go, ages once SLO_HOLD_AGE is over (R452). -/
theorem execHoldAged_over {cell : Fin 131072} {c : Chain} (hage : s.rd Reg.SLO_HOLD_AGE_MS ≠ 0)
    (hc : s.slo.chains.find? (fun c => c.cells.headD siloCells == cell.val && c.holder.isSome && !c.dying) = some c)
    (hover : c.since + s.rd Reg.SLO_HOLD_AGE_MS * 1000000 ≤ s.taiNs) :
    execHoldAged cell s = .next (tenantEvent ((letGo s c).inc (Reg.SLO_TEN_AGED (c.holder.getD 0))) (c.holder.getD 0)
      Blk.slo 0x0111 .info (handleOf s (c.holder.getD 0) c)) := by
  unfold execHoldAged
  dsimp only
  rw [hc]
  exact congrArg Host.Outcome.next (if_neg (by simp [hage, hover]))

/-- A cell of the running Silo that is not retired yet loses its chain and is retired (R461). -/
theorem execCellUncorr_inUse {cell : Fin 131072} (client : Fin 16) (h : domainUp s 12 = true)
    (hr : s.slo.retired.contains cell.val = false) :
    execCellUncorr cell client s = .next (
      let u := match s.slo.chains.find? (fun c => c.cells.contains cell.val) with
        | none => s
        | some c => forgetChain (freeChain s c) c.id
      let u := (u.inc Reg.SLO_RETIRED_CELLS).sub Reg.SLO_STATUS_FREE 1
      raise { u with slo := { u.slo with retired := cell.val :: u.slo.retired } } Blk.slo 0x0101 .fault
        (cell.val + 2 ^ 32 * client.val)) :=
  congrArg Host.Outcome.next (if_neg (by rw [h, hr]; decide))

end

/-- Settles O27: each command by its own equation; the check of the handle decides between the two ends of a release. -/
theorem siloCommandsComplete : Obligations.SiloCommandsComplete := by
  unfold Obligations.SiloCommandsComplete
  refine ⟨fun t be v s h => ?_, fun cell c s => execHoldAged_over, fun cell client s => execCellUncorr_inUse client⟩
  have hexec := execHandleRelease_taken v h
  refine ⟨fun c hc => ?_, fun r hr => ?_⟩
  · rwa [hc] at hexec
  · rwa [hr] at hexec

end Sys2Proof.Machine
end

section
/-! SUPPORT. The commands of the key vault and its SA window, and of record shipping. -/

namespace Sys2Proof.Machine

/-! ### The key vault (R480–R483) -/

section
variable {s : State} {a : Access} {v : Word} (h : Accepts s a 0x500000 11)
include h

/-- A load that no check refuses stores the staged bytes, its type and its loader. -/
theorem execKeyLoad_stored (hc : loadCode s a.init (fieldOf v 0 14) (fieldOf v 24 4) = 0) :
    execKeyLoad a v s = .next (
      let slot := fieldOf v 0 14
      let typ := fieldOf v 24 4
      let u := setMeta (if keyLoaded s slot then s else s.inc Reg.CRY_STATUS_LOADED) slot 1 typ a.init.toNat
      keyResult { u with cry := { u.cry with key := Tab.put [] u.cry.key slot (staged s a.init) } } a.init 0
        (Config.keyCheck typ (staged s a.init)).toNat) := by
  unfold execKeyLoad
  rw [withWrite_taken h]
  exact congrArg Host.Outcome.next (if_neg (not_not.mpr hc))

/-- A load that a check refuses answers the check's code. -/
theorem execKeyLoad_refused (hc : loadCode s a.init (fieldOf v 0 14) (fieldOf v 24 4) ≠ 0) :
    execKeyLoad a v s = .next (keyResult s a.init (loadCode s a.init (fieldOf v 0 14) (fieldOf v 24 4)) 0) := by
  unfold execKeyLoad
  rw [withWrite_taken h]
  exact congrArg Host.Outcome.next (if_pos hc)

/-- An initiator erases a slot that it may name and that no other has loaded. -/
theorem execKeyZeroise_own (hn : mayName s a.init (fieldOf v 0 14) = true)
    (hl : keyLoaded s (fieldOf v 0 14) = true → keyLoader s (fieldOf v 0 14) = a.init.toNat) :
    execKeyZeroise a v s = .next (keyResult (eraseKey s (fieldOf v 0 14)) a.init 0 0) := by
  have hforeign : ¬ (keyLoaded s (fieldOf v 0 14) && keyLoader s (fieldOf v 0 14) != a.init.toNat) = true := by
    rw [Bool.and_eq_true, bne_iff_ne]
    exact fun ⟨hloaded, hother⟩ => hother (hl hloaded)
  unfold execKeyZeroise
  rw [withWrite_taken h]
  dsimp only
  rw [if_neg (by simp [hn]), if_neg hforeign]

/-! ### The SA window (R490) -/

theorem execSaRead_reached (hr : mayReach s a.init (selectedSa s a.init) = true) :
    execSaRead a s = .next ((List.range 12).foldl
      (fun u w => u.wr (ownReg a.init (0x500080 + 4 * w)) (saWord u (selectedSa s a.init) w).toNat) s) := by
  unfold execSaRead
  rw [withWrite_taken h]
  exact congrArg Host.Outcome.next (if_pos hr)

/-- The key range bounds only the VFs: every other initiator may name any key. -/
theorem execSaWrite_reached (hr : mayReach s a.init (selectedSa s a.init) = true)
    (hk : ∀ t, instanceOf a.init = some t → 0 < t → inRange (s.rd (Reg.CRY_TEN_KEY_BASE t)) (s.rd (Reg.CRY_TEN_KEY_CNT t))
      (fieldOf (s.reg (initKey a.init 0x500080)) 0 14) = true) :
    execSaWrite a s = .next (
      let i := selectedSa s a.init
      let u := if !saOn s i && bitAt (s.reg (initKey a.init 0x500080)).toNat 31 then freshSa s i else s
      [0, 1, 2, 3, 4, 5, 7].foldl (fun u w => setSa u i w (u.reg (initKey a.init (0x500080 + 4 * w)))) u) := by
  unfold execSaWrite
  rw [withWrite_taken h]
  refine congrArg Host.Outcome.next (if_pos ?_)
  rw [hr, Bool.true_and]
  split
  case h_1 => rfl
  case h_2 t hvf ht => exact hk t ht (Nat.pos_of_ne_zero hvf)
  case h_3 => rfl

end

/-- Settles O28: each command by the equation of its branch. -/
theorem keyCommandsComplete : Obligations.KeyCommandsComplete := by
  unfold Obligations.KeyCommandsComplete
  exact ⟨fun a v s h => ⟨execKeyLoad_stored h, execKeyLoad_refused h⟩, fun a v s => execKeyZeroise_own,
    fun a s => execSaRead_reached, fun a s => execSaWrite_reached⟩

/-! ### Record shipping (R499–R504) -/

section
variable {s : State}

theorem nsUp_iff {n : Nat} : nsUp s n = true ↔ nsState s n = nsReady ∨ nsState s n = nsFull := by
  simp [nsUp]

/-- A namespace whose connection is being attempted is neither disabled nor connected. -/
theorem attempting_not_up {n : Nat} (hst : nsState s n = nsConnecting ∨ nsState s n = nsFailed) :
    nsState s n ≠ nsDisabled ∧ nsUp s n = false := by
  rcases hst with hst | hst <;> simp [nsUp, hst]

section
variable {n : Fin 16} (hon : nsOn s n = true)
include hon

theorem execNsConnect_notConnected (hr : nsState s n ≠ nsReady) (hf : nsState s n ≠ nsFull) :
    execNsConnect n s =
      .next (emit (if nsState s n = nsFailed then s else setNsState s n nsConnecting 0) (.nvme n 1 0)) :=
  congrArg Host.Outcome.next (if_neg (by simp [hon, hr, hf]))

/-- The connection of an attempting namespace stands: the format decides between READY and FAILED with reason 4. -/
theorem execNsReady_attempting (lba size mdts : Nat) (hst : nsState s n = nsConnecting ∨ nsState s n = nsFailed) :
    execNsReady n lba size mdts s = .next (
      if (lba ≠ 512 ∧ lba ≠ 4096) ∨ size < s.rd64 (Reg.REC_NS_START_LBA_LO n) (Reg.REC_NS_START_LBA_HI n) +
          s.rd64 (Reg.REC_NS_LBA_COUNT_LO n) (Reg.REC_NS_LBA_COUNT_HI n) then nsDown s n 4 0
      else
        let u := setNs s n { nsOf s n with tries := 0, mdts := mdts, lba := lba, rtxAdmin := 0, rtxIo := 0 }
        raise (setNsState u n nsReady 0) Blk.recb 0x0101 .info n) :=
  congrArg Host.Outcome.next (if_neg (by rcases hst with hst | hst <;> simp [hon, hst]))

theorem execKeepAlive_connected (hst : nsState s n = nsReady ∨ nsState s n = nsFull) :
    execKeepAlive n s = .next (emit s (.nvme n 2 0)) :=
  congrArg Host.Outcome.next (if_pos (by rw [hon, Bool.true_and]; exact nsUp_iff.mpr hst))

section
variable {r : DrRec} (hd : s.rd Reg.MPR_DR_CHAN_DEST = 0x100 + n.val)
  (hw : s.mpr.waiting.find? (fun r => !inProgress s r) = some r)
include hd hw

/-- A READY namespace that writes no record begins the next one, or redirects it where it has no room. -/
theorem execRecShip_ready (hst : nsState s n = nsReady) (hnow : (nsOf s n).now = none) :
    execRecShip n s =
      .next (if (beginShip s n r).2 then (beginShip s n r).1 else redirect (beginShip s n r).1 n r) := by
  unfold execRecShip
  rw [if_neg (by simp [hon, hd]), hw]
  dsimp only
  rw [if_pos hst, if_neg (by simp [hnow])]
  rcases beginShip s n r with ⟨u, _ | _⟩ <;> rfl

theorem execRecShip_redirected (hst : nsState s n = nsFull ∨ nsState s n = nsFailed) :
    execRecShip n s = .next (redirect s n r) := by
  have hnot : nsState s n ≠ nsReady := by rcases hst with hst | hst <;> simp [hst]
  unfold execRecShip
  rw [if_neg (by simp [hon, hd]), hw]
  dsimp only
  rw [if_neg hnot, if_pos hst]

end

/-- A repeated command of an enabled namespace: by whether the repetition succeeds, and whether the namespace is connected. -/
theorem execNvmeCommandTimeout_enabled (e : NvmeFail) (hst : nsState s n ≠ nsDisabled) :
    execNvmeCommandTimeout n e s = .next (
      if e.recovered then transient s Blk.recb 1 n
      else if nsUp s n then nsReconnect s n
      else attemptFails s n (if e.status.isSome then 2 else 3) ((e.status.map BitVec.toNat).getD 0)) :=
  congrArg Host.Outcome.next (if_neg (by simp [hon, hst]))

theorem execNsRetry_attempting (reason : Fin 5) (st : BitVec 16)
    (hst : nsState s n = nsConnecting ∨ nsState s n = nsFailed) :
    execNsRetry n reason st s = .next (attemptFails s n reason st.toNat) := by
  obtain ⟨hdis, hup⟩ := attempting_not_up hst
  exact congrArg Host.Outcome.next (if_neg (by simp [hon, hdis, hup]))

/-- A segment of an enabled namespace is sent again up to 8 times; then its connection is reset. -/
theorem execTcpRetransmitTimeout_enabled (admin : Bool) (hst : nsState s n ≠ nsDisabled) :
    execTcpRetransmitTimeout n admin s = .next (
      let x := nsOf s n
      let k := (if admin then x.rtxAdmin else x.rtxIo) + 1
      if 8 < k then (if nsUp s n then nsReconnect s n else attemptFails s n 1 0)
      else setNs s n (if admin then { x with rtxAdmin := k } else { x with rtxIo := k })) :=
  congrArg Host.Outcome.next (if_neg (by simp [hon, hst]))

end

/-- The second Flush of a record's write ends its shipping (R502). -/
theorem execRecShipped_inProgress {n : Fin 16} {r : DrRec} (hnow : (nsOf s n).now = some r) :
    execRecShipped n s = .next (
      let x := nsOf s n
      let u := s.wr64 (Reg.REC_NS_NEXT_LO n) (Reg.REC_NS_NEXT_HI n) (x.unit + recordUnits r)
      let u := u.wr64 (Reg.REC_NS_LAST_SEQ_LO n) (Reg.REC_NS_LAST_SEQ_HI n) r.seq
      let y := { x with now := none, wrapCount := x.wrapCount + x.wraps.toNat, superCount := x.superCount + 1 }
      let u := setNs (u.inc (Reg.REC_NS_RECORDS n)) n y
      let b := superblock u n (x.unit + recordUnits r) r.seq y.wrapCount y.superCount
      let u := emit (emit (emit u (.nvme n 3 0)) (.nvmeWrite n (y.superCount % 2) 1 b)) (.nvme n 3 0)
      raise (forgetRecord u r) Blk.recb 0x0103 .info
        (n.val + 2 ^ 8 * r.kind + 2 ^ 16 * (r.seq % 65536) + 2 ^ 32 * (x.unit % 2 ^ 32))) := by
  unfold execRecShipped
  rw [hnow]

end

/-- Settles O29: each command by the equation of its namespace's state; the count of attempts is `attemptFails` itself. -/
theorem recordShippingCompletes : Obligations.RecordShippingCompletes := by
  unfold Obligations.RecordShippingCompletes
  refine ⟨fun n s => execNsConnect_notConnected,
    fun n lba size mdts s hon hst => ⟨fun hlba hfit => ?_, fun hbad => ?_⟩,
    fun n s => execKeepAlive_connected,
    fun n r s hon hd hw => ⟨execRecShip_ready hon hd hw, execRecShip_redirected hon hd hw⟩,
    fun n r s => execRecShipped_inProgress,
    fun n st s hon hst => ⟨?_, fun hup => ?_, fun hdown => ?_⟩,
    fun n reason st s hon => execNsRetry_attempting hon reason st,
    fun n reason status s => rfl,
    fun n admin s hon hst => ⟨fun hfew => ?_, fun hmany => ?_⟩⟩
  · exact (execNsReady_attempting hon lba size mdts hst).trans (congrArg Host.Outcome.next (if_neg (by omega)))
  · exact (execNsReady_attempting hon lba size mdts hst).trans (congrArg Host.Outcome.next (if_pos hbad))
  · exact execNvmeCommandTimeout_enabled hon ⟨st, true⟩ hst
  · exact (execNvmeCommandTimeout_enabled hon ⟨st, false⟩ hst).trans (congrArg Host.Outcome.next (if_pos hup))
  · exact (execNvmeCommandTimeout_enabled hon ⟨st, false⟩ hst).trans
      (congrArg Host.Outcome.next (if_neg (Bool.eq_false_iff.mp hdown)))
  · exact (execTcpRetransmitTimeout_enabled hon admin hst).trans
      (congrArg Host.Outcome.next (if_neg (Nat.not_lt.mpr hfew)))
  · exact (execTcpRetransmitTimeout_enabled hon admin hst).trans (congrArg Host.Outcome.next (if_pos hmany))

end Sys2Proof.Machine
end

section
/-! SUPPORT. The commands of the host queues: queues and record rings enabled, descriptors fetched, frames delivered or dropped, and
moderated messages sent. -/

namespace Sys2Proof.Machine

section
variable {s : State}

/-! ### Queues and record rings enabled and disabled (R513, R514, R524) -/

/-- A write of QCFG that the window takes configures the queue by its EN. -/
theorem execQueueEnable_taken {t : Fin 128} {be : BitVec 4} (q : Fin 64) (v : Word) (h : AcceptsView s t be 13) :
    execQueueEnable t q be v s = .next (queueConfigured
      (plainWrite s (identOf t) (winAddr t (0x1000 + q.val * 0x40)) v) t q (bitAt v.toNat 31)) :=
  congrArg Host.Outcome.next (windowWrite_taken h _)

/-- QUEUE_ENABLE and QUEUE_DISABLE are one access: a write of QCFG. -/
theorem execQueueDisable_eq_execQueueEnable (t : Fin 128) (q : Fin 64) (be : BitVec 4) (v : Word) :
    execQueueDisable t q be v s = execQueueEnable t q be v s := rfl

theorem queueConfigured_on (t q : Nat) : queueConfigured s t q true = enableQueue s t q := rfl

theorem queueConfigured_off {t q : Nat} (hst : s.rd (Reg.QSTATUS_STATE t q) ≠ 0) :
    queueConfigured s t q false = disableQueue s t q := if_pos hst

theorem execRecordRingEnable_taken {t : Fin 128} {be : BitVec 4} {v : Word} (r : Fin 16) (h : AcceptsView s t be 13)
    (hen : bitAt v.toNat 31 = true) :
    execRecordRingEnable t r be v s =
      .next (enableRing (plainWrite s (identOf t) (winAddr t (0x2000 + r.val * 0x20)) v) t r) :=
  congrArg Host.Outcome.next ((windowWrite_taken h _).trans (if_pos hen))

/-! ### Transmit descriptors (R516, R517, R539) -/

section
variable {t : Fin 128} {q : Fin 64} {d : TxDesc} {u : State} (hturn : txTurn s = some (t.val, q.val))
  (hst : s.hif.stalled = false) (hrun : pktRuns s = true)
  (hu : u = (if d.retried && d.dmaErr.isNone then transient (txServed s t q) Blk.hif 1 t else txServed s t q))
include hturn hst hrun hu

/-- A descriptor whose fetch failed twice is the DMA error of its read. -/
theorem execTxDescriptor_dmaFailed {e : Fin 4} (he : d.dmaErr = some e) :
    execTxDescriptor t q d s = .next (dmaError u t q (txIndex s t q) e) := by
  subst hu
  unfold execTxDescriptor
  dsimp only
  rw [if_neg (by simp [hturn, hst, hrun]), he]

/-- A fetched descriptor passes the checks of its length, its opcode and its reserved bits, in this order, and is then sent or held. -/
theorem execTxDescriptor_fetched (he : d.dmaErr = none) :
    execTxDescriptor t q d s = .next (
      if d.len = 0 ∨ 16384 < d.len then queueError u t q 1 (txIndex s t q)
      else if 2 < d.op ∨ (d.op ≠ 0 ∧ ¬ d.eop) then queueError u t q 2 (txIndex s t q)
      else if !d.clean then queueError u t q 3 (txIndex s t q)
      else if d.op = 0 then txSend u t q (txIndex s t q) d
      else txHeld u t q (txIndex s t q) d) := by
  subst hu
  unfold execTxDescriptor
  dsimp only
  rw [if_neg (by simp [hturn, hst, hrun]), he]

end

/-! ### Frames that wait for receive descriptors (R522, R537) -/

section
variable {t : Fin 128} {q : Fin 64} {ch : Nat} {f : Frame} {port tc : Nat} {ep : Option Nat} {rest : List HostItem}
  (hw : waiting s t q = .frame ch f port tc ep :: rest)
include hw

theorem execRxDeliver_frame (ds : List RxDesc) (hrun : queueRuns s t q = true) (hst : s.hif.stalled = false) :
    execRxDeliver t q ds s = .next (deliverFrame s t q ds ch f port tc ep) := by
  unfold execRxDeliver
  rw [if_neg (by simp [hrun, hst]), hw]

/-- A frame that waited too long frees its chain, is counted in HOST_DROP, leaves its mark for the next delivery, and is told. -/
theorem execRxWaitExpired_frame :
    execRxWaitExpired t q s = .next (
      let u := dropRef (popWait s t q) ch
      let k := t.val * 64 + q.val
      let gap := if u.hif.gap.contains k then u.hif.gap else k :: u.hif.gap
      tenantCounted { u.inc (Reg.HOST_DROP t q) with hif := { u.hif with gap := gap } } t Blk.hif 0x0111 .warn k q) := by
  unfold execRxWaitExpired
  rw [hw]

end

/-! ### Moderated messages (R531) -/

theorem execItrExpired_due {t : Fin 128} {q : Fin 64} (h : s.hif.itrDue.contains (t.val * 64 + q.val) = true) :
    execItrExpired t q s = .next (msix { s with hif := { s.hif with
      itrDue := s.hif.itrDue.filter (fun x => x != t.val * 64 + q.val)
      itrAt := Tab.put 0 s.hif.itrAt (t.val * 64 + q.val) s.taiNs } } t (s.rd (Reg.QCFG_VEC t q))) :=
  congrArg Host.Outcome.next (if_pos h)

end

/-- Settles O30: each command by its own equation; a descriptor goes through its checks in their order. -/
theorem hostQueueCommandsComplete : Obligations.HostQueueCommandsComplete := by
  unfold Obligations.HostQueueCommandsComplete
  refine ⟨fun t q be v s h => ⟨fun hen => ?_, fun hdis hst => ?_⟩,
    fun t r be v s => execRecordRingEnable_taken r,
    fun t q d s u ix hturn hst hrun hix hu => ⟨fun e he => ?_, fun he => ?_⟩,
    fun t q ds ch f port tc ep rest s hrun hst hw => execRxDeliver_frame hw ds hrun hst,
    fun t q ch f port tc ep rest s => execRxWaitExpired_frame,
    fun t q s => execItrExpired_due⟩
  · have hcfg := execQueueEnable_taken q v h
    rwa [hen, queueConfigured_on] at hcfg
  · have hcfg := (execQueueDisable_eq_execQueueEnable t q be v).trans (execQueueEnable_taken q v h)
    rwa [hdis, queueConfigured_off hst] at hcfg
  · subst hix
    exact execTxDescriptor_dmaFailed hturn hst hrun hu he
  · subst hix
    have hexec := execTxDescriptor_fetched hturn hst hrun hu he
    refine ⟨fun hlen => ?_, fun hmin hmax => ?_⟩
    · exact hexec.trans (congrArg Host.Outcome.next (if_pos hlen))
    have hlen : ¬ (d.len = 0 ∨ 16384 < d.len) := by omega
    rw [if_neg hlen] at hexec
    refine ⟨fun hop => ?_, fun hop heop => ?_⟩
    · exact hexec.trans (congrArg Host.Outcome.next (if_pos (by simpa using hop)))
    have hgood : ¬ (2 < d.op ∨ (d.op ≠ 0 ∧ ¬ d.eop)) := by
      rintro (hbig | ⟨hheld, hmid⟩)
      · omega
      · exact hmid (heop hheld)
    rw [if_neg hgood] at hexec
    refine ⟨fun hclean => ?_, fun hclean hsend => ?_, fun hclean hheld => ?_⟩
    · exact hexec.trans (congrArg Host.Outcome.next (if_pos (by simp [hclean])))
    · exact hexec.trans (congrArg Host.Outcome.next ((if_neg (by simp [hclean])).trans (if_pos hsend)))
    · exact hexec.trans (congrArg Host.Outcome.next ((if_neg (by simp [hclean])).trans (if_neg hheld)))

end Sys2Proof.Machine
end

section
/-! SUPPORT. Owl's commands, and those of the diagnosis: the Gleaner, the self-tests, SRAM errors and the debug port. -/

namespace Sys2Proof.Machine

section
variable {s : State}

/-! ### Owl: the handshake, clocks, rails and its own lockstep (R561, R564, R565, R568) -/

theorem execHandshakeFault_open (r : Fin 3) (hup : domainUp s 1 = true) (hh : s.saf.handshake.isSome = true) :
    execHandshakeFault r s = .next (handshakeFault s (r + 1)) :=
  congrArg Host.Outcome.next (if_neg (by simp [hup, Option.isNone_eq_false_iff.mpr hh]))

section
variable {ppm : Int} (hup : domainUp s 1 = true) (hppm : 80000 < ppm.natAbs)
include hup hppm

theorem execClockCheck_fclk :
    execClockCheck .fclk ppm s =
      .next (safeState (raise s Blk.saf 0x0104 .safety (1 + 2 ^ 32 * unsignedOf 32 ppm)) 8) :=
  if_neg (by simp [hup, hppm])

/-- REFCLK out of its window is told and then lost, where the time base is up and does not run on the backup oscillator yet. -/
theorem execClockCheck_refclk (htim : domainUp s 2 = true) (hb : s.bit Reg.TIM_STATUS_BACKUP = false) :
    execClockCheck .refclk ppm s = .next (
      let u := raise s Blk.saf 0x0104 .fault (2 + 2 ^ 32 * unsignedOf 32 ppm)
      stateAfter u (execRefclkLost u)) :=
  (if_neg (by simp [hup, hppm])).trans (if_neg (by simp [htim, hb]))

end

/-- A rail whose domain is powered is recorded; one that leaves its window is told and has its reaction, once. -/
theorem railSample_powered {r : Nat} (mv lost : Nat) (hup : domainUp s 1 = true) (hp : (railPd r).all (powered s) = true) :
    railSample s r mv lost =
      let u := (s.wr (Reg.SAF_RAIL_MV r) mv).setBit (Reg.SAF_RAIL_FAULT r) (railOut s r mv)
      if !railOut s r mv || s.bit (Reg.SAF_RAIL_FAULT r) then u
      else railReaction (raise u Blk.saf 0x0105 .safety (r + 2 ^ 32 * mv)) r lost := by
  have hany : (railPd r).any (fun d => !powered s d) = false := by
    cases hd : railPd r with
    | none => rfl
    | some d => simpa [hd] using hp
  exact if_neg (by simp [hup, hany])

theorem execOwlLockstepMismatch_first (hup : domainUp s 1 = true) (hl : s.saf.owlLatch = false) :
    execOwlLockstepMismatch s = .next (
      safeState (silentPins { s.wr Reg.SAF_STATUS_OWL_FAULT 1 with saf := { s.saf with owlLatch := true } } true) 20) :=
  if_neg (by simp [hup, hl])

/-! ### A latched L4, Owl's record, injections and heartbeats (R583, R585, R591) -/

/-- Once the snapshot of a latched L4 is written and its delay has passed, L4_ACTION decides whether the block asks for a reset. -/
theorem execL4Action_due {ms : Nat} (lost : Nat) (hup : domainUp s 1 = true) (hl : s.bit Reg.SAF_STATUS_LATCHED = true)
    (hf : s.rd Reg.BBX_STATUS_STATE = 2) (hd : s.bbx.done = true) (hms : s.rd Reg.SAF_CFG_L4_DELAY ≤ ms) :
    execL4Action ms lost s =
      .next (if s.rd Reg.SAF_CFG_L4_ACTION = 1 then resetRequest s 4 scopeWarm 0 lost else s) := by
  simp [execL4Action, hup, hl, hf, hd, hms]

theorem execOwlParamLoad_scanned (hup : domainUp s 1 = true) (hscan : s.bit Reg.GRN_STATUS_SCAN = false) :
    execOwlParamLoad s = .next (match chosenRecord s with
      | some b => paramCheck (loadRecord s b)
      | none => romDefaults s) :=
  congrArg Host.Outcome.next (if_neg (by simp [hup, hscan]))

theorem execSafInject_listed {a : Access} {v : Word} (h : Accepts s a 0x800000 1) (hk : Keyed v)
    (hen : s.bit Reg.SAF_CTRL_INJ_EN = true) (hmin : 1 ≤ fieldOf v 0 4) (hmax : fieldOf v 0 4 ≤ 7) :
    execSafInject a v s = .next (
      raise { s with saf := { s.saf with injectNext := s.saf.injectNext ++ [(fieldOf v 0 4, fieldOf v 4 12)] } }
        Blk.saf 0x0110 .info (fieldOf v 0 4 + 2 ^ 8 * fieldOf v 4 12)) := by
  have hlisted : ¬ (fieldOf v 0 4 = 0 ∨ 7 < fieldOf v 0 4) := by omega
  refine congrArg Host.Outcome.next ((withWrite_taken h _).trans ?_)
  exact (if_neg (by simp [hk, hen])).trans (if_neg hlisted)

theorem execHeartbeat_taken {a : Access} (v : Word) (h : Accepts s a 0x800000 1) : execHeartbeat a v s = .next s :=
  congrArg Host.Outcome.next (withWrite_taken h id)

theorem execMgmtHbLost_timedOut {ms : Nat} (lost : Nat) (hup : domainUp s 1 = true) (hms : s.rd Reg.SAF_HB_CFG_TIMEOUT ≤ ms) :
    execMgmtHbLost ms lost s = .next (resetRequest (raise s Blk.saf 0x010C .warn (ms % 2 ^ 32)) 6 (2 ^ 17) 0 lost) :=
  if_neg (by simp [hup, hms])

end

/-- Settles O32: each command by its own equation; a rail by what its sample shows, a latched L4 by its configured action. -/
theorem owlCommandsComplete : Obligations.OwlCommandsComplete := by
  unfold Obligations.OwlCommandsComplete
  refine ⟨fun r s => execHandshakeFault_open r,
    fun ppm s hup hppm => ⟨execClockCheck_fclk hup hppm, execClockCheck_refclk hup hppm⟩,
    fun r mv lost s hup hp => ⟨fun hout hwas => ?_, fun hin => ?_⟩,
    fun s => execOwlLockstepMismatch_first,
    fun ms lost s hup hl hf hd hms => ⟨fun hreset => ?_, fun hstay => ?_⟩,
    fun s => execOwlParamLoad_scanned,
    fun a v s => execSafInject_listed,
    fun a v s => execHeartbeat_taken v,
    fun ms lost s => execMgmtHbLost_timedOut lost⟩
  · exact congrArg Host.Outcome.next ((railSample_powered mv.toNat lost hup hp).trans (if_neg (by simp [hout, hwas])))
  · exact congrArg Host.Outcome.next ((railSample_powered mv.toNat lost hup hp).trans (if_pos (by simp [hin])))
  · exact (execL4Action_due lost hup hl hf hd hms).trans (congrArg Host.Outcome.next (if_pos hreset))
  · exact (execL4Action_due lost hup hl hf hd hms).trans (congrArg Host.Outcome.next (if_neg hstay))

section
variable {s : State}

/-! ### SAF's commands (R577, R581) -/

section
variable {a : Access} {v : Word} (h : Accepts s a 0x800000 1) (hk : Keyed v)
include h hk

theorem execSafRestore_keyed : execSafRestore a v s = .next { s with saf := { s.saf with restore := true } } :=
  congrArg Host.Outcome.next (safCommand_taken h hk _)

theorem execEnterL4_keyed : execEnterL4 a v s = .next (enterL4 s 0 true) :=
  congrArg Host.Outcome.next (safCommand_taken h hk _)

end

/-! ### The Gleaner and the self-tests (R586–R589) -/

theorem execGleanerPassComplete_up (ms : Nat) (next : List (Fin 80)) (hup : domainUp s 1 = true) :
    execGleanerPassComplete ms next s = .next (
      let u := (s.inc Reg.SAF_GLEAN_PASS).wr Reg.SAF_GLEAN_LAST (min ms 0xFFFFFFFF)
      (next.map Fin.val).foldl bistStart
        (setShed { u.setBit Reg.SAF_STATUS_DIAG_OK (decide (ms ≤ 1000)) with saf := { u.saf with diagShed := false } })) :=
  if_neg (by simp [hup])

/-- A core under test leaves it, retired where the test failed, and the next ones start theirs. -/
theorem execBistComplete_tested {c : Fin 80} (ok : Bool) (next : List (Fin 80)) (hc : s.thr.bist.contains c.val = true) :
    execBistComplete (some c) ok next s = .next (
      let u := { s with thr := { s.thr with bist := s.thr.bist.filter (· != c.val) } }
      (next.map Fin.val).foldl bistStart (if ok then u else retireCore u c 5 0xFFFF)) :=
  congrArg (fun u => Host.Outcome.next ((next.map Fin.val).foldl bistStart u)) (if_pos hc)

theorem execDiagOverdue_late {ms : Nat} (hup : domainUp s 1 = true) (hms : 1500 ≤ ms) :
    execDiagOverdue ms s = .next (
      let u := if s.saf.diagShed then s
        else raise (setShed { s with saf := { s.saf with diagShed := true } }) Blk.saf 0x010A .fault (ms % 2 ^ 32)
      if 3000 ≤ ms then safeState u 22 else u) :=
  if_neg (by simp [hup, hms])

theorem execGleanCheck_compared {n : Fin 1024} (k : Fin 4) {g : Nat × Nat × Nat}
    (hg : s.thr.glean.find? (fun g => g.1 == n.val) = some g) :
    execGleanCheck n k s = .next (
      let u := raise { s with thr := { s.thr with glean := s.thr.glean.erase g } } Blk.saf 0x010B
        (if k.val = 0 then .info else .fault) (n.val + 2 ^ 16 * k.val)
      if k.val = 1 then charge u g.2.1 n else if k.val = 2 then charge u g.2.2 n else u) := by
  unfold execGleanCheck
  rw [hg]

/-! ### SRAM errors (R583) -/

/-- An uncorrectable error spoils its slots; a second one of the same word within a second is ID 15. -/
theorem execSramUncorr_up (word : Nat) (slots : List (Fin 16384)) (hup : domainUp s 18 = true) :
    execSramUncorr word slots s = .next (
      let last := Tab.get 0 s.saf.sramLog word
      let u := (slots.map Fin.val).foldl spoilSlot { s with saf := { s.saf with
        sramLog := Tab.put 0 s.saf.sramLog word (s.taiNs + 1), sramBad := s.saf.sramBad ++ slots.map Fin.val } }
      if decide (0 < last) && decide (s.taiNs < last - 1 + 1000000000) then safeState u 15 else u) :=
  if_neg (by simp [hup])

/-! ### The debug port (R595, R664) -/

theorem execDbgAttached_unclocked (hup : domainUp s 23 = true) (hoff : s.bit Reg.DBG_STATUS_ATTACHED = false) :
    execDbgAttached s = .next (raise (s.wr Reg.DBG_STATUS_ATTACHED 1) Blk.dbg 0x0101 .warn 0) :=
  congrArg Host.Outcome.next (if_neg (by simp [hup, hoff]))

theorem execDbgDetached_up (hup : domainUp s 23 = true) : execDbgDetached s = .next (s.wr Reg.DBG_STATUS_ATTACHED 0) :=
  congrArg Host.Outcome.next (if_pos hup)

end

/-- Settles O33: each command by its own equation; an SRAM error by when its word last failed. -/
theorem diagnosticCommandsComplete : Obligations.DiagnosticCommandsComplete := by
  unfold Obligations.DiagnosticCommandsComplete
  refine ⟨fun a v s h hk => ⟨execSafRestore_keyed h hk, execEnterL4_keyed h hk⟩,
    fun ms next s => execGleanerPassComplete_up ms next,
    fun c next s hc => ⟨execBistComplete_tested true next hc, execBistComplete_tested false next hc⟩,
    fun ms s => execDiagOverdue_late,
    fun n k g s => execGleanCheck_compared k,
    fun word slots s hup => ⟨fun ⟨hlogged, hsoon⟩ => ?_, fun hfirst => ?_⟩,
    fun s hup => ⟨execDbgAttached_unclocked hup, execDbgDetached_up hup⟩⟩
  · exact (execSramUncorr_up word slots hup).trans (congrArg Host.Outcome.next (if_pos (by simp [hlogged, hsoon])))
  · exact (execSramUncorr_up word slots hup).trans (congrArg Host.Outcome.next (if_neg (by simp [hfirst])))

end Sys2Proof.Machine
end

section
/-! SUPPORT. The mailbox and doorbell commands: the lock, messages and doorbells of a channel that is reached, and what they leave
alone. -/

namespace Sys2Proof.Machine

/-! ### What an event and a message leave alone -/

/-- An event changes no memory, buffer, pending value or waiting command. -/
theorem sameMemories_raise (s : State) (block code : Nat) (sev : Sev) (x : Nat) : s.SameMemories (raise s block code sev x) := by
  have h := raise_proj (fun s => (s.grn, s.flash, s.img, s.acq, s.thr, s.mpr, s.slo, s.pkt, s.cry, s.ns, s.pend, s.pending))
    (fun _ _ _ => rfl) (fun _ _ => rfl) (fun _ _ => rfl) s block code sev x
  simpa only [Prod.mk.injEq] using h

/-- A message of a tenant changes a register of its window, or is sent. -/
theorem msix_cases (s : State) (t vec : Nat) :
    (∃ f v, 0x4000000 ≤ f.key ∧ msix s t vec = s.wr f v) ∨ ∃ o, msix s t vec = emit s o := by
  unfold msix
  split
  · exact .inl ⟨_, _, by simp only; omega, rfl⟩
  split
  · exact .inl ⟨_, _, by simp only; omega, rfl⟩
  · exact .inr ⟨_, rfl⟩

/-- Another state has the same events and memories, and the same registers below the tenant windows. -/
def OnlyMessages (s t : State) : Prop :=
  t.events = s.events ∧ s.SameMemories t ∧ ∀ k, k < 0x4000000 → t.reg k = s.reg k

theorem OnlyMessages.refl (s : State) : OnlyMessages s s := ⟨rfl, ⟨rfl, rfl, rfl, rfl, rfl, rfl, rfl, rfl, rfl, rfl, rfl, rfl⟩, fun _ _ => rfl⟩

theorem OnlyMessages.emit {s t : State} (h : OnlyMessages s t) (o : Output) : OnlyMessages s (emit t o) := h

theorem OnlyMessages.msix {s t : State} (h : OnlyMessages s t) (i vec : Nat) : OnlyMessages s (msix t i vec) := by
  obtain ⟨f, v, hf, e⟩ | ⟨o, e⟩ := msix_cases t i vec <;> rw [e]
  · obtain ⟨he, hm, hr⟩ := h
    exact ⟨he, hm, fun k hk => (t.reg_wr_other v (by omega)).trans (hr k hk)⟩
  · exact h.emit o

/-! ### The lock (R601–R603, R605) -/

section
variable {s : State}

section
variable {i : Ident} {ch : Fin 64} {view : Bool} (h : ReachesChannel s i ch view) (hi : i.toNat ≠ 0x104)
include h hi

theorem execMbxLockRead_taken (hp : permitted s ch i = true) :
    execMbxLockRead i ch view s = .next (
      if s.rd (Reg.MBX_LOCK_OWNER ch) = 0 then { s.wr (Reg.MBX_LOCK_OWNER ch) i.toNat with resp := some 0 }
      else { s with resp := some (BitVec.ofNat 32 (s.rd (Reg.MBX_LOCK_OWNER ch))) }) := by
  simp [execMbxLockRead, mbxRead_taken h, hi, hp]

theorem execMbxLockRead_refused (hp : permitted s ch i = false) :
    execMbxLockRead i ch view s = .next { cfgViol s Blk.mbx i (mbxAddr i ch 0x40 view) with
      resp := some (BitVec.ofNat 32 (2 ^ 31 + s.rd (Reg.MBX_LOCK_OWNER ch))) } := by
  simp [execMbxLockRead, mbxRead_taken h, hi, hp]

end

section
variable {a : Access} {ch : Fin 64} {view : Bool} (h : ReachesChannel s a.init ch view) (hb : a.be = 15)
include h hb

theorem execMbxLockRelease_taken (v : Word) :
    execMbxLockRelease a ch v view s = .next (
      if s.rd (Reg.MBX_LOCK_OWNER ch) = a.init.toNat ∧ v.toNat = a.init.toNat then s.wr (Reg.MBX_LOCK_OWNER ch) 0
      else cfgViol s Blk.mbx a.init (mbxAddr a.init ch 0x40 view)) :=
  congrArg Host.Outcome.next (mbxWrite_taken h hb _)

theorem execMbxMsgWrite_taken (n : Fin 16) (v : Word) :
    execMbxMsgWrite a ch n v view s = .next (
      if owns s ch a.init && !s.bit (Reg.MBX_STATUS_FULL ch) then s.setReg (Reg.MBX_MSG ch n).key v
      else s.wr (Reg.MBX_STATUS_ERR_WR ch) 1) :=
  congrArg Host.Outcome.next (mbxWrite_taken h hb _)

end

theorem execLockExpired_held {ch : Fin 64} (htmo : s.rd Reg.MBX_CFG_LOCK_TMO ≠ 0) (ho : s.rd (Reg.MBX_LOCK_OWNER ch) ≠ 0)
    (hf : s.bit (Reg.MBX_STATUS_FULL ch) = false) :
    execLockExpired ch s = .next (raise (s.wr (Reg.MBX_LOCK_OWNER ch) 0) Blk.mbx 0x0101 .warn
      (ch.val + 2 ^ 16 * s.rd (Reg.MBX_LOCK_OWNER ch))) :=
  if_neg (by simp [htmo, ho, hf])

theorem execBindLock_managed {a : Access} {v : Word} (h : Accepts s a 0xB00000 0) (hm : isMgmt a.init = true)
    (hv : fieldOf v 0 1 = 1) : execBindLock a v s = .next (s.wr Reg.MBX_BIND_LOCK_LOCK 1) := by
  simp [execBindLock, withWrite_taken h, hm, hv]

/-! ### Doorbells (R613) -/

theorem execManagerDoorbellWrite_other {a : Access} {t : Fin 128} (v : Word) (h : Accepts s a 0xB00000 0)
    (hm : manages s a.init t = false) : execManagerDoorbellWrite a t v s = .next s := by
  simp [execManagerDoorbellWrite, withWrite_taken h, hm]

theorem execManagerDoorbellWrite_managed {a : Access} {t : Fin 128} (v : Word) (h : Accepts s a 0xB00000 0)
    (hm : manages s a.init t = true) :
    execManagerDoorbellWrite a t v s = .next (
      let old := s.reg (Reg.MBX_DB t).key
      let u := s.setReg (Reg.MBX_DB t).key ((old ||| (v &&& 0xF)) &&& ~~~(v &&& 0xF0))
      if u.bit (Reg.TW_DB_CFG_EN t) then
        (bitList 4 (fieldOf (v &&& ~~~old) 0 4)).foldl (fun s _ => msix s t (s.rd (Reg.TW_DB_CFG_VEC t))) u
      else u) :=
  congrArg Host.Outcome.next ((withWrite_taken h _).trans (if_neg (by simp [hm])))

theorem execInstanceDoorbellWrite_taken {t : Fin 128} {be : BitVec 4} (v : Word) (h : AcceptsView s t be 0) :
    execInstanceDoorbellWrite t be v s = .next (
      let old := s.reg (Reg.MBX_DB t).key
      (bitList 4 (fieldOf (v &&& ~~~old) 4 4)).foldl (fun s _ =>
        if t.val = 0 ∨ s.bit Reg.MBX_DB_ROUTE_MGR then emit s (.mgmtIrq Blk.mbx) else msix s 0 (s.rd Reg.MBX_DB_ROUTE_PF_VEC))
        (s.setReg (Reg.MBX_DB t).key ((old ||| (v &&& 0xF0)) &&& ~~~(v &&& 0xF)))) :=
  congrArg Host.Outcome.next (windowWrite_taken h _)

end

/-- Settles O34: each command by its own equation. -/
theorem mailboxLockCommandsComplete : Obligations.MailboxLockCommandsComplete := by
  unfold Obligations.MailboxLockCommandsComplete
  refine ⟨fun i ch view s h hi hp => ⟨fun ho => ?_, fun ho => ?_⟩, fun a ch v view s h hb ho hv => ?_,
    fun ch s => execLockExpired_held, fun a v s => execBindLock_managed,
    fun a t v s h hm => ⟨fun hen => ?_, fun hen => ?_⟩, fun t be v s => execInstanceDoorbellWrite_taken v⟩
  · exact (execMbxLockRead_taken h hi hp).trans (congrArg Host.Outcome.next (if_pos ho))
  · exact (execMbxLockRead_taken h hi hp).trans (congrArg Host.Outcome.next (if_neg ho))
  · exact (execMbxLockRelease_taken h hb v).trans (congrArg Host.Outcome.next (if_pos ⟨ho, hv⟩))
  · exact (execManagerDoorbellWrite_managed v h hm).trans (congrArg Host.Outcome.next (if_neg (Bool.eq_false_iff.mp hen)))
  · exact (execManagerDoorbellWrite_managed v h hm).trans (congrArg Host.Outcome.next (if_pos hen))

/-! ### Who takes and releases the lock, and who writes the message (R601, R603, R606) -/

/-- An owner in bits [9:0] of a word, below another bit. -/
theorem fieldOf_ofNat_low {x y : Nat} (hx : x < 2 ^ 10) (hy : y % 2 ^ 10 = 0) : fieldOf (BitVec.ofNat 32 (y + x)) 0 10 = x := by
  simp only [fieldOf_eq, BitVec.toNat_ofNat]
  omega

theorem bit31_ofNat (x : Nat) (hx : x < 2 ^ 10) : (BitVec.ofNat 32 (2 ^ 31 + x)).getLsbD 31 = true := by
  have hd : (2 ^ 31 + x) / 2 ^ 31 = 1 := by omega
  simp only [BitVec.getLsbD_ofNat, Nat.testBit_eq_decide_div_mod_eq, hd]
  rfl

/-- Settles O51: a permitted sender's read by whether the lock is free; another reader's read changes the event log and counters only. -/
theorem lockReadFollowsOwnerAndPermission : Obligations.LockReadFollowsOwnerAndPermission := by
  unfold Obligations.LockReadFollowsOwnerAndPermission
  intro i ch view s h hi
  have hlt : s.rd (Reg.MBX_LOCK_OWNER ch) < 2 ^ 10 := fieldOf_lt _ _ _
  have hown : fieldOf (BitVec.ofNat 32 (s.rd (Reg.MBX_LOCK_OWNER ch))) 0 10 = s.rd (Reg.MBX_LOCK_OWNER ch) := by
    simpa using fieldOf_ofNat_low hlt (y := 0) rfl
  cases hp : permitted s ch i with
  | true =>
    by_cases ho : s.rd (Reg.MBX_LOCK_OWNER ch) = 0
    · refine ⟨_, 0, (execMbxLockRead_taken h hi hp).trans (congrArg Host.Outcome.next (if_pos ho)), rfl,
        (OnlyMessages.refl s).2.1, fun hne => absurd ho hne, fun _ => ⟨rfl, fun _ => ⟨rfl, ?_, fun k => s.reg_wr_other _⟩,
        fun hne => absurd ho hne⟩, fun hf => absurd hf (by simp)⟩
      refine (s.rd_wr_same (Reg.MBX_LOCK_OWNER ch) _ (by simp)).trans (Nat.mod_eq_of_lt i.isLt)
    · exact ⟨_, _, (execMbxLockRead_taken h hi hp).trans (congrArg Host.Outcome.next (if_neg ho)), rfl,
        (OnlyMessages.refl s).2.1, fun _ => hown, fun _ => ⟨rfl, fun he => absurd he ho, fun _ => rfl⟩, fun hf => absurd hf (by simp)⟩
  | false =>
    have hviol : fieldOf (BitVec.ofNat 32 (2 ^ 31 + s.rd (Reg.MBX_LOCK_OWNER ch))) 0 10 = s.rd (Reg.MBX_LOCK_OWNER ch) :=
      fieldOf_ofNat_low hlt rfl
    exact ⟨_, _, execMbxLockRead_refused h hi hp, rfl, sameMemories_raise _ _ _ _ _, fun _ => hviol, fun hf => absurd hf (by simp),
      fun _ => ⟨bit31_ofNat _ hlt, hviol,
        raise_rd _ _ _ _ _ (by simp only; omega) (by simp only; omega) (by simp only; omega), rfl⟩⟩

/-- Settles O52: the owner's write of its identity changes LOCK alone, any other the event log and counters. -/
theorem onlyTheOwnerReleasesTheLock : Obligations.OnlyTheOwnerReleasesTheLock := by
  unfold Obligations.OnlyTheOwnerReleasesTheLock
  intro a ch v view s h hb
  by_cases own : s.rd (Reg.MBX_LOCK_OWNER ch) = a.init.toNat ∧ v.toNat = a.init.toNat
  · refine ⟨_, (execMbxLockRelease_taken h hb v).trans (congrArg Host.Outcome.next (if_pos own)), (OnlyMessages.refl s).2.1,
      s.rd_wr_other _ (.inl (by simp only; omega)), fun n => s.rd_wr_other _ (.inl (by simp only; omega)),
      fun _ => ⟨s.rd_wr_same _ _ (by simp), rfl, fun k => s.reg_wr_other _⟩, fun hn => absurd own hn⟩
  · have hk : ∀ g : Fld, 0xB00000 ≤ g.key → g.key < 0xB10000 →
        (cfgViol s Blk.mbx a.init (mbxAddr a.init ch 0x40 view)).rd g = s.rd g := fun g h1 h2 =>
      raise_rd _ _ _ _ _ (by simp only; omega) (by simp only; omega) (by simp only; omega)
    exact ⟨_, (execMbxLockRelease_taken h hb v).trans (congrArg Host.Outcome.next (if_neg own)), sameMemories_raise _ _ _ _ _,
      hk _ (by simp only; omega) (by simp only; omega), fun n => hk _ (by simp only; omega) (by simp only; omega),
      fun hown => absurd hown own, fun _ => ⟨rfl, hk _ (by simp only; omega) (by simp only; omega)⟩⟩

/-- Settles O53: the owner's write of a channel that is not FULL changes the word alone, any other ERR_WR alone. -/
theorem onlyTheOwnerWritesTheMessage : Obligations.OnlyTheOwnerWritesTheMessage := by
  unfold Obligations.OnlyTheOwnerWritesTheMessage
  intro a ch n v view s h hb
  by_cases may : owns s ch a.init = true ∧ s.bit (Reg.MBX_STATUS_FULL ch) = false
  · obtain ⟨ho, hf⟩ := may
    exact ⟨_, (execMbxMsgWrite_taken h hb n v).trans (congrArg Host.Outcome.next (if_pos (by simp [ho, hf]))),
      (OnlyMessages.refl s).2.1, rfl, rfl, fun _ => ⟨s.reg_setReg_same _ _, fun k => s.reg_setReg_other _⟩,
      fun hn => absurd ⟨ho, hf⟩ hn⟩
  · refine ⟨_, (execMbxMsgWrite_taken h hb n v).trans (congrArg Host.Outcome.next (if_neg (by simpa using may))),
      (OnlyMessages.refl s).2.1, rfl, rfl, fun hm => absurd hm may, fun _ => ⟨fun m => s.reg_wr_other _ (by simp only; omega), ?_, ?_,
        fun k => s.reg_wr_other _⟩⟩
    · simp [State.bit, s.rd_wr_same]
    · simp only [State.bit, s.rd_wr_other (f := Reg.MBX_STATUS_ERR_WR ch) (g := Reg.MBX_STATUS_FULL ch) 1 (.inr (by simp))]

/-! ### Whose side a doorbell bit is (R613) -/

/-- The bits of a constant of four ones at `lo`. -/
theorem getLsbD_ones4 {m : Word} {lo : Nat} (hm : m = maskOf lo 4) {i : Nat} (hi : i < 32) :
    m.getLsbD i = (decide (lo ≤ i) && decide (i < lo + 4)) := hm ▸ getLsbD_maskOf lo 4 i hi

/-- The manager's ones set DOWN bits and clear UP bits. -/
theorem managerBits (old v : Word) {i : Nat} (hi : i < 32) :
    ((old ||| (v &&& 0xF)) &&& ~~~(v &&& 0xF0)).getLsbD i =
      (if i < 4 then old.getLsbD i || v.getLsbD i else if i < 8 then old.getLsbD i && !v.getLsbD i else old.getLsbD i) := by
  have h0 := getLsbD_ones4 (m := 0xF) (lo := 0) (by decide) hi
  have h4 := getLsbD_ones4 (m := 0xF0) (lo := 4) (by decide) hi
  simp only [BitVec.getLsbD_and, BitVec.getLsbD_or, BitVec.getLsbD_not, hi, decide_true, Bool.true_and, h0, h4]
  split_ifs with hd hu
  · have : ¬ 4 ≤ i := by omega
    simp [hd, this]
  · have h1 : 4 ≤ i := by omega
    simp [hd, hu, h1]
  · simp [hd, hu]

/-- The tenant's ones set UP bits and clear DOWN bits. -/
theorem instanceBits (old v : Word) {i : Nat} (hi : i < 32) :
    ((old ||| (v &&& 0xF0)) &&& ~~~(v &&& 0xF)).getLsbD i =
      (if i < 4 then old.getLsbD i && !v.getLsbD i else if i < 8 then old.getLsbD i || v.getLsbD i else old.getLsbD i) := by
  have h0 := getLsbD_ones4 (m := 0xF) (lo := 0) (by decide) hi
  have h4 := getLsbD_ones4 (m := 0xF0) (lo := 4) (by decide) hi
  simp only [BitVec.getLsbD_and, BitVec.getLsbD_or, BitVec.getLsbD_not, hi, decide_true, Bool.true_and, h0, h4]
  split_ifs with hd hu
  · have : ¬ 4 ≤ i := by omega
    simp [hd, this]
  · have h1 : 4 ≤ i := by omega
    simp [hd, hu, h1]
  · simp [hd, hu]

/-- What the bits of MBX_DB are after its write, and after the messages that follow it, which leave it as it is. -/
theorem doorbell_told {s u : State} {t : Fin 128} {w : Word} {b : Nat → Bool} (h : OnlyMessages (s.setReg (Reg.MBX_DB t).key w) u)
    (hw : ∀ i, i < 32 → w.getLsbD i = b i) :
    u.events = s.events ∧ s.SameMemories u ∧ ∀ i, i < 32 → (u.reg (Reg.MBX_DB t).key).getLsbD i = b i := by
  obtain ⟨he, hm, hr⟩ := h
  have hdb : u.reg (Reg.MBX_DB t).key = w := (hr _ (by simp only; omega)).trans (s.reg_setReg_same _ w)
  exact ⟨he, hm, fun i hi => (congrArg (·.getLsbD i) hdb).trans (hw i hi)⟩

/-- Settles O54: the register takes the bits of its side, and the messages of the rising bits leave it as it is. -/
theorem doorbellBitsFollowTheirSide : Obligations.DoorbellBitsFollowTheirSide := by
  unfold Obligations.DoorbellBitsFollowTheirSide
  refine ⟨fun a t v s h => ⟨execManagerDoorbellWrite_other v h, fun hm => ⟨_, execManagerDoorbellWrite_managed v h hm, ?_⟩⟩,
    fun t be v s h => ⟨_, execInstanceDoorbellWrite_taken v h, ?_⟩⟩
  · refine doorbell_told ?_ fun i => managerBits _ v
    dsimp only
    split
    · exact List.foldlRecOn _ _ (OnlyMessages.refl _) fun u hu _ _ => hu.msix _ _
    · exact OnlyMessages.refl _
  · refine doorbell_told (List.foldlRecOn _ _ (OnlyMessages.refl _) fun u hu _ _ => ?_) fun i => instanceBits _ v
    split
    · exact hu.emit _
    · exact hu.msix _ _

end Sys2Proof.Machine
end

section
/-! SUPPORT. The messages of the mailboxes, and what the mailbox and the UART commands leave alone. -/

namespace Sys2Proof.Machine

/-! ### Messages (R606–R610) -/

section
variable {s : State} {ch : Fin 64} {view : Bool}

section
variable {a : Access} {v : Word} (h : ReachesChannel s a.init ch view) (hb : a.be = 15)
include h hb

theorem execMbxSend_taken (hv : fieldOf v 0 1 = 1) :
    execMbxSend a ch v view s = .next (
      if owns s ch a.init && !s.bit (Reg.MBX_STATUS_FULL ch) then
        let k := (Reg.MBX_MSG ch 0).key
        let u := s.setReg k (withField (s.reg k) 16 10 a.init.toNat)
        let u := (u.wr (Reg.MBX_STATUS_FULL ch) 1).wr (Reg.MBX_STATUS_ACKED ch) 0
        notifyReceiver (u.used.wr (Reg.MBX_ACK_CODE ch) u.free.toNat) ch
      else s.wr (Reg.MBX_STATUS_ERR_SEND ch) 1) :=
  congrArg Host.Outcome.next ((mbxWrite_taken h hb _).trans (if_neg (by simp [hv])))

theorem execMbxAck_ended (hr : s.rd (Reg.MBX_BIND_RECEIVER ch) = a.init.toNat) (hv : fieldOf v 0 16 < 0xFFFE)
    (hm : s.bit (Reg.MBX_BIND_MODE ch) = false) (hf : s.bit (Reg.MBX_STATUS_FULL ch) = true) :
    execMbxAck a ch v view s = .next (endMessage s ch (some (fieldOf v 0 16))) := by
  refine congrArg Host.Outcome.next ((mbxWrite_taken h hb _).trans ?_)
  exact (if_neg (not_not.mpr hr)).trans ((if_neg (by omega)).trans (if_neg (by simp [hm, hf])))

end

theorem execMbxPop_ended {i : Ident} (h : ReachesChannel s i ch view) (hm : s.bit (Reg.MBX_BIND_MODE ch) = true)
    (hr : s.rd (Reg.MBX_BIND_RECEIVER ch) = i.toNat) (hf : s.bit (Reg.MBX_STATUS_FULL ch) = true) :
    execMbxPop i ch view s = .next { endMessage s ch none with resp := some (s.reg (Reg.MBX_MSG ch 0).key) } :=
  congrArg Host.Outcome.next ((mbxRead_taken h _).trans (if_pos (by simp [hm, hr, hf])))

end

/-- Settles O35: each command by its own equation; a write and a SEND by whether the owner finds the channel not FULL. -/
theorem mailboxMessageCommandsComplete : Obligations.MailboxMessageCommandsComplete := by
  unfold Obligations.MailboxMessageCommandsComplete
  refine ⟨fun a ch n v view s h hb => ⟨fun ho => ?_, fun ho => ?_⟩,
    fun a ch v view s h hb hv => ⟨fun ho => ?_, fun ho => ?_⟩,
    fun a ch v view s h hb hr hv hm hf => execMbxAck_ended h hb hr hv hm hf,
    fun i ch view s h hm hr hf => execMbxPop_ended h hm hr hf⟩
  · exact (execMbxMsgWrite_taken h hb n v).trans (congrArg Host.Outcome.next (if_pos ho))
  · exact (execMbxMsgWrite_taken h hb n v).trans (congrArg Host.Outcome.next (if_neg (Bool.eq_false_iff.mp ho)))
  · exact (execMbxSend_taken h hb hv).trans (congrArg Host.Outcome.next (if_pos ho))
  · exact (execMbxSend_taken h hb hv).trans (congrArg Host.Outcome.next (if_neg (Bool.eq_false_iff.mp ho)))

/-! ### What a family of commands leaves alone -/

/-- The parts of a state that neither the mailbox commands nor the UART commands have a hand in. -/
abbrev State.others (s : State) :=
  ((s.grn, s.flash, s.img, s.acq, s.thr, s.mpr, s.slo, s.pkt, s.cry, s.ns, s.pend, s.pending),
    s.iic, s.spm, s.pnl, s.clm, s.mov, s.tim)

/-- Another state has the others' parts as they were, and every register below the tenant windows outside `own` but the counters
of the black box. -/
def ChangesOnly (own : Nat → Prop) (s t : State) : Prop :=
  t.others = s.others ∧ ∀ k, k < 0x4000000 → ¬ own k → k ≠ Reg.BBX_FROZEN_DROP.key → k ≠ Reg.BBX_STATUS_MISSED_SAFETY.key →
    k ≠ Reg.BBX_LOST.key → t.reg k = s.reg k

namespace ChangesOnly

variable {own : Nat → Prop} {s t : State}

theorem refl (own : Nat → Prop) (s : State) : ChangesOnly own s s := ⟨rfl, fun _ _ _ _ _ _ => rfl⟩

theorem setReg (h : ChangesOnly own s t) {k : Nat} (v : Word) (hk : own k ∨ 0x4000000 ≤ k) : ChangesOnly own s (t.setReg k v) := by
  obtain ⟨ho, hr⟩ := h
  refine ⟨ho, fun l hl hn h1 h2 h3 => (t.reg_setReg_other v ?_).trans (hr l hl hn h1 h2 h3)⟩
  rintro rfl
  exact hk.elim hn (by omega)

theorem wr (h : ChangesOnly own s t) (f : Fld) (v : Nat) (hk : own f.key) : ChangesOnly own s (t.wr f v) :=
  h.setReg _ (.inl hk)

theorem raise (h : ChangesOnly own s t) (block code : Nat) (sev : Sev) (x : Nat) : ChangesOnly own s (raise t block code sev x) := by
  obtain ⟨ho, hr⟩ := h
  exact ⟨(raise_proj State.others (fun _ _ _ => rfl) (fun _ _ => rfl) (fun _ _ => rfl) _ _ _ _ _).trans ho,
    fun l hl hn h1 h2 h3 => (raise_reg _ _ _ _ _ h1 h2 h3).trans (hr l hl hn h1 h2 h3)⟩

end ChangesOnly

/-! ### The mailbox commands -/

/-- The registers of the MBX block. -/
abbrev mbxBlock (k : Nat) : Prop := 0xB00000 ≤ k ∧ k < 0xB80000

/-- What a mailbox command that starts in `s` keeps. -/
abbrev MailboxOnly (s t : State) : Prop := ChangesOnly mbxBlock s t ∧ t.uar = s.uar

namespace MailboxOnly

variable {s t : State}

theorem setReg (h : MailboxOnly s t) (k : Nat) (v : Word) (hk : mbxBlock k) : MailboxOnly s (t.setReg k v) :=
  ⟨h.1.setReg v (.inl hk), h.2⟩

theorem wr (h : MailboxOnly s t) (f : Fld) (v : Nat) (hk : mbxBlock f.key) : MailboxOnly s (t.wr f v) := h.setReg _ _ hk

theorem undisturbed (s : State) : Undisturbed (MailboxOnly s) where
  raise _ _ _ _ h := ⟨h.1.raise _ _ _ _, by simpa using h.2⟩
  limits _ h := h
  resp _ h := h
  used h := h
  emit _ h := h
  window _ _ hf h := ⟨h.1.setReg _ (.inr hf), h.2⟩

theorem notify (h : MailboxOnly s t) (c i en vec : Nat) : MailboxOnly s (notify t c i en vec) := by
  unfold Machine.notify
  split
  · split
    · exact (undisturbed s).msix h _ _
    · exact h
  split
  · exact h
  split
  · exact h
  split
  · exact h
  · exact h

theorem endMessage (h : MailboxOnly s t) (c : Fin 64) (code : Option Nat) : MailboxOnly s (endMessage t c code) := by
  have hs := (h.wr (Reg.MBX_STATUS_FULL c) 0 (by simp only; omega)).wr (Reg.MBX_STATUS_ACKED c) 1 (by simp only; omega)
  cases code with
  | none => exact hs.notify _ _ _ _
  | some x => exact (hs.wr (Reg.MBX_ACK_CODE c) x (by simp only; omega)).notify _ _ _ _

end MailboxOnly

section
variable (s : State)

theorem mailboxOnly_refl : MailboxOnly s s := ⟨.refl _ _, rfl⟩

theorem mailboxOnly_lockRead (i : Ident) (c : Fin 64) (view : Bool) : ∃ t, execMbxLockRead i c view s = .next t ∧ MailboxOnly s t := by
  have h := mailboxOnly_refl s
  have hU := MailboxOnly.undisturbed s
  refine ⟨_, rfl, hU.mbxRead h _ _ _ _ ?_⟩
  dsimp only
  split
  · exact h
  split
  · exact hU.resp _ (hU.cfgViol h _ _ _)
  split
  · exact h.wr _ _ (by simp only; omega)
  · exact h

theorem mailboxOnly_lockRelease (a : Access) (c : Fin 64) (v : Word) (view : Bool) :
    ∃ t, execMbxLockRelease a c v view s = .next t ∧ MailboxOnly s t := by
  have h := mailboxOnly_refl s
  have hU := MailboxOnly.undisturbed s
  refine ⟨_, rfl, hU.mbxWrite h _ _ _ _ ?_⟩
  split
  · exact h.wr _ _ (by simp only; omega)
  · exact hU.cfgViol h _ _ _

theorem mailboxOnly_lockExpired (c : Fin 64) : ∃ t, execLockExpired c s = .next t ∧ MailboxOnly s t := by
  have h := mailboxOnly_refl s
  unfold execLockExpired
  dsimp only
  split
  · exact ⟨_, rfl, h⟩
  · exact ⟨_, rfl, (MailboxOnly.undisturbed s).raise _ _ _ _ (h.wr _ _ (by simp only; omega))⟩

theorem mailboxOnly_msgWrite (a : Access) (c : Fin 64) (n : Fin 16) (v : Word) (view : Bool) :
    ∃ t, execMbxMsgWrite a c n v view s = .next t ∧ MailboxOnly s t := by
  have h := mailboxOnly_refl s
  refine ⟨_, rfl, (MailboxOnly.undisturbed s).mbxWrite h _ _ _ _ ?_⟩
  dsimp only
  split
  · exact h.setReg _ _ (by omega)
  · exact h.wr _ _ (by simp only; omega)

theorem mailboxOnly_send (a : Access) (c : Fin 64) (v : Word) (view : Bool) :
    ∃ t, execMbxSend a c v view s = .next t ∧ MailboxOnly s t := by
  have h := mailboxOnly_refl s
  refine ⟨_, rfl, (MailboxOnly.undisturbed s).mbxWrite h _ _ _ _ ?_⟩
  dsimp only
  split
  · exact h
  split
  · apply MailboxOnly.notify
    refine MailboxOnly.wr ((MailboxOnly.undisturbed s).used (MailboxOnly.wr (MailboxOnly.wr ?_ _ _ (by simp only; omega)) _ _
      (by simp only; omega))) _ _ (by simp only; omega)
    exact h.setReg _ _ (by omega)
  · exact h.wr _ _ (by simp only; omega)

theorem mailboxOnly_ack (a : Access) (c : Fin 64) (v : Word) (view : Bool) :
    ∃ t, execMbxAck a c v view s = .next t ∧ MailboxOnly s t := by
  have h := mailboxOnly_refl s
  have hU := MailboxOnly.undisturbed s
  refine ⟨_, rfl, hU.mbxWrite h _ _ _ _ ?_⟩
  dsimp only
  split
  · exact h
  split
  · exact hU.cfgViol h _ _ _
  split
  · exact h
  · exact h.endMessage _ _

theorem mailboxOnly_pop (i : Ident) (c : Fin 64) (view : Bool) : ∃ t, execMbxPop i c view s = .next t ∧ MailboxOnly s t := by
  have h := mailboxOnly_refl s
  refine ⟨_, rfl, (MailboxOnly.undisturbed s).mbxRead h _ _ _ _ ?_⟩
  dsimp only
  split
  · exact (MailboxOnly.undisturbed s).resp _ (h.endMessage c none)
  · exact h

theorem mailboxOnly_bindLock (a : Access) (v : Word) : ∃ t, execBindLock a v s = .next t ∧ MailboxOnly s t := by
  have h := mailboxOnly_refl s
  have hU := MailboxOnly.undisturbed s
  refine ⟨_, rfl, hU.withWrite h _ _ _ _ _ ?_⟩
  split
  · exact hU.cfgViol h _ _ _
  split
  · exact h.wr _ _ (by simp only; omega)
  · exact h

theorem mailboxOnly_managerDoorbell (a : Access) (t : Fin 128) (v : Word) :
    ∃ u, execManagerDoorbellWrite a t v s = .next u ∧ MailboxOnly s u := by
  have h := mailboxOnly_refl s
  have hU := MailboxOnly.undisturbed s
  refine ⟨_, rfl, hU.withWrite h _ _ _ _ _ ?_⟩
  split
  · exact h
  have hd : ∀ w, MailboxOnly s (s.setReg (Reg.MBX_DB t).key w) := fun w => h.setReg _ w (by simp only; omega)
  dsimp only
  split
  · exact List.foldlRecOn _ _ (hd _) fun u hu _ _ => hU.msix hu _ _
  · exact hd _

theorem mailboxOnly_instanceDoorbell (t : Fin 128) (be : BitVec 4) (v : Word) :
    ∃ u, execInstanceDoorbellWrite t be v s = .next u ∧ MailboxOnly s u := by
  have h := mailboxOnly_refl s
  have hU := MailboxOnly.undisturbed s
  refine ⟨_, rfl, hU.windowWrite h _ _ _ _ ?_⟩
  refine List.foldlRecOn _ _ (h.setReg _ _ (by simp only; omega)) fun u hu _ _ => ?_
  split
  · exact hu
  · exact hU.msix hu _ _

/-- Every mailbox and doorbell command answers a state that differs in the MBX block only. -/
theorem mailboxOnly_exec {c : Instr} (hc : mailboxCommand c = true) : ∃ t, exec c s = .next t ∧ MailboxOnly s t := by
  unfold mailboxCommand at hc
  split at hc
  · exact mailboxOnly_lockRead s _ _ _
  · exact mailboxOnly_lockRelease s _ _ _ _
  · exact mailboxOnly_msgWrite s _ _ _ _ _
  · exact mailboxOnly_send s _ _ _ _
  · exact mailboxOnly_ack s _ _ _ _
  · exact mailboxOnly_pop s _ _ _
  · exact mailboxOnly_lockExpired s _
  · exact mailboxOnly_bindLock s _ _
  · exact mailboxOnly_managerDoorbell s _ _ _
  · exact mailboxOnly_instanceDoorbell s _ _ _
  · exact absurd hc (by decide)

end

/-- Settles O56: `mailboxOnly_exec`, part by part. -/
theorem mailboxCommandsChangeTheirOwnStateOnly : Obligations.MailboxCommandsChangeTheirOwnStateOnly := by
  unfold Obligations.MailboxCommandsChangeTheirOwnStateOnly
  intro c s t hc ht
  obtain ⟨u, hu, ⟨ho, hr⟩, huar⟩ := mailboxOnly_exec s hc
  cases hu.symm.trans ht
  obtain ⟨hm, hiic, hspm, hpnl, hclm, hmov, htim⟩ := by simpa only [Prod.mk.injEq] using ho
  exact ⟨hm, huar, hiic, hspm, hpnl, hclm, hmov, htim, fun k hk ho => hr k hk (by omega)⟩

/-! ### The UART commands -/

/-- The registers of UART `u`. -/
abbrev uartRegs (u : Fin 4) (k : Nat) : Prop := 0xA60000 + u.val * 0x100 ≤ k ∧ k < 0xA60000 + u.val * 0x100 + 0x100

/-- What a command of UART `u` that starts in `s` keeps. -/
abbrev UartOnly (u : Fin 4) (s t : State) : Prop :=
  ChangesOnly (uartRegs u) s t ∧ t.mbx = s.mbx ∧ ∀ w : Fin 4, w ≠ u → uart t w = uart s w

namespace UartOnly

variable {u : Fin 4} {s t : State}

theorem wr (h : UartOnly u s t) (f : Fld) (v : Nat) (hk : uartRegs u f.key) : UartOnly u s (t.wr f v) :=
  ⟨h.1.wr f v hk, h.2⟩

theorem setUart (h : UartOnly u s t) (x : Uart) : UartOnly u s (setUart t u x) := by
  obtain ⟨hr, hm, hu⟩ := h
  have hx : UartOnly u s { t with uar := Tab.put {} t.uar u x } :=
    ⟨hr, hm, fun w hw => (uart_setUart_other t x (fun e => hw (Fin.ext e))).trans (hu w hw)⟩
  exact ((hx.wr (Reg.UAR_STATUS_RX_CNT u) _ (by simp only; omega)).wr (Reg.UAR_STATUS_TX_CNT u) _ (by simp only; omega)).wr
    (Reg.UAR_STATUS_TX_EMPTY u) _ (by simp only; omega)

theorem undisturbed (u : Fin 4) (s : State) : Undisturbed (UartOnly u s) where
  raise _ _ _ _ h := ⟨h.1.raise _ _ _ _,
    (raise_proj State.mbx (fun _ _ _ => rfl) (fun _ _ => rfl) (fun _ _ => rfl) _ _ _ _ _).trans h.2.1, by simpa [uart] using h.2.2⟩
  limits _ h := h
  resp _ h := h
  used h := h
  emit _ h := h
  window _ _ hf h := ⟨h.1.setReg _ (.inr hf), h.2⟩

theorem uartIrq (h : UartOnly u s t) (cause : Fld) : UartOnly u s (uartIrq t u cause) := by
  unfold Machine.uartIrq
  split
  · exact (undisturbed u s).emit _ ((undisturbed u s).msix h _ _)
  · exact h

theorem uartOverrun (h : UartOnly u s t) : UartOnly u s (uartOverrun t u) := by
  have hi : UartOnly u s (t.inc (Reg.UAR_OVERRUN u)) := h.wr _ _ (by simp only; omega)
  unfold Machine.uartOverrun
  dsimp only
  split
  · exact ((undisturbed u s).raiseLimited hi _ _ _ _ _).setUart _
  · exact hi.setUart _

theorem uartKick (h : UartOnly u s t) : UartOnly u s (uartKick t u) := by
  unfold Machine.uartKick
  dsimp only
  split
  · split
    · have hd : UartOnly u s (if t.bit (Reg.UAR_CFG_DE_EN u) = true then emit t (.uartDe u true (t.rd (Reg.UAR_DE_LEAD u))) else t) := by
        split
        · exact (undisturbed u s).emit _ h
        · exact h
      have hw := fun b x => UartOnly.wr ((undisturbed u s).emit (.uart u b) (hd.setUart x)) (Reg.UAR_STATUS_IDLE u) 0
        (by simp only; omega)
      split
      · exact (hw _ _).uartIrq _
      · exact hw _ _
    · exact h
  · exact h

end UartOnly

section
variable (u : Fin 4) {s t : State}

theorem uartOnly_refl (s : State) : UartOnly u s s := ⟨.refl _ _, rfl, fun _ _ => rfl⟩

variable {u} (h : UartOnly u s t)
include h

/-- A counter advances where an error was seen. -/
theorem uartOnly_countIf (b : Bool) (f : Fld) (hf : uartRegs u f.key) : UartOnly u s (if b = true then t.inc f else t) := by
  split
  · exact h.wr _ _ hf
  · exact h

/-- A received word joins the FIFO where it has room, and is lost where it has none. -/
theorem uartOnly_received (x : Uart) (cause : Fld) :
    ∃ w, (if 64 ≤ (uart t u).rx.length then Host.Outcome.next (uartOverrun t u)
      else .next (uartIrq (setUart t u x) u cause) : Out) = .next w ∧ UartOnly u s w := by
  split
  · exact ⟨_, rfl, h.uartOverrun⟩
  · exact ⟨_, rfl, (h.setUart _).uartIrq _⟩

end

section
variable (u : Fin 4) (s : State)

theorem uartOnly_frameReceive (f : UartFrame) : ∃ t, execUartFrameReceive u f s = .next t ∧ UartOnly u s t := by
  have h := uartOnly_refl u s
  unfold execUartFrameReceive
  dsimp only
  split
  · exact ⟨_, rfl, h⟩
  split
  · exact ⟨_, rfl, h⟩
  split
  · exact ⟨_, rfl, h.wr _ _ (by simp only; omega)⟩
  refine uartOnly_received (UartOnly.wr (UartOnly.setUart (uartOnly_countIf (uartOnly_countIf ?_ _ _ ?_) _ _ ?_) _) _ _ ?_) _ _
  · split
    · exact h
    · exact h.wr _ _ (by simp only; omega)
  · simp only; omega
  · simp only; omega
  · simp only; omega

theorem uartOnly_dataRead (i : Ident) : ∃ t, execUartDataRead i u s = .next t ∧ UartOnly u s t := by
  have h := uartOnly_refl u s
  have hU := UartOnly.undisturbed u s
  unfold execUartDataRead
  dsimp only
  split
  · exact ⟨_, rfl, hU.resp _ (hU.cfgViol (hU.used h) _ _ _)⟩
  split
  · exact ⟨_, rfl, hU.resp _ (hU.isoErr h _ _ _ _)⟩
  split
  · exact ⟨_, rfl, hU.resp _ (hU.cfgViol (hU.used h) _ _ _)⟩
  split
  · exact ⟨_, rfl, hU.resp _ h⟩
  · exact ⟨_, rfl, hU.resp _ (h.setUart _)⟩

theorem uartOnly_dataWrite (a : Access) (v : Word) : ∃ t, execUartDataWrite a u v s = .next t ∧ UartOnly u s t := by
  have h := uartOnly_refl u s
  have hU := UartOnly.undisturbed u s
  refine ⟨_, rfl, hU.withWrite h _ _ _ _ _ ?_⟩
  dsimp only
  split
  · exact h
  split
  · exact hU.cfgViol h _ _ _
  split
  · exact h.wr _ _ (by simp only; omega)
  · exact (h.setUart _).uartKick

theorem uartOnly_txComplete : ∃ t, execUartTxComplete u s = .next t ∧ UartOnly u s t := by
  have h := uartOnly_refl u s
  have hU := UartOnly.undisturbed u s
  unfold execUartTxComplete
  dsimp only
  split
  · exact ⟨_, rfl, h⟩
  · refine ⟨_, rfl, UartOnly.setUart ?_ _⟩
    split
    · exact hU.emit _ h
    · exact h
  · have hw := fun b x => hU.emit (.uart u b) (h.setUart x)
    refine ⟨_, rfl, ?_⟩
    split
    · exact (hw _ _).uartIrq _
    · exact hw _ _

theorem uartOnly_modbusEom (ns : Nat) : ∃ t, execModbusEom ⟨u, ns⟩ s = .next t ∧ UartOnly u s t := by
  have h := uartOnly_refl u s
  unfold execModbusEom
  dsimp only
  split
  · exact ⟨_, rfl, h⟩
  · exact ⟨_, rfl, (UartOnly.uartIrq ((h.setUart _).wr (Reg.UAR_STATUS_IDLE u) 1 (by simp only; omega)) _).uartKick⟩

/-- Every UART command answers a state that differs in the registers and FIFOs of one UART only. -/
theorem uartOnly_exec {c : Instr} (hc : uartCommand c = true) : ∃ u t, exec c s = .next t ∧ UartOnly u s t := by
  unfold uartCommand at hc
  split at hc
  · exact ⟨_, uartOnly_frameReceive _ s _⟩
  · exact ⟨_, uartOnly_dataRead _ s _⟩
  · exact ⟨_, uartOnly_dataWrite _ s _ _⟩
  · exact ⟨_, uartOnly_txComplete _ s⟩
  · exact ⟨_, uartOnly_modbusEom _ s _⟩
  · exact absurd hc (by decide)

end

/-- Settles O57: `uartOnly_exec`, part by part; the registers of two UARTs lie apart. -/
theorem uartCommandsChangeTheirOwnStateOnly : Obligations.UartCommandsChangeTheirOwnStateOnly := by
  unfold Obligations.UartCommandsChangeTheirOwnStateOnly
  intro c s t hc ht
  obtain ⟨u, t', hu, ⟨ho, hr⟩, hmbx, huar⟩ := uartOnly_exec s hc
  cases hu.symm.trans ht
  obtain ⟨hm, hiic, hspm, hpnl, hclm, hmov, htim⟩ := by simpa only [Prod.mk.injEq] using ho
  refine ⟨hm, hmbx, hiic, hspm, hpnl, hclm, hmov, htim, fun k hk ho => hr k hk (by omega), u, fun w hw => ⟨huar w hw, fun o hlt => ?_⟩⟩
  have hv : w.val ≠ u.val := fun e => hw (Fin.ext e)
  exact hr _ (by omega) (by omega) (by simp only; omega) (by simp only; omega) (by simp only; omega)

end Sys2Proof.Machine
end

section
/-! SUPPORT. One step of the block, and the accesses that stop it. -/

namespace Sys2Proof.Machine

/-- Settles O1: `step` by the queue's head. -/
theorem stepRunsTheFrontCommand : Obligations.StepRunsTheFrontCommand := by
  unfold Obligations.StepRunsTheFrontCommand
  intro c rest s hp
  unfold step
  rw [hp]

/-- Settles O2: `step` on the empty queue. -/
theorem emptyQueueIdles : Obligations.EmptyQueueIdles := by
  unfold Obligations.EmptyQueueIdles
  intro s hp
  unfold step
  rw [hp]

/-- Settles O55: a command without an address answers; one with an address answers where its place is reached, and faults with
the address where it is not. -/
theorem onlyAnAbsentAddressStopsTheBlock : Obligations.OnlyAnAbsentAddressStopsTheBlock := by
  unfold Obligations.OnlyAnAbsentAddressStopsTheBlock
  intro c s
  obtain ⟨hplain, hreached, habsent⟩ := everyCommandAnswers
  cases hc : addressOf c with
  | none => exact .inl (hplain c s hc)
  | some x =>
    obtain ⟨i, addr⟩ := x
    cases hr : reach i addr with
    | some p => exact .inl (hreached c s i addr p hc hr)
    | none =>
      refine .inr ⟨i, addr, habsent c s i addr hc hr, hr, ?_⟩
      obtain ⟨a, v, hi, e⟩ | ⟨r, hi, e⟩ | ⟨r, hi, e⟩ | ⟨a, d, hi, e⟩ | ⟨a, hi, e⟩ := addressOf_eq_some hc
      · exact .inl ⟨a, v, e, hi⟩
      · exact .inr (.inl ⟨r, .inl e, hi⟩)
      · exact .inr (.inl ⟨r, .inr e, hi⟩)
      · exact .inr (.inr (.inl ⟨a, d, e, hi⟩))
      · exact .inr (.inr (.inr ⟨a, e, hi⟩))

end Sys2Proof.Machine
end

section
/-! SUPPORT. The commands of the black box. -/

namespace Sys2Proof.Machine

section
variable {s : State}

/-! ### Entries, the freeze and snapshots (R615, R618, R620) -/

theorem execBbxEntryWrite_front {e : Event} {rest : List Event} (h : s.bbx.queue = e :: rest) :
    execBbxEntryWrite s = .next (recordEvent (popEvent s) e) := by
  unfold execBbxEntryWrite
  rw [h]

theorem execPostTimeout_triggered (h : s.rd Reg.BBX_STATUS_STATE = 1) : execPostTimeout s = .next (freezeAfter s) := if_pos h

/-- The state once the entries of a snapshot are programmed, its record and its event are written, and the directory is tidy. -/
def snapshotWritten (s : State) (x : Snap) : State :=
  let u := appendDir (gProgram s (slotBase x.slot) x.data) dirSnapshot x.slot x.cause x.seq x.time x.first x.after
  let u := (u.wr Reg.BBX_STATUS_SNAP 2).wr Reg.BBX_STATUS_LAST_SLOT x.slot
  let u := showGrn { u with bbx := { u.bbx with snap := none, done := u.bbx.done || x.cause != 3 } }
  tidyDir (raise u Blk.bbx 0x0102 .info (x.slot + 2 ^ 8 * x.cause + 2 ^ 16 * x.first + 2 ^ 32 * (nextCount u - 1)))

/-- Without OVERWRITE, only a freeze that waited for a command's snapshot follows it. -/
theorem execBbxSnapshot_written {x : Snap} (h : s.bbx.snap = some x)
    (ho : (snapshotWritten s x).bit Reg.BBX_CFG_OVERWRITE = false) :
    execBbxSnapshot s = (let u := snapshotWritten s x
      if u.rd Reg.BBX_STATUS_STATE = 2 && !u.bbx.done then .next (startSnapshot u (if u.bbx.byFail then 2 else 1)) else .next u) := by
  have hstay : ∀ y : State, (if (snapshotWritten s x).bit Reg.BBX_CFG_OVERWRITE &&
      (snapshotWritten s x).rd Reg.BBX_STATUS_ERASED == 0 then y else snapshotWritten s x) = snapshotWritten s x := fun y =>
    if_neg (by simp [ho])
  unfold execBbxSnapshot
  rw [h]
  exact congrArg (fun u : State => if u.rd Reg.BBX_STATUS_STATE = 2 && !u.bbx.done then
    (Host.Outcome.next (startSnapshot u (if u.bbx.byFail then 2 else 1)) : Out) else .next u) (hstay _)

theorem execBbxSnapshot_ended {x : Snap} (h : s.bbx.snap = some x) (ho : (snapshotWritten s x).bit Reg.BBX_CFG_OVERWRITE = false)
    (hend : (snapshotWritten s x).rd Reg.BBX_STATUS_STATE ≠ 2 ∨ (snapshotWritten s x).bbx.done = true) :
    execBbxSnapshot s = .next (snapshotWritten s x) :=
  (execBbxSnapshot_written h ho).trans (if_neg (by rcases hend with hf | hd <;> simp [*]))

theorem execBbxSnapshot_frozen {x : Snap} (h : s.bbx.snap = some x) (ho : (snapshotWritten s x).bit Reg.BBX_CFG_OVERWRITE = false)
    (hf : (snapshotWritten s x).rd Reg.BBX_STATUS_STATE = 2) (hd : (snapshotWritten s x).bbx.done = false) :
    execBbxSnapshot s = .next (startSnapshot (snapshotWritten s x) (if (snapshotWritten s x).bbx.byFail then 2 else 1)) :=
  (execBbxSnapshot_written h ho).trans (if_pos (by simp [hf, hd]))

/-! ### Commands (R626–R628) -/

section
variable {a : Access} {v : Word} (h : Accepts s a 0xB80000 0) (hk : Keyed v) (hs : s.bbx.snap = none)
include h hk hs

theorem execBbxUnfreeze_frozen (hf : s.rd Reg.BBX_STATUS_STATE = 2) (hd : s.bbx.done = true) :
    execBbxUnfreeze a v s = .next (raise (unfreeze s) Blk.bbx 0x0105 .info (s.rd Reg.BBX_FROZEN_DROP)) :=
  congrArg Host.Outcome.next (bbxCommand_taken h hk hs (by simp [hf, hd]) _)

theorem execBbxSnapshotCmd_unfrozen (hf : s.rd Reg.BBX_STATUS_STATE ≠ 2) (hg : grnAway s = false) :
    execBbxSnapshotCmd a v s = .next (startSnapshot s 3) :=
  congrArg Host.Outcome.next (bbxCommand_taken h hk hs (by simp [hf, hg]) _)

theorem execBbxEraseSlot_unprotected (hg : grnAway s = false) (hp : slotProtected s (fieldOf v 8 4) = false) :
    execBbxEraseSlot a v s = .next (tidyDir (startErase s (fieldOf v 8 4))) :=
  congrArg Host.Outcome.next (bbxCommand_taken h hk hs (by simp [hg, hp]) _)

end

theorem execSlotEraseDone_front {n : Nat} {rest : List Nat} (h : s.bbx.erasing = n :: rest) :
    execSlotEraseDone s = .next (
      let u := (List.range 4).foldl (fun s i => markDone (gErase s (slotBase n + 4096 * i) 4096) (slotBase n + 4096 * i)) s
      showSlots (showGrn { u with bbx := { u.bbx with erasing := rest } })) := by
  unfold execSlotEraseDone
  rw [h]

end

/-- Settles O36: each command by its own equation; the end of a snapshot by whether a freeze waited for it. -/
theorem blackBoxCommandsComplete : Obligations.BlackBoxCommandsComplete := by
  unfold Obligations.BlackBoxCommandsComplete
  exact ⟨fun e rest s => execBbxEntryWrite_front, fun s => execPostTimeout_triggered,
    fun x s h ho => ⟨execBbxSnapshot_ended h ho, execBbxSnapshot_frozen h ho⟩,
    fun a v s h hk hs => ⟨execBbxUnfreeze_frozen h hk hs, execBbxSnapshotCmd_unfrozen h hk hs, execBbxEraseSlot_unprotected h hk hs⟩,
    fun n rest s => execSlotEraseDone_front, fun i ix s => rfl⟩

end Sys2Proof.Machine
end

section
/-! SUPPORT. The commands of resets, of their release, of power switching and of power failure. -/

namespace Sys2Proof.Machine

section
variable {s : State}

/-! ### The internal POR, the reset pins and requested resets (R637, R640–R642, R648, R660, R687) -/

theorem execPorRelease_held (b : Fin 4) (h : s.rst.porHeld = true) :
    execPorRelease b s = .next (startCold ({ s with rst := { s.rst with porHeld := false } }.wr Reg.RST_BOOT_BOOT_SEL b)) :=
  congrArg Host.Outcome.next (if_neg (by simp [h]))

theorem execDelayedResetAssert_ended (us : Nat) (hd : s.rst.delayed ≠ []) (hp : pulseKind s = none) :
    execDelayedResetAssert us s = .next (
      s.rst.delayed.foldl (assertDelayed us) { s.wr Reg.RST_STATUS_DELAYED 0 with rst := { s.rst with delayed := [] } }) :=
  if_neg (by simp [hd, hp])

section
variable (hpor : s.rst.porHeld = false)
include hpor

theorem execPorstNAssert_falls (h : s.rst.porstLow = false) :
    execPorstNAssert s = .next (resetRequest { s with rst := { s.rst with porstLow := true } } 2 scopeAll 0 0) := by
  simp [execPorstNAssert, h, hpor]

/-- With VDD_AON kept and no PORST_N reset waiting, the cold release starts at once. -/
theorem execPorstNRelease_kept (b : Fin 4) (cool : Bool) (h : s.rst.porstLow = true)
    (hd : s.rst.delayed.any (fun x => x.code == 2) = false) :
    execPorstNRelease b true cool s = .next (
      startCold ({ s with rst := { s.rst with porstLow := false, trip := s.rst.trip && !cool } }.wr Reg.RST_BOOT_BOOT_SEL b)) := by
  refine congrArg Host.Outcome.next ((if_neg (by simp [h])).trans ((if_neg ?_).trans (if_pos rfl)))
  rw [Bool.or_eq_true]
  exact not_or.mpr ⟨Bool.eq_false_iff.mp hd, Bool.eq_false_iff.mp hpor⟩

variable (hporst : s.rst.porstLow = false)
include hporst

theorem execWarmRstN_falls (lost : Nat) (h : s.rst.warmLow = false) :
    execWarmRstN lost s = .next (resetRequest { s with rst := { s.rst with warmLow := true } } 3 scopeWarm 0 lost) := by
  simp [execWarmRstN, h, hpor, hporst]

theorem execPerstN_falls (h : s.rst.perstLow = false) :
    execPerstN s = .next (resetRequest { s with rst := { s.rst with perstLow := true } } 9 (2 ^ 13) 0 0) := by
  simp [execPerstN, h, hpor, hporst]

theorem execHotReset_out : execHotReset s = .next (resetRequest s 10 (2 ^ 13) 0 0) := by
  simp [execHotReset, hpor, hporst]

theorem execWarmRstNRelease_waiting (h : s.rst.rel ≠ 0) :
    execWarmRstNRelease s = .next ({ s with rst := { s.rst with warmLow := false } }.wr Reg.RST_STATUS_BUSY 1) :=
  congrArg Host.Outcome.next (if_pos (by simp [h, hpor, hporst]))

end

theorem execWarmRstNRelease_released (h : s.rst.rel = 0) :
    execWarmRstNRelease s = .next { s with rst := { s.rst with warmLow := false } } :=
  congrArg Host.Outcome.next (if_neg (by simp [h]))

theorem execPerstNRelease_waiting (h : bitAt s.rst.rel 13 = true)
    (hh : heldDomain { s with rst := { s.rst with perstLow := false } } 13 = false) :
    execPerstNRelease s = .next ({ s with rst := { s.rst with perstLow := false } }.wr Reg.RST_STATUS_BUSY 1) :=
  congrArg Host.Outcome.next (if_pos (by simp [h, hh]))

theorem execPerstNRelease_released (h : bitAt s.rst.rel 13 = false) :
    execPerstNRelease s = .next { s with rst := { s.rst with perstLow := false } } :=
  congrArg Host.Outcome.next (if_neg (by simp [h]))

section
variable {a : Access} {v : Word} (h : Accepts s a 0x880000 0) (hi : isPfOrMgmt a.init = true) (hk : Keyed v) (lost : Nat)
include h hi hk

theorem execRstCmdWarm_keyed : execRstCmdWarm a v lost s = .next (resetRequest s 7 scopeWarm a.init.toNat lost) :=
  congrArg Host.Outcome.next (rstCommand_taken h hi hk _)

/-- In safety operation a mask that holds PD02, PD03, PD18 or IMG is turned away; an empty one asks for nothing. -/
theorem execRstCmdDomain_keyed (h0 : s.rd Reg.RST_MASK % 2 ^ 25 ≠ 0)
    (hsafe : safeOp s = true → [2, 3, 18, domImg].any (bitAt (s.rd Reg.RST_MASK % 2 ^ 25)) = false) :
    execRstCmdDomain a v lost s = .next (resetRequest s 8 (s.rd Reg.RST_MASK % 2 ^ 25) a.init.toNat
      (if bitAt (s.rd Reg.RST_MASK % 2 ^ 25) 17 then lost else 0)) := by
  refine congrArg Host.Outcome.next ((rstCommand_taken h hi hk _).trans ((if_neg ?_).trans (if_neg h0)))
  rw [Bool.and_eq_true, not_and, Bool.not_eq_true]
  exact hsafe

end

end

/-- Settles O37: each command by its own equation. -/
theorem resetCommandsComplete : Obligations.ResetCommandsComplete := by
  unfold Obligations.ResetCommandsComplete
  exact ⟨fun s => rfl, fun b s => execPorRelease_held b, fun us s => execDelayedResetAssert_ended us,
    fun s hporst hpor => execPorstNAssert_falls hpor hporst,
    fun b cool s hlow hpor hd => execPorstNRelease_kept hpor b cool hlow hd,
    fun lost s hw hpor hporst => execWarmRstN_falls hpor hporst lost hw,
    fun s => ⟨fun hrel hpor hporst => execWarmRstNRelease_waiting hpor hporst hrel, execWarmRstNRelease_released⟩,
    fun s hp hpor hporst => execPerstN_falls hpor hporst hp,
    fun s => ⟨execPerstNRelease_waiting, execPerstNRelease_released⟩,
    fun s => execHotReset_out,
    fun a v lost s h hi hk => ⟨execRstCmdWarm_keyed h hi hk lost, execRstCmdDomain_keyed h hi hk lost⟩⟩

section
variable {s : State}

/-! ### The release of domains (R643, R647, R651, R653) -/

section
variable (hp : s.bit Reg.PWR_PFAIL_LOW = false)
include hp

theorem execReleaseStep_sequence {d : Nat} (hd : nextRelease s = some d) (hw : waitsForScan s d = false) :
    execReleaseStep s = .next (releaseStep s d) := by
  unfold execReleaseStep
  rw [hd]
  simp [hp, hw]

theorem execReleaseStep_poweredOn {d : Nat} (hn : nextRelease s = none)
    (hd : (bitList 24 s.rst.on).find? (fun d => !heldDomain s d) = some d) :
    execReleaseStep s = .next (releasePd { s with rst := { s.rst with on := scopeLess s.rst.on (2 ^ d) } } d) := by
  unfold execReleaseStep
  rw [hn, if_neg (by simp [hp])]
  dsimp only
  rw [hd]

end

theorem execOwlDomainRepower_off {pd : Fin 24} (ho : s.rst.owlOff.contains pd.val = true) (hp : powered s pd = false)
    (ht : s.rst.trip = false) :
    execOwlDomainRepower pd s = .next (
      let u := raise (showPower s pd true) Blk.pwr 0x0101 .info pd
      { u.wr Reg.RST_STATUS_BUSY 1 with rst := { u.rst with
        rel := Nat.lor u.rst.rel (2 ^ pd.val + (if pd.val = 18 then 2 ^ domImg else 0)), code := 5 } }) :=
  congrArg Host.Outcome.next (if_neg (by rw [ho, hp, ht]; decide))

theorem execDomainRestored_restoring {pd : Fin 24} (h : s.rst.restoring.contains pd.val = true) :
    execDomainRestored pd s = .next (
      let p := replay s pd
      raise { p.1 with rst := { p.1.rst with
        restoring := p.1.rst.restoring.filter (fun x => x != pd.val), resume := pd.val :: p.1.rst.resume } }
        Blk.rst 0x0103 .info (pd.val + 2 ^ 32 * p.2)) :=
  congrArg Host.Outcome.next (if_neg (by rw [h]; decide))

/-! ### Power switching (R662, R663) -/

theorem showPower_rst (s : State) (d : Nat) (on : Bool) : (showPower s d on).rst = s.rst := by
  unfold showPower
  split <;> rfl

section
variable {a : Access} {v : Word} (h : Accepts s a 0x8A0000 0) (hi : isPfOrMgmt a.init = true) (hk : Keyed v) (hd : fieldOf v 0 5 ≤ 23)
include h hi hk hd

theorem execPwrOn_permitted
    (hper : (imageLive s && bitAt (s.rd Reg.PWR_USED) (fieldOf v 0 5)) = true ∨ optionalDomains.contains (fieldOf v 0 5) = true)
    (hf : bitAt (s.rd Reg.PWR_FAILED) (fieldOf v 0 5) = false) (hp : powered s (fieldOf v 0 5) = false)
    (ht : s.rst.trip = false) (hr : bitAt s.rst.rel (fieldOf v 0 5) = false) :
    execPwrOn a v s = .next (
      let u := showPower s (fieldOf v 0 5) true
      raise { u with rst := { u.rst with on := Nat.lor u.rst.on (2 ^ fieldOf v 0 5) } } Blk.pwr 0x0101 .info (fieldOf v 0 5)) := by
  have hok : (((imageLive s && bitAt (s.rd Reg.PWR_USED) (fieldOf v 0 5)) || optionalDomains.contains (fieldOf v 0 5)) &&
      !bitAt (s.rd Reg.PWR_FAILED) (fieldOf v 0 5)) = true := by
    rw [Bool.and_eq_true, Bool.or_eq_true, hf]
    exact ⟨hper, rfl⟩
  refine congrArg Host.Outcome.next ((pwrCommand_taken h hi hk hd hok _).trans ((if_neg ?_).trans ?_))
  · simp [hp, ht, hr]
  · simp only [showPower_rst]

theorem execPwrOff_permitted (ho : optionalDomains.contains (fieldOf v 0 5) = true) (hoff : offOk s (fieldOf v 0 5) = true)
    (hp : powered s (fieldOf v 0 5) = true) :
    execPwrOff a v s = .next (
      let d := fieldOf v 0 5
      let u := resetPd (2 ^ d) 0 s d
      let u := { u with rst := { u.rst with rel := scopeLess u.rst.rel (2 ^ d), on := scopeLess u.rst.on (2 ^ d) } }
      raise (showPower u d false) Blk.pwr 0x0102 .info (d + 2 ^ 8 * 1)) := by
  have hok : (optionalDomains.contains (fieldOf v 0 5) && offOk s (fieldOf v 0 5)) = true := by rw [ho, hoff]; rfl
  exact congrArg Host.Outcome.next ((pwrCommand_taken h hi hk hd hok _).trans (if_neg (by simp [hp])))

end

/-! ### Power failure (R667, R668) -/

theorem execPfailAsserted_falls (h : s.bit Reg.PWR_PFAIL_LOW = false) :
    execPfailAsserted s = .next (
      let u := (s.inc Reg.PWR_PFAIL_COUNT).wr Reg.PWR_PFAIL_LOW 1
      let u := { u with grn := { u.grn with failHold := match s.grn.run with
        | some (.erase ..) => true
        | _ => false } }
      raise (if s.rst.porHeld || s.rst.porstLow then u else bbxPowerFail u) Blk.pwr 0x0104 .warn 0) :=
  congrArg Host.Outcome.next ((if_neg (by simp [h])).trans rfl)

theorem execPfailCleared_low (ms : Nat) (h : s.bit Reg.PWR_PFAIL_LOW = true) :
    execPfailCleared ms s = .next (
      raise { s.wr Reg.PWR_PFAIL_LOW 0 with grn := { s.grn with failHold := false } } Blk.pwr 0x0105 .info (ms % 2 ^ 32)) :=
  congrArg Host.Outcome.next (if_neg (by simp [h]))

end

/-- Settles O38: each command by its own equation. -/
theorem releaseAndPowerCommandsComplete : Obligations.ReleaseAndPowerCommandsComplete := by
  unfold Obligations.ReleaseAndPowerCommandsComplete
  exact ⟨fun d s hp => execReleaseStep_sequence hp, fun d s hp => execReleaseStep_poweredOn hp,
    fun pd s => execOwlDomainRepower_off, fun pd s => execDomainRestored_restoring,
    fun a v s h hi hk hd => execPwrOn_permitted h hi hk hd, fun a v s h hi hk hd => execPwrOff_permitted h hi hk hd,
    fun s => execPfailAsserted_falls, fun ms s => execPfailCleared_low ms⟩

end Sys2Proof.Machine
end

section
/-! SUPPORT. The commands of the Granary: a SUSPEND serves the reads that waited, against the statement about it. -/

namespace Sys2Proof.Machine

/-! ### Reads that waited (R697) -/

theorem serveRead_grn (s : State) (r : GrnRead) : (serveRead s r).grn = s.grn := by
  unfold serveRead transient
  split
  · exact raise_grn _ _ _ _ _
  · split
    · exact raise_grn _ _ _ _ _
    · rfl

/-- Serving the reads that waited leaves none. -/
theorem serveWaiting_waiting (s : State) : (serveWaiting s).grn.waiting = [] := by
  have hall : ∀ (l : List GrnRead) (u : State), (l.foldl serveRead u).grn = u.grn := fun l => by
    induction l with
    | nil => exact fun u => rfl
    | cons r l ih => exact fun u => (ih _).trans (serveRead_grn u r)
  exact congrArg Grn.waiting (hall _ _)

theorem showGrn_grn (s : State) : (showGrn s).grn = s.grn := by
  unfold showGrn
  dsimp only
  split <;> rfl

/-! ### SUSPEND (R705) -/

theorem grnResult_grn (s : State) (i : Ident) (done : Bool) (code : Nat) : (grnResult s i done code).grn = s.grn := by
  unfold grnResult
  rw [State.wr_grn, State.setBit_grn]

/-- An erase that SUSPEND holds: the operation moves aside, and the reads of its bank that waited are served. -/
theorem execGrnSuspend_erasing {s : State} {a : Access} (v : Word) {init sec seq : Nat} (h : GranaryTakes s a true)
    (hrun : s.grn.run = some (.erase init sec seq)) (hb : bbxWorks (grnResult s a.init false 0) = false) (hp : s.grn.prot = none) :
    execGrnSuspend a v s = .next (
      let u := grnResult s a.init false 0
      grnResult (serveWaiting (showGrn { u with grn := { u.grn with run := none, susp := some (.erase init sec seq), readHold := false } }))
        a.init true 0) := by
  have hr : (grnResult s a.init false 0).grn.run = some (.erase init sec seq) := by rw [grnResult_grn, hrun]
  unfold execGrnSuspend
  rw [grnCommand_taken h, hr]
  refine congrArg Host.Outcome.next (if_neg ?_)
  rw [hb, grnResult_grn, hp]
  decide

/-- The PF erases the sector at 0xC0000; reads have held the erase for 1,000 µs, and another read of its bank waits for its end. -/
def eraseWithWaitingRead : State :=
  { ((State.reset.setReg Reg.PWR_STATUS.key 0xFFFFFFFF).setReg Reg.PWR_RESET.key 0).wr Reg.GRN_STATUS_SCAN 0 with
    rst := { imgReset := false }
    grn := { run := some (.erase 1 0xC0000 1), heldUs := 1000, waiting := [⟨1, 0xD0000, 0⟩] } }

/-- Refutes O40: a SUSPEND while a read waits for the erase serves that read, but the statement leaves it waiting. -/
theorem not_granaryCommandsComplete : ¬ Obligations.GranaryCommandsComplete := by
  unfold Obligations.GranaryCommandsComplete
  intro h
  obtain ⟨-, -, -, -, hsuspend, -⟩ := h
  have htakes : GranaryTakes eraseWithWaitingRead ⟨1, 15⟩ true := by decide +kernel
  have hquiet : bbxWorks (grnResult eraseWithWaitingRead 1 false 0) = false := by decide +kernel
  have hgrn := grnResult_grn eraseWithWaitingRead 1 false 0
  have hclaim := hsuspend ⟨1, 15⟩ 3 1 0xC0000 1 eraseWithWaitingRead htakes (congrArg Grn.run hgrn) hquiet (congrArg Grn.prot hgrn)
  have hmodel := execGrnSuspend_erasing 3 htakes rfl hquiet rfl
  have hsame := Host.Outcome.next.inj (hmodel.symm.trans hclaim)
  have hwaiting := congrArg (fun u : State => u.grn.waiting) hsame
  simp only [grnResult_grn, serveWaiting_waiting, showGrn_grn] at hwaiting
  exact absurd hwaiting (by decide)

end Sys2Proof.Machine
end

section
/-! SUPPORT. The commands of the power-up scan, the firmware boot, boot records, trials and the key hash fuses. -/

namespace Sys2Proof.Machine

section
variable {s : State}

/-! ### The power-up scan (R708) -/

theorem execScanDone_scanning (us : Nat) (retried failed : List (Fin 256)) (hs : s.bit Reg.GRN_STATUS_SCAN = true)
    (hb : blockUp s 0x900000 19 = true) :
    execScanDone us retried failed s = .next (
      let bad := failed.map Fin.val
      let erased := ((openIntents s).filter (fun p => !bad.contains (p.1 / 4096))).length
      let u := (openIntents s).foldl (scanErase (retried.map Fin.val) bad) s
      let stale := staleJournal u
      let u := stale.foldl (fun s a => gErase s a 4096) u
      let u := ((ringEntries u 0 ++ ringEntries u 1).filter (fun e => e.2.2.2)).foldl (fun s e => markSeq s (e.2.1, e.2.2.1)) u
      let u := (u.wr Reg.GRN_SCAN_INFO_US_DIV4 (min (us / 4) 65535)).wr Reg.GRN_SCAN_INFO_JREPAIR (min stale.length 15)
      let u := (u.wr Reg.GRN_SCAN_INFO_ERASED (min erased 15)).wr Reg.GRN_STATUS_SCAN 0
      bbxScanned (raise (showGrn u) Blk.grn 0x0101 .info (erased % 256 + 2 ^ 8 * (stale.length % 256) + 2 ^ 32 * (us % 2 ^ 32)))) :=
  if_neg (by rw [hs, hb]; decide)

/-! ### Booting (R715, R716) -/

/-- The state in which the boot ROM chooses its slot: the anti-rollback count is raised and the slots are shown. -/
def bootReady (s : State) : State :=
  let u := { s with grn := { s.grn with bootWait := false } }
  showFw (blowTo u (max (mirrorCount u) (fwSvn u (bootRec s).active)))

section
variable {u : State} (hu : bootReady s = u) (hw : s.grn.bootWait = true) (h17 : domainUp s 17 = true) (h22 : domainUp s 22 = true)
  (h19 : domainUp s 19 = true) (hscan : s.bit Reg.GRN_STATUS_SCAN = false) (himg : s.rd Reg.IMG_STATUS_STATE ≠ 1)
include hw h17 h22 h19 hscan himg

theorem firmwareBoot_gate :
    ¬ (!s.grn.bootWait || !domainUp s 17 || !domainUp s 22 || !domainUp s 19 || s.bit Reg.GRN_STATUS_SCAN ||
      s.rd Reg.IMG_STATUS_STATE == 1) = true := by
  rw [hw, h17, h22, h19, hscan, beq_false_of_ne himg]
  decide

include hu

theorem execFirmwareBoot_halt (hsel : u.rd Reg.RST_BOOT_BOOT_SEL = 3) :
    execFirmwareBoot s = .next (bootStatus u modeHalt 0 0) := by
  unfold execFirmwareBoot
  rw [if_neg (firmwareBoot_gate hw h17 h22 h19 hscan himg)]
  unfold bootReady at hu
  dsimp only at hu ⊢
  simp only [hu, hsel]

theorem execFirmwareBoot_forcedA (hsel : u.rd Reg.RST_BOOT_BOOT_SEL = 1) :
    execFirmwareBoot s = .next (tryBoot u { slot := 0, mode := modeForced }) := by
  unfold execFirmwareBoot
  rw [if_neg (firmwareBoot_gate hw h17 h22 h19 hscan himg)]
  unfold bootReady at hu
  dsimp only at hu ⊢
  simp only [hu, hsel]

theorem execFirmwareBoot_forcedB (hsel : u.rd Reg.RST_BOOT_BOOT_SEL = 2) :
    execFirmwareBoot s = .next (tryBoot u { slot := 1, mode := modeForced }) := by
  unfold execFirmwareBoot
  rw [if_neg (firmwareBoot_gate hw h17 h22 h19 hscan himg)]
  unfold bootReady at hu
  dsimp only at hu ⊢
  simp only [hu, hsel]

theorem execFirmwareBoot_normal (hsel : u.rd Reg.RST_BOOT_BOOT_SEL = 0) (ht : (bootRec s).trial = 0xFF) :
    execFirmwareBoot s = .next (tryBoot u { slot := (bootRec s).active, mode := modeNormal }) := by
  unfold execFirmwareBoot
  rw [if_neg (firmwareBoot_gate hw h17 h22 h19 hscan himg)]
  unfold bootReady at hu
  dsimp only at hu ⊢
  simp only [hu, hsel]
  exact if_pos ht

theorem execFirmwareBoot_trial (hsel : u.rd Reg.RST_BOOT_BOOT_SEL = 0) (ht : (bootRec s).trial ≠ 0xFF)
    (hf : (bootRec s).tried = false) :
    execFirmwareBoot s = .next (tryBoot (programMark u 48 0) { slot := (bootRec s).trial, mode := modeTrial }) := by
  unfold execFirmwareBoot
  rw [if_neg (firmwareBoot_gate hw h17 h22 h19 hscan himg)]
  unfold bootReady at hu
  dsimp only at hu ⊢
  simp only [hu, hsel]
  exact (if_neg ht).trans (if_neg (Bool.eq_false_iff.mp hf))

end

section
variable {b : Boot} (h : s.grn.boot = some b)
include h

theorem execFwBootComplete_forced (hm : b.mode = modeForced) (hsec : b.second = false) :
    execFwBootComplete s = .next (
      if authFault s b.slot = 0 then startFirmware s b
      else noFirmware s (if b.slot = 0 then { b with whyA := authFault s b.slot } else { b with whyB := authFault s b.slot }) false) := by
  unfold execFwBootComplete
  rw [h]
  dsimp only
  rw [hsec, if_pos hm]
  split <;> rfl

/-- A slot on trial that does not authenticate: the record says so, and the active slot is tried. -/
theorem execFwBootComplete_trialFails (ha : authFault s b.slot ≠ 0) (hm : b.mode = modeTrial) :
    execFwBootComplete s = .next (
      tryBoot (writeRec s { (bootRec s).setState b.slot 4 with trial := 0xFF, last := authFault s b.slot })
        { (if b.slot = 0 then { b with whyA := authFault s b.slot } else { b with whyB := authFault s b.slot }) with
          slot := (bootRec s).active, mode := modeFallback, left := b.slot, reason := authFault s b.slot }) := by
  unfold execFwBootComplete
  rw [h]
  dsimp only
  rw [if_neg ha, if_neg (by rw [hm]; decide), if_pos hm]

end

/-! ### Boot record commands (R721, R723, R725, R727) -/

/-- A record that no fault and no full journal keeps from being written. -/
theorem commandRec_written (r : BootRec) {fail : Nat} (k : State → State) (hf : ¬ (fail = 1 ∨ fail = 2)) (h0 : ringBlocked s 0 = false)
    (h1 : ringBlocked s 1 = false) : commandRec s r fail k = k (fwResult (writeRec s r) 0) :=
  (if_neg hf).trans (if_neg (by rw [h0, h1]; decide))

section
variable {a : Access} {v : Word} (h : FirmwareTakes s a)
include h

section
variable (hi : isPfOrMgmt a.init = true) (hk : Keyed v) (h0 : ringBlocked s 0 = false) (h1 : ringBlocked s 1 = false)
  (hp : eraseProtected s (0x1000 - (bootRec s).base) 4096 = false)
include hi hk h0 h1 hp

theorem execFwTrial_other (hx : fwArg v ≤ 1) (ht : (bootRec s).trial = 0xFF) (ha : fwArg v ≠ (bootRec s).active) :
    execFwTrial a v 0 s = .next (fwResult (writeRec s { (bootRec s).setState (fwArg v) 2 with trial := fwArg v }) 0) :=
  congrArg Host.Outcome.next ((fwCommand_taken h hi (fun _ => hk) (by simp [hx]) (by simp [ht, ha]) hp _).trans
    (commandRec_written _ _ (by decide) h0 h1))

theorem execImgSlotSelect_named (hx : fwArg v = 0 ∨ fwArg v = 1 ∨ fwArg v = 0xFF) :
    execImgSlotSelect a v 0 s = .next (fwResult (writeRec s { bootRec s with img := fwArg v }) 0) :=
  congrArg Host.Outcome.next ((fwCommand_taken h hi (fun _ => hk) (by rcases hx with hx | hx | hx <;> simp [hx]) rfl hp _).trans
    (commandRec_written _ _ (by decide) h0 h1))

theorem execFwCommit_onTrial (ht : trialRuns s = true) (hx : (bootRec s).expired = false) (hm : gProtected s 0x8000 0x1000 = false) :
    execFwCommit a v 0 s = .next (
      let r := bootRec s
      let svn := (s.grn.fw.map Prod.snd).getD 0
      let u := fwResult (writeRec s { r with active := r.trial, stA := 1, stB := 1, trial := 0xFF }) 0
      let u := blowTo (setMirror u svn) svn
      let u := { u.wr Reg.GRN_TRIAL_LEFT_SEC 0 with grn := { u.grn with trialEnd := none } }
      raise u Blk.grn 0x0108 .info (r.trial + 2 ^ 8 * svn + 2 ^ 16 * u.rd Reg.GRN_AR_COUNT_COUNT)) :=
  congrArg Host.Outcome.next ((fwCommand_taken h hi (fun _ => hk) rfl (by simp [ht, hx]) (by simp [hp, hm]) _).trans
    ((commandRec_written _ _ (by decide) h0 h1).trans (if_neg (by decide))))

end

theorem execFailTrial_onTrial (hi : isMgmt a.init = true) (h0 : fwArg v ≠ 0) (hF : fwArg v ≠ 0xFF) (ht : trialRuns s = true)
    (hp : gProtected s (bootRec s).base 64 = false) :
    execFailTrial a v false s = .next (fwResult (programMark s 50 (BitVec.ofNat 8 (fwArg v))) 0) :=
  congrArg Host.Outcome.next ((fwCommand_taken h hi (fun hk => absurd hk (by decide)) (by simp [h0, hF]) ht hp _).trans (if_neg (by decide)))

end

theorem execTrialExpired_runs (ht : trialRuns s = true) (he : s.grn.trialEnd.isSome = true) (hx : (bootRec s).expired = false) :
    execTrialExpired s = .next (
      let u := programMark s 49 0
      raise { u.wr Reg.GRN_TRIAL_LEFT_SEC 0 with grn := { u.grn with trialEnd := none } } Blk.grn 0x0107 .warn (bootRec s).trial) :=
  if_pos (by rw [ht, he, hx]; decide)

/-! ### Key hash fuses (R728) -/

/-- The fuses after a message of the service channel, shown where the image engine is up, and the answer to the message. -/
def fusesAnswered (s : State) (c : Nat) (f : Fuses) (code : Nat) : State :=
  endMessage ((fun u : State => if blockUp u 0x40000 18 then showFuses u else u) { s with img := { s.img with fuses := f } }) c (some code)

section
variable {c : Nat} (hc : serviceChannel s = some c) (hfw : s.grn.fw.isSome = true) (hfull : s.bit (Reg.MBX_STATUS_FULL c) = true)
  (hpf : fieldOf (s.reg (Reg.MBX_MSG c 0).key) 16 10 = 1)
include hc hfw hfull hpf

theorem fuseService_served {op : Nat} (hop : fieldOf (s.reg (Reg.MBX_MSG c 0).key) 0 8 = op)
    (serve : Fuses → Nat → List Byte → Nat × Fuses) :
    fuseService s op serve = (
      let p := serve s.img.fuses (fieldOf (s.reg (Reg.MBX_MSG c 0).key) 8 2)
        ((List.range 12).flatMap (fun j => toLe 4 (s.rd (Reg.MBX_MSG c (j + 1)))))
      fusesAnswered s c p.2 p.1) := by
  have hsome : s.grn.fw.isNone = false := Option.isNone_eq_false_iff.mpr hfw
  unfold fuseService
  rw [hc]
  dsimp only
  rw [if_neg (by rw [hsome, hfull, hop]; simp), if_neg (not_not.mpr hpf)]
  rfl

section
variable (hop : fieldOf (s.reg (Reg.MBX_MSG c 0).key) 0 8 = 0x21)
  (hb : (Tab.get [] s.img.fuses.hash (fieldOf (s.reg (Reg.MBX_MSG c 0).key) 8 2)).any (· != 0) = false)
include hop hb

theorem execFuseProgram_verified :
    execFuseProgram false s = .next (fusesAnswered s c { s.img.fuses with
      hash := Tab.put [] s.img.fuses.hash (fieldOf (s.reg (Reg.MBX_MSG c 0).key) 8 2)
        ((List.range 12).flatMap (fun j => toLe 4 (s.rd (Reg.MBX_MSG c (j + 1)))))
      programmed := setBitAt s.img.fuses.programmed (fieldOf (s.reg (Reg.MBX_MSG c 0).key) 8 2) true } 0) := by
  refine congrArg Host.Outcome.next ((fuseService_served hc hfw hfull hpf hop _).trans ?_)
  dsimp only
  rw [if_neg (Bool.eq_false_iff.mp hb)]
  simp only [Bool.false_eq_true, if_false]

/-- Fuses that do not verify: the slot keeps what was blown, but does not count as programmed. -/
theorem execFuseProgram_failed :
    execFuseProgram true s = .next (fusesAnswered s c { s.img.fuses with
      hash := Tab.put [] s.img.fuses.hash (fieldOf (s.reg (Reg.MBX_MSG c 0).key) 8 2)
        ((List.range 12).flatMap (fun j => toLe 4 (s.rd (Reg.MBX_MSG c (j + 1))))) } 5) := by
  refine congrArg Host.Outcome.next ((fuseService_served hc hfw hfull hpf hop _).trans ?_)
  dsimp only
  rw [if_neg (Bool.eq_false_iff.mp hb)]
  simp only [if_true]

end

theorem execFuseRevoke_spare (hop : fieldOf (s.reg (Reg.MBX_MSG c 0).key) 0 8 = 0x22)
    (hpr : bitAt s.img.fuses.programmed (fieldOf (s.reg (Reg.MBX_MSG c 0).key) 8 2) = true)
    (hother : (List.range 4).any (fun m => m != fieldOf (s.reg (Reg.MBX_MSG c 0).key) 8 2 && bitAt s.img.fuses.programmed m &&
      !bitAt s.img.fuses.revoked m) = true) :
    execFuseRevoke s = .next (fusesAnswered s c { s.img.fuses with
      revoked := setBitAt s.img.fuses.revoked (fieldOf (s.reg (Reg.MBX_MSG c 0).key) 8 2) true } 0) := by
  refine congrArg Host.Outcome.next ((fuseService_served hc hfw hfull hpf hop _).trans ?_)
  dsimp only
  rw [if_neg (by rw [hpr]; decide), if_neg]
  rw [Bool.and_eq_true, List.all_eq_true]
  rintro ⟨hall, -⟩
  obtain ⟨m, hm, hx⟩ := List.any_eq_true.mp hother
  have hm' := hall m hm
  simp_all

end

end

/-- Settles O41: each command by its own equation. -/
theorem firmwareCommandsComplete : Obligations.FirmwareCommandsComplete := by
  unfold Obligations.FirmwareCommandsComplete
  refine ⟨fun us s hs hb retried failed => ?_,
    fun s hw h17 h22 h19 hscan himg => ?_,
    fun b s h => ⟨execFwBootComplete_forced h, execFwBootComplete_trialFails h⟩,
    fun a v s h hi hk h0 h1 hp => ⟨execFwTrial_other h hi hk h0 h1 hp, execImgSlotSelect_named h hi hk h0 h1 hp,
      execFwCommit_onTrial h hi hk h0 h1 hp⟩,
    fun a v s h hi => execFailTrial_onTrial h hi, fun s => execTrialExpired_runs,
    fun c s hc hfw hfull hpf => ⟨fun hop hb => ⟨execFuseProgram_verified hc hfw hfull hpf hop hb,
      execFuseProgram_failed hc hfw hfull hpf hop hb⟩, execFuseRevoke_spare hc hfw hfull hpf⟩⟩
  · exact execScanDone_scanning us retried failed hs hb
  · intro r u₀ u
    have hu : bootReady s = u := rfl
    clear_value u
    exact ⟨execFirmwareBoot_halt hu hw h17 h22 h19 hscan himg, execFirmwareBoot_forcedA hu hw h17 h22 h19 hscan himg,
      execFirmwareBoot_forcedB hu hw h17 h22 h19 hscan himg, execFirmwareBoot_normal hu hw h17 h22 h19 hscan himg,
      execFirmwareBoot_trial hu hw h17 h22 h19 hscan himg⟩

end Sys2Proof.Machine
end

section
/-! SUPPORT. The commands of the enclosure climate and of the building bus. -/

namespace Sys2Proof.Machine

section
variable {s : State}

/-! ### The climate engine (R731, R738, R742, R746, R752, R753, R755, R759) -/

section
variable (h : clmRuns s = true)
include h

theorem execSensorReadCycle_runs (adc : List AuxMean) (i2c : List HumRead) :
    execSensorReadCycle adc i2c s = .next (
      let u := (List.range 32).foldl (sensorCycle adc i2c) ((humInputs s).foldl (humTransact i2c) s)
      outputsUpdate (zoneModes ((List.range 16).foldl zoneCycle u)) adc) :=
  if_neg (by rw [h]; decide)

theorem execScheduleEvaluation_runs : execScheduleEvaluation s = .next (outputsUpdate (scheduleAll s) []) := if_pos h

theorem inputLevel_pinned {func chan n : Nat} (hn : inputPin s func chan = some n) (b : Bool) (k : State → State) :
    inputLevel s func chan b k = k (s.setBit (Reg.CLM_CIO_LEVEL n) b) := by
  unfold inputLevel
  rw [h, hn]
  rfl

theorem execPresenceChange_pinned {i : Fin 8} {n : Nat} (hn : inputPin s 9 i = some n) (b : Bool) :
    execPresenceChange i b s = .next (
      let u := s.setBit (Reg.CLM_CIO_LEVEL n) b
      outputsUpdate (zoneModes { u with clm := { u.clm with
        pres := setBitAt u.clm.pres i.val b, presAt := Tab.put 0 u.clm.presAt i.val (u.taiSec + 1) } }) []) :=
  congrArg Host.Outcome.next (inputLevel_pinned h hn b _)

theorem execH2Alarm_pinned {n : Nat} (hn : inputPin s 10 0 = some n) :
    execH2Alarm s = .next (
      let u := s.setBit (Reg.CLM_CIO_LEVEL n) true
      raise (outputsUpdate { u.wr Reg.CLM_STATUS_H2 1 with clm := { u.clm with h2 := true, h2Hold := false } } []) Blk.clm 0x0106 .fault 0) :=
  congrArg Host.Outcome.next (inputLevel_pinned h hn true _)

theorem execH2Clear_alarmed {n : Nat} (hn : inputPin s 10 0 = some n) (ha : s.clm.h2 = true) :
    execH2Clear s = .next (
      let u := s.setBit (Reg.CLM_CIO_LEVEL n) false
      raise (outputsUpdate { u.wr Reg.CLM_STATUS_H2 0 with clm := { u.clm with h2 := false, h2Hold := true } } []) Blk.clm 0x0107 .info 0) :=
  congrArg Host.Outcome.next ((inputLevel_pinned h hn false _).trans (if_pos ha))

theorem execLoopRun_due {l : Fin 32} (aux : List AuxMean) (hen : s.bit (Reg.CLM_LOOP_CFG_EN l) = true) (hd : loopDue s l = true)
    (ht : s.rd Reg.TIK_STATUS_STATE ≠ 0) : execLoopRun l aux s = .next (outputsUpdate (loopRun s l) aux) :=
  if_pos (by rw [h, hen, hd]; simpa using ht)

theorem execDamperStall_driving {d : Fin 8} (hfb : s.rd (Reg.CLM_DMP_CFG_FB d) ≠ 0)
    (hst : s.rd (Reg.CLM_DMP_DSTATUS_STATE d) = 1 ∨ s.rd (Reg.CLM_DMP_DSTATUS_STATE d) = 2) :
    execDamperStall d s = .next (
      let x := Tab.get {} s.clm.dmp d.val
      let y := { x with
        dir := 0, stop := s.taiNs, lastDir := x.dir
        stallAt := demandOf s (Reg.CLM_DMP_OVR_EN d) (Reg.CLM_DMP_OVR_PCT d) (s.rd (Reg.CLM_DMP_CFG_LOOP d)) }
      let u := { s.wr (Reg.CLM_DMP_DSTATUS_STATE d) 3 with clm := { s.clm with dmp := Tab.put {} s.clm.dmp d.val y } }
      pinLevels (raise u Blk.clm 0x0103 .warn (d.val + 2 ^ 32 * u.rd (Reg.CLM_DMP_POS d)))) := by
  refine if_pos ?_
  rw [Bool.and_eq_true, Bool.and_eq_true, Bool.or_eq_true, beq_iff_eq, beq_iff_eq, bne_iff_ne]
  exact ⟨⟨h, hfb⟩, hst⟩

section
variable {d : Fin 8}

theorem execDamperSync_damper (hs : (Tab.get {} s.clm.dmp d.val).sync = true) :
    execDamperSync d false s = .next (
      let y := { Tab.get {} s.clm.dmp d.val with sync := false, seen := s.taiNs }
      outputsUpdate { s.wr (Reg.CLM_DMP_POS d) 0 with clm := { s.clm with dmp := Tab.put {} s.clm.dmp d.val y } } []) := by
  unfold execDamperSync
  simp only [Bool.false_eq_true, if_false, h, hs, Bool.not_true, Bool.or_self]

theorem execDamperSync_valve (hs : (Tab.get {} s.clm.vlv d.val).sync = true) :
    execDamperSync d true s = .next (
      let y := { Tab.get {} s.clm.vlv d.val with sync := false, seen := s.taiNs }
      outputsUpdate { s.wr (Reg.CLM_VLV_POS d) 0 with clm := { s.clm with vlv := Tab.put {} s.clm.vlv d.val y } } []) := by
  unfold execDamperSync
  simp only [if_true, h, hs, Bool.not_true, Bool.or_self, Bool.false_eq_true, if_false]

end

theorem execHeaterMinTimeEnd_runs (r : Fin 8) :
    execHeaterMinTimeEnd r s = .next (outputsUpdate { s with clm := { s.clm with lock := setBitAt s.clm.lock r.val false } } []) :=
  if_pos h

end

theorem execH2HoldEnd_holding (h : s.clm.h2Hold = true) :
    execH2HoldEnd s = .next (outputsUpdate { s with clm := { s.clm with h2Hold := false } } []) := if_pos h

end

/-- Settles O42: each command by its own equation. -/
theorem climateCommandsComplete : Obligations.ClimateCommandsComplete := by
  unfold Obligations.ClimateCommandsComplete
  exact ⟨fun adc i2c s h => execSensorReadCycle_runs h adc i2c, fun s => execScheduleEvaluation_runs,
    fun i b n s h hn => execPresenceChange_pinned h hn b,
    fun n s h hn => ⟨execH2Alarm_pinned h hn, execH2Clear_alarmed h hn⟩, fun s => execH2HoldEnd_holding,
    fun l aux s h => execLoopRun_due h aux, fun d s h => execDamperStall_driving h,
    fun d s h => ⟨execDamperSync_damper h, execDamperSync_valve h⟩, fun r s h => execHeaterMinTimeEnd_runs h r⟩

section
variable {s : State}

/-! ### Frames of the bus (R763, R764, R767) -/

theorem mstpFrame_good {typ : Byte} {data : List Byte} (ht : typ.toNat ≤ 7) (hd : data.length ≤ 501) :
    ¬ (!true || decide (7 < typ.toNat) || decide (501 < data.length)) = true := by simp [ht, hd]

section
variable (h : mstpUp s = true)
include h

section
variable {typ src : Byte} (dst : Byte) {data : List Byte} (ht : typ.toNat ≤ 7) (hd : data.length ≤ 501)
include ht hd

theorem execMstpFrameReceive_other (hs : src.toNat ≠ mstpMac s) :
    execMstpFrameReceive true typ dst src data s = .next (mstpFrame s ⟨typ.toNat, dst.toNat, src.toNat, false, data⟩) :=
  (if_neg (by rw [h]; decide)).trans ((if_neg (mstpFrame_good ht hd)).trans (if_neg hs))

theorem execMstpFrameReceive_duplicate (hs : src.toNat = mstpMac s) :
    execMstpFrameReceive true typ dst src data s =
      .next (raiseMinute (s.inc Reg.CLM_MSTP_DUP_MAC) Blk.clm 0x010A .warn 0 (mstpMac s)) :=
  (if_neg (by rw [h]; decide)).trans ((if_neg (mstpFrame_good ht hd)).trans (if_pos hs))

end

theorem execMstpFrameReceive_bad (typ dst src : Byte) (data : List Byte) :
    execMstpFrameReceive false typ dst src data s = .next (s.inc Reg.CLM_MSTP_BAD_FRAME) :=
  (if_neg (by rw [h]; decide)).trans (if_pos rfl)

/-! ### Timers (R763) -/

section
variable (hl : linkState s ≠ linkLeft)
include hl

theorem mstpTimer_gate : ¬ (!mstpUp s || linkState s == linkLeft) = true := by
  rw [h, beq_false_of_ne hl]
  decide

theorem execMstpTimerExpiry_noToken (hst : s.clm.mstp.state = .idle) :
    execMstpTimerExpiry .noToken s = .next (setMstp s { s.clm.mstp with state := .noToken }) := by
  unfold execMstpTimerExpiry
  rw [if_neg (mstpTimer_gate h hl), hst]

theorem execMstpTimerExpiry_slotNoToken (hst : s.clm.mstp.state = .noToken) :
    execMstpTimerExpiry .slot s =
      .next (sendPoll (setMstp s { s.clm.mstp with next := mstpMac s, tokens := 0 }) (mstpSucc s (mstpMac s))) := by
  unfold execMstpTimerExpiry
  rw [if_neg (mstpTimer_gate h hl)]
  simp only [hst]

theorem execMstpTimerExpiry_slotUseToken (hst : s.clm.mstp.state = .useToken) :
    execMstpTimerExpiry .slot s = .next (holdToken s) := by
  unfold execMstpTimerExpiry
  rw [if_neg (mstpTimer_gate h hl), hst]

theorem execMstpTimerExpiry_reply (hst : s.clm.mstp.state = .waitReply) :
    execMstpTimerExpiry .reply s =
      .next (doneWithToken (setMstp s { s.clm.mstp with state := .doneWithToken, frames := maxInfo s })) := by
  unfold execMstpTimerExpiry
  rw [if_neg (mstpTimer_gate h hl), hst]

/-- A token that shows no use is sent once more. -/
theorem execMstpTimerExpiry_passToken (hst : s.clm.mstp.state = .passToken) (hr : s.clm.mstp.retries = 0) :
    execMstpTimerExpiry .usage s = .next (setMstp (mstpSend s 0 s.clm.mstp.next []) { s.clm.mstp with retries := 1 }) := by
  unfold execMstpTimerExpiry
  rw [if_neg (mstpTimer_gate h hl)]
  simp only [hst, hr]
  rfl

/-- A maintenance poll without an answer: the token goes on to the next station. -/
theorem execMstpTimerExpiry_poll (hst : s.clm.mstp.state = .pollForMaster) (hso : s.clm.mstp.sole = false)
    (hn : s.clm.mstp.next ≠ mstpMac s) : execMstpTimerExpiry .usage s = .next (sendToken s) := by
  unfold execMstpTimerExpiry
  rw [if_neg (mstpTimer_gate h hl), hst]
  exact (if_neg (Bool.eq_false_iff.mp hso)).trans (if_pos hn)

end

theorem execReplyPostponed_asked (hst : s.clm.mstp.state = .answer) :
    execReplyPostponed s = .next (mstpSend (setMstp s { s.clm.mstp with state := .idle }) 7 s.clm.mstp.asker []) :=
  if_pos (by rw [h, hst]; rfl)

/-! ### The firmware's presence (R766) -/

section
variable (hl : linkState s = linkAbsent)
include hl

theorem execMstpLeft_idle (hst : s.clm.mstp.state = .idle) :
    execMstpLeft s = .next (raise (s.wr Reg.CLM_MSTP_STATUS_LINK linkLeft) Blk.clm 0x0108 .warn (mstpMac s)) := by
  unfold execMstpLeft
  rw [if_pos (by rw [h, hl]; rfl), hst]

theorem execMstpLeft_token (hst : s.clm.mstp.state = .useToken) :
    execMstpLeft s =
      .next (raise ((sendToken s).wr Reg.CLM_MSTP_STATUS_LINK linkLeft) Blk.clm 0x0108 .warn (mstpMac (sendToken s))) := by
  unfold execMstpLeft
  rw [if_pos (by rw [h, hl]; rfl), hst]

end

end

theorem execMstpAbsent_up (h : domainUp s 20 = true) :
    execMstpAbsent s = .next (mstpPresence (setMstp s { s.clm.mstp with hb := false })) := if_pos h

section
variable {a : Access} {v : Word} (h : Accepts s a 0x980000 20)
include h

theorem execMstpHeartbeat_taken : execMstpHeartbeat a v s = .next (mstpPresence (setMstp s { s.clm.mstp with hb := true })) :=
  congrArg Host.Outcome.next (withWrite_taken h _)

/-! ### The queues (R765) -/

section
variable (hm : isMgmt a.init = true) (hv : fieldOf v 0 1 = 1)
include hm hv

theorem execMstpRxPop_managed :
    execMstpRxPop a v s = .next (mstpQueues (setMstp s { s.clm.mstp with rx := s.clm.mstp.rx.drop 1 })) :=
  congrArg Host.Outcome.next ((withWrite_taken h _).trans ((if_neg (by rw [hm]; decide)).trans (if_pos hv)))

/-- The entry that a push builds from its window. -/
def builtEntry (s : State) : MstpFrame :=
  let w := s.reg (Reg.CLM_MSTP_TX 0).key
  let len := fieldOf (s.reg (Reg.CLM_MSTP_TX 1).key) 0 9
  let bs := (List.range 126).flatMap (fun n => toLe 4 (s.rd (Reg.CLM_MSTP_TX (n + 2))))
  ⟨fieldOf w 0 8, fieldOf w 8 8, fieldOf w 16 8, bitAt w.toNat 24, bs.take len⟩

theorem execMstpTxPush_room (hr : s.clm.mstp.tx.length < 15) :
    execMstpTxPush a v s = .next (
      let u := mstpQueues (setMstp s { s.clm.mstp with tx := s.clm.mstp.tx ++ [builtEntry s] })
      if u.clm.mstp.state == .answer then sendReply u else u) := by
  refine congrArg Host.Outcome.next ((withWrite_taken h _).trans ((if_neg (by rw [hm]; decide)).trans (if_neg ?_)))
  rw [hv]
  omega

end

end

end

/-- Settles O43: each command by its own equation; a timer by the state of the node. -/
theorem buildingBusCommandsComplete : Obligations.BuildingBusCommandsComplete := by
  unfold Obligations.BuildingBusCommandsComplete
  exact ⟨fun typ dst src data s h => ⟨execMstpFrameReceive_other h dst, execMstpFrameReceive_duplicate h dst,
      execMstpFrameReceive_bad h typ dst src data⟩,
    fun s h hl => ⟨execMstpTimerExpiry_noToken h hl, execMstpTimerExpiry_slotNoToken h hl, execMstpTimerExpiry_slotUseToken h hl,
      execMstpTimerExpiry_reply h hl, execMstpTimerExpiry_passToken h hl, execMstpTimerExpiry_poll h hl⟩,
    fun s => execReplyPostponed_asked,
    fun a v s h => ⟨execMstpHeartbeat_taken (v := v) h, execMstpRxPop_managed h,
      fun hm hv hr _ => ⟨_, builtEntry s, rfl, rfl, rfl, execMstpTxPush_room h hm hv hr⟩⟩,
    fun s => execMstpAbsent_up, fun s => execMstpLeft_idle, fun s => execMstpLeft_token⟩

end Sys2Proof.Machine
end

section
/-! SUPPORT. The commands of the fans and of a motor's start. -/

namespace Sys2Proof.Machine

section
variable {s : State}

/-! ### Fans (R775, R776, R778, R780) -/

section
variable {a : Access} (h : Accepts s a 0x9C0000 21)
include h

section
variable (v : Word) (ms : Nat) (hi : isPfOrMgmt a.init = true)
include hi

theorem execFanKick_expired (hx : s.bit Reg.FAN_STATUS_WDT_EXPIRED = true) :
    execFanKick a v ms s =
      .next (fansUpdate (raise (s.wr Reg.FAN_STATUS_WDT_EXPIRED 0) Blk.fan 0x0104 .info (ms % 2 ^ 32))) :=
  congrArg Host.Outcome.next ((withWrite_taken h _).trans ((if_neg (by rw [hi]; decide)).trans (if_pos hx)))

theorem execFanKick_running (hx : s.bit Reg.FAN_STATUS_WDT_EXPIRED = false) : execFanKick a v ms s = .next s :=
  congrArg Host.Outcome.next
    ((withWrite_taken h _).trans ((if_neg (by rw [hi]; decide)).trans (if_neg (Bool.eq_false_iff.mp hx))))

end

theorem execFanFaultClear_faulty {c : Fin 12} {v : Word} (hv : fieldOf v 31 1 = 1) (hf : fanFaulty s c = true) :
    execFanFaultClear a c v s = .next (fansUpdate (fanOk s c)) :=
  congrArg Host.Outcome.next ((withWrite_taken h _).trans (if_pos ⟨hv, hf⟩))

end

section
variable (h : moveUp s = true)
include h

theorem execFanWdtExpired_on (hx : s.bit Reg.FAN_STATUS_WDT_EXPIRED = false)
    (hc : ∃ c, c < 12 ∧ s.rd (Reg.FAN_CH_CSTATUS_STATE c) ≠ 0) :
    execFanWdtExpired s = .next (fansUpdate (raise (s.wr Reg.FAN_STATUS_WDT_EXPIRED 1) Blk.fan 0x0103 .warn 0)) := by
  have hon : (List.range 12).all (fun c => s.rd (Reg.FAN_CH_CSTATUS_STATE c) == 0) = false := by
    obtain ⟨c, hlt, hst⟩ := hc
    exact List.all_eq_false.mpr ⟨c, List.mem_range.mpr hlt, by simpa using hst⟩
  exact if_neg (by rw [h, hx, hon]; decide)

theorem execRpmUpdate_up (t : List TachIn) :
    execRpmUpdate t s = .next (fansUpdate ((List.range 12).foldl (rpmChannel t) s)) := if_pos h

end

end

/-- Settles O44: each command by its own equation. -/
theorem fanCommandsComplete : Obligations.FanCommandsComplete := by
  unfold Obligations.FanCommandsComplete
  exact ⟨fun a v ms s h hi => ⟨execFanKick_expired h v ms hi, execFanKick_running h v ms hi⟩,
    fun s => execFanWdtExpired_on, fun t s h => execRpmUpdate_up h t, fun a c v s h => execFanFaultClear_faulty h⟩

section
variable (s : State) (m : Nat)

/-! ### The state of a motor channel -/

@[simp] theorem motOf_setMot (x : Mot) : motOf (setMot s m x) m = x := Tab.get_put_same _ _ _ _

@[simp] theorem mState_setMot (x : Mot) : mState (setMot s m x) m = mState s m := rfl

theorem mState_toMState {st : Nat} (h : st < 8) : mState (toMState s m st) m = st := by
  have hw : (s.wr (Reg.MTR_ST_MSTATE_STATE m) st).rd (Reg.MTR_ST_MSTATE_STATE m) = st :=
    (State.rd_wr_same _ _ _ (by show 0 + 3 ≤ 32; decide)).trans (Nat.mod_eq_of_lt h)
  unfold toMState
  dsimp only
  split
  · exact hw
  · exact hw

theorem motOf_raiseLimited (block code : Nat) (sev : Sev) (subject payload : Nat) :
    motOf (raiseLimited s block code sev subject payload) m = motOf s m := by
  unfold raiseLimited
  split
  · exact raise_proj (motOf · m) (fun _ _ _ => rfl) (fun _ _ => rfl) (fun _ _ => rfl) _ _ _ _ _
  · rfl

/-! ### A millisecond of a channel (R791, R799, R800) -/

/-- Both conversions of a millisecond are stored with the scales that the state holds. -/
theorem motorMs_both (vb ax : Fin 4096) (ps : List PwmIn) :
    motorMs s m (some vb) (some ax) ps = ps.foldl (drivePeriod m) ((s.setReg (Reg.MTR_ST_VBUS m).key
      (Config.fpMul (fpOfNat vb.val) (s.reg (Reg.MTR_CH_FP m 7).key))).setReg (Reg.MTR_ST_AUX m).key
        (Config.fpMul (fpOfNat ax.val) (s.reg (Reg.MTR_CH_FP m 8).key))) := by
  unfold motorMs
  dsimp only
  rw [State.reg_setReg_other _ _ (show (Reg.MTR_CH_FP m 8).key ≠ (Reg.MTR_ST_VBUS m).key by dsimp only; omega)]

theorem mState_showMotor : mState (showMotor s m) m = mState s m :=
  (State.rd_wr_other _ _ (.inl (by dsimp only; omega))).trans (State.rd_setReg_other _ _ (by dsimp only; omega))

theorem speedMin_showMotor : (showMotor s m).rd (Reg.MTR_CH_SPEED_SPEED_MIN m) = s.rd (Reg.MTR_CH_SPEED_SPEED_MIN m) :=
  (State.rd_wr_other _ _ (.inl (by dsimp only; omega))).trans (State.rd_setReg_other _ _ (by dsimp only; omega))

theorem currentLimit_showMotor : (showMotor s m).reg (Reg.MTR_CH_FP m 9).key = s.reg (Reg.MTR_CH_FP m 9).key :=
  (State.reg_wr_other _ _ (by dsimp only; omega)).trans (State.reg_setReg_other _ _ (by dsimp only; omega))

theorem ramped_speedLoop : (motOf (speedLoop s m) m).ramped = rampStep m (motOf s m).ramped
    (if mState s m = mStopping then 1000 * (s.rd (Reg.MTR_CH_SPEED_SPEED_MIN m) : Int) else 1000 * ((motOf s m).target : Int)) := by
  unfold speedLoop
  dsimp only
  split
  · rw [motOf_raiseLimited, motOf_setMot]
  · rw [motOf_setMot]

theorem events_speedLoop (h : fpLt (s.reg (Reg.MTR_CH_FP m 9).key) (motOf s m).imag = false) :
    (speedLoop s m).events = s.events := by
  unfold speedLoop
  dsimp only
  rw [if_neg (Bool.eq_false_iff.mp h)]
  rfl

end

section
variable {s : State} {m : Fin 4}

/-! ### Starting and running a motor (R792–R794, R797–R799) -/

theorem execMotorSet_taken {a : Access} (h : Accepts s a 0x9E0000 21) (hi : isPfOrMgmt a.init = true) (v : Word) :
    execMotorSet a m v s = .next (motorTarget ((s.wr (Reg.MTR_CH_SET_RPM m) (fieldOf v 0 16)).wr
      (Reg.MTR_CH_SET_WRITER m) a.init.toNat) m) :=
  congrArg Host.Outcome.next ((withWrite_taken h _).trans (if_neg (by rw [hi]; decide)))

theorem execAlignEnd_aligning (sums : List Nat) (h : mState s m = mAlign) :
    execAlignEnd m sums s = .next (
      let u := toMState s m mRamp
      let th := u.rd (Reg.MTR_CH_START_ALIGN_ANGLE m) * 256
      let amp := pctWord (u.rd (Reg.MTR_CH_HANDOVER_RAMP_AMP m))
      setMot (u.setReg (Reg.MTR_ST_AMP m).key amp) m
        { motOf u m with iofs := sums, angle := th, duty := phaseDuties u m th amp, ramp := 0, agree := 0 }) := if_pos h

theorem execHandover_due {vb ax : Option (Fin 4096)} {ps : List PwmIn} {w : State} (hw : motorMs s m vb ax ps = w)
    (hr : mState w m = mRamp) (hd : handoverDue w m = true) :
    let ol := rampSpeed w m (motOf w m).ramp
    ∃ u : State, execHandover m vb ax ps s =
        .next (raise u Blk.mtr 0x0101 .info (m.val + 2 ^ 8 * attemptNo u m + 2 ^ 16 * (ol.1 / ol.2 % 65536))) ∧
      mState u m = mRunning ∧ (motOf u m).ramped = ((1000 * ol.1 / ol.2 : Nat) : Int) ∧ (motOf u m).keRun = 0 := by
  subst hw
  refine ⟨_, if_pos ⟨hr, hd⟩, ?_, ?_, ?_⟩
  · rw [mState_setMot, mState_toMState _ _ (by decide)]
  · rw [motOf_setMot]
  · rw [motOf_setMot]

theorem execStartRetry_ramping (h : mState s m = mRamp) : execStartRetry m s = .next (failAttempt s m 1) := if_pos h

theorem execRetryDelayEnd_waiting (h : mState s m = mWait) :
    execRetryDelayEnd m s = .next (startAttempt s m (s.rd (Reg.MTR_ST_MSTATE_TRIES_LEFT m) - 1)) := if_pos h

theorem execMotorStopped_stopping (h : mState s m = mStopping) : execMotorStopped m s = .next (toMState s m mStopped) := if_pos h

section
variable {x : MotorIn} {w : State} (hw : motorMs s m (some x.vbus) (some x.aux) x.periods = w)
include hw

theorem execSpeedLoopStep_align (h : mState w m = mAlign) :
    execSpeedLoopStep m x s = .next (if (motOf w m).duty.isEmpty then alignDrive w m else w) := by
  subst hw
  exact congrArg Host.Outcome.next (if_pos h)

theorem execSpeedLoopStep_ramp (h : mState w m = mRamp) : execSpeedLoopStep m x s = .next (showMotor w m) := by
  subst hw
  exact congrArg Host.Outcome.next ((if_neg (by rw [h]; decide)).trans (if_pos h))

theorem execSpeedLoopStep_undriven (h : mState w m = mStopped ∨ mState w m = mWait ∨ mState w m = mFault) :
    execSpeedLoopStep m x s = .next w := by
  subst hw
  unfold execSpeedLoopStep
  rcases h with h | h | h
  all_goals simp [h]

theorem execSpeedLoopStep_driven (h : mState w m = mRunning ∨ mState w m = mStopping) :
    execSpeedLoopStep m x s = .next (speedLoop (showMotor w m) m) := by
  subst hw
  unfold execSpeedLoopStep
  rcases h with h | h
  all_goals simp [h]

end

/-- The ramped target after a step of a driven channel. -/
theorem ramped_driven (w : State) : (motOf (speedLoop (showMotor w m) m) m).ramped = rampStep m (motOf w m).ramped
    (if mState w m = mStopping then 1000 * (w.rd (Reg.MTR_CH_SPEED_SPEED_MIN m) : Int) else 1000 * ((motOf w m).target : Int)) := by
  rw [ramped_speedLoop, mState_showMotor, speedMin_showMotor]
  rfl

/-- A step of a driven channel raises nothing below the current limit. -/
theorem events_driven {w : State} (h : fpLt (w.reg (Reg.MTR_CH_FP m 9).key) (motOf w m).imag = false) :
    (speedLoop (showMotor w m) m).events = w.events :=
  events_speedLoop _ _ (by rw [currentLimit_showMotor]; exact h)

end

/-- Settles O45: each command by its own equation; a step of the speed loop by the state that its PWM periods leave. -/
theorem motorStartCommandsComplete : Obligations.MotorStartCommandsComplete := by
  unfold Obligations.MotorStartCommandsComplete
  refine ⟨fun a m v s h hi => execMotorSet_taken h hi v, fun m sums s => execAlignEnd_aligning sums,
    fun m vb ax ps s => execHandover_due rfl, fun m s => execStartRetry_ramping, fun m s => execRetryDelayEnd_waiting,
    fun m x s w hw => ?_, fun m s => execMotorStopped_stopping⟩
  have hms := (motorMs_both s m x.vbus x.aux x.periods).trans hw.symm
  exact ⟨execSpeedLoopStep_align hms, execSpeedLoopStep_ramp hms, execSpeedLoopStep_undriven hms,
    fun h => ⟨execSpeedLoopStep_driven hms h, ramped_driven w, events_driven⟩⟩

end Sys2Proof.Machine
end

section
/-! SUPPORT. The commands of the panel and of the flash interfaces. -/

namespace Sys2Proof.Machine

section
variable {s : State}

/-! ### Keys (R809, R810, R814, R816) -/

section
variable {ms : Nat} (h : panelOn (panelAt s ms) = true)
include h

theorem execKeyWake_idle (high : BitVec 8) (hi : (panelAt s ms).bit Reg.PNL_STATUS_SCANNING = false) :
    execKeyWake high ms s = .next (
      let u := panelAt s ms
      (((List.range 64).filter (fun k => bitAt high.toNat (k / 8) && idleColumnLow u (k % 8))).foldl
        (fun s k => setKey s k { keyAt s k with seen := true }) u).wr Reg.PNL_STATUS_SCANNING 1) :=
  if_neg (by rw [h, hi]; decide)

theorem execKeyScan_scanning (closed : BitVec 64) (lost : Nat) (hs : (panelAt s ms).bit Reg.PNL_STATUS_SCANNING = true) :
    execKeyScan closed ms lost s = .next (
      let u := (List.range 64).foldl (matrixKey closed.toNat) (panelAt s ms)
      combos (if matrixIdle u closed.toNat then u.wr Reg.PNL_STATUS_SCANNING 0 else u) lost) :=
  if_neg (by rw [h, hs]; decide)

theorem execMaskedColumnScan_idle {c : Fin 8} (closed : BitVec 8) (lost : Nat)
    (hi : (panelAt s ms).bit Reg.PNL_STATUS_SCANNING = false) (hc : maskedColumn (panelAt s ms) c = true) :
    execMaskedColumnScan c closed ms lost s = .next (
      let u := panelAt s ms
      let w := (List.range 8).foldl (fun s r => scanKey s (8 * r + c.val) (bitAt closed.toNat r)) u
      combos (if (List.range 8).any (fun r => bitAt closed.toNat r && !(keyAt u (8 * r + c.val)).masked)
        then w.wr Reg.PNL_STATUS_SCANNING 1 else w) lost) :=
  if_neg (by rw [h, hi, hc]; decide)

theorem execLadderSample_enabled {l : Fin 2} (code : Fin 4096) (lost : Nat) (hu : domainUp (panelAt s ms) 20 = true)
    (he : (panelAt s ms).bit (Reg.PNL_LADDER_CFG_EN l) = true) :
    execLadderSample l code ms lost s = .next (
      let u := panelAt s ms
      let ix := (List.range 8).find? (fun k => decide (code.val ≤ u.rd (Reg.PNL_LADDER_THR_CODE l k)))
      combos ((List.range 8).foldl (fun s k => scanKey s (64 + 8 * l.val + k) (decide (ix = some k))) u) lost) :=
  if_neg (by rw [h, hu, he]; decide)

end

/-! ### The event FIFO (R817) -/

section
variable {i : Ident} {ms : Nat} (hd : debugShut (panelAt s ms) i = false) (hu : domainUp (panelAt s ms) 22 = true)
include hd hu

theorem execPnlEvtPop_empty (hf : (panelAt s ms).pnl.fifo = []) :
    execPnlEvtPop i ms s = .next { panelAt s ms with resp := some 0 } := by
  refine (if_neg (Bool.eq_false_iff.mp hd)).trans ((if_neg (by rw [hu]; decide)).trans ?_)
  rw [hf]

section
variable {w : Word} {ws : List Word} (hf : (panelAt s ms).pnl.fifo = w :: ws)
include hf

theorem execPnlEvtPop_oldest (hc : clearsOnRead i = true) (hl : (panelAt s ms).pnl.lost = 0) :
    execPnlEvtPop i ms s = .next { setFifo (panelAt s ms) ws with resp := some w } := by
  refine (if_neg (Bool.eq_false_iff.mp hd)).trans ((if_neg (by rw [hu]; decide)).trans ?_)
  rw [hf]
  dsimp only
  rw [if_neg (by rw [hc]; decide), if_pos hl]

theorem execPnlEvtPop_kept (hc : clearsOnRead i = false) :
    execPnlEvtPop i ms s = .next { panelAt s ms with resp := some w } := by
  refine (if_neg (Bool.eq_false_iff.mp hd)).trans ((if_neg (by rw [hu]; decide)).trans ?_)
  rw [hf]
  exact if_pos (by rw [hc]; decide)

end

end

/-! ### PNL_CTRL (R823, R824) -/

section
variable {a : Access} {ms : Nat} (h : Accepts (panelAt s ms) a 0xA00000 22) (v : Word)
include h

theorem execPnlLock_taken : execPnlLock a v ms s = .next (writePnlCtrl (panelAt s ms) a.init v) :=
  congrArg Host.Outcome.next (withWrite_taken h _)

theorem execPnlUnlock_taken : execPnlUnlock a v ms s = .next (writePnlCtrl (panelAt s ms) a.init v) :=
  congrArg Host.Outcome.next (withWrite_taken h _)

end

/-! ### Encoders (R826, R828) -/

section
variable (h : domainUp s 22 = true) (e : Fin 4)
include h

theorem execQepEdge_up (qa qb : List Bool) : execQepEdge e qa qb s = .next ((qa.zip qb).foldl (qepSample e) s) :=
  congrArg Host.Outcome.next (if_pos h)

theorem execQepIndex_up (is : List Bool) : execQepIndex ⟨e, is⟩ s = .next (is.foldl (indexSample e) s) :=
  congrArg Host.Outcome.next (if_pos h)

end

section
variable {e : Fin 4} (h : panelOn s = true) (he : s.bit (Reg.PNL_QEP_QCFG_EN e) = true)

/-- An encoder after a sample of both lines. -/
def linesSampled (s : State) (e : Nat) (v : Bool × Bool) : Qep :=
  let x := qepOf s e
  { x with a := lineSample (qepFilt s e) x.a v.1, b := lineSample (qepFilt s e) x.b v.2 }

/-- Whether the accepted level of line A, and of line B, changes with a sample. -/
def lineMoves (s : State) (e : Nat) (v : Bool × Bool) : Bool × Bool :=
  ((linesSampled s e v).a.level != (qepOf s e).a.level, (linesSampled s e v).b.level != (qepOf s e).b.level)

theorem qepSample_still {v : Bool × Bool} (ha : (linesSampled s e v).a.level = (qepOf s e).a.level)
    (hb : (linesSampled s e v).b.level = (qepOf s e).b.level) : qepSample e s v = setQep s e (linesSampled s e v) := by
  have hm : lineMoves s e v = (false, false) := by simp [lineMoves, ha, hb]
  refine if_pos ?_
  show (!panelOn s || !s.bit (Reg.PNL_QEP_QCFG_EN e) || !((lineMoves s e v).1 || (lineMoves s e v).2)) = true
  rw [hm]
  exact Bool.or_true _

include h he

theorem qepSample_moved {v : Bool × Bool}
    (hab : (linesSampled s e v).a.level ≠ (qepOf s e).a.level ∧ (linesSampled s e v).b.level = (qepOf s e).b.level ∨
      (linesSampled s e v).a.level = (qepOf s e).a.level ∧ (linesSampled s e v).b.level ≠ (qepOf s e).b.level) :
    let x := qepOf s e
    let y := linesSampled s e v
    let up := ((quadrant y.a.level y.b.level + 4 - quadrant x.a.level x.b.level) % 4 == 1) != s.bit (Reg.PNL_QEP_QCFG_SWAP e)
    qepSample e s v = moveCount (setQep s e { y with dir := some up }) e 1 up := by
  have hsome : ((lineMoves s e v).1 || (lineMoves s e v).2) = true := by
    rcases hab with ⟨ha, hb⟩ | ⟨ha, hb⟩
    · simp [lineMoves, ha]
    · simp [lineMoves, hb]
  have hboth : ((lineMoves s e v).1 && (lineMoves s e v).2) = false := by
    rcases hab with ⟨ha, hb⟩ | ⟨ha, hb⟩
    · simp [lineMoves, hb]
    · simp [lineMoves, ha]
  refine (if_neg ?_).trans (if_neg (Bool.eq_false_iff.mp hboth))
  show ¬ (!panelOn s || !s.bit (Reg.PNL_QEP_QCFG_EN e) || !((lineMoves s e v).1 || (lineMoves s e v).2)) = true
  rw [h, he, hsome]
  decide

theorem indexSample_rise {v : Bool} (hx : s.bit (Reg.PNL_QEP_QCFG_IDX_EN e) = true) :
    let x := qepOf s e
    let y := { x with index := lineSample (qepFilt s e) x.index v }
    let u := setQep s e y
    let w := u.wr (Reg.PNL_QEP_IDX_LATCH e) (u.rd (Reg.PNL_QEP_COUNT e))
    y.index.level = true → x.index.level = false →
    indexSample e s v = (if w.bit (Reg.PNL_QEP_QCFG_IDX_CLR e) then w.wr (Reg.PNL_QEP_COUNT e) 0 else w) := by
  intro x y u w hy hl
  have hon : panelOn u = true := h
  have hen : u.bit (Reg.PNL_QEP_QCFG_EN e) = true := he
  have hix : u.bit (Reg.PNL_QEP_QCFG_IDX_EN e) = true := hx
  exact if_neg (by rw [hy, hl, hon, hen, hix]; decide)

end

end

/-- Settles O47: each command by its own equation; a sample of an encoder by the lines that it changes. -/
theorem panelCommandsComplete : Obligations.PanelCommandsComplete := by
  unfold Obligations.PanelCommandsComplete
  exact ⟨fun high ms s h => execKeyWake_idle h high, fun closed ms lost s h => execKeyScan_scanning h closed lost,
    fun c closed ms lost s h => execMaskedColumnScan_idle h closed lost,
    fun l code ms lost s h => execLadderSample_enabled h code lost,
    fun i ms s hd hu => ⟨execPnlEvtPop_empty hd hu, fun w ws => execPnlEvtPop_oldest hd hu, fun w ws => execPnlEvtPop_kept hd hu⟩,
    fun a v ms s h => ⟨execPnlLock_taken h v, execPnlUnlock_taken h v⟩,
    fun e qa qb is s h => ⟨execQepEdge_up h e qa qb, execQepIndex_up h e is⟩,
    fun e v s h he => ⟨qepSample_still, qepSample_moved h he⟩, fun e v s h he hx => indexSample_rise h he hx⟩

section
variable {s : State}

/-! ### SPIM0 and the external flash (R831, R832, R833, R834) -/

section
variable {sig : Word} (h : domainUp s 22 = true)
include h

theorem execSpim0Init_octal (hs : sig = sfdpWord) :
    let u := emit (emit s (.flash false 0x06 0 [])) (.flash false 0x81 0 [BitVec.ofNat 8 (s.rd Reg.SPM0_CFG_ENTRY_VAL)])
    execSpim0Init sig s = .next ((u.setBit Reg.SPM0_CFG_MODE true).setBit Reg.SPM0_STATUS_FALLBACK false) := by
  subst hs
  exact if_neg (by rw [h]; decide)

theorem execSpim0Init_fallback (hs : sig ≠ sfdpWord) :
    let u := emit (emit s (.flash false 0x06 0 [])) (.flash false 0x81 0 [BitVec.ofNat 8 (s.rd Reg.SPM0_CFG_ENTRY_VAL)])
    execSpim0Init sig s =
      .next (raise ((u.setBit Reg.SPM0_CFG_MODE false).setBit Reg.SPM0_STATUS_FALLBACK true) Blk.spm 0x0101 .fault 0) := by
  unfold execSpim0Init
  rw [if_neg (by rw [h]; decide), decide_eq_false hs]
  rfl

end

/-- The command that an accepted command word queues: its block from its boundary on, or the initiator's range and buffer. -/
def flashOrder (s : State) (i : Ident) (op : Nat) : FlashCmd :=
  let addr := s.rd (Reg.SPM0_ADDR_ADDR i)
  let len := s.rd (Reg.SPM0_LEN_LEN i)
  ⟨i.toNat, op, if op = 3 then addr - addr % 4096 else if op = 4 then addr - addr % 65536 else addr,
    if op = 3 then 4096 else if op = 4 then 65536 else len,
    if op = 2 then (List.range len).map (fun j => BitVec.ofNat 8 (s.rd (Reg.SPM0_BUF i (j / 4)) / 2 ^ (8 * (j % 4)))) else []⟩

theorem flashCommand_queued {a : Access} {v : Word} (h : Accepts s a 0xA20000 22) (hi : isPfOrMgmt a.init = true)
    (hq : s.spm.queue.any (fun c => c.init == a.init.toNat) = false)
    (hr : (s.spm.owned && s.spm.run.any (fun c => c.init == a.init.toNat)) = false) {op : Nat} (hk : op = 1 ∨ Keyed v)
    (hl : op ≤ 2 → 1 ≤ s.rd (Reg.SPM0_LEN_LEN a.init) ∧ s.rd (Reg.SPM0_LEN_LEN a.init) ≤ 256)
    (hp : op = 2 → s.rd (Reg.SPM0_ADDR_ADDR a.init) % 256 + s.rd (Reg.SPM0_LEN_LEN a.init) ≤ 256) :
    let u := flashResult s a.init.toNat false (s.bit Reg.SPM0_STATUS_FETCH || s.spm.run.isSome) 0
    flashCommand s a v op =
      nextFlash { u with spm := { u.spm with queue := u.spm.queue ++ [flashOrder s a.init op] } } := by
  have hkey : ¬ (op ≠ 1 ∧ fieldOf v 16 16 ≠ 0xC0DE) := fun hc => hk.elim hc.1 hc.2
  have hlen : ¬ (op ≤ 2 ∧ (s.rd (Reg.SPM0_LEN_LEN a.init) = 0 ∨ 256 < s.rd (Reg.SPM0_LEN_LEN a.init))) := by
    rintro ⟨h2, hc⟩
    have := hl h2
    omega
  have hpage : ¬ (op = 2 ∧ 256 < s.rd (Reg.SPM0_ADDR_ADDR a.init) % 256 + s.rd (Reg.SPM0_LEN_LEN a.init)) := by
    rintro ⟨h2, hc⟩
    have := hp h2
    omega
  refine (withWrite_taken h _).trans ?_
  dsimp only
  rw [if_neg (by rw [hi]; decide), if_neg (by rw [hq, hr]; decide), if_neg hkey, if_neg hlen, if_neg hpage]
  rfl

section
variable {c : FlashCmd} (h : s.spm.run = some c)
include h

theorem execFlashOpComplete_program (ho : c.op = 2) : execFlashOpComplete s =
    .next (flashEnd (((List.range c.len).map (fun j => (c.addr + j, c.data.getD j 0))).foldl xProgram s) 0) := by
  unfold execFlashOpComplete
  rw [h]
  dsimp only
  rw [if_pos ho]

theorem execFlashOpComplete_erase (ho : c.op ≠ 2) : execFlashOpComplete s = .next (flashEnd (xErase s c.addr c.len) 0) := by
  unfold execFlashOpComplete
  rw [h]
  dsimp only
  rw [if_neg ho]

theorem execFlashTimeout_running : execFlashTimeout s =
    .next (raise (flashEnd (xOpen s c.addr c.len) 3) Blk.spm 0x0102 .fault (c.op + 2 ^ 32 * c.addr)) := by
  unfold execFlashTimeout
  rw [h]

end

/-! ### SPIM1 (R835, R838) -/

/-- A transfer that starts sends its command and address bytes, and the buffer's bytes unless it only reads. -/
theorem execSpim1Go_started {a : Access} {v : Word} (h : Accepts s a 0xA20000 22)
    (ho : isOwner (s.bit Reg.SPM1_CTRL_OWNER) a.init = true) (hx : s.spm.xfer = none)
    (he : (s.setReg Reg.SPM1_XFER.key (v &&& 0x0F3711FF#32)).bit Reg.SPM1_CTRL_EN = true)
    (hr : ranges1 (s.setReg Reg.SPM1_XFER.key (v &&& 0x0F3711FF#32)) v = true) :
    let u := s.setReg Reg.SPM1_XFER.key (v &&& 0x0F3711FF#32)
    let t := fieldOf v 24 4
    let full := u.rd (Reg.SPM1_TGT_LANES_DATA t) == 0
    let read := fieldOf v 12 1 == 1 && !full
    let w := emit ((result1 u false 0).wr Reg.SPM1_XFER_GO 1) (.spim1 t
      (headBytes (u.rd Reg.SPM1_CMDW) (fieldOf v 20 2) ++ headBytes (u.rd Reg.SPM1_ADDRW) (fieldOf v 16 3) ++
        (if read then [] else buf1 u (fieldOf v 0 9))) (if read || full then fieldOf v 0 9 else 0))
    execSpim1Go a v s =
      .next { w with spm := { w.spm with xfer := some ⟨t, read, full, fieldOf v 0 9, w.bit (Reg.SPM1_TGT_RDY_EN t)⟩ } } := by
  refine congrArg Host.Outcome.next ((withWrite_taken h _).trans ?_)
  dsimp only
  rw [if_neg (by rw [ho]; decide), if_neg (by rw [hx]; decide), if_neg (by rw [he]; decide), if_neg (by rw [hr]; decide)]

section
variable {x : Xfer1} (h : s.spm.xfer = some x) (data : List Byte)
include h

theorem execSpim1Done_transfer : execSpim1Done data s = .next (end1 s x data 0) := by
  unfold execSpim1Done
  rw [h]

theorem execRdyTimeout_due {us : Nat} (hr : x.rdy = true) (ht : max 1 (s.rd Reg.SPM1_RDY_TMO_US) ≤ us) :
    execRdyTimeout ⟨us, data⟩ s = .next (end1 s x data 5) := by
  unfold execRdyTimeout
  rw [h]
  exact if_pos (by rw [hr, decide_eq_true ht]; rfl)

end

end

/-- Settles O48: each command by its own equation; the four flash commands by what an accepted command word queues. -/
theorem flashCommandsComplete : Obligations.FlashCommandsComplete := by
  unfold Obligations.FlashCommandsComplete
  refine ⟨fun sig s h => ⟨execSpim0Init_octal h, execSpim0Init_fallback h⟩, fun a v s h hi hq hr => ?_,
    fun c s h => ⟨execFlashOpComplete_program h, execFlashOpComplete_erase h, execFlashTimeout_running h⟩,
    fun a v s h ho hx he hr => ⟨_, _, rfl, execSpim1Go_started h ho hx he hr⟩,
    fun data x s h => ⟨execSpim1Done_transfer h data, fun us => execRdyTimeout_due h data⟩⟩
  refine ⟨fun h1 h2 => ?_, fun h1 hk hp => ?_, fun hk => ?_, fun hk => ?_⟩
  · exact congrArg Host.Outcome.next (flashCommand_queued h hi hq hr (.inl rfl) (fun _ => ⟨h1, h2⟩) nofun)
  · exact congrArg Host.Outcome.next (flashCommand_queued h hi hq hr (.inr hk) (fun _ => ⟨h1, by omega⟩) (fun _ => hp))
  · exact congrArg Host.Outcome.next (flashCommand_queued h hi hq hr (.inr hk) (fun h2 => absurd h2 (by decide)) nofun)
  · exact congrArg Host.Outcome.next (flashCommand_queued h hi hq hr (.inr hk) (fun h2 => absurd h2 (by decide)) nofun)

end Sys2Proof.Machine
end

section
/-! SUPPORT. The commands of the SPI slave, the UARTs and the two-wire controllers. -/

namespace Sys2Proof.Machine

section
variable {s : State}

/-! ### The SPI slave (R842–R845) -/

section
variable (h : domainUp s 22 = true)
include h

theorem execSpisRead_up (addr : Fin 16384) (n : Nat) (late : List Nat) :
    execSpisRead addr n late s = .next (
      let p := readBytes addr.val late n 0 none s []
      emit (spsEnd { p.1 with resp := s.resp } (anyLate n late)) (.miso p.2)) :=
  if_neg (by rw [h]; decide)

/-- A WRITE of whole words writes them in order and reports none. -/
theorem execSpisWrite_whole {addr : Fin 16384} {data : List Byte} (hw : s.bit Reg.SPS_CFG_WR_EN = true)
    (hd : (spsWords addr.val 0 data).all (fun w => w.2.length == 4) = true) :
    execSpisWrite addr data s = .next (
      let t := (spsWords addr.val 0 data).foldl (fun s w => bmcWrite s w.1 (BitVec.ofNat 32 (leNat (w.2.map Prod.snd)))) s
      spsEnd { t with resp := s.resp } false) := by
  have hlen : ∀ w ∈ spsWords addr.val 0 data, w.2.length = 4 := by simpa using hd
  have hbad : (spsWords addr.val 0 data).filter (fun w => w.2.length != 4) = [] := by simpa using hlen
  have hall : (spsWords addr.val 0 data).foldl
        (fun s w => if w.2.length = 4 then bmcWrite s w.1 (BitVec.ofNat 32 (leNat (w.2.map Prod.snd))) else s) s =
      (spsWords addr.val 0 data).foldl (fun s w => bmcWrite s w.1 (BitVec.ofNat 32 (leNat (w.2.map Prod.snd)))) s :=
    List.foldl_ext _ _ _ fun _ w hm => if_pos (hlen w hm)
  unfold execSpisWrite
  rw [if_neg (by rw [h]; decide), if_neg (by rw [hw]; decide)]
  dsimp only
  rw [hbad, hall]
  rfl

theorem execSpisStatus_up (n : Nat) (late : List Nat) :
    execSpisStatus n late s = .next (
      let u := spsEnd s (anyLate n late)
      emit { u with sps := { u.sps with err := false } } (.miso
        ((List.range n).map (fun k => if late.contains k then 0xFF else (toLe 4 (bvSummary s).toNat).getD k 0)))) :=
  if_neg (by rw [h]; decide)

theorem execSpisWarmReset_keyed (lost : Nat) (x y : Byte) (hw : s.bit Reg.SPS_CFG_WR_EN = true)
    (hr : (spsEnd s false).bit Reg.SPS_CFG_RESET_EN = true) :
    execSpisWarmReset 1 [0xC0, 0xDE, x, y] lost s =
      .next (resetRequest (raise (spsEnd s false) Blk.sps 0x0101 .warn 0) 13 scopeWarm 0 lost) := by
  have hkey : ¬ ((1 : Fin 16384).val ≠ 1 ∨ [0xC0, 0xDE, x, y].length ≠ 4 ∨ [0xC0, 0xDE, x, y].take 2 ≠ [0xC0, 0xDE]) := by simp
  unfold execSpisWarmReset
  rw [if_neg (by rw [h]; decide), if_neg (by rw [hw]; decide), if_neg hkey]
  exact if_neg (by rw [hr]; decide)

end

/-! ### Frames received by a UART (R851, R852) -/

theorem uart_hears {u : Fin 4} (h : (uart s u).de = false ∨ s.bit (Reg.UAR_CFG_ECHO u) = true) :
    ¬ ((uart s u).de && !s.bit (Reg.UAR_CFG_ECHO u)) = true := by
  rcases h with h | h
  · simp [h]
  · simp [h]

/-- A UART on a line that is no longer idle. -/
def lineBusy (s : State) (u : Nat) : State := (setUart s u { uart s u with quiet := false }).wr (Reg.UAR_STATUS_IDLE u) 0

theorem rx_lineBusy (u : Nat) : (uart (lineBusy s u) u).rx = (uart s u).rx := by
  unfold lineBusy
  rw [uart_wr, uart_setUart_same]

section
variable {u : Fin 4} {f : UartFrame} (h : domainUp s 20 = true) (he : s.bit (Reg.UAR_CFG_EN u) = true)
  (hd : (uart s u).de = false ∨ s.bit (Reg.UAR_CFG_ECHO u) = true)
include h he hd

theorem execUartFrameReceive_noise (hs : (uartBits s u f).start = true) :
    execUartFrameReceive u f s = .next (s.inc (Reg.UAR_NOISE u)) :=
  (if_neg (by rw [h, he]; decide)).trans ((if_neg (uart_hears hd)).trans (if_pos hs))

/-- A good byte outside MODBUS joins the FIFO, or is an overrun. -/
theorem execUartFrameReceive_good (hs : (uartBits s u f).start = false) (ht : (uartBits s u f).stop = true)
    (hm : s.bit (Reg.UAR_CFG_MODBUS u) = false) (hp : parityBad s u (uartBits s u f).data (uartBits s u f).par = false) :
    execUartFrameReceive u f s =
      if 64 ≤ (uart s u).rx.length then .next (uartOverrun (lineBusy s u) u)
      else .next (uartIrq (setUart (lineBusy s u) u { uart (lineBusy s u) u with
        rx := (uart (lineBusy s u) u).rx ++ [BitVec.ofNat 32 (2 ^ 31 + (uartBits s u f).data)] }) u (Reg.UAR_IRQ_RX u)) := by
  refine (if_neg (by rw [h, he]; decide)).trans ((if_neg (uart_hears hd)).trans ((if_neg (Bool.eq_false_iff.mp hs)).trans ?_))
  rw [← rx_lineBusy]
  simp only [ht, hm, hp, Bool.false_and, Bool.not_true, Bool.false_eq_true, if_true, if_false, Bool.toNat_false, Nat.mul_zero,
    Nat.add_zero]
  rfl

end

/-! ### DATA (R852, R853, R855) -/

section
variable {a : Access} {u : Fin 4} (v : Word) (h : Accepts s a 0xA60000 20) (hm : u.val = 0 → s.bit Reg.CLM_MSTP_CTRL_EN = false)
  (ho : ownsUart s u a.init = true)
include h hm ho

theorem execUartDataWrite_room (hl : (uart s u).tx.length < 64) : execUartDataWrite a u v s =
    .next (uartKick (setUart s u { uart s u with tx := (uart s u).tx ++ [v.truncate 8] }) u) :=
  congrArg Host.Outcome.next ((withWrite_taken h _).trans ((if_neg fun hc => Bool.eq_false_iff.mp (hm hc.1) hc.2).trans
    ((if_neg (by rw [ho]; decide)).trans (if_neg (Nat.not_le.mpr hl)))))

theorem execUartDataWrite_full (hl : 64 ≤ (uart s u).tx.length) :
    execUartDataWrite a u v s = .next (s.wr (Reg.UAR_STATUS_TX_DROP u) 1) :=
  congrArg Host.Outcome.next ((withWrite_taken h _).trans ((if_neg fun hc => Bool.eq_false_iff.mp (hm hc.1) hc.2).trans
    ((if_neg (by rw [ho]; decide)).trans (if_pos hl))))

end

/-! ### The end of a byte, and an idle line (R853, R854) -/

section
variable {u : Fin 4} {x : Byte} (h : (uart s u).shift = some x)
include h

theorem execUartTxComplete_last (ht : (uart s u).tx = []) : execUartTxComplete u s =
    .next (setUart (if (uart s u).de then emit s (.uartDe u false (s.rd (Reg.UAR_DE_LAG u))) else s) u
      { uart s u with shift := none, de := false, quiet := false }) := by
  unfold execUartTxComplete
  simp only [h, ht]

theorem execUartTxComplete_more {b : Byte} {bs : List Byte} (ht : (uart s u).tx = b :: bs) : execUartTxComplete u s = .next (
    let w := emit (setUart s u { uart s u with shift := some b, tx := bs, quiet := false }) (.uart u b)
    if bs.isEmpty then uartIrq w u (Reg.UAR_IRQ_TXE u) else w) := by
  unfold execUartTxComplete
  simp only [h, ht]

end

theorem execModbusEom_idle {u : Fin 4} {idle : Nat} (h : domainUp s 20 = true) (he : s.bit (Reg.UAR_CFG_EN u) = true)
    (hm : s.bit (Reg.UAR_CFG_MODBUS u) = true) (hq : (uart s u).quiet = false) (hs : (uart s u).shift = none)
    (ht : t35 s u ≤ 2 * idle) : execModbusEom ⟨u, idle⟩ s = .next (
      uartKick (uartIrq ((setUart s u { uart s u with quiet := true }).wr (Reg.UAR_STATUS_IDLE u) 1) u (Reg.UAR_IRQ_EOM u)) u) := by
  refine if_neg ?_
  rw [h, he, hm, hq, hs, decide_eq_false (Nat.not_lt.mpr ht)]
  decide

end

/-- Settles O49: each command by its own equation; a frame by its sampled bits. -/
theorem serialCommandsComplete : Obligations.SerialCommandsComplete := by
  unfold Obligations.SerialCommandsComplete
  exact ⟨fun addr n late s h => execSpisRead_up h addr n late, fun addr data s h => execSpisWrite_whole h,
    fun n late s h => execSpisStatus_up h n late, fun lost x y s h => execSpisWarmReset_keyed h lost x y,
    fun u f s h he hd => ⟨execUartFrameReceive_noise h he hd,
      fun hs ht hm hp hl => (execUartFrameReceive_good h he hd hs ht hm hp).trans (if_neg (Nat.not_le.mpr hl)),
      fun hs ht hm hp hl => (execUartFrameReceive_good h he hd hs ht hm hp).trans (if_pos hl)⟩,
    fun i u w ws s => execUartDataRead_taken,
    fun a u v s h hm ho => ⟨execUartDataWrite_room v h hm ho, execUartDataWrite_full v h hm ho⟩,
    fun u x b bs s h => ⟨execUartTxComplete_last h, execUartTxComplete_more h⟩, fun u idle s => execModbusEom_idle⟩

section
variable {s : State} {c : Fin 2}

/-! ### The two-wire controllers (R856–R859) -/

theorem execI2cGo_taken {a : Access} {v : Word} (sda : Bool) (h : Accepts s a 0xA80000 22) (hi : isPfOrMgmt a.init = true)
    (hf : ((iic s c).wait.contains a.init.toNat || (iic s c).cur == some a.init.toNat) = false) (hw : fieldOf v 0 6 ≤ 32)
    (hr : fieldOf v 8 6 ≤ 32) (hs : fieldOf v 27 1 = 1 → fieldOf v 24 3 ≤ 5) :
    execI2cGo a c v sda s = .next (
      let u := setIic (s.setReg (Reg.IIC_XFER a.init c).key (v &&& 0x4F7F3F3F#32)) c
        { iic s c with stuck := (iic s c).stuck && !sda }
      let u := (i2cResult u c a.init.toNat false 0).wr (Reg.IIC_XFER_GO a.init c) 1
      serveI2c 4 c (setIic u c { iic u c with wait := (iic u c).wait ++ [a.init.toNat] })) := by
  have hrange : ¬ (32 < fieldOf v 0 6 ∨ 32 < fieldOf v 8 6 ∨ fieldOf v 27 1 = 1 ∧ 5 < fieldOf v 24 3) := by
    rintro (hc | hc | ⟨hsel, hc⟩)
    · omega
    · omega
    · have := hs hsel
      omega
  exact congrArg Host.Outcome.next ((withWrite_taken h _).trans ((if_neg (by rw [hi]; decide)).trans
    ((if_neg (Bool.eq_false_iff.mp hf)).trans (if_neg hrange))))

section
variable {e : I2cEnd} {n : Nat} (h : (iic s c).cur = some n)
include h

theorem execI2cComplete_good (hc : i2cCode s c (idOf n) e = 0) : execI2cComplete c e s = .next (
    let i := idOf n
    let u := (List.range (s.rd (Reg.IIC_XFER_RLEN i c))).foldl (fun s j =>
      s.wr ⟨(Reg.IIC_RBUF i c (j / 4)).key, 8 * (j % 4), 8⟩ (e.data.getD j 0).toNat) s
    let u := (i2cResult u c n true 0).wr (Reg.IIC_XFER_GO i c) 0
    let u := if (iic s c).again then transient u Blk.iic 1 (c.val + 2 ^ 8 * u.rd (Reg.IIC_XFER_ADDR i c)) else u
    serveI2c 4 c (setIic u c { iic s c with cur := none })) := by
  unfold execI2cComplete
  dsimp only
  rw [h]
  exact if_pos hc

section
variable (hc : i2cCode s c (idOf n) e ≠ 0)
include hc

theorem execI2cComplete_stuck (hs : (e.sdaLow && (i2cCode s c (idOf n) e == 2 || i2cCode s c (idOf n) e == 3)) = true) :
    execI2cComplete c e s = .next (serveI2c 4 c (failI2c
      (setIic (raise s Blk.iic 0x0104 .fault c) c { iic s c with cur := none, stuck := true }) c n 2)) := by
  unfold execI2cComplete
  dsimp only
  rw [h]
  dsimp only
  rw [if_neg hc, hs, if_pos rfl, if_pos rfl]

section
variable (hs : (e.sdaLow && (i2cCode s c (idOf n) e == 2 || i2cCode s c (idOf n) e == 3)) = false)
include hs

theorem execI2cComplete_repeat (ha : (iic s c).again = false) :
    execI2cComplete c e s = .next (sendI2c (setIic s c { iic s c with again := true }) c n) := by
  unfold execI2cComplete
  dsimp only
  split
  case h_1 hn => rw [hn] at h; cases h
  case h_2 m hm =>
    obtain rfl : m = n := Option.some.inj (hm.symm.trans h)
    rw [if_neg hc, hs, if_neg Bool.false_ne_true, if_neg Bool.false_ne_true, if_neg (Bool.eq_false_iff.mp ha)]

theorem execI2cComplete_failed (ha : (iic s c).again = true) :
    execI2cComplete c e s =
      .next (serveI2c 4 c (failI2c (setIic s c { iic s c with cur := none }) c n (i2cCode s c (idOf n) e))) := by
  unfold execI2cComplete
  dsimp only
  rw [h]
  dsimp only
  rw [if_neg hc, hs, if_neg Bool.false_ne_true, if_neg Bool.false_ne_true, if_pos ha]

end

end

end

/-! ### SFP modules (R861) -/

section
variable {p : Fin 6} {present : Bool} (los : Bool) (h : domainUp s 22 = true)
include h

theorem execSfpPresenceChange_changed (hp : s.bit (Reg.IIC_SFP_PRESENT p) ≠ present) :
    execSfpPresenceChange p present los s = .next (
      let u := (s.setBit (Reg.IIC_SFP_PRESENT p) present).setBit (Reg.IIC_SFP_LOS p) los
      raise u Blk.iic (if present then 0x0102 else 0x0103) .info p) :=
  (if_neg (by rw [h]; decide)).trans (if_neg hp)

theorem execSfpPresenceChange_same (hp : s.bit (Reg.IIC_SFP_PRESENT p) = present) :
    execSfpPresenceChange p present los s =
      .next ((s.setBit (Reg.IIC_SFP_PRESENT p) present).setBit (Reg.IIC_SFP_LOS p) los) :=
  (if_neg (by rw [h]; decide)).trans (if_pos hp)

end

end

/-- Settles O50: each command by its own equation; the end of an attempt by its failure code. -/
theorem twoWireCommandsComplete : Obligations.TwoWireCommandsComplete := by
  unfold Obligations.TwoWireCommandsComplete
  exact ⟨fun a c v sda s => execI2cGo_taken sda,
    fun c e n s h => ⟨execI2cComplete_good h, fun hc => ⟨execI2cComplete_stuck h hc, execI2cComplete_repeat h hc,
      execI2cComplete_failed h hc⟩⟩,
    fun p present los s h => ⟨execSfpPresenceChange_changed los h, execSfpPresenceChange_same los h⟩⟩

end Sys2Proof.Machine
end
